-- ==== Sys2Proof/Word.lean ====
section
/-! DEFINITION. Characters of the link, 16-bit link values, and fixed banks of like things
(eight book slots, nine channels, five drives, ...), with one read and one write. -/

namespace Sys2Proof

/-- One character of the link (R190). -/
abbrev Byte := BitVec 8

/-- A 16-bit value of the link (R202). -/
abbrev Half := BitVec 16

namespace Bank

variable {α β : Type} {n : Nat}

/-- The entry at place `i`. -/
def read (v : Vector α n) (i : Fin n) : α := v[i.val]'i.isLt

/-- The bank with `a` at place `i`. -/
def write (v : Vector α n) (i : Fin n) (a : α) : Vector α n := v.set i.val a i.isLt

/-- The bank whose place `i` holds `f i`. -/
def tabulate (f : Fin n → α) : Vector α n := Vector.ofFn f

/-- Every entry changed by `f`. -/
def map (f : α → β) (v : Vector α n) : Vector β n := tabulate fun i => f (read v i)

@[simp] theorem read_write_same (v : Vector α n) (i : Fin n) (a : α) :
    read (write v i a) i = a := by
  simp [read, write]

theorem read_write_ne (v : Vector α n) {i j : Fin n} (a : α) (h : j ≠ i) :
    read (write v i a) j = read v j := by
  have : i.val ≠ j.val := fun e => h (Fin.ext e.symm)
  simp [read, write, this]

theorem read_write (v : Vector α n) (i j : Fin n) (a : α) :
    read (write v i a) j = if j = i then a else read v j := by
  by_cases h : j = i
  · subst h; simp
  · simp [h, read_write_ne]

@[simp] theorem read_tabulate (f : Fin n → α) (i : Fin n) : read (tabulate f) i = f i := by
  simp [read, tabulate]

@[simp] theorem read_map (f : α → β) (v : Vector α n) (i : Fin n) :
    read (map f v) i = f (read v i) := by
  simp [map]

theorem ext {v w : Vector α n} (h : ∀ i, read v i = read w i) : v = w := by
  apply Vector.ext
  intro i hi
  exact h ⟨i, hi⟩

@[simp] theorem read_replicate (a : α) (i : Fin n) : read (Vector.replicate n a) i = a := by
  simp [read]

end Bank

end Sys2Proof
end

