-- ==== Sys2Proof/Syntax.lean ====
section
/-! DEFINITION. The commands of the CF-308: one constructor per row of the table of operations and
events, with the operands its rule reads. Requests carry the tag and the payload of 11.4; physical
and internal events carry the drive, channel, station, level or reading they are about. -/

namespace Sys2Proof

/-- Drives 0 to 4 (R66). -/
abbrev DriveId := Fin 5

/-- Channels CH0 to CH8 (R114). -/
abbrev ChannelId := Fin 9

/-- The stations of R68 that carry orders. -/
inductive Station where
  | bedShuttle | finishTransfer | exitTransfer | drill | hanger | closer
deriving DecidableEq, Repr

/-- The four combinations of a drive's two temperature lines (R100). The fourth is the one a working
sensor does not present. -/
inductive TempReading where
  | cool | warm | hot | fourth
deriving DecidableEq, Repr

/-- The levels of the discrete inputs that keep a level (00, Signal Summary), other than the Reset
input. -/
structure Inputs where
  /-- Guard reports closed. -/
  guardClosed  : Bool
  /-- Power Warning is asserted. -/
  powerWarning : Bool
  /-- Purge Air reports air present. -/
  purgeAir     : Bool
  /-- Drive temperature lines. -/
  temperature  : Vector TempReading 5
  /-- Ready inputs, in the order of `Station`. -/
  ready        : Vector Bool 6
  /-- The Standby monitor reports that the standby supply has not dropped. -/
  standbyHeld  : Bool
deriving DecidableEq, Repr

/-- The commands. -/
inductive Instr where
  /-- SHEET_NOTICE: book id, leaf index, kind code, thickness, flags (11.4). -/
  | sheetNotice (tag : Byte) (book : Half) (leaf kind : Byte) (thickness : Half) (flags : Byte)
  /-- BOOK_OPEN: book id, format, declared count (0 is absent). -/
  | bookOpen (tag : Byte) (book : Half) (format declared : Byte)
  /-- BOOK_CANCEL: book id. -/
  | bookCancel (tag : Byte) (book : Half)
  /-- TABLE_WRITE: selector, entry, entry contents (11.6). -/
  | tableWrite (tag selector entry : Byte) (contents : List Byte)
  /-- TABLE_READ: selector, entry, copy. -/
  | tableRead (tag selector entry copy : Byte)
  /-- CHANNEL_SET: channel, mode, source, staged N, W, B. -/
  | channelSet (tag channel mode source : Byte) (n w b : Half)
  /-- CHANNEL_COUNT: channel, staged N, W, B. -/
  | channelCount (tag channel : Byte) (n w b : Half)
  /-- CAPTURE: channel set, capture selector. -/
  | capture (tag : Byte) (channels : Half) (selector : Byte)
  /-- CHANNEL_READ: channel. -/
  | channelRead (tag channel : Byte)
  /-- COUNTER_TRANSFER. -/
  | counterTransfer (tag : Byte)
  /-- COUNTER_READ. -/
  | counterRead (tag : Byte)
  /-- EVENT_SETUP: enable set, edge set. -/
  | eventSetup (tag : Byte) (enables edges : Half)
  /-- EVENT_CLEAR: condition set. -/
  | eventClear (tag : Byte) (conditions : Half)
  /-- STATUS_READ: page. -/
  | statusRead (tag page : Byte)
  /-- HOLD: LINE CONTROL subcommand 0, with its line-mode byte, which is ignored. -/
  | hold (tag modeByte : Byte)
  /-- RESUME: LINE CONTROL subcommand 1. -/
  | resume (tag modeByte : Byte)
  /-- STOP: LINE CONTROL subcommand 2. -/
  | stop (tag modeByte : Byte)
  /-- STOP_CLEAR: LINE CONTROL subcommand 3. -/
  | stopClear (tag modeByte : Byte)
  /-- SET_MODE: LINE CONTROL subcommand 4 with its line mode. -/
  | setMode (tag modeByte : Byte)
  /-- LINE_RESET: LINE CONTROL subcommand 5. -/
  | lineReset (tag modeByte : Byte)
  /-- BIT_CHANGED: bit life. -/
  | bitChanged (tag : Byte) (life : Half)
  /-- RECOVERY_READ: slot. -/
  | recoveryRead (tag slot : Byte)
  /-- RECOVERY_CLEAR. -/
  | recoveryClear (tag : Byte)
  /-- UNKNOWN_KIND_FRAME: a well-formed frame whose kind is no request kind. -/
  | unknownKindFrame (kind tag : Byte) (payload : List Byte)
  /-- DAMAGED_FRAME: a frame that the checks of R192 or the length limit of R190 discard. -/
  | damagedFrame
  /-- ECHO_RETURN: a well-formed frame taken in line mode ECHO. -/
  | echoReturn (kind tag : Byte) (payload : List Byte)
  /-- FRAME_BREAK_TIMEOUT: the 2 ms of R191 have passed. -/
  | frameBreakTimeout
  /-- FRAME_SENT: the last character of the oldest upstream frame has been sent. -/
  | frameSent
  /-- INFEED_EDGE: an edge of the infeed sensor. -/
  | infeedEdge
  /-- NOTICE_EXPIRY: the oldest notice expires. -/
  | noticeExpiry
  /-- BED_TRANSFER_ORDER. -/
  | bedTransferOrder
  /-- STATION_READY: the Ready input of a station takes a level (log 8). -/
  | stationReady (station : Station) (present : Bool)
  /-- READY_WAIT_EXPIRY: a waiting order passes its Ready Wait. -/
  | readyWaitExpiry (station : Station)
  /-- ORDER_TIMEOUT: an issued order passes its timeout. -/
  | orderTimeout (station : Station)
  /-- BED_ARRIVAL. -/
  | bedArrival
  /-- STRIKE_BEGIN. -/
  | strikeBegin
  /-- STROKE_DONE of a drive. -/
  | strokeDone (drive : DriveId)
  /-- STROKE_TIMEOUT of a drive. -/
  | strokeTimeout (drive : DriveId)
  /-- OUT_REQUEST. -/
  | outRequest
  /-- OUT_TRANSFER_ORDER. -/
  | outTransferOrder
  /-- GATHER_ARRIVAL. -/
  | gatherArrival
  /-- BED_DWELL_LIMIT_EXPIRY. -/
  | bedDwellLimitExpiry
  /-- QUARTER_INTERVAL_EXPIRY of a drive. -/
  | quarterIntervalExpiry (drive : DriveId)
  /-- PURGE_GRANT on a drive. -/
  | purgeGrant (drive : DriveId)
  /-- PURGE_END on a drive. -/
  | purgeEnd (drive : DriveId)
  /-- TEMPERATURE_CHANGE: a drive's temperature lines take a combination. -/
  | temperatureChange (drive : DriveId) (reading : TempReading)
  /-- PURGE_AIR_CHANGE: the Purge Air input takes a level. -/
  | purgeAirChange (present : Bool)
  /-- HOLD_DWELL_END on CH0. -/
  | holdDwellEnd
  /-- STROBE_WAIT_END on a channel. -/
  | strobeWaitEnd (channel : ChannelId)
  /-- STROBE_PULSE_END on a channel. -/
  | strobePulseEnd (channel : ChannelId)
  /-- PITCH_PULSE_END on CH6. -/
  | pitchPulseEnd
  /-- PITCH_PERIOD_BOUNDARY on CH6. -/
  | pitchPeriodBoundary
  /-- SOFT_WAIT_END on a channel. -/
  | softWaitEnd (channel : ChannelId)
  /-- SOFT_PULSE_END on a channel. -/
  | softPulseEnd (channel : ChannelId)
  /-- FINISH_TRANSFER_ORDER. -/
  | finishTransferOrder
  /-- FINISH_TRANSFER_DONE. -/
  | finishTransferDone
  /-- DRILL_DONE. -/
  | drillDone
  /-- HANGER_DONE. -/
  | hangerDone
  /-- CLOSER_DONE. -/
  | closerDone
  /-- EXIT_TRANSFER_DONE. -/
  | exitTransferDone
  /-- EXIT_RUN_TIMEOUT. -/
  | exitRunTimeout
  /-- EXIT_SENSOR_EDGE. -/
  | exitSensorEdge
  /-- GUARD_OPEN. -/
  | guardOpen
  /-- GUARD_CLOSE. -/
  | guardClose
  /-- POWER_WARNING_ASSERT. -/
  | powerWarningAssert
  /-- POWER_WARNING_RELEASE. -/
  | powerWarningRelease
  /-- RESET_INPUT_ASSERT. -/
  | resetInputAssert
  /-- RESET_INPUT_RELEASE. -/
  | resetInputRelease
  /-- POWER_ON, with the input levels found at its end (log 7). -/
  | powerOn (inputs : Inputs)
  /-- REPORT_PERIOD_EXPIRY. -/
  | reportPeriodExpiry
  /-- REQUEST_LANE_CHARACTER: a character and whether it had a framing error. -/
  | requestLaneCharacter (character : Byte) (framingError : Bool)
deriving DecidableEq, Repr

end Sys2Proof
end

