-- ==== Sys2Proof/Config.lean ====
section
/-! DEFINITION. The free values: what the spec leaves open, as constants without a body, applied to
the counter `State.free` or to the value that they code. Nothing can be proved of the values they give. -/

namespace Sys2Proof.Config

/-- Which of several due events the part takes first (the rules with "either may be taken first";
log 2). -/
opaque pick : Nat → Nat

/-- The lift number byte of the LINE page while the bed is empty (R186 and 11.5 give none; log 6). -/
opaque emptyBedNumber : Nat → Byte

/-- The step byte of the LINE page while the finish position is empty (R186 and 11.5 give none;
log 6). -/
opaque emptyFinishStep : Nat → Byte

/-- The registration state byte of the LINE page: 11.3 gives it no codes (log 6). The argument says
whether registration is LOST. -/
opaque registrationCode : Bool → Byte

/-- How bits 3 to 7 of a Channel Read's flags byte carry the pending flag as it stands beside a captured
status: R131 has the answer carry it, and 11.5 names no bit (log 30). The argument is the flag. -/
opaque pendingBits : Bool → BitVec 5

end Sys2Proof.Config
end

