-- ==== Sys2Proof/Machine/State.lean ====
section
/-! DEFINITION. The state of the CF-308, block by block (00, Block Diagram), as plain data, the
reasons a step could stop (none is ever used), and the state after power-on. -/

namespace Sys2Proof.Machine

open Sys2Proof

/-! ## Books and notices (Sheet Intake) -/

/-- Book Table slots 0 to 7 (R1). -/
abbrev Slot := Fin 8

/-- Format entries 0 to 15 (R48). -/
abbrev FormatId := Fin 16

/-- The stages of a book, in order (R2). -/
inductive Stage where
  | opened | collecting | collected | gathered | finishing | leaving
deriving DecidableEq, Repr

/-- The fault causes of a book (R4). -/
inductive FaultCause where
  | cancelled | sequence | missingSheet | tooManySheets | registration | overrun | tooThick
  | tooManyLifts | short | driveDisabled | incomplete | interrupted
deriving DecidableEq, Repr

/-- A Book Table entry (R1). -/
structure Book where
  id            : Half
  format        : FormatId
  /-- Declared sheet count, or absent. -/
  declared      : Option Nat
  noticed       : Nat
  placed        : Nat
  liftsClosed   : Nat
  liftsPunched  : Nat
  liftsGathered : Nat
  stage         : Stage
  fault         : Option FaultCause
deriving DecidableEq, Repr

/-- Sheet kinds (11.3). -/
inductive SheetKind where
  | leaf | board
deriving DecidableEq, Repr

/-- Why a sheet will be turned aside (R10). -/
inductive DivertReason where
  | notFound | bookClosed
deriving DecidableEq, Repr

/-- A Notice Queue entry (R10). The divert flag is "a divert reason is present". -/
structure Notice where
  slot      : Option Slot
  leaf      : Nat
  kind      : SheetKind
  thickness : Nat
  last      : Bool
  divert    : Option DivertReason
  arrival   : BitVec 32
deriving DecidableEq, Repr

/-- The registration state (R19). -/
inductive Registration where
  | matched | lost
deriving DecidableEq, Repr

/-- What the Sheet Intake owns (chapter 1). -/
structure SheetIntake where
  books        : Vector (Option Book) 8
  /-- Oldest first. -/
  notices      : List Notice
  registration : Registration
  unmatched    : Nat
  matched      : Nat
  /-- Forward travel position (R17). -/
  travel       : BitVec 32
  /-- The Match Window of the Line Settings at the last forward count, which the expiry test uses: a
  change of it takes effect from the next count on (R17; log 26). -/
  window       : Nat
  pauseSource  : Bool
  peak         : Nat
deriving DecidableEq, Repr

/-! ## Lifts (Lift Builder) -/

/-- Lift kinds (R26). -/
inductive LiftKind where
  | leaves | board
deriving DecidableEq, Repr

/-- Punch modes (R26). -/
inductive PunchMode where
  | strike | pass
deriving DecidableEq, Repr

/-- Where a closed lift is (R26). -/
inductive LiftState where
  | queued | onBed | released | gathered
deriving DecidableEq, Repr

/-- A lift record (R26). -/
structure Lift where
  /-- Absent while the lift is the Open Lift. -/
  number         : Option Byte
  slot           : Slot
  /-- Absent while the lift is the Open Lift. -/
  ordinal        : Option Nat
  firstLeaf      : Nat
  sheets         : Nat
  thickness      : Nat
  kind           : LiftKind
  /-- Absent until decided at close or overrun (R35). -/
  mode           : Option PunchMode
  endsCollection : Bool
  /-- A sheet of the lift carried the last-of-book flag (R34 step 3). -/
  holdsLast      : Bool
  overrunHold    : Bool
  /-- Absent while the lift is the Open Lift. -/
  state          : Option LiftState
deriving DecidableEq, Repr

/-- What the Lift Builder owns (chapter 2). -/
structure LiftBuilder where
  openLift    : Option Lift
  /-- Oldest first. -/
  queue       : List Lift
  nextNumber  : Byte
  peak        : Nat
  pauseSource : Bool
deriving DecidableEq, Repr

/-! ## Tables (Table Store) -/

/-- A valid pattern (R46): bit p of `pins` is pin position p. -/
structure Pattern where
  pins  : BitVec 48
  notch : Bool
deriving DecidableEq, Repr

/-- Hanger kinds (R48). -/
inductive HangerKind where
  | none | wireHook | drilled
deriving DecidableEq, Repr

/-- A valid format copy (R48). -/
structure Format where
  pattern    : Fin 24
  capacity   : Nat
  maxSheets  : Nat
  boardAlone : Bool
  hanger     : HangerKind
  drillHoles : Nat
  wireClass  : Nat
  feedSteps  : Nat
deriving DecidableEq, Repr

/-- A Format Table entry (R48). An invalid copy is `none`; the pending flag is "a staged copy is
present". -/
structure FormatEntry where
  active   : Option Format
  staged   : Option (Option Format)
  refCount : Nat
deriving DecidableEq, Repr

/-- Purge modes (R103). -/
inductive PurgeMode where
  | fullOnly | halfOnly | quarterOnly | fullOrHalf | fullOrQuarter
deriving DecidableEq, Repr

/-- A Drive Table entry (R55); times in ms. -/
structure DriveEntry where
  enabled       : Bool
  spacing       : Nat
  strokeTimeout : Nat
  baseInterval  : Nat
  mode          : PurgeMode
  full          : Nat
  half          : Nat
  quarter       : Nat
deriving DecidableEq, Repr

/-- Loss Action (R20). -/
inductive LossAction where
  | divert | continue
deriving DecidableEq, Repr

/-- Report mode (R177). -/
inductive ReportMode where
  | manual | periodic
deriving DecidableEq, Repr

/-- Line Settings (R58); travel counts, ms, s. -/
structure LineSettings where
  matchWindow     : Nat
  declareCount    : Nat
  clearCount      : Nat
  lossAction      : LossAction
  crossSpacing    : Nat
  strikeWindow    : Nat
  bedDwellLimit   : Nat
  bedTimeout      : Nat
  outTimeout      : Nat
  finishTimeout   : Nat
  exitTimeout     : Nat
  readyWait       : Nat
  drillTimeout    : Nat
  hangerTimeout   : Nat
  closerTimeout   : Nat
  reportMode      : ReportMode
  reportPeriod    : Nat
  outcomeNotices  : Bool
deriving DecidableEq, Repr

/-- What the Table Store owns (chapter 3). -/
structure TableStore where
  patterns : Vector (Option Pattern) 24
  formats  : Vector FormatEntry 16
  drives   : Vector DriveEntry 5
  settings : LineSettings
deriving DecidableEq, Repr

/-! ## Station orders and the punch bed (Strike Scheduler) -/

/-- What an order asks of its station (R68). -/
inductive Job where
  | bedTransfer | outTransfer | finishTransfer | exitTransfer | drill | hanger | closer
deriving DecidableEq, Repr

/-- An order in progress is waiting for Ready or issued (R68); times in ms. -/
inductive OrderPhase where
  | waiting (since readyWait : Nat) (overdue : Bool)
  | issued (timeoutAt : Nat)
deriving DecidableEq, Repr

/-- A station order in progress (R68). -/
structure Order where
  job   : Job
  phase : OrderPhase
deriving DecidableEq, Repr

/-- A set of drives: bit d for drive d (R46, R65). -/
abbrev DriveSet := BitVec 5

/-- The bed record (R65). -/
structure Bed where
  lift       : Lift
  planned    : DriveSet
  done       : DriveSet
  inFlight   : DriveSet
  /-- Time of Bed Arrival in ms, or absent. -/
  dwellStart : Option Nat
  dwellRaised : Bool
  /-- The out request stands (R86). -/
  outRequest : Bool
  /-- The standing request is still to be put to the Finish Unit (R86). -/
  ask        : Bool
  /-- The Finish Unit has accepted the lift (R136). -/
  accepted   : Bool
deriving DecidableEq, Repr

/-- A strike in flight (R81, R82). -/
structure Strike where
  timeoutAt   : Nat
  strobeEnded : Bool
  strokeDone  : Bool
  simulated   : Bool
deriving DecidableEq, Repr

/-- What the Strike Scheduler holds for a drive (R66, R77). -/
structure DriveRecord where
  faulted   : Bool
  strike    : Option Strike
  lastBegin : Option Nat
deriving DecidableEq, Repr

/-- What the Strike Scheduler owns beside the orders (chapter 4). -/
structure StrikeScheduler where
  bed     : Option Bed
  drives  : Vector DriveRecord 5
  /-- Begin times in ms, oldest first, at most 4 (R77). -/
  history : List Nat
deriving DecidableEq, Repr

/-! ## Purge (Purge Controller) -/

/-- Temperature states (R100). -/
inductive Temperature where
  | cool | warm | hot
deriving DecidableEq, Repr

/-- Purge kinds (R102). -/
inductive PurgeKind where
  | full | half | quarter
deriving DecidableEq, Repr

/-- A purge in flight (R94, R106). -/
structure Purge where
  kind    : PurgeKind
  payment : Nat
  endAt   : Nat
  /-- The purge valve output. -/
  valve   : Bool
deriving DecidableEq, Repr

/-- The purge account of a drive (R94, R96). -/
structure DriveAccount where
  debt        : Int
  /-- Length of the running interval in ms; absent until the interval first runs (R96). -/
  length      : Option Nat
  elapsed     : Nat
  temperature : Temperature
  purge       : Option Purge
  /-- The drive's request reasons have been tested since the blocks were last reset, at a Line Reset (R113) or
  at a write that changed its chosen kind (R105; log 35). -/
  tested      : Bool
deriving DecidableEq, Repr

/-- What the Purge Controller owns (chapter 5). -/
structure PurgeController where
  drives : Vector DriveAccount 5
  /-- Air state PRESENT (R101). -/
  air    : Bool
deriving DecidableEq, Repr

/-! ## Timing channels -/

/-- Channel modes (R115). -/
inductive ChannelMode where
  | off | hold | strobe | pitch | soft
deriving DecidableEq, Repr

/-- Channel sources (R116). -/
inductive Source where
  | time | travel
deriving DecidableEq, Repr

/-- Channel phases (R115). -/
inductive Phase where
  | idle | waiting | active | pausedPitch
deriving DecidableEq, Repr

/-- The three counts of a channel as they stand on the link: 0 stands for 65536 or for no wait
(R116). -/
structure Counts where
  n : Half
  w : Half
  b : Half
deriving DecidableEq, Repr

/-- A captured count (R115). -/
structure CapturedCount where
  countdown : Nat
  budget    : Nat
deriving DecidableEq, Repr

/-- A captured status (R115). -/
structure CapturedStatus where
  mode           : ChannelMode
  source         : Source
  output         : Bool
  phase          : Phase
  pending        : Bool
  pendingTrigger : Bool
deriving DecidableEq, Repr

/-- A timing channel (R115). -/
structure Channel where
  mode           : ChannelMode
  source         : Source
  live           : Counts
  staged         : Counts
  pending        : Bool
  phase          : Phase
  countdown      : Nat
  budget         : Nat
  output         : Bool
  pendingTrigger : Bool
  /-- The gate is held (CH0 only). -/
  gate           : Bool
  capturedCount  : Option CapturedCount
  capturedStatus : Option CapturedStatus
deriving DecidableEq, Repr

/-! ## Gather and finish (Finish Unit) -/

/-- The gather record (R135). -/
structure Gather where
  book       : Slot
  /-- The lifts that have arrived, in arrival order. -/
  lifts      : List Lift
  incomplete : Bool
deriving DecidableEq, Repr

/-- Finish steps (R140). -/
inductive FinishStep where
  | transferIn | drill | feed | hanger | close | exit | exitRun
deriving DecidableEq, Repr

/-- The finish record (R140). -/
structure Finish where
  book         : Slot
  step         : FinishStep
  holesDrilled : Nat
  bitWait      : Bool
  feedOwed     : Nat
  exitEdgeHeld : Bool
  /-- End of the exit run timer in ms (R149); present in EXIT_RUN. -/
  exitRunEnd   : Option Nat
deriving DecidableEq, Repr

/-- What the Finish Unit owns beside the orders (chapter 7). -/
structure FinishUnit where
  gather  : Option Gather
  finish  : Option Finish
  bitLife : Nat
deriving DecidableEq, Repr

/-! ## Counters and events (Line Monitor) -/

/-- The counters of R174, in order. -/
inductive Counter where
  | sheetsPlaced | sheetsDiverted | unannounced | missing | liftsPunched | liftsPassed
  | strikes (d : DriveId) | purges (d : DriveId) | booksBound | booksRejected
deriving DecidableEq, Repr

/-- A counter or a holding copy: a count of 0 to 65535 and its overflow mark (R174). -/
structure Count where
  value    : Nat
  overflow : Bool
deriving DecidableEq, Repr

/-- The event conditions (R180). -/
inductive Condition where
  | registration | pause | held | driveHot | driveForced | airLow | bitWorn | stationWait
  | bedDwell | purgeOverdue | triggerOverrun | counterOverflow | linkError | safeStop | powerWarning
deriving DecidableEq, Repr

/-- The level item of an Event Notice (R182). -/
inductive EventLevel where
  | absent | present | momentary
deriving DecidableEq, Repr

/-- A running report timer (R178); ms. -/
structure ReportTimer where
  length  : Nat
  elapsed : Nat
deriving DecidableEq, Repr

/-- What the Line Monitor owns (chapter 9). Bit n of a set is condition n. -/
structure LineMonitor where
  work           : Vector Count 18
  held           : Vector Count 18
  transferNumber : Byte
  latches        : Half
  live           : Half
  enables        : Half
  edges          : Half
  timer          : Option ReportTimer
deriving DecidableEq, Repr

/-! ## Line supervision (Line Supervisor) -/

/-- Line modes (R158). -/
inductive LineMode where
  | run | dry | echo
deriving DecidableEq, Repr

/-- Line states (R160). -/
inductive LineState where
  | running | holdPending | held | safeStop
deriving DecidableEq, Repr

/-- The set of hold sources (R160). -/
structure HoldSources where
  start       : Bool
  request     : Bool
  bitWorn     : Bool
  driveHot    : Bool
  stationWait : Bool
deriving DecidableEq, Repr

/-- The set of safe-stop causes (R166). -/
structure StopCauses where
  guard        : Bool
  powerWarning : Bool
  stopRequest  : Bool
  jam          : Bool
  purgeOverdue : Bool
deriving DecidableEq, Repr

/-- Outcomes of a book (R151). -/
inductive BookOutcome where
  | bound | rejected | proofed
deriving DecidableEq, Repr

/-- The last book to pass the exit sensor (R169). -/
structure Exit where
  book    : Half
  outcome : BookOutcome
deriving DecidableEq, Repr

/-- A valid slot of the Recovery Record (R169). -/
structure RecordSlot where
  id           : Half
  format       : FormatId
  placed       : Nat
  liftsClosed  : Nat
  liftsPunched : Nat
  stage        : Stage
  fault        : Option FaultCause
deriving DecidableEq, Repr

/-- Freeze reasons (R169). -/
inductive FreezeReason where
  | powerWarning | resetInput | lineReset
deriving DecidableEq, Repr

/-- The Recovery Record (R169). An invalid slot is `none`. -/
structure RecoveryRecord where
  slots          : Vector (Option RecordSlot) 8
  lastExit       : Option Exit
  freezeReason   : Option FreezeReason
  retentionValid : Bool
deriving DecidableEq, Repr

/-- What the Line Supervisor owns (chapter 8). -/
structure LineSupervisor where
  mode      : LineMode
  lineState : LineState
  /-- The line state has changed since the blocks were last reset, so every drive's request reasons have been
  tested (R105; log 35). -/
  moved     : Bool
  holds     : HoldSources
  causes    : StopCauses
  record    : RecoveryRecord
  liveExit  : Option Exit
deriving DecidableEq, Repr

/-! ## The link (Link Port) -/

/-- A request frame without its start, length and check characters, which its other parts
determine (11.1, R203). -/
structure Frame where
  kind    : Byte
  tag     : Byte
  payload : List Byte
deriving DecidableEq, Repr

/-- The receiver (R190): in RECEIVING the characters so far, start character included, the bad mark,
and the time in 0.1 ms at which the last character arrived. -/
inductive Receiver where
  | hunting
  | receiving (characters : List Byte) (bad : Bool) (lastAt : Nat)
deriving DecidableEq, Repr

/-- An upstream frame (R195), or a frame returned in ECHO (R199). -/
inductive Upstream where
  | answer (tag kind result : Byte) (data : List Byte)
  | echoed (frame : Frame)
  | sheetRefused (book : Half) (leaf : Byte) (reason : Option DivertReason)
  | bookOutcome (book : Half) (outcome : BookOutcome) (fault : Option FaultCause)
      (format : FormatId) (placed liftsPunched : Nat)
  | eventNotice (condition : Condition) (level : EventLevel) (latches : Half)
  | counterReport (number : Byte) (counts : Vector Count 18)
deriving DecidableEq, Repr

/-- What the Link Port owns (chapter 10). -/
structure LinkPort where
  receiver          : Receiver
  /-- Oldest first. -/
  queue             : List Upstream
  /-- A place is reserved for the answer of the request being carried out (R197). -/
  reserved          : Bool
  noticesLost       : Bool
  requestsDiscarded : Bool
  /-- The characters of the frame last sent whole on the return lane. -/
  laneOut           : List Byte
deriving DecidableEq, Repr

/-! ## The whole part -/

/-- The state of the part. -/
structure State where
  /-- Commands waiting, first in first out. -/
  pending       : List Instr
  /-- Reference timebase, in 0.1 ms. -/
  time          : Nat
  /-- Encoder movement of each coming tick; a negative entry is a reverse movement. -/
  encoder       : List Int
  /-- Forward counts of the present tick not yet taken. -/
  travelOwed    : Nat
  /-- Free values drawn so far. -/
  free          : Nat
  inputs        : Inputs
  /-- The Reset input is asserted. -/
  resetAsserted : Bool
  lp            : LinkPort
  si            : SheetIntake
  lb            : LiftBuilder
  ts            : TableStore
  ss            : StrikeScheduler
  /-- Station orders in progress, in the order of `Station` (R68). -/
  orders        : Vector (Option Order) 6
  pc            : PurgeController
  tcu           : Vector Channel 9
  fu            : FinishUnit
  lm            : LineMonitor
  lsv           : LineSupervisor
deriving DecidableEq, Repr

/-- Reasons to stop with a fault. None: every rule of the spec gives a next state, Safe Stop
included, so no constructor is needed (safe). -/
inductive Fault where
deriving DecidableEq, Repr

/-- Reasons to refuse a command. -/
inductive Refusal where
  /-- A command whose meaning has not been written yet, by its mnemonic; raised by `exec` alone
  (safe). No arm raises it now. -/
  | notModelled (mnemonic : String)
deriving DecidableEq, Repr

/-! ## Values after power-on -/

/-- Drive Table defaults (R55). -/
def DriveEntry.default : DriveEntry :=
  { enabled := false, spacing := 180, strokeTimeout := 400, baseInterval := 20000,
    mode := .fullOnly, full := 600, half := 320, quarter := 170 }

/-- Line Settings defaults (R58). -/
def LineSettings.default : LineSettings :=
  { matchWindow := 6000, declareCount := 4, clearCount := 16, lossAction := .divert,
    crossSpacing := 15, strikeWindow := 250, bedDwellLimit := 3000, bedTimeout := 1500,
    outTimeout := 1500, finishTimeout := 2000, exitTimeout := 3000, readyWait := 2000,
    drillTimeout := 2500, hangerTimeout := 1500, closerTimeout := 2500, reportMode := .manual,
    reportPeriod := 10, outcomeNotices := true }

/-- An idle channel as R133 leaves it. -/
def Channel.reset : Channel :=
  { mode := .off, source := .time, live := ⟨0, 0, 0⟩, staged := ⟨0, 0, 0⟩, pending := false,
    phase := .idle, countdown := 0, budget := 0, output := false, pendingTrigger := false,
    gate := false, capturedCount := none, capturedStatus := none }

/-- A record that is not frozen, of an empty Book Table (R172). -/
def RecoveryRecord.cleared : RecoveryRecord :=
  { slots := Vector.replicate 8 none, lastExit := none, freezeReason := none,
    retentionValid := false }

/-- Sheet Intake after power-on and the Reset input (R23, R17). -/
def SheetIntake.reset : SheetIntake :=
  { books := Vector.replicate 8 none, notices := [], registration := .matched, unmatched := 0,
    matched := 0, travel := 0, window := 6000, pauseSource := false, peak := 0 }

/-- Lift Builder after every reset (R44). -/
def LiftBuilder.reset : LiftBuilder :=
  { openLift := none, queue := [], nextNumber := 0, peak := 0, pauseSource := false }

/-- Table Store after power-on and the Reset input (R63). -/
def TableStore.reset : TableStore :=
  { patterns := Vector.replicate 24 none,
    formats := Vector.replicate 16 { active := none, staged := none, refCount := 0 },
    drives := Vector.replicate 5 DriveEntry.default,
    settings := LineSettings.default }

/-- Strike Scheduler after power-on and the Reset input (R92). -/
def StrikeScheduler.reset : StrikeScheduler :=
  { bed := none,
    drives := Vector.replicate 5 { faulted := false, strike := none, lastBegin := none },
    history := [] }

/-- A drive's account after power-on and the Reset input (R112). -/
def DriveAccount.reset (t : Temperature) : DriveAccount :=
  { debt := 4, length := none, elapsed := 0, temperature := t, purge := none, tested := false }

/-- Finish Unit after power-on and the Reset input (R156). -/
def FinishUnit.reset : FinishUnit :=
  { gather := none, finish := none, bitLife := 0 }

/-- Line Monitor while a reset lasts (R188). -/
def LineMonitor.reset : LineMonitor :=
  { work := Vector.replicate 18 ⟨0, false⟩, held := Vector.replicate 18 ⟨0, false⟩,
    transferNumber := 0, latches := 0, live := 0, enables := 0, edges := 0, timer := none }

/-- Link Port after power-on and the Reset input (R200). -/
def LinkPort.reset : LinkPort :=
  { receiver := .hunting, queue := [], reserved := false, noticesLost := false,
    requestsDiscarded := false, laneOut := [] }

/-- The state after power-on, with the input levels of log 5: HELD with START (R172), HELD and PAUSE
latched (R188). -/
def State.reset : State :=
  { pending := [], time := 0, encoder := [], travelOwed := 0, free := 0,
    inputs :=
      { guardClosed := true, powerWarning := false, purgeAir := true,
        temperature := Vector.replicate 5 .cool, ready := Vector.replicate 6 true,
        standbyHeld := true },
    resetAsserted := false,
    lp := LinkPort.reset,
    si := SheetIntake.reset,
    lb := LiftBuilder.reset,
    ts := TableStore.reset,
    ss := StrikeScheduler.reset,
    orders := Vector.replicate 6 none,
    pc := { drives := Vector.replicate 5 (DriveAccount.reset .cool), air := true },
    tcu := Vector.replicate 9 Channel.reset,
    fu := FinishUnit.reset,
    lm := { LineMonitor.reset with latches := 6, live := 6 },
    lsv :=
      { mode := .run, lineState := .held, moved := false,
        holds := ⟨true, false, false, false, false⟩,
        causes := ⟨false, false, false, false, false⟩,
        record := RecoveryRecord.cleared, liveExit := none } }

end Sys2Proof.Machine
end

