-- ==== Sys2Proof/Machine/Operands.lean ====
section
/-! DEFINITION. Operand forms: the codes and layouts of chapter 11. Bytes of request payloads and
table contents are read into values, and values are laid out as bytes; the frame check; the frames of
requests and of upstream kinds. -/

namespace Sys2Proof.Machine

open Sys2Proof

/-! ## Bytes (R202) -/

/-- The more significant byte of a 16-bit field, sent first. -/
def hiByte (x : Half) : Byte := x.extractLsb' 8 8

/-- The less significant byte. -/
def loByte (x : Half) : Byte := x.extractLsb' 0 8

/-- A 16-bit field from its two bytes. -/
def joinHalf (hi lo : Byte) : Half := hi ++ lo

/-- A 16-bit field as sent. -/
def halfBytes (x : Half) : List Byte := [hiByte x, loByte x]

/-- A count in one byte. -/
def natByte (n : Nat) : Byte := BitVec.ofNat 8 n

/-- A count in two bytes; 65536 is sent as 0 (R204). -/
def natBytes (n : Nat) : List Byte := halfBytes (BitVec.ofNat 16 n)

/-- A two-state field. -/
def flagByte (b : Bool) : Byte := if b then 1 else 0

/-- A two-state field takes 0 or 1; any other value is out of range (R204). -/
def readFlag (b : Byte) : Option Bool := if b = 0 then some false else if b = 1 then some true else none

/-- Flags packed from bit 0 up. -/
def packBits (l : List Bool) : Nat := l.foldr (fun b n => b.toNat + 2 * n) 0

/-! ## The frame check (R203) -/

/-- One shift of the check register. -/
def crcShift (r : Half) : Half := if r.msb then (r <<< 1) ^^^ 0x1021#16 else r <<< 1

/-- One byte taken into the check register. -/
def crcByte (r : Half) (b : Byte) : Half :=
  let r := r ^^^ (b ++ 0#8)
  crcShift (crcShift (crcShift (crcShift (crcShift (crcShift (crcShift (crcShift r)))))))

/-- The check of a list of bytes. -/
def crc (l : List Byte) : Half := l.foldl crcByte 0xFFFF#16

/-- The bytes the check covers: length, kind, tag, payload. -/
def Frame.covered (f : Frame) : List Byte := natByte f.payload.length :: f.kind :: f.tag :: f.payload

/-- A frame as it stands on a lane (11.1). -/
def Frame.bytes (f : Frame) : List Byte := 0x5A#8 :: (f.covered ++ halfBytes (crc f.covered))

/-! ## Codes (11.3) -/

/-- Results of an answer (R194). -/
inductive Result where
  | done | busy | range | state | unknown | full | pending | duplicate | notFound
deriving DecidableEq, Repr

/-- Result codes. -/
def Result.code : Result → Byte
  | .done => 0 | .busy => 1 | .range => 2 | .state => 3 | .unknown => 4 | .full => 5 | .pending => 6
  | .duplicate => 7 | .notFound => 8

/-- Fault cause codes, 0 absent. -/
def faultCode : Option FaultCause → Byte
  | none => 0
  | some .cancelled => 1 | some .sequence => 2 | some .missingSheet => 3
  | some .tooManySheets => 4 | some .registration => 5 | some .overrun => 6 | some .tooThick => 7
  | some .tooManyLifts => 8 | some .short => 9 | some .driveDisabled => 10
  | some .incomplete => 11 | some .interrupted => 12

/-- Stage codes. -/
def Stage.code : Stage → Byte
  | .opened => 0 | .collecting => 1 | .collected => 2 | .gathered => 3 | .finishing => 4
  | .leaving => 5

/-- Outcome codes. -/
def BookOutcome.code : BookOutcome → Byte
  | .bound => 0 | .rejected => 1 | .proofed => 2

/-- Hanger kind codes. -/
def HangerKind.code : HangerKind → Byte
  | .none => 0 | .wireHook => 1 | .drilled => 2

/-- Hanger kind of a code. -/
def readHanger (b : Byte) : Option HangerKind :=
  if b = 0 then some .none else if b = 1 then some .wireHook
  else if b = 2 then some .drilled else none

/-- Purge mode codes. -/
def PurgeMode.code : PurgeMode → Byte
  | .fullOnly => 0 | .halfOnly => 1 | .quarterOnly => 2 | .fullOrHalf => 3 | .fullOrQuarter => 4

/-- Purge mode of a code. -/
def readPurgeMode (b : Byte) : Option PurgeMode :=
  if b = 0 then some .fullOnly else if b = 1 then some .halfOnly
  else if b = 2 then some .quarterOnly else if b = 3 then some .fullOrHalf
  else if b = 4 then some .fullOrQuarter else none

/-- Channel mode codes. -/
def ChannelMode.code : ChannelMode → Byte
  | .off => 0 | .hold => 1 | .strobe => 2 | .pitch => 3 | .soft => 4

/-- Channel mode of a code. -/
def readChannelMode (b : Byte) : Option ChannelMode :=
  if b = 0 then some .off else if b = 1 then some .hold else if b = 2 then some .strobe
  else if b = 3 then some .pitch else if b = 4 then some .soft else none

/-- Source of a code. -/
def readSource (b : Byte) : Option Source :=
  if b = 0 then some .time else if b = 1 then some .travel else none

/-- Source codes. -/
def Source.code : Source → Byte
  | .time => 0 | .travel => 1

/-- Phase codes. -/
def Phase.code : Phase → Byte
  | .idle => 0 | .waiting => 1 | .active => 2 | .pausedPitch => 3

/-- Line mode codes. -/
def LineMode.code : LineMode → Byte
  | .run => 0 | .dry => 1 | .echo => 2

/-- Line mode of a code. -/
def readLineMode (b : Byte) : Option LineMode :=
  if b = 0 then some .run else if b = 1 then some .dry else if b = 2 then some .echo else none

/-- Line state codes. -/
def LineState.code : LineState → Byte
  | .running => 0 | .holdPending => 1 | .held => 2 | .safeStop => 3

/-- Temperature codes. -/
def Temperature.code : Temperature → Byte
  | .cool => 0 | .warm => 1 | .hot => 2

/-- Divert reason codes, 0 none. -/
def reasonCode : Option DivertReason → Byte
  | none => 0 | some .notFound => 1 | some .bookClosed => 2

/-- Event level codes. -/
def EventLevel.code : EventLevel → Byte
  | .absent => 0 | .present => 1 | .momentary => 2

/-- Finish step codes. -/
def FinishStep.code : FinishStep → Byte
  | .transferIn => 0 | .drill => 1 | .feed => 2 | .hanger => 3 | .close => 4 | .exit => 5
  | .exitRun => 6

/-- Freeze reason codes, 0 absent. -/
def freezeCode : Option FreezeReason → Byte
  | none => 0 | some .powerWarning => 1 | some .resetInput => 2 | some .lineReset => 3

/-- Event condition codes are the condition numbers (R180). -/
def Condition.code : Condition → Byte
  | .registration => 0 | .pause => 1 | .held => 2 | .driveHot => 3 | .driveForced => 4
  | .airLow => 5 | .bitWorn => 6 | .stationWait => 7 | .bedDwell => 8 | .purgeOverdue => 9
  | .triggerOverrun => 10 | .counterOverflow => 11 | .linkError => 12 | .safeStop => 13
  | .powerWarning => 14

/-- A slot byte, FFh when absent (R202). -/
def slotByte (i : Option Slot) : Byte := i.elim 0xFF#8 fun i => natByte i.val

/-- Status pages (R186). -/
inductive Page where
  | line | drives | books
deriving DecidableEq, Repr

/-- Page of a code. -/
def readPage (b : Byte) : Option Page :=
  if b = 0 then some .line else if b = 1 then some .drives else if b = 2 then some .books else none

/-- A byte that names one of `n` things. -/
def readIndex (n : Nat) (b : Byte) : Option (Fin n) :=
  if h : b.toNat < n then some ⟨b.toNat, h⟩ else none

/-- A value within a range. -/
def readRange (lo hi : Nat) (x : Nat) : Option Nat := if lo ≤ x ∧ x ≤ hi then some x else none

/-- A 16-bit field within a range. -/
def readHalf (lo hi : Nat) (a b : Byte) : Option Nat := readRange lo hi (joinHalf a b).toNat

/-! ## Table contents (11.6) -/

/-- Positions 21 to 26 lie under the notch (R47). -/
def notchMask : BitVec 48 := 0x7E00000#48

/-- The checks of a pattern written with Valid set (R47). -/
def Pattern.check (p : Pattern) : Bool :=
  decide (p.pins ≠ 0) && !(p.notch && decide (p.pins &&& notchMask ≠ 0))

/-- A written pattern: none if it fails R47 or R204, `some none` if it makes the entry invalid. -/
def readPattern (l : List Byte) : Option (Option Pattern) :=
  match l with
  | [valid, notch, p0, p1, p2, p3, p4, p5] => do
    let v ← readFlag valid
    if v then
      let k ← readFlag notch
      let p : Pattern := { pins := p5 ++ p4 ++ p3 ++ p2 ++ p1 ++ p0, notch := k }
      if p.check then some (some p) else none
    else some none
  | _ => none

/-- A pattern entry as read back; an invalid one is zeros (R62, R206). -/
def patternBytes : Option Pattern → List Byte
  | none => List.replicate 8 0
  | some p =>
    [1, flagByte p.notch] ++ (List.range 6).map fun k => p.pins.extractLsb' (8 * k) 8

/-- The drill hole count a hanger kind permits (R49). -/
def drillCountOk (k : HangerKind) (n : Nat) : Bool :=
  match k with
  | .none => decide (n = 0)
  | .wireHook => decide (n = 0)
  | .drilled => decide (n = 1) || decide (n = 2)

/-- A written format copy: none if it fails R49 or R204, `some none` for an invalid copy. -/
def readFormat (patterns : Vector (Option Pattern) 24) (l : List Byte) : Option (Option Format) :=
  match l with
  | [valid, pattern, c1, c0, sheets, alone, hanger, holes, wire, feed] => do
    let v ← readFlag valid
    if v then
      let p ← readIndex 24 pattern
      if (Bank.read patterns p).isNone then none
      else
        let capacity ← readHalf 500 6000 c1 c0
        let maxSheets ← readRange 1 24 sheets.toNat
        let boardAlone ← readFlag alone
        let kind ← readHanger hanger
        let wireClass ← readRange 1 8 wire.toNat
        let feedSteps ← readRange 1 64 feed.toNat
        if drillCountOk kind holes.toNat then
          some (some
            { pattern := p, capacity, maxSheets, boardAlone, hanger := kind,
              drillHoles := holes.toNat, wireClass, feedSteps })
        else none
    else some none
  | _ => none

/-- A format copy as read back; an invalid one is zeros (R62). -/
def formatBytes : Option Format → List Byte
  | none => List.replicate 10 0
  | some f =>
    [1, natByte f.pattern.val] ++ natBytes f.capacity ++
      [natByte f.maxSheets, flagByte f.boardAlone, f.hanger.code, natByte f.drillHoles,
        natByte f.wireClass, natByte f.feedSteps]

/-- A purge duration passes the check against the quarter interval (R56). -/
def durationOk (base duration : Nat) : Bool := decide (2 * duration < base / 4)

/-- Every duration the mode permits passes (R56). -/
def DriveEntry.durationsOk (e : DriveEntry) : Bool :=
  match e.mode with
  | .fullOnly => durationOk e.baseInterval e.full
  | .halfOnly => durationOk e.baseInterval e.half
  | .quarterOnly => durationOk e.baseInterval e.quarter
  | .fullOrHalf => durationOk e.baseInterval e.full && durationOk e.baseInterval e.half
  | .fullOrQuarter => durationOk e.baseInterval e.full && durationOk e.baseInterval e.quarter

/-- A written drive entry: none if it fails R55, R56 or R204. -/
def readDrive (l : List Byte) : Option DriveEntry :=
  match l with
  | [en, s1, s0, t1, t0, b1, b0, mode, f1, f0, h1, h0, q1, q0] => do
    let enabled ← readFlag en
    let spacing ← readHalf 20 2000 s1 s0
    let strokeTimeout ← readHalf 50 5000 t1 t0
    let baseInterval ← readHalf 400 60000 b1 b0
    let mode ← readPurgeMode mode
    let full ← readHalf 1 7499 f1 f0
    let half ← readHalf 1 7499 h1 h0
    let quarter ← readHalf 1 7499 q1 q0
    let e : DriveEntry :=
      { enabled, spacing, strokeTimeout, baseInterval, mode, full, half, quarter }
    if e.durationsOk then some e else none
  | _ => none

/-- A drive entry as read back. -/
def driveBytes (e : DriveEntry) : List Byte :=
  [flagByte e.enabled] ++ natBytes e.spacing ++ natBytes e.strokeTimeout ++ natBytes e.baseInterval
    ++ [e.mode.code] ++ natBytes e.full ++ natBytes e.half ++ natBytes e.quarter

/-- Loss Action of a byte (11.6). -/
def readLossAction (b : Byte) : Option LossAction :=
  (readFlag b).map fun f => if f then .continue else .divert

/-- Report mode of a byte (11.6). -/
def readReportMode (b : Byte) : Option ReportMode :=
  (readFlag b).map fun f => if f then .periodic else .manual

/-- A written Line Settings record: none if a field is out of range (R58, R204). -/
def readSettings (l : List Byte) : Option LineSettings :=
  match l with
  | [m1, m0, dec, clr, loss, cross, w1, w0, d1, d0, b1, b0, o1, o0, f1, f0, e1, e0, r1, r0, dr1, dr0,
      h1, h0, c1, c0, mode, p1, p0, out] => do
    let matchWindow ← readHalf 100 65535 m1 m0
    let declareCount ← readRange 1 15 dec.toNat
    let clearCount ← readRange 1 255 clr.toNat
    let lossAction ← readLossAction loss
    let crossSpacing ← readRange 1 200 cross.toNat
    let strikeWindow ← readHalf 10 5000 w1 w0
    let bedDwellLimit ← readHalf 100 60000 d1 d0
    let bedTimeout ← readHalf 100 60000 b1 b0
    let outTimeout ← readHalf 100 60000 o1 o0
    let finishTimeout ← readHalf 100 60000 f1 f0
    let exitTimeout ← readHalf 100 60000 e1 e0
    let readyWait ← readHalf 100 60000 r1 r0
    let drillTimeout ← readHalf 100 60000 dr1 dr0
    let hangerTimeout ← readHalf 100 60000 h1 h0
    let closerTimeout ← readHalf 100 60000 c1 c0
    let reportMode ← readReportMode mode
    let reportPeriod ← readHalf 1 3600 p1 p0
    let outcomeNotices ← readFlag out
    some
      { matchWindow, declareCount, clearCount, lossAction, crossSpacing, strikeWindow,
        bedDwellLimit, bedTimeout, outTimeout, finishTimeout, exitTimeout, readyWait, drillTimeout,
        hangerTimeout, closerTimeout, reportMode, reportPeriod, outcomeNotices }
  | _ => none

/-- Line Settings as read back. -/
def settingsBytes (x : LineSettings) : List Byte :=
  natBytes x.matchWindow ++ [natByte x.declareCount, natByte x.clearCount,
      flagByte (decide (x.lossAction = .continue)), natByte x.crossSpacing]
    ++ natBytes x.strikeWindow ++ natBytes x.bedDwellLimit ++ natBytes x.bedTimeout
    ++ natBytes x.outTimeout ++ natBytes x.finishTimeout ++ natBytes x.exitTimeout
    ++ natBytes x.readyWait ++ natBytes x.drillTimeout ++ natBytes x.hangerTimeout
    ++ natBytes x.closerTimeout ++ [flagByte (decide (x.reportMode = .periodic))]
    ++ natBytes x.reportPeriod ++ [flagByte x.outcomeNotices]

/-! ## Request frames (11.2, 11.4) -/

/-- The kind code of LINE CONTROL. -/
def lineControlKind : Byte := 0x0F#8

/-- A LINE CONTROL frame. -/
def lineControlFrame (sub tag modeByte : Byte) : Frame := ⟨lineControlKind, tag, [sub, modeByte]⟩

/-- The frame of a request; none for a command that is no request. -/
def requestFrame : Instr → Option Frame
  | .sheetNotice t b l k x f => some ⟨0x01, t, halfBytes b ++ [l, k] ++ halfBytes x ++ [f]⟩
  | .bookOpen t b f d => some ⟨0x02, t, halfBytes b ++ [f, d]⟩
  | .bookCancel t b => some ⟨0x03, t, halfBytes b⟩
  | .tableWrite t x e c => some ⟨0x04, t, x :: e :: c⟩
  | .tableRead t x e c => some ⟨0x05, t, [x, e, c]⟩
  | .channelSet t c m x n w b =>
    some ⟨0x06, t, [c, m, x] ++ halfBytes n ++ halfBytes w ++ halfBytes b⟩
  | .channelCount t c n w b => some ⟨0x07, t, [c] ++ halfBytes n ++ halfBytes w ++ halfBytes b⟩
  | .capture t c x => some ⟨0x08, t, halfBytes c ++ [x]⟩
  | .channelRead t c => some ⟨0x09, t, [c]⟩
  | .counterTransfer t => some ⟨0x0A, t, []⟩
  | .counterRead t => some ⟨0x0B, t, []⟩
  | .eventSetup t a b => some ⟨0x0C, t, halfBytes a ++ halfBytes b⟩
  | .eventClear t a => some ⟨0x0D, t, halfBytes a⟩
  | .statusRead t p => some ⟨0x0E, t, [p]⟩
  | .hold t m => some (lineControlFrame 0 t m)
  | .resume t m => some (lineControlFrame 1 t m)
  | .stop t m => some (lineControlFrame 2 t m)
  | .stopClear t m => some (lineControlFrame 3 t m)
  | .setMode t m => some (lineControlFrame 4 t m)
  | .lineReset t m => some (lineControlFrame 5 t m)
  | .bitChanged t l => some ⟨0x10, t, halfBytes l⟩
  | .recoveryRead t i => some ⟨0x11, t, [i]⟩
  | .recoveryClear t => some ⟨0x12, t, []⟩
  | .unknownKindFrame k t p => some ⟨k, t, p⟩
  | .echoReturn k t p => some ⟨k, t, p⟩
  | _ => none

/-- What a frame that has passed check 1 of R192 turns out to be. -/
inductive Received where
  /-- A request of known kind and permitted length. -/
  | request (i : Instr)
  /-- A LINE CONTROL frame whose subcommand is not one of the six (R193). -/
  | badSubcommand
  /-- A request kind with a length it does not permit (R192 check 2). -/
  | badLength
  /-- A kind that is no request kind (R192 check 3). -/
  | unknownKind
deriving DecidableEq, Repr

/-- The request of a LINE CONTROL payload (11.3, R204). -/
def readLineControl (t sub m : Byte) : Received :=
  match sub.toNat with
  | 0 => .request (.hold t m)
  | 1 => .request (.resume t m)
  | 2 => .request (.stop t m)
  | 3 => .request (.stopClear t m)
  | 4 => .request (.setMode t m)
  | 5 => .request (.lineReset t m)
  | _ => .badSubcommand

/-- The lengths TABLE WRITE permits, its two leading bytes not counted (11.2). -/
def contentsLengthOk (n : Nat) : Bool :=
  decide (n = 8) || decide (n = 10) || decide (n = 14) || decide (n = 30)

/-- A TABLE WRITE payload (11.4). -/
def readTableWrite (t : Byte) : List Byte → Received
  | x :: e :: c => if contentsLengthOk c.length then .request (.tableWrite t x e c) else .badLength
  | _ => .badLength

/-- Checks 2 and 3 of R192, and the payload as 11.4 lays it out. -/
def Frame.received (f : Frame) : Received :=
  match f.kind.toNat with
  | 0x01 =>
    match f.payload with
    | [b1, b0, l, k, x1, x0, g] =>
      .request (.sheetNotice f.tag (joinHalf b1 b0) l k (joinHalf x1 x0) g)
    | _ => .badLength
  | 0x02 =>
    match f.payload with
    | [b1, b0, g, d] => .request (.bookOpen f.tag (joinHalf b1 b0) g d)
    | _ => .badLength
  | 0x03 =>
    match f.payload with
    | [b1, b0] => .request (.bookCancel f.tag (joinHalf b1 b0))
    | _ => .badLength
  | 0x04 => readTableWrite f.tag f.payload
  | 0x05 =>
    match f.payload with
    | [x, e, c] => .request (.tableRead f.tag x e c)
    | _ => .badLength
  | 0x06 =>
    match f.payload with
    | [c, m, x, n1, n0, w1, w0, b1, b0] =>
      .request (.channelSet f.tag c m x (joinHalf n1 n0) (joinHalf w1 w0) (joinHalf b1 b0))
    | _ => .badLength
  | 0x07 =>
    match f.payload with
    | [c, n1, n0, w1, w0, b1, b0] =>
      .request (.channelCount f.tag c (joinHalf n1 n0) (joinHalf w1 w0) (joinHalf b1 b0))
    | _ => .badLength
  | 0x08 =>
    match f.payload with
    | [c1, c0, x] => .request (.capture f.tag (joinHalf c1 c0) x)
    | _ => .badLength
  | 0x09 =>
    match f.payload with
    | [c] => .request (.channelRead f.tag c)
    | _ => .badLength
  | 0x0A =>
    match f.payload with
    | [] => .request (.counterTransfer f.tag)
    | _ => .badLength
  | 0x0B =>
    match f.payload with
    | [] => .request (.counterRead f.tag)
    | _ => .badLength
  | 0x0C =>
    match f.payload with
    | [a1, a0, b1, b0] => .request (.eventSetup f.tag (joinHalf a1 a0) (joinHalf b1 b0))
    | _ => .badLength
  | 0x0D =>
    match f.payload with
    | [a1, a0] => .request (.eventClear f.tag (joinHalf a1 a0))
    | _ => .badLength
  | 0x0E =>
    match f.payload with
    | [p] => .request (.statusRead f.tag p)
    | _ => .badLength
  | 0x0F =>
    match f.payload with
    | [x, m] => readLineControl f.tag x m
    | _ => .badLength
  | 0x10 =>
    match f.payload with
    | [l1, l0] => .request (.bitChanged f.tag (joinHalf l1 l0))
    | _ => .badLength
  | 0x11 =>
    match f.payload with
    | [i] => .request (.recoveryRead f.tag i)
    | _ => .badLength
  | 0x12 =>
    match f.payload with
    | [] => .request (.recoveryClear f.tag)
    | _ => .badLength
  | _ => .unknownKind

/-- The frame is a SET MODE request (R199). -/
def Frame.isSetMode (f : Frame) : Bool :=
  decide (f.kind = lineControlKind) && decide (f.payload.length = 2)
    && decide (f.payload.head? = some 4#8)

/-! ## Upstream frames (11.5) -/

/-- The counts of a report: 18 holding copies and their overflow marks (11.5; log 28). -/
def countsBytes (v : Vector Count 18) : List Byte :=
  let marks : BitVec 24 :=
    BitVec.ofNat 24 (packBits ((List.finRange 18).map fun i => (Bank.read v i).overflow))
  ((List.finRange 18).flatMap fun i => natBytes (Bank.read v i).value)
    ++ [marks.extractLsb' 16 8, marks.extractLsb' 8 8, marks.extractLsb' 0 8]

/-- An upstream frame as laid out; every notice carries tag 0 (R203). -/
def Upstream.frame : Upstream → Frame
  | .answer tag kind result data => ⟨0x81, tag, kind :: result :: data⟩
  | .echoed f => f
  | .sheetRefused book leaf reason =>
    ⟨0x82, 0, halfBytes book ++ [leaf, flagByte reason.isSome, reasonCode reason]⟩
  | .bookOutcome book o fault format placed punched =>
    ⟨0x83, 0, halfBytes book ++
      [o.code, faultCode fault, natByte format.val, natByte placed, natByte punched]⟩
  | .eventNotice c level latches => ⟨0x84, 0, [c.code, level.code] ++ halfBytes latches⟩
  | .counterReport number counts => ⟨0x85, 0, number :: countsBytes counts⟩

end Sys2Proof.Machine
end

