-- ==== Sys2Proof/Machine/Flags.lean ====
section
/-! DEFINITION. Flags and their computations: the Return Queue's admission of notices and its loss
flags, the counters with their overflow marks, the event latches and live levels, ALERT, the pause
and hold sources with the moves of the line state they cause. -/

namespace Sys2Proof.Machine

open Sys2Proof

/-! ## Return Queue admission (R195 to R198) -/

/-- Notices take notice places; answers and returned frames do not (R195, R199). -/
def Upstream.isNotice : Upstream → Bool
  | .answer _ _ _ _ => false
  | .echoed _ => false
  | .sheetRefused _ _ _ => true
  | .bookOutcome _ _ _ _ _ _ => true
  | .eventNotice _ _ _ => true
  | .counterReport _ _ => true

/-- The number of places held by notices (R195). -/
def LinkPort.noticeCount (l : LinkPort) : Nat := l.queue.countP Upstream.isNotice

/-- Places in use: queued frames and the reservation (R195, R197). -/
def LinkPort.placesInUse (l : LinkPort) : Nat := l.queue.length + l.reserved.toNat

/-- A notice joins the Return Queue, or is dropped with NOTICES_LOST set (R196). -/
def LinkPort.pushNotice (u : Upstream) (l : LinkPort) : LinkPort :=
  if l.placesInUse < 16 ∧ l.noticeCount < 12 then { l with queue := l.queue ++ [u] }
  else { l with noticesLost := true }

/-- A notice, if there is one, is admitted. -/
def LinkPort.pushOptional (u : Option Upstream) (l : LinkPort) : LinkPort :=
  u.elim l fun u => l.pushNotice u

/-- A notice is queued upstream (R196). -/
def State.notify (u : Upstream) (s : State) : State := { s with lp := s.lp.pushNotice u }

/-! ## Event conditions (R180 to R185) -/

/-- Condition numbers (R180). -/
def Condition.number : Condition → Nat
  | .registration => 0 | .pause => 1 | .held => 2 | .driveHot => 3 | .driveForced => 4
  | .airLow => 5 | .bitWorn => 6 | .stationWait => 7 | .bedDwell => 8 | .purgeOverdue => 9
  | .triggerOverrun => 10 | .counterOverflow => 11 | .linkError => 12 | .safeStop => 13
  | .powerWarning => 14

/-- The set that holds one condition. -/
def Condition.mask (c : Condition) : Half := 1#16 <<< c.number

/-- The non-maskable conditions (R180). -/
def Condition.nonMaskable : Condition → Bool
  | .safeStop => true
  | .powerWarning => true
  | _ => false

/-- The set holds the condition. -/
def Condition.isIn (c : Condition) (set : Half) : Bool := set.getLsbD c.number

/-- The set with the condition put in or taken out. -/
def Condition.put (c : Condition) (present : Bool) (set : Half) : Half :=
  if present then set ||| c.mask else set &&& ~~~c.mask

/-- The latch of a condition is set (R181). -/
def LineMonitor.latch (c : Condition) (m : LineMonitor) : LineMonitor :=
  { m with latches := c.put true m.latches }

/-- The Event Notice queued when the latch of `c` is set: none if it was set already, or if the
condition is neither enabled nor non-maskable (R182). -/
def LineMonitor.latchNotice (c : Condition) (level : EventLevel) (m : LineMonitor) :
    Option Upstream :=
  if c.isIn m.latches = false ∧ (c.isIn m.enables ∨ c.nonMaskable) then
    some (.eventNotice c level (m.latch c).latches)
  else none

/-- The live level of a condition takes a value (R180). -/
def LineMonitor.setLive (c : Condition) (present : Bool) (m : LineMonitor) : LineMonitor :=
  { m with live := c.put present m.live }

/-- A change to this level sets the latch: a rise always, a fall under edge select CHANGE (R181). -/
def LineMonitor.edgeSets (c : Condition) (present : Bool) (m : LineMonitor) : Bool :=
  present || c.isIn m.edges

/-- A level condition is reported: a level other than the live one is a change (R180, R181). -/
def LineMonitor.report (c : Condition) (present : Bool) (m : LineMonitor) : LineMonitor :=
  if c.isIn m.live = present then m
  else if m.edgeSets c present then (m.setLive c present).latch c
  else m.setLive c present

/-- The Event Notice of a reported level, if any (R182). -/
def LineMonitor.reportNotice (c : Condition) (present : Bool) (m : LineMonitor) :
    Option Upstream :=
  if c.isIn m.live = present then none
  else if m.edgeSets c present then
    (m.setLive c present).latchNotice c (if present then .present else .absent)
  else none

/-- A block reports the level of a level condition to LM (R180). -/
def State.reportLevel (c : Condition) (present : Bool) (s : State) : State :=
  { s with
    lm := s.lm.report c present
    lp := s.lp.pushOptional (s.lm.reportNotice c present) }

/-- A momentary condition occurs (R180, R181). -/
def State.occur (c : Condition) (s : State) : State :=
  { s with
    lm := s.lm.latch c
    lp := s.lp.pushOptional (s.lm.latchNotice c .momentary) }

/-- The ALERT output (R185); inactive during a reset, when every latch is clear. -/
def State.alert (s : State) : Bool :=
  s.lm.latches &&& (s.lm.enables ||| Condition.mask .safeStop ||| Condition.mask .powerWarning) != 0

/-! ## Counters (R174, R175) -/

/-- The place of a counter in the order of R174. -/
def Counter.index : Counter → Fin 18
  | .sheetsPlaced => 0 | .sheetsDiverted => 1 | .unannounced => 2 | .missing => 3
  | .liftsPunched => 4 | .liftsPassed => 5
  | .strikes d => ⟨6 + d.val, by omega⟩
  | .purges d => ⟨11 + d.val, by omega⟩
  | .booksBound => 16 | .booksRejected => 17

/-- The counter is at 65535 (R175). -/
def Count.saturated (c : Count) : Bool := 65535 ≤ c.value

/-- One increment (R175). -/
def Count.bump (c : Count) : Count :=
  if c.saturated then { c with overflow := true } else { c with value := c.value + 1 }

/-- An increment of a working counter; at saturation it raises COUNTER_OVERFLOW (R175). -/
def LineMonitor.bump (k : Counter) (m : LineMonitor) : LineMonitor :=
  let m' := { m with work := Bank.write m.work k.index (Bank.read m.work k.index).bump }
  if (Bank.read m.work k.index).saturated then m'.latch .counterOverflow else m'

/-- The Event Notice of an increment at saturation, if any (R182). -/
def LineMonitor.bumpNotice (k : Counter) (m : LineMonitor) : Option Upstream :=
  if (Bank.read m.work k.index).saturated then m.latchNotice .counterOverflow .momentary else none

/-- A counter counts (R174). -/
def State.count (k : Counter) (s : State) : State :=
  { s with lm := s.lm.bump k, lp := s.lp.pushOptional (s.lm.bumpNotice k) }

/-! ## Line state, pause and hold sources -/

/-- The pause source for the line held or stopped (R168). -/
def LineState.pauses : LineState → Bool
  | .running => false
  | .holdPending => true
  | .held => true
  | .safeStop => true

/-- The set of pause sources is not empty (R168). -/
def State.pausePresent (s : State) : Bool :=
  s.si.pauseSource || s.lb.pauseSource || s.lsv.lineState.pauses

/-- The PAUSE output (R168); inactive while the Reset input is asserted (R172). -/
def State.pauseOutput (s : State) : Bool := s.pausePresent && !s.resetAsserted

/-- The Safe Stop output (R167); asserted while the Reset input is asserted (R172). -/
def State.safeStopOutput (s : State) : Bool :=
  decide (s.lsv.lineState = .safeStop) || s.resetAsserted

/-- The PAUSE condition follows the set of pause sources (R168). -/
def State.syncPause (s : State) : State := s.reportLevel .pause s.pausePresent

/-- The line state changes to a value and its conditions follow (R160, R166, R168). The order of the
reports is the model's (log 12). -/
def State.moveLine (l : LineState) (s : State) : State :=
  let s := { s with lsv := { s.lsv with lineState := l, moved := true } }
  let s := s.reportLevel .held (decide (l = .held))
  let s := s.reportLevel .safeStop (decide (l = .safeStop))
  s.syncPause

/-- The five hold sources (R160). -/
inductive HoldSource where
  | start | request | bitWorn | driveHot | stationWait
deriving DecidableEq, Repr

/-- The source is in the set. -/
def HoldSources.has (x : HoldSource) (h : HoldSources) : Bool :=
  match x with
  | .start => h.start
  | .request => h.request
  | .bitWorn => h.bitWorn
  | .driveHot => h.driveHot
  | .stationWait => h.stationWait

/-- The set with the source put in or taken out. -/
def HoldSources.put (x : HoldSource) (on : Bool) (h : HoldSources) : HoldSources :=
  match x with
  | .start => { h with start := on }
  | .request => { h with request := on }
  | .bitWorn => { h with bitWorn := on }
  | .driveHot => { h with driveHot := on }
  | .stationWait => { h with stationWait := on }

/-- The set is not empty. -/
def HoldSources.any (h : HoldSources) : Bool :=
  h.start || h.request || h.bitWorn || h.driveHot || h.stationWait

/-- The set of hold sources takes a value. -/
def State.setHolds (h : HoldSources) (s : State) : State :=
  { s with lsv := { s.lsv with holds := h } }

/-- A source is set: RUNNING goes to HOLD_PENDING (R160). -/
def State.addHold (x : HoldSource) (s : State) : State :=
  let s := s.setHolds (s.lsv.holds.put x true)
  if s.lsv.lineState = .running then s.moveLine .holdPending else s

/-- When no source is left, HOLD_PENDING and HELD go to RUNNING (R160). -/
def State.releaseIfFree (s : State) : State :=
  if s.lsv.holds.any = false ∧ (s.lsv.lineState = .holdPending ∨ s.lsv.lineState = .held) then
    s.moveLine .running
  else s

/-- A source is withdrawn (R160). -/
def State.dropHold (x : HoldSource) (s : State) : State :=
  (s.setHolds (s.lsv.holds.put x false)).releaseIfFree

/-- An owner presents or withdraws its hold source; what already stands does not change (R160). -/
def State.presentHold (x : HoldSource) (on : Bool) (s : State) : State :=
  if s.lsv.holds.has x = on then s else if on then s.addHold x else s.dropHold x

/-- A level condition and the hold source that goes with it follow their owner's condition: the
level first, as the example of 9.8 has it. -/
def State.follow (c : Condition) (x : HoldSource) (on : Bool) (s : State) : State :=
  (s.reportLevel c on).presentHold x on

/-! ## Registration (R19) -/

/-- A streak rises, staying at 255 (R19). -/
def streakUp (n : Nat) : Nat := min (n + 1) 255

/-- The events that move the registration streaks (R19). -/
inductive StreakEvent where
  | matching | unannounced | expiry
deriving DecidableEq, Repr

/-- The streaks and the state after an event (R19). -/
def SheetIntake.streak (e : StreakEvent) (set : LineSettings) (si : SheetIntake) : SheetIntake :=
  let si :=
    match e with
    | .matching => { si with unmatched := 0, matched := streakUp si.matched }
    | .unannounced => { si with unmatched := streakUp si.unmatched, matched := 0 }
    | .expiry => { si with unmatched := streakUp si.unmatched, matched := 0 }
  match si.registration with
  | .matched => if set.declareCount ≤ si.unmatched then { si with registration := .lost } else si
  | .lost => if set.clearCount ≤ si.matched then { si with registration := .matched } else si

/-- Registration is updated and reported (R19). -/
def State.updateRegistration (e : StreakEvent) (s : State) : State :=
  let s := { s with si := s.si.streak e s.ts.settings }
  s.reportLevel .registration (decide (s.si.registration = .lost))

end Sys2Proof.Machine
end

