-- ==== Sys2Proof/Machine/Ops.lean ====
section
/-! DEFINITION. Named operations over the state, shared by every family: time, the Book Table and
its mirror, format references, the channels, the drives, the station orders, coming to rest. -/

namespace Sys2Proof.Machine

open Sys2Proof

/-! ## Time -/

/-- The reference timebase in whole milliseconds (00 Units; log 1). -/
def State.nowMs (s : State) : Nat := s.time / 10

/-! ## Book Table (R1, R6, R7) and its mirror (R169) -/

/-- The book in a slot. -/
def State.book (i : Slot) (s : State) : Option Book := Bank.read s.si.books i

/-- The slot of the book with an id (R1: at most one). -/
def State.findBook (id : Half) (s : State) : Option Slot :=
  (List.finRange 8).find? fun i => (s.book i).any fun b => b.id == id

/-- The lowest-numbered free slot (R3). -/
def State.freeSlot (s : State) : Option Slot :=
  (List.finRange 8).find? fun i => (s.book i).isNone

/-- The slots in use (R186). -/
def State.bookCount (s : State) : Nat := (List.finRange 8).countP fun i => (s.book i).isSome

/-- A record slot as it mirrors a book (R169). -/
def RecordSlot.ofBook (b : Book) : RecordSlot :=
  { id := b.id, format := b.format, placed := b.placed, liftsClosed := b.liftsClosed,
    liftsPunched := b.liftsPunched, stage := b.stage, fault := b.fault }

/-- The record follows a change of one slot while Retention Valid is clear (R169). -/
def LineSupervisor.mirror (i : Slot) (b : Option Book) (l : LineSupervisor) : LineSupervisor :=
  if l.record.retentionValid then l
  else { l with record :=
    { l.record with slots := Bank.write l.record.slots i (b.map RecordSlot.ofBook) } }

/-- A slot of the Book Table takes an entry or is freed, and the change is mirrored (R1, R169). -/
def State.setBook (i : Slot) (b : Option Book) (s : State) : State :=
  { s with
    si := { s.si with books := Bank.write s.si.books i b }
    lsv := s.lsv.mirror i b }

/-- An entry changes; a free slot stays free. -/
def State.modifyBook (i : Slot) (f : Book → Book) (s : State) : State :=
  s.setBook i ((s.book i).map f)

/-- The stage `a` becomes `b`; another stage stays as it is (R6). -/
def Book.advance (a b : Stage) (k : Book) : Book :=
  if k.stage = a then { k with stage := b } else k

/-- A cause is recorded if none is (R4). -/
def Book.addFault (c : FaultCause) (b : Book) : Book :=
  if b.fault.isNone then { b with fault := some c } else b

/-- The book in the slot has a recorded fault. -/
def State.bookFaulted (i : Slot) (s : State) : Bool := (s.book i).any fun b => b.fault.isSome

/-- The stage of a slot's book is OPEN or COLLECTING. -/
def Book.takesSheets (b : Book) : Bool :=
  match b.stage with
  | .opened => true
  | .collecting => true
  | .collected => false
  | .gathered => false
  | .finishing => false
  | .leaving => false

/-! ## Formats (R48 to R52) -/

/-- A staged copy is present (R48). -/
def FormatEntry.pending (e : FormatEntry) : Bool := e.staged.isSome

/-- A staged copy, if present, replaces the active copy (R52). -/
def FormatEntry.promote (e : FormatEntry) : FormatEntry :=
  match e.staged with
  | some c => { e with active := c, staged := none }
  | none => e

/-- A bound book leaves; at 0 the staged copy is promoted (R50, R52). -/
def FormatEntry.release (e : FormatEntry) : FormatEntry :=
  let e := { e with refCount := e.refCount - 1 }
  if e.refCount = 0 then e.promote else e

/-- A book binds to the entry (R50). -/
def FormatEntry.bind (e : FormatEntry) : FormatEntry := { e with refCount := e.refCount + 1 }

/-- One format entry changes. -/
def TableStore.modifyFormat (i : FormatId) (f : FormatEntry → FormatEntry) (t : TableStore) :
    TableStore :=
  { t with formats := Bank.write t.formats i (f (Bank.read t.formats i)) }

/-- The active copy of the format of a slot's book (R48). -/
def State.bookFormat (i : Slot) (s : State) : Option Format :=
  (s.book i).bind fun b => (Bank.read s.ts.formats b.format).active

/-- The pattern of the format of a slot's book. -/
def State.bookPattern (i : Slot) (s : State) : Option Pattern :=
  (s.bookFormat i).bind fun f => Bank.read s.ts.patterns f.pattern

/-- Bits `12g` to `12g + 11` of a pin set hold a pin: pin group `g` (R46). -/
def Pattern.group (g : Nat) (p : Pattern) : Bool :=
  (p.pins >>> (12 * g)).extractLsb' 0 12 != 0#12

/-- The drive set of a pattern (R46). -/
def Pattern.driveSet (p : Pattern) : DriveSet :=
  BitVec.ofBool p.notch ++ BitVec.ofBool (p.group 3) ++ BitVec.ofBool (p.group 2)
    ++ BitVec.ofBool (p.group 1) ++ BitVec.ofBool (p.group 0)

/-- The hole count of a pattern: its pins, the notch not counted (R46). -/
def Pattern.holeCount (p : Pattern) : Nat :=
  (List.range 48).countP fun i => p.pins.getLsbD i

/-! ## Removing a book (R7) -/

/-- A notice of a removed book becomes a divert entry that keeps its place (R7 step 3). -/
def Notice.closeFor (i : Slot) (n : Notice) : Notice :=
  if n.slot = some i then { n with slot := none, divert := some .bookClosed } else n

/-- A book is removed: its format reference falls, its notices become divert entries, its slot is
freed (R7). -/
def State.removeBook (i : Slot) (s : State) : State :=
  match s.book i with
  | none => s
  | some b =>
    let s := { s with
      ts := s.ts.modifyFormat b.format FormatEntry.release
      si := { s.si with notices := s.si.notices.map (Notice.closeFor i) } }
    s.setBook i none

/-- The Book Outcome notice of a book (R152). -/
def Book.outcomeNotice (o : BookOutcome) (b : Book) : Upstream :=
  .bookOutcome b.id o (if o = .rejected then b.fault else none) b.format b.placed b.liftsPunched

/-- The notice is queued if outcome notices are enabled (R151 step 2, R9). -/
def State.sendOutcome (o : BookOutcome) (b : Book) (s : State) : State :=
  if s.ts.settings.outcomeNotices then s.notify (b.outcomeNotice o) else s

/-- A book whose collection ends with no lifts and no sheets is removed (R9). -/
def State.removeEmpty (i : Slot) (s : State) : State :=
  match s.book i with
  | none => s
  | some b => ((s.sendOutcome .rejected b).count .booksRejected).removeBook i

/-! ## Channels (chapter 6) -/

/-- The channel. -/
def State.ch (i : ChannelId) (s : State) : Channel := Bank.read s.tcu i

/-- The channel takes a value. -/
def State.setCh (i : ChannelId) (c : Channel) (s : State) : State :=
  { s with tcu := Bank.write s.tcu i c }

/-- The working mode of a channel (R114). -/
def workingMode (i : ChannelId) : ChannelMode :=
  if i.val = 0 then .hold else if i.val = 6 then .pitch else .strobe

/-- Every channel is in its working mode (R163). -/
def State.channelsWorking (s : State) : Bool :=
  (List.finRange 9).all fun i => decide ((s.ch i).mode = workingMode i)

/-- What a count on the link stands for: 0 is 65536 (R116). -/
def countOf (x : Half) : Nat := if x = 0 then 65536 else x.toNat

/-- The channel is running (R115). -/
def Channel.running (c : Channel) : Bool := decide (c.phase ≠ .idle)

/-- A load point (R117). -/
def Channel.load (c : Channel) : Channel :=
  if c.pending then { c with live := c.staged, pending := false } else c

/-- The pulse of a STROBE or SOFT cycle begins (R120 step 3); a suppressed output stays inactive
(R127). -/
def Channel.pulse (suppressed : Bool) (c : Channel) : Channel :=
  { c with phase := .active, countdown := countOf c.live.w, output := !suppressed }

/-- A STROBE or SOFT cycle starts: load point, then the wait, if any, then the pulse (R120, R125). -/
def Channel.startCycle (suppressed : Bool) (c : Channel) : Channel :=
  let c := c.load
  if c.live.n = 0 then c.pulse suppressed
  else { c with phase := .waiting, countdown := c.live.n.toNat, output := false }

/-- The channel is IDLE with its output inactive. -/
def Channel.toIdle (c : Channel) : Channel :=
  { c with phase := .idle, countdown := 0, output := false }

/-- A STROBE channel takes a trigger: a cycle starts, or the trigger is kept pending (R120, R121). -/
def Channel.trigger (suppressed : Bool) (c : Channel) : Channel :=
  if c.running then { c with pendingTrigger := true } else c.startCycle suppressed

/-- A STROBE trigger is discarded (R121). -/
def Channel.triggerLost (c : Channel) : Bool := c.running && c.pendingTrigger

/-- The output of the channel is suppressed: CH1 to CH5 in DRY (R127). -/
def State.suppressed (i : ChannelId) (s : State) : Bool :=
  decide (s.lsv.mode = .dry) && decide (1 ≤ i.val) && decide (i.val ≤ 5)

/-- Owner triggers and starts act on the channel: it is in its working mode and the line is not in
Safe Stop (R118). -/
def State.channelHears (i : ChannelId) (s : State) : Bool :=
  decide ((s.ch i).mode = workingMode i) && decide (s.lsv.lineState ≠ .safeStop)

/-- An owner triggers a STROBE channel (R118, R120, R121). -/
def State.triggerStrobe (i : ChannelId) (s : State) : State :=
  if s.channelHears i then
    if (s.ch i).triggerLost then s.occur .triggerOverrun
    else s.setCh i ((s.ch i).trigger (s.suppressed i))
  else s

/-- A trigger with the gate held, on the HOLD channel (R119). -/
def Channel.clamp (c : Channel) : Channel :=
  let c := c.load
  { c with countdown := countOf c.live.n, gate := true, output := true, phase := .active }

/-- The Strike Scheduler triggers CH0 (R118, R119). -/
def State.triggerClamp (s : State) : State :=
  if s.channelHears 0 then s.setCh 0 (s.ch 0).clamp else s

/-- The staged pitch may be loaded: W less than N (R123). -/
def Counts.pitchValid (k : Counts) : Bool := decide (countOf k.w < countOf k.n)

/-- A PITCH period begins (R122 step 3). -/
def Channel.period (c : Channel) : Channel :=
  { c with phase := .active, countdown := countOf c.live.w, output := true }

/-- A PITCH load point: N and W are loaded and a period begins, or the train pauses (R117, R122
step 2, R124). -/
def Channel.pitchLoadPoint (c : Channel) : Channel :=
  if c.pending then
    if c.staged.pitchValid then
      { c with live := { c.staged with b := c.live.b }, pending := false }.period
    else { c with phase := .pausedPitch, countdown := 0, output := false }
  else c.period

/-- A PITCH start with its budget (R122). -/
def Channel.startTrain (budget : Nat) (c : Channel) : Channel :=
  { c with budget := budget }.pitchLoadPoint

/-- The Finish Unit starts CH6 (R118, R122). -/
def State.startFeed (budget : Nat) (s : State) : State :=
  if s.channelHears 6 then
    if (s.ch 6).running then s.occur .triggerOverrun
    else s.setCh 6 ((s.ch 6).startTrain budget)
  else s

/-- CH0 is in HOLD with its output active (R75). -/
def State.clampClosed (s : State) : Bool :=
  decide ((s.ch 0).mode = .hold) && (s.ch 0).output

/-! ## Drives (R66) -/

/-- The strike channel of a drive (R66). -/
def strikeChannel (d : DriveId) : ChannelId := ⟨d.val + 1, by omega⟩

/-- The drive a channel strikes, if it is one of CH1 to CH5. -/
def channelDrive (i : ChannelId) : Option DriveId :=
  if h : 1 ≤ i.val ∧ i.val ≤ 5 then some ⟨i.val - 1, by omega⟩ else none

/-- What the Strike Scheduler holds for a drive. -/
def State.drive (d : DriveId) (s : State) : DriveRecord := Bank.read s.ss.drives d

/-- It takes a value. -/
def State.setDrive (d : DriveId) (r : DriveRecord) (s : State) : State :=
  { s with ss := { s.ss with drives := Bank.write s.ss.drives d r } }

/-- The purge account of a drive. -/
def State.account (d : DriveId) (s : State) : DriveAccount := Bank.read s.pc.drives d

/-- It takes a value. -/
def State.setAccount (d : DriveId) (a : DriveAccount) (s : State) : State :=
  { s with pc := { s.pc with drives := Bank.write s.pc.drives d a } }

/-- The drive states of R66. -/
inductive DriveState where
  | disabled | ready | striking | purging | faulted
deriving DecidableEq, Repr

/-- A drive's entry is enabled and its channel is in STROBE (R66). -/
def State.driveEnabled (d : DriveId) (s : State) : Bool :=
  (Bank.read s.ts.drives d).enabled && decide ((s.ch (strikeChannel d)).mode = .strobe)

/-- The state of a drive (R66). -/
def State.driveState (d : DriveId) (s : State) : DriveState :=
  if (s.drive d).faulted then .faulted
  else if (s.drive d).strike.isSome then .striking
  else if (s.account d).purge.isSome then .purging
  else if s.driveEnabled d then .ready
  else .disabled

/-- A drive is Hot (R100). -/
def State.hot (d : DriveId) (s : State) : Bool := decide ((s.account d).temperature = .hot)

/-- A drive is Forced (R104). -/
def State.forced (d : DriveId) (s : State) : Bool := decide (24 ≤ (s.account d).debt)

/-- Some drive is Hot (R100). -/
def State.anyHot (s : State) : Bool := (List.finRange 5).any fun d => s.hot d

/-- Some drive is Forced (R104). -/
def State.anyForced (s : State) : Bool := (List.finRange 5).any fun d => s.forced d

/-- The drive is in the set. -/
def DriveSet.has (d : DriveId) (set : DriveSet) : Bool := BitVec.getLsbD set d.val

/-- The set that holds one drive. -/
def DriveSet.only (d : DriveId) : DriveSet := 1#5 <<< d.val

/-- Planned and neither done nor in flight (R65). -/
def Bed.outstanding (b : Bed) : DriveSet := b.planned &&& ~~~(b.done ||| b.inFlight)

/-- Some outstanding drive satisfies `p`. -/
def Bed.anyOutstanding (p : DriveId → Bool) (b : Bed) : Bool :=
  (List.finRange 5).any fun d => DriveSet.has d b.outstanding && p d

/-- The bed record takes a value. -/
def State.setBed (b : Option Bed) (s : State) : State := { s with ss := { s.ss with bed := b } }

/-! ## Station orders (R68 to R70) -/

/-- The place of a station in the bank of orders. -/
def stationIndex : Station → Fin 6
  | .bedShuttle => 0 | .finishTransfer => 1 | .exitTransfer => 2 | .drill => 3 | .hanger => 4
  | .closer => 5

/-- The stations. -/
def stations : List Station :=
  [.bedShuttle, .finishTransfer, .exitTransfer, .drill, .hanger, .closer]

/-- The station that carries a job (R68). -/
def Job.station : Job → Station
  | .bedTransfer => .bedShuttle
  | .outTransfer => .bedShuttle
  | .finishTransfer => .finishTransfer
  | .exitTransfer => .exitTransfer
  | .drill => .drill
  | .hanger => .hanger
  | .closer => .closer

/-- The timeout of a job (R68). -/
def Job.timeout (set : LineSettings) : Job → Nat
  | .bedTransfer => set.bedTimeout
  | .outTransfer => set.outTimeout
  | .finishTransfer => set.finishTimeout
  | .exitTransfer => set.exitTimeout
  | .drill => set.drillTimeout
  | .hanger => set.hangerTimeout
  | .closer => set.closerTimeout

/-- The order in progress at a station. -/
def State.order (st : Station) (s : State) : Option Order := Bank.read s.orders (stationIndex st)

/-- A station's order takes a value. -/
def State.setOrder (st : Station) (o : Option Order) (s : State) : State :=
  { s with orders := Bank.write s.orders (stationIndex st) o }

/-- The Ready input of a station (R68). -/
def State.ready (st : Station) (s : State) : Bool := Bank.read s.inputs.ready (stationIndex st)

/-- The order is issued (R68). -/
def Order.isIssued (o : Order) : Bool :=
  match o.phase with
  | .issued _ => true
  | .waiting _ _ _ => false

/-- The order is overdue (R69). -/
def Order.isOverdue (o : Order) : Bool :=
  match o.phase with
  | .issued _ => false
  | .waiting _ _ overdue => overdue

/-- An issued order of this job is in progress at its station. -/
def State.issued (j : Job) (s : State) : Bool :=
  (s.order j.station).any fun o => decide (o.job = j) && o.isIssued

/-- An order of this job is in progress, waiting or issued. -/
def State.ordered (j : Job) (s : State) : Bool :=
  (s.order j.station).any fun o => decide (o.job = j)

/-- The station order output: asserted while an order is issued (R68). -/
def State.orderOutput (st : Station) (s : State) : Bool := (s.order st).any Order.isIssued

/-- No station order is in progress. -/
def State.noOrders (s : State) : Bool := stations.all fun st => (s.order st).isNone

/-- Some order is overdue (R69). -/
def State.anyOverdue (s : State) : Bool := stations.any fun st => (s.order st).any Order.isOverdue

/-- STATION_WAIT follows the overdue orders (R69). -/
def State.syncStationWait (s : State) : State := s.follow .stationWait .stationWait s.anyOverdue

/-- The phase of an order that is made or whose Ready returns: issued with its timeout started (R68). -/
def State.issuePhase (j : Job) (s : State) : OrderPhase :=
  .issued (s.nowMs + j.timeout s.ts.settings)

/-- An order is made: issued at once if Ready is present, else it waits (R68). -/
def State.makeOrder (j : Job) (s : State) : State :=
  s.setOrder j.station (some
    { job := j
      phase := if s.ready j.station then s.issuePhase j
        else .waiting s.nowMs s.ts.settings.readyWait false })

/-- An order stops being in progress: confirmed, withdrawn or abandoned (R68, R69). -/
def State.endOrder (st : Station) (s : State) : State := (s.setOrder st none).syncStationWait

/-! ## Coming to rest (R161) -/

/-- The wire feed step is under way (R161). -/
def State.feeding (s : State) : Bool := s.fu.finish.any fun f => decide (f.step = .feed)

/-- No strike is in flight on any drive. -/
def State.noStrikes (s : State) : Bool :=
  (List.finRange 5).all fun d => (s.drive d).strike.isNone

/-- The line is at rest (R161). A Hot outstanding drive does not keep it from rest, whether it is also PURGING
or Forced or not: the model's reading (log 34). -/
def State.atRest (s : State) : Bool :=
  s.noOrders && s.noStrikes && !s.feeding && !(s.ch 6).running
    && (s.ss.bed.all fun b => !b.anyOutstanding fun d => !s.hot d)
    && (s.fu.finish.all fun f => f.bitWait)

/-- In HOLD_PENDING a line at rest becomes HELD (R160, R161). -/
def State.testRest (s : State) : State :=
  if s.lsv.lineState = .holdPending ∧ s.atRest then s.moveLine .held else s

end Sys2Proof.Machine
end

