-- ==== Sys2Proof/Machine/Faults.lean ====
section
/-! DEFINITION. Raising a book fault (R4) and what it does to the finish sequence of the finish book
(R148), with the two operations of the Finish Unit that it needs: the end of a block for the bit and
the start of the EXIT step. -/

namespace Sys2Proof.Machine

open Sys2Proof

/-- The finish record takes a value. -/
def State.setFinish (f : Option Finish) (s : State) : State :=
  { s with fu := { s.fu with finish := f } }

/-- EXIT starts: the book becomes LEAVING and its exit transfer is ordered (R149). -/
def State.startExit (f : Finish) (s : State) : State :=
  let s := s.setFinish (some { f with step := .exit })
  let s := s.modifyBook f.book (Book.advance .finishing .leaving)
  s.makeOrder .exitTransfer

/-- The block for the bit ends: the mark is cleared and BIT_WORN is withdrawn (R144). -/
def State.unblock (f : Finish) (s : State) : State :=
  (s.setFinish (some { f with bitWait := false })).follow .bitWorn .bitWorn false

/-- An order is in progress at the station and still waits for Ready. -/
def State.orderWaits (st : Station) (s : State) : Bool := (s.order st).any fun o => !o.isIssued

/-- The wire feed of the finish book is in flight: CH6 is running its train (R146). -/
def State.feedInFlight (s : State) : Bool :=
  decide ((s.ch 6).mode = .pitch) && (s.ch 6).running

/-- An order of the step that has not been issued is withdrawn, and the book goes to EXIT; an issued
order runs to its Done (R148). -/
def State.withdrawForExit (st : Station) (f : Finish) (s : State) : State :=
  if s.orderWaits st then (s.endOrder st).startExit f else s

/-- A fault recorded against the finish book takes effect on its sequence (R148). In SAFE_STOP no step
starts (R154): what would go to EXIT waits for STOP CLEAR (log 14). -/
def State.reactToFault (f : Finish) (s : State) : State :=
  match f.step with
  | .transferIn => s
  | .drill =>
    if f.bitWait then
      let s := s.unblock f
      if s.lsv.lineState = .safeStop then s else s.startExit { f with bitWait := false }
    else s.withdrawForExit .drill f
  | .feed => if s.feedInFlight ∨ s.lsv.lineState = .safeStop then s else s.startExit f
  | .hanger => s.withdrawForExit .hanger f
  | .close => s.withdrawForExit .closer f
  | .exit => s
  | .exitRun => s

/-- The Finish Unit is told of a fault of a book (chapter 7). -/
def State.tellFinish (i : Slot) (s : State) : State :=
  match s.fu.finish with
  | none => s
  | some f => if f.book = i then s.reactToFault f else s

/-- The slot holds a book with no recorded fault. -/
def State.faultFree (i : Slot) (s : State) : Bool := (s.book i).any fun b => b.fault.isNone

/-- A fault is raised against a book: the first cause is recorded (R4), and a newly recorded fault of
the finish book takes effect on its sequence (R148). -/
def State.raiseFault (i : Slot) (c : FaultCause) (s : State) : State :=
  if s.faultFree i then (s.modifyBook i (Book.addFault c)).tellFinish i else s

end Sys2Proof.Machine
end

