-- ==== Sys2Proof/Machine/Lifts.lean ====
section
/-! DEFINITION. The Lift Builder (chapter 2): placing and declining sheets, closing lifts, the
overrun, ending a book's collection, with the completeness test of the gather book (R139). -/

namespace Sys2Proof.Machine

open Sys2Proof

/-! ## Completeness and the end of collection -/

/-- The Open Lift holds sheets of the book. -/
def State.openLiftOf (i : Slot) (s : State) : Bool := s.lb.openLift.any fun l => decide (l.slot = i)

/-- The book is the gather book and complete (R139). -/
def State.complete (i : Slot) (s : State) : Bool :=
  (s.fu.gather.any fun g => decide (g.book = i))
    && ((s.book i).any fun b =>
      decide (b.stage = .collected) && decide (b.liftsClosed = b.liftsGathered))
    && !s.openLiftOf i

/-- A complete gather book is made GATHERED (R139). -/
def State.testComplete (i : Slot) (s : State) : State :=
  if s.complete i then s.modifyBook i (Book.advance .collected .gathered) else s

/-- The book has no lifts closed and no sheets placed (R9). -/
def Book.isEmpty (b : Book) : Bool := decide (b.liftsClosed = 0) && decide (b.placed = 0)

/-- The Collection ended claim (R6, R9), recorded by SI and told to FU (R139). -/
def State.collectionEnded (i : Slot) (s : State) : State :=
  let s := s.modifyBook i (Book.advance .collecting .collected)
  if (s.book i).any Book.isEmpty then s.removeEmpty i else s.testComplete i

/-! ## Closing a lift -/

/-- The Open Lift takes a value. -/
def State.setOpenLift (l : Option Lift) (s : State) : State :=
  { s with lb := { s.lb with openLift := l } }

/-- A lift has joined the Lift Queue: its pause source at depth 10 (R39) and its peak (R40). -/
def LiftBuilder.joined (lb : LiftBuilder) : LiftBuilder :=
  { lb with
    pauseSource := lb.pauseSource || decide (lb.queue.length = 10)
    peak := max lb.peak lb.queue.length }

/-- A lift has left the Lift Queue: its pause source at depth 6 (R39). -/
def LiftBuilder.left (lb : LiftBuilder) : LiftBuilder :=
  { lb with pauseSource := lb.pauseSource && !decide (lb.queue.length = 6) }

/-- The depth has risen, and PAUSE follows. -/
def State.liftJoined (s : State) : State := { s with lb := s.lb.joined }.syncPause

/-- The depth has fallen, and PAUSE follows. -/
def State.liftLeft (s : State) : State := { s with lb := s.lb.left }.syncPause

/-- The closed lift is appended and the Open Lift is empty (R34 steps 1 and 5). -/
def LiftBuilder.append (l : Lift) (lb : LiftBuilder) : LiftBuilder :=
  { lb with openLift := none, queue := lb.queue ++ [l], nextNumber := lb.nextNumber + 1 }

/-- A last-of-book sheet of the lift closes the book with fewer sheets placed than declared (R34
step 3). -/
def Lift.short (l : Lift) (b : Book) : Bool :=
  l.holdsLast && b.declared.any fun d => decide (b.placed < d)

/-- The punch mode a lift of the book closes with (R35). -/
def State.closingMode (i : Slot) (s : State) : PunchMode :=
  if s.bookFaulted i then .pass else .strike

/-- The record a lift closes with (R34 steps 1, 2, 4, 5). -/
def Lift.close (number : Byte) (ordinal : Nat) (mode : PunchMode) (l : Lift) : Lift :=
  { l with number := some number, ordinal := some ordinal, mode := some mode,
           overrunHold := false, state := some .queued }

/-- The Open Lift `l` of book `b` closes into the Lift Queue (R34, steps in their order). -/
def State.closeInto (l : Lift) (b : Book) (s : State) : State :=
  let s := if l.short b then s.raiseFault l.slot .short else s
  let closed := l.close s.lb.nextNumber b.liftsClosed (s.closingMode l.slot)
  let s := { s with lb := s.lb.append closed }
  let s := s.modifyBook l.slot fun b => { b with liftsClosed := b.liftsClosed + 1 }
  let s := if l.endsCollection then s.collectionEnded l.slot else s
  s.liftJoined

/-- An overrun: the Open Lift is held over as a PASS lift and its book is faulted (R41). -/
def State.overrun (l : Lift) (s : State) : State :=
  (s.setOpenLift (some { l with overrunHold := true, mode := some .pass })).raiseFault l.slot
    .overrun

/-- The Open Lift, if any, must close: it closes, or an overrun takes place (R34, R41). -/
def State.closeLift (s : State) : State :=
  match s.lb.openLift with
  | none => s
  | some l =>
    if s.lb.queue.length < 12 then
      match s.book l.slot with
      | some b => s.closeInto l b
      | none => s
    else s.overrun l

/-- The Open Lift carries an overrun hold (R41). -/
def State.overrunHeld (s : State) : Bool := s.lb.openLift.any Lift.overrunHold

/-- The lift is the last of the `n` lifts closed of the slot's book: ordinals count from 0 (R26, R34). -/
def Lift.isLastOf (i : Slot) (n : Nat) (l : Lift) : Bool :=
  decide (l.slot = i) && l.ordinal.any fun o => decide (o + 1 = n)

/-- The last lift closed of the slot's book is marked as ending its collection. -/
def Lift.markLast (i : Slot) (n : Nat) (l : Lift) : Lift :=
  if l.isLastOf i n then { l with endsCollection := true } else l

/-- The book's last closed lift, wherever it now is, in the Lift Queue, on the bed or at the gather
position, is marked as the lift that ended collection (R8, R36 case 3). A book with no lift closed has
none. -/
def State.markLastLift (i : Slot) (s : State) : State :=
  let mark := Lift.markLast i ((s.book i).elim 0 Book.liftsClosed)
  { s with
    lb := { s.lb with queue := s.lb.queue.map mark }
    ss := { s.ss with bed := s.ss.bed.map fun b => { b with lift := mark b.lift } }
    fu := { s.fu with gather := s.fu.gather.map fun g => { g with lifts := g.lifts.map mark } } }

/-- LB ends the collection of a book (R36). -/
def State.endCollection (i : Slot) (s : State) : State :=
  match s.lb.openLift with
  | none => (s.markLastLift i).collectionEnded i
  | some l =>
    if l.slot = i then
      let s := s.setOpenLift (some { l with endsCollection := true })
      if l.overrunHold then s else s.closeLift
    else (s.markLastLift i).collectionEnded i

/-! ## Placing a sheet -/

/-- A sheet as SI hands it over (R14). -/
structure Sheet where
  slot      : Slot
  leaf      : Nat
  kind      : SheetKind
  thickness : Nat
  last      : Bool
deriving DecidableEq, Repr

/-- A declined sheet that carries the last-of-book flag ends its book's collection (R28, R31, R42;
log 18), before the sheet is diverted (log 33). -/
def State.decline (x : Sheet) (s : State) : State :=
  if x.last then s.endCollection x.slot else s

/-- The sheet would form a seventeenth lift (R31). -/
def State.seventeenth (i : Slot) (s : State) : Bool :=
  s.lb.openLift.isNone && (s.book i).any fun b => decide (16 ≤ b.liftsClosed)

/-- The Open Lift must close before the sheet joins (R30). -/
def Lift.mustClose (x : Sheet) (f : Format) (l : Lift) : Bool :=
  decide (l.slot ≠ x.slot) || decide (f.capacity < l.thickness + x.thickness)
    || decide (f.maxSheets ≤ l.sheets) || (decide (x.kind = .board) && f.boardAlone)
    || decide (l.kind = .board)

/-- The lift that the first sheet makes of an empty Open Lift (R27, R32). -/
def Lift.first (x : Sheet) (f : Format) : Lift :=
  { number := none, slot := x.slot, ordinal := none, firstLeaf := x.leaf, sheets := 1,
    thickness := x.thickness,
    kind := if x.kind = .board ∧ f.boardAlone then .board else .leaves,
    mode := none, endsCollection := x.last, holdsLast := x.last, overrunHold := false,
    state := none }

/-- The lift with one more sheet (R32). -/
def Lift.add (x : Sheet) (l : Lift) : Lift :=
  { l with sheets := l.sheets + 1, thickness := l.thickness + x.thickness,
           endsCollection := l.endsCollection || x.last, holdsLast := l.holdsLast || x.last }

/-- A sheet joins the Open Lift, is claimed as placed and counted (R32). -/
def State.joinSheet (x : Sheet) (f : Format) (s : State) : State :=
  let l := s.lb.openLift.elim (Lift.first x f) (Lift.add x)
  let s := s.setOpenLift (some l)
  let s := s.modifyBook x.slot fun b => { b with placed := b.placed + 1 }
  s.count .sheetsPlaced

/-- The Open Lift is a board-alone lift (R27). -/
def State.boardOpen (s : State) : Bool := s.lb.openLift.any fun l => decide (l.kind = .board)

/-- A sheet too thick to share a lift (R29): placed or declined. -/
def State.placeThick (x : Sheet) (f : Format) (s : State) : State × Bool :=
  let s := (s.raiseFault x.slot .tooThick).closeLift
  if s.overrunHeld then ((s.raiseFault x.slot .overrun).decline x, false)
  else if s.seventeenth x.slot then ((s.raiseFault x.slot .tooManyLifts).decline x, false)
  else ((s.joinSheet x f).closeLift, true)

/-- A sheet that may share a lift (R30 to R33): placed or declined. -/
def State.placeThin (x : Sheet) (f : Format) (s : State) : State × Bool :=
  let s := if s.lb.openLift.any (Lift.mustClose x f) then s.closeLift else s
  if s.overrunHeld then ((s.raiseFault x.slot .overrun).decline x, false)
  else if s.seventeenth x.slot then ((s.raiseFault x.slot .tooManyLifts).decline x, false)
  else
    let s := s.joinSheet x f
    (if x.last || s.boardOpen then s.closeLift else s, true)

/-- LB takes a sheet: the state after it, and whether the sheet was placed (R28 to R33). -/
def State.placeSheet (x : Sheet) (s : State) : State × Bool :=
  match s.book x.slot, s.bookFormat x.slot with
  | some b, some f =>
    if s.overrunHeld then ((s.raiseFault x.slot .overrun).decline x, false)
    else if !b.takesSheets then (s, false)
    else if 64 ≤ b.placed then (s.decline x, false)
    else if f.capacity < x.thickness then s.placeThick x f
    else s.placeThin x f
  | _, _ => (s, false)

end Sys2Proof.Machine
end

