-- ==== Sys2Proof/Machine/Bed.lean ====
section
/-! DEFINITION. The Strike Scheduler's operations on the punch bed (chapter 4): the clamp, planning,
eligibility, strike begin and completion, release, the hand-over at the gather position, and the
commands of the bed and its drives. -/

namespace Sys2Proof.Machine

open Sys2Proof

/-! ## Clamp and release -/

/-- The bed lift is ON_BED. -/
def Bed.onBed (b : Bed) : Bool := decide (b.lift.state = some .onBed)

/-- The bed lift is a STRIKE lift. -/
def Bed.isStrike (b : Bed) : Bool := decide (b.lift.mode = some .strike)

/-- The lift has no outstanding planned drive and none in flight (R76). -/
def Bed.finished (b : Bed) : Bool := decide (b.outstanding = 0) && decide (b.inFlight = 0)

/-- The clamp is to be closed on the bed lift (R75). -/
def State.clampNeeded (s : State) : Bool :=
  (s.ss.bed.any fun b => b.onBed && b.isStrike && decide (b.outstanding ≠ 0))
    && decide ((s.ch 0).mode = .hold) && !(s.ch 0).output && decide (s.lsv.lineState ≠ .safeStop)

/-- The clamp test: CH0 is triggered with the gate held (R75). -/
def State.testClamp (s : State) : State := if s.clampNeeded then s.triggerClamp else s

/-- The record of a lift that becomes RELEASED: its out request stands (R76, R86). -/
def Bed.release (b : Bed) : Bed :=
  { b with lift := { b.lift with state := some .released }, outRequest := true, ask := true }

/-- CH0's gate is released by its owner (R119). -/
def State.openGate (s : State) : State := s.setCh 0 { s.ch 0 with gate := false }

/-- A lift with nothing left to strike is released: through the clamp's dwell if the gate is held,
else at once (R76). -/
def State.releaseLift (s : State) : State :=
  match s.ss.bed with
  | none => s
  | some b =>
    if b.onBed && b.finished then
      if (s.ch 0).gate then s.openGate else s.setBed (some b.release)
    else s

/-- CH0's output has ended: a lift whose strikes are finished becomes RELEASED (R76). -/
def State.clampOpened (s : State) : State :=
  match s.ss.bed with
  | none => s
  | some b => if b.onBed && b.finished then s.setBed (some b.release) else s

/-! ## Planning (R73, R74) -/

/-- The drive is DISABLED or FAULTED. -/
def State.unusable (d : DriveId) (s : State) : Bool :=
  decide (s.driveState d = .disabled) || decide (s.driveState d = .faulted)

/-- The drive set of the pattern of the lift's book; empty for a PASS lift (R73). -/
def State.planOf (b : Bed) (s : State) : DriveSet :=
  if b.isStrike then (s.bookPattern b.lift.slot).elim 0 Pattern.driveSet else 0

/-- Some drive of a set satisfies `p`. -/
def anyDrive (set : DriveSet) (p : DriveId → Bool) : Bool :=
  (List.finRange 5).any fun d => DriveSet.has d set && p d

/-- The bed lift becomes a PASS lift with the planned set cut to `kept`. -/
def Bed.toPass (kept : DriveSet) (b : Bed) : Bed :=
  { b with lift := { b.lift with mode := some .pass }, planned := kept }

/-- The plan of a lift that has just arrived (R73). -/
def State.planLift (b : Bed) (s : State) : State :=
  let plan := s.planOf b
  let b := { b with planned := plan, done := 0, inFlight := 0 }
  if anyDrive plan fun d => s.unusable d then
    (s.setBed (some (b.toPass 0))).raiseFault b.lift.slot .driveDisabled
  else s.setBed (some b)

/-- An outstanding planned drive of a lift ON_BED that has become DISABLED turns it into a PASS lift (R74):
at a table write or a Channel Set, and at the end or abandonment of a purge that held the drive PURGING
when it was disabled (R66, R109; log 31). -/
def State.cutDisabled (s : State) : State :=
  match s.ss.bed with
  | none => s
  | some b =>
    if b.onBed && b.anyOutstanding fun d => decide (s.driveState d = .disabled) then
      let s := s.setBed (some (b.toPass (b.done ||| b.inFlight)))
      (s.raiseFault b.lift.slot .driveDisabled).releaseLift
    else s

/-! ## Strikes (R77 to R85) -/

/-- The times of the history within the Strike Window before `t` (R79). -/
def State.windowCount (t : Nat) (s : State) : Nat :=
  s.ss.history.countP fun b => decide (t - b ≤ s.ts.settings.strikeWindow)

/-- A spacing since a begin has passed at `t`; an absent begin holds nothing back (R78). -/
def spaced (begun : Option Nat) (gap t : Nat) : Bool := begun.all fun b => decide (b + gap ≤ t)

/-- Drive, lift and line conditions of R78. -/
def State.strikable (d : DriveId) (s : State) : Bool :=
  decide (s.driveState d = .ready) && !s.hot d && !s.forced d
    && (s.ss.bed.any fun b => b.onBed && b.isStrike && DriveSet.has d b.outstanding)
    && s.clampClosed && decide (s.lsv.lineState ≠ .safeStop)

/-- Spacing and window conditions of R78. -/
def State.spacingMet (d : DriveId) (s : State) : Bool :=
  spaced (s.drive d).lastBegin (Bank.read s.ts.drives d).spacing s.nowMs
    && spaced s.ss.history.getLast? s.ts.settings.crossSpacing s.nowMs
    && decide (s.windowCount s.nowMs < 4)

/-- The drive is eligible now (R78). -/
def State.eligible (d : DriveId) (s : State) : Bool := s.strikable d && s.spacingMet d

/-- The drive that strikes next: the lowest-numbered eligible one (R80). -/
def State.nextStrike (s : State) : Option DriveId := (List.finRange 5).find? fun d => s.eligible d

/-- The Strike History with one more begin time (R77). -/
def pushHistory (t : Nat) (h : List Nat) : List Nat :=
  let h := h ++ [t]
  if 4 < h.length then h.drop 1 else h

/-- The drive joins the in-flight set (R81 step 1). -/
def Bed.begin (d : DriveId) (b : Bed) : Bed := { b with inFlight := b.inFlight ||| DriveSet.only d }

/-- The drive's record at a strike begin (R81 steps 1, 2, 4; R85). -/
def State.struck (d : DriveId) (s : State) : DriveRecord :=
  { s.drive d with
    strike := some
      { timeoutAt := s.nowMs + (Bank.read s.ts.drives d).strokeTimeout
        strobeEnded := false, strokeDone := false
        simulated := decide (s.lsv.mode = .dry) }
    lastBegin := some s.nowMs }

/-- A strike begins on drive `d` (R81). -/
def State.beginStrike (d : DriveId) (s : State) : State :=
  let r := s.struck d
  let s := s.setBed (s.ss.bed.map (Bed.begin d))
  let s := s.setDrive d r
  let s := { s with ss := { s.ss with history := pushHistory s.nowMs s.ss.history } }
  s.triggerStrobe (strikeChannel d)

/-- The drive leaves the in-flight set for the done set (R82 step 2). -/
def Bed.complete (d : DriveId) (b : Bed) : Bed :=
  { b with inFlight := b.inFlight &&& ~~~DriveSet.only d, done := b.done ||| DriveSet.only d }

/-- A strike completes (R82). -/
def State.completeStrike (d : DriveId) (s : State) : State :=
  let s := s.setDrive d { s.drive d with strike := none }
  let s := s.setBed (s.ss.bed.map (Bed.complete d))
  let s := if s.lsv.mode = .run then s.count (.strikes d) else s
  s.releaseLift

/-- The strobe of a drive's strike has ended (R82); a simulated strike completes then (R85). -/
def State.strobeEnded (d : DriveId) (s : State) : State :=
  match (s.drive d).strike with
  | none => s
  | some k =>
    if k.strokeDone || k.simulated then s.completeStrike d
    else s.setDrive d { s.drive d with strike := some { k with strobeEnded := true } }

/-- The drive's Stroke Done input is taken (R82, R85). -/
def State.strokeDone (d : DriveId) (s : State) : State :=
  match (s.drive d).strike with
  | none => s
  | some k =>
    if k.simulated then s
    else if k.strobeEnded then s.completeStrike d
    else s.setDrive d { s.drive d with strike := some { k with strokeDone := true } }

/-! ## Bed transfer and out transfer -/

/-- The bed record at a bed transfer order (R65, R71). -/
def Bed.inTransit (l : Lift) : Bed :=
  { lift := l, planned := 0, done := 0, inFlight := 0, dwellStart := none, dwellRaised := false,
    outRequest := false, ask := false, accepted := false }

/-- The conditions of R71. -/
def State.bedTransferDue (s : State) : Bool :=
  s.ss.bed.isNone && !s.lb.queue.isEmpty && decide (s.lsv.lineState = .running)
    && decide ((s.ch 0).mode = .hold)

/-- The oldest lift leaves the Lift Queue: a held-over lift closes at once, and the pause source
follows (R39, R43, R71). -/
def State.takeOldestLift (s : State) : State :=
  match s.lb.queue with
  | [] => s
  | l :: rest =>
    let s := { s with lb := { s.lb with queue := rest } }
    let s := s.setBed (some (Bed.inTransit l))
    let s := s.liftLeft
    if s.overrunHeld then s.closeLift else s

/-- The bed lift at its arrival (R72). -/
def Bed.arrive (now : Nat) (b : Bed) : Bed :=
  { b with lift := { b.lift with state := some .onBed }, dwellStart := some now,
           dwellRaised := false }

/-- A lift arrives on the bed, is planned, and is clamped or released (R72). -/
def State.arriveOnBed (b : Bed) (s : State) : State :=
  let s := s.planLift (b.arrive s.nowMs)
  (s.testClamp).releaseLift

/-- The gather record with one more lift (R139). -/
def Gather.add (l : Lift) (g : Gather) : Gather :=
  { g with lifts := g.lifts ++ [{ l with state := some .gathered }] }

/-- Every planned drive of a STRIKE lift is done (R87). -/
def Bed.punched (b : Bed) : Bool := b.isStrike && decide (b.planned &&& ~~~b.done = 0)

/-- The lift is counted and, if punched, claimed (R87 step 1). -/
def State.countLift (b : Bed) (s : State) : State :=
  if b.punched then
    (s.modifyBook b.lift.slot fun k => { k with liftsPunched := k.liftsPunched + 1 }).count
      .liftsPunched
  else s.count .liftsPassed

/-- The bed lift reaches the gather position (R87, R139). -/
def State.handOver (b : Bed) (s : State) : State :=
  let s := s.countLift b
  let s := { s with fu := { s.fu with gather := s.fu.gather.map (Gather.add b.lift) } }
  let s := s.modifyBook b.lift.slot fun k => { k with liftsGathered := k.liftsGathered + 1 }
  let s := s.testComplete b.lift.slot
  s.setBed none

/-- The out request of the bed lift stands and no out transfer is in progress (R86). -/
def State.outRequestStands (s : State) : Bool :=
  (s.ss.bed.any fun b => b.outRequest && !b.accepted) && (s.order .bedShuttle).isNone

/-- The gather book is found incomplete (R137). -/
def State.findIncomplete (g : Gather) (s : State) : State :=
  let s := { s with fu := { s.fu with gather := some { g with incomplete := true } } }
  let s := s.raiseFault g.book .incomplete
  let s := s.modifyBook g.book (Book.advance .collecting .collected)
  (s.endCollection g.book).testComplete g.book

/-- The bed lift's request is answered Accept (R136). -/
def Bed.accept (b : Bed) : Bed := { b with accepted := true, ask := false }

/-- The bed lift's request is answered Wait (R136). -/
def Bed.wait (b : Bed) : Bed := { b with ask := false }

/-- The gather book is complete, or was found complete before: its stage is past COLLECTED (R136 case
3; log 27). -/
def State.gatherSettled (i : Slot) (s : State) : Bool :=
  s.complete i || (s.book i).any fun b =>
    decide (b.stage = .gathered) || decide (b.stage = .finishing) || decide (b.stage = .leaving)

/-- FU answers the bed lift's out request (R136). -/
def State.answerOutRequest (b : Bed) (s : State) : State :=
  match s.fu.gather with
  | none =>
    { s.setBed (some b.accept) with
      fu := { s.fu with gather := some { book := b.lift.slot, lifts := [], incomplete := false } } }
  | some g =>
    if g.book = b.lift.slot then s.setBed (some b.accept)
    else if s.gatherSettled g.book || g.incomplete then s.setBed (some b.wait)
    else (s.setBed (some b.wait)).findIncomplete g

/-- The gather record is emptied, and a standing out request is to be put again (R135, R86). -/
def State.emptyGather (s : State) : State :=
  { s with
    fu := { s.fu with gather := none }
    ss := { s.ss with bed := s.ss.bed.map fun b => { b with ask := b.outRequest && !b.accepted } } }

/-- The time since Bed Arrival has passed the Bed Dwell Limit, and BED_DWELL has not been raised for
the lift (R88). -/
def State.dwellPassed (s : State) : Bool :=
  s.ss.bed.any fun b =>
    !b.dwellRaised && b.dwellStart.any fun t => decide (s.ts.settings.bedDwellLimit < s.nowMs - t)

/-- BED_DWELL is raised once for the lift (R88). -/
def State.testDwell (s : State) : State :=
  if s.dwellPassed then
    (s.setBed (s.ss.bed.map fun b => { b with dwellRaised := true })).occur .bedDwell
  else s

end Sys2Proof.Machine
end

