-- ==== Sys2Proof/Machine/Purge.lean ====
section
/-! DEFINITION. The Purge Controller's operations (chapter 5): kinds, requests, grants, abandonment,
the quarter timers, and the conditions that follow temperature, debt and air. -/

namespace Sys2Proof.Machine

open Sys2Proof

/-- The payment of a purge kind in quarters (R102). -/
def PurgeKind.payment : PurgeKind → Nat
  | .full => 4
  | .half => 2
  | .quarter => 1

/-- The duration of a purge kind in ms (R102). -/
def DriveEntry.duration (e : DriveEntry) : PurgeKind → Nat
  | .full => e.full
  | .half => e.half
  | .quarter => e.quarter

/-- The bed lift needs the drive (R103). -/
def State.needs (d : DriveId) (s : State) : Bool :=
  s.ss.bed.any fun b => b.onBed && DriveSet.has d b.outstanding

/-- The chosen kind of a purge mode (R103). -/
def PurgeMode.choose (needed : Bool) : PurgeMode → PurgeKind
  | .fullOnly => .full
  | .halfOnly => .half
  | .quarterOnly => .quarter
  | .fullOrHalf => if needed then .half else .full
  | .fullOrQuarter => if needed then .quarter else .full

/-- The drive's chosen kind now (R103). -/
def State.chosenKind (d : DriveId) (s : State) : PurgeKind :=
  (Bank.read s.ts.drives d).mode.choose (s.needs d)

/-- The mode has one kind only (R105). -/
def PurgeMode.single : PurgeMode → Bool
  | .fullOnly => true
  | .halfOnly => true
  | .quarterOnly => true
  | .fullOrHalf => false
  | .fullOrQuarter => false

/-- Reason DUE holds (R105). -/
def State.purgeDue (d : DriveId) (s : State) : Bool :=
  decide (((s.chosenKind d).payment : Int) ≤ (s.account d).debt) && !s.needs d

/-- Reason PULL_IN holds (R105). -/
def State.purgePullIn (d : DriveId) (s : State) : Bool :=
  decide (s.lsv.lineState = .held)
    && (decide (s.chosenKind d = .full) || (Bank.read s.ts.drives d).mode.single)
    && decide (-32 ≤ (s.account d).debt - (s.chosenKind d).payment)

/-- A drive's quarter timer is suspended (R99). -/
def State.timerSuspended (d : DriveId) (s : State) : Bool :=
  s.unusable d || decide (s.lsv.lineState = .safeStop) || decide (s.lsv.mode = .echo)

/-- The drive's quarter timer runs, or the interval that it measures has run (R96). After a reset this is
false while the drive, DISABLED by the reset, has not been READY (R92, R99, R112). -/
def State.hasRun (d : DriveId) (s : State) : Bool :=
  (s.account d).length.isSome || !s.timerSuspended d

/-- The reasons DUE and PULL_IN of the drive have been tested since the blocks were last reset: an input of
them has changed (R105), a Line Reset has been taken (R113), or the drive has become READY (R112). The debt
changes only once the drive has run, and the plan and sets of a bed lift only once the line has been RUNNING
(R71), so only the line state and the chosen kind can be the first input to change (log 35). -/
def State.requestTested (d : DriveId) (s : State) : Bool :=
  s.lsv.moved || (s.account d).tested || s.hasRun d

/-- A purge request stands for the drive (R105, R111). A reset leaves none (R112): one for DUE or PULL_IN
stands from the first test after it (log 35). -/
def State.purgeRequested (d : DriveId) (s : State) : Bool :=
  decide (s.lsv.mode ≠ .echo) && (s.account d).purge.isNone
    && (s.forced d || (s.requestTested d && (s.purgeDue d || s.purgePullIn d)))

/-- The account of a drive whose request reasons are tested (R105). -/
def DriveAccount.test (a : DriveAccount) : DriveAccount := { a with tested := true }

/-- The request reasons of every drive are tested again (R113). -/
def PurgeController.lineReset (x : PurgeController) : PurgeController :=
  { x with drives := Bank.map DriveAccount.test x.drives }

/-- The request reasons of the drive are tested if its chosen kind is no longer `k` (R105). -/
def State.testKind (d : DriveId) (k : PurgeKind) (s : State) : State :=
  if s.chosenKind d = k then s else s.setAccount d (s.account d).test

/-- The standing request can be granted (R67, R89, R105). -/
def State.grantable (d : DriveId) (s : State) : Bool :=
  s.purgeRequested d && decide (s.driveState d = .ready) && s.pc.air
    && decide (s.lsv.lineState ≠ .safeStop)

/-- The purge that a grant begins (R106). -/
def State.newPurge (d : DriveId) (s : State) : Purge :=
  { kind := s.chosenKind d
    payment := (s.chosenKind d).payment
    endAt := s.nowMs + (Bank.read s.ts.drives d).duration (s.chosenKind d)
    valve := decide (s.lsv.mode = .run) }

/-- A standing request is granted if it can be (R67, R106). -/
def State.tryGrant (d : DriveId) (s : State) : State :=
  if s.grantable d then s.setAccount d { s.account d with purge := some (s.newPurge d) } else s

/-- Every standing request that can be granted is granted (R101). -/
def State.grantAll (s : State) : State := (List.finRange 5).foldl (fun s d => s.tryGrant d) s

/-- Every purge in flight is abandoned without payment (R108). -/
def State.abandonPurges (s : State) : State :=
  { s with pc := { s.pc with drives := Bank.map (fun a => { a with purge := none }) s.pc.drives } }

/-- Every purge in flight is abandoned, and each drive takes DISABLED or READY (R108); an outstanding drive
that was disabled while PURGING turns the bed lift into a PASS lift (R66, R74; log 31). -/
def State.stopPurges (s : State) : State := s.abandonPurges.cutDisabled

/-- DRIVE_FORCED follows the debts (R104). -/
def State.syncForced (s : State) : State := s.reportLevel .driveForced s.anyForced

/-- DRIVE_HOT, condition and hold source, follows the temperatures (R100). -/
def State.syncHot (s : State) : State := s.follow .driveHot .driveHot s.anyHot

/-- The quarter interval of a Drive Table entry (R55). -/
def DriveEntry.quarterInterval (e : DriveEntry) : Nat := e.baseInterval / 4

/-- The account of a drive whose interval, if its length is not fixed and it runs, has it fixed now
(R96). -/
def State.fixedAccount (d : DriveId) (s : State) : DriveAccount :=
  let a := s.account d
  if a.length.isNone && !s.timerSuspended d then
    { a with length := some (Bank.read s.ts.drives d).quarterInterval }
  else a

/-- Intervals that first run now take their length (R96). -/
def State.fixTimers (s : State) : State :=
  { s with pc := { s.pc with drives := Bank.tabulate fun d => s.fixedAccount d } }

/-- The temperature a reading presents: the fourth combination reads HOT (R100). -/
def TempReading.temperature : TempReading → Temperature
  | .cool => .cool
  | .warm => .warm
  | .hot => .hot
  | .fourth => .hot

/-- The amount an expiry adds (R97). -/
def Temperature.accrual : Temperature → Int
  | .cool => 1
  | .warm => 2
  | .hot => 2

end Sys2Proof.Machine
end

