-- ==== Sys2Proof/Machine/Finish.lean ====
section
/-! DEFINITION. The Finish Unit's sequence (chapter 7): the steps from the finish position to the
exit, the block for the bit, the wire feed, and the outcome of a book. -/

namespace Sys2Proof.Machine

open Sys2Proof

/-! ## Steps (R142 to R149) -/

/-- The DRILL step starts: a drill order, or a block for the bit (R143, R144). -/
def State.startDrill (f : Finish) (s : State) : State :=
  let f := { f with step := .drill }
  let holes := (s.bookFormat f.book).elim 0 Format.drillHoles
  if s.fu.bitLife < holes then
    (s.setFinish (some { f with bitWait := true })).follow .bitWorn .bitWorn true
  else (s.setFinish (some f)).makeOrder .drill

/-- The wire-feed budget of a book: hole count times feed steps per loop (R146). -/
def State.feedBudget (i : Slot) (s : State) : Nat :=
  (s.bookPattern i).elim 0 Pattern.holeCount * (s.bookFormat i).elim 0 Format.feedSteps

/-- CH6 is started with the feed owed if it is in PITCH; otherwise the step waits (R146). -/
def State.runFeed (owed : Nat) (s : State) : State :=
  if (s.ch 6).mode = .pitch then s.startFeed owed else s

/-- The FEED step starts (R146). -/
def State.startFeedStep (f : Finish) (s : State) : State :=
  let owed := s.feedBudget f.book
  (s.setFinish (some { f with step := .feed, feedOwed := owed })).runFeed owed

/-- The HANGER step starts (R147). -/
def State.startHanger (f : Finish) (s : State) : State :=
  (s.setFinish (some { f with step := .hanger })).makeOrder .hanger

/-- The CLOSE step starts (R147). -/
def State.startClose (f : Finish) (s : State) : State :=
  (s.setFinish (some { f with step := .close })).makeOrder .closer

/-- The hanger kind of a slot's book is `k` (R142). -/
def State.hangerIs (k : HangerKind) (i : Slot) (s : State) : Bool :=
  (s.bookFormat i).any fun f => decide (f.hanger = k)

/-- The first binding step of a book (R142). -/
def State.startBinding (f : Finish) (s : State) : State :=
  if s.hangerIs .drilled f.book then s.startDrill f else s.startFeedStep f

/-- The first step after FEED (R142). -/
def State.afterFeed (f : Finish) (s : State) : State :=
  if s.hangerIs .wireHook f.book then s.startHanger f else s.startClose f

/-- The finish transfer is confirmed: a faulted book and any book in DRY go straight to EXIT (R142,
R153). -/
def State.enterFinish (f : Finish) (s : State) : State :=
  if s.bookFaulted f.book ∨ s.lsv.mode = .dry then s.startExit f else s.startBinding f

/-- A hole has been drilled (R143, R148). The bit life falls by 1; a bit life of 0, which BIT CHANGED may
give while a drill order waits for Ready, stays 0: the model's choice (log 32). -/
def State.holeDrilled (f : Finish) (s : State) : State :=
  let f := { f with holesDrilled := f.holesDrilled + 1 }
  let s := { s with fu := { s.fu with bitLife := s.fu.bitLife - 1, finish := some f } }
  if s.bookFaulted f.book then s.startExit f
  else if f.holesDrilled < (s.bookFormat f.book).elim 0 Format.drillHoles then s.makeOrder .drill
  else s.startFeedStep f

/-- CH6 has ended its train: the FEED step ends (R146, R148). -/
def State.feedEnded (s : State) : State :=
  match s.fu.finish with
  | none => s
  | some f =>
    if f.step = .feed then
      let f := { f with feedOwed := 0 }
      let s := s.setFinish (some f)
      if s.bookFaulted f.book then s.startExit f else s.afterFeed f
    else s

/-- CH6 was cut by a Channel Set: the steps not yet given are still owed (R146). -/
def State.feedCut (budget : Nat) (s : State) : State :=
  match s.fu.finish with
  | none => s
  | some f =>
    if f.step = .feed ∧ s.lsv.lineState ≠ .safeStop then
      s.setFinish (some { f with feedOwed := budget })
    else s

/-- A Channel Set of CH6 while the FEED step is under way: CH6 in PITCH is started with the feed owed;
a faulted book gives up a feed that waits for PITCH (R146, R148; log 16). -/
def State.feedAfterSet (s : State) : State :=
  match s.fu.finish with
  | none => s
  | some f =>
    if f.step = .feed ∧ s.lsv.lineState ≠ .safeStop then
      if (s.ch 6).mode = .pitch then s.startFeed f.feedOwed
      else if s.bookFaulted f.book then s.startExit f
      else s
    else s

/-- The closer class outputs: the book's wire class while a closer order is in progress, else
inactive (R147). -/
def State.closerClass (s : State) : Option Nat :=
  if s.ordered .closer then
    s.fu.finish.bind fun f => (s.bookFormat f.book).map Format.wireClass
  else none

/-- The conditions of R141. -/
def State.finishTransferDue (s : State) : Bool :=
  (s.fu.gather.any fun g => (s.book g.book).any fun b => decide (b.stage = .gathered))
    && s.fu.finish.isNone && decide (s.lsv.lineState = .running)

/-- The finish record at a finish transfer order (R141). -/
def Finish.transfer (i : Slot) : Finish :=
  { book := i, step := .transferIn, holesDrilled := 0, bitWait := false, feedOwed := 0,
    exitEdgeHeld := false, exitRunEnd := none }

/-! ## The exit (R149 to R152) -/

/-- The outcome of a book at the exit sensor (R151). -/
def State.outcomeOf (b : Book) (s : State) : BookOutcome :=
  if b.fault.isSome then .rejected else if s.lsv.mode = .dry then .proofed else .bound

/-- The book counter an outcome advances, if any (R151 step 3). -/
def State.countOutcome (o : BookOutcome) (s : State) : State :=
  match o with
  | .bound => s.count .booksBound
  | .rejected => s.count .booksRejected
  | .proofed => s

/-- The live last exit, which the record's tail takes while Retention Valid is clear (R151 step 4,
R169). -/
def LineSupervisor.recordExit (e : Exit) (l : LineSupervisor) : LineSupervisor :=
  if l.record.retentionValid then { l with liveExit := some e }
  else { l with liveExit := some e, record := { l.record with lastExit := some e } }

/-- The book passes the exit sensor with its outcome: gate, notice, counters, last exit, removal
(R151). -/
def State.passOutcome (i : Slot) (b : Book) (o : BookOutcome) (s : State) : State :=
  let s := if o = .bound then s else s.triggerStrobe 8
  let s := (s.sendOutcome o b).countOutcome o
  let s := { s with lsv := s.lsv.recordExit ⟨b.id, o⟩ }
  (s.removeBook i).setFinish none

/-- The finish book passes the exit sensor (R151). -/
def State.passBook (f : Finish) (s : State) : State :=
  match s.book f.book with
  | some b => s.passOutcome f.book b (s.outcomeOf b)
  | none => s.setFinish none

/-- After STOP CLEAR the finish book goes on with its next step (R154): a faulted book goes to EXIT, a
book whose block ended in Safe Stop starts its DRILL step (log 14). -/
def State.resumeFinish (s : State) : State :=
  match s.fu.finish with
  | none => s
  | some f =>
    if f.bitWait then s
    else if s.bookFaulted f.book then s.startExit f
    else if f.step = .drill then s.startDrill f
    else s

end Sys2Proof.Machine
end

