-- ==== Sys2Proof/Machine/SafeStop.lean ====
section
/-! DEFINITION. Safe-stop causes and the entry of Safe Stop (R166, R167): the channels are idled (R132),
the Strike Scheduler, the Purge Controller and the Finish Unit abandon their work (R90, R108, R155). -/

namespace Sys2Proof.Machine

open Sys2Proof

/-- The safe-stop causes (R166). -/
inductive StopCause where
  | guard | powerWarning | stopRequest | jam | purgeOverdue
deriving DecidableEq, Repr

/-- The set with the cause in it (R166). -/
def StopCauses.add (x : StopCause) (c : StopCauses) : StopCauses :=
  match x with
  | .guard => { c with guard := true }
  | .powerWarning => { c with powerWarning := true }
  | .stopRequest => { c with stopRequest := true }
  | .jam => { c with jam := true }
  | .purgeOverdue => { c with purgeOverdue := true }

/-- A channel at Safe Stop: IDLE, output inactive, no pending trigger, gate released (R132). -/
def Channel.quiet (c : Channel) : Channel := { c.toIdle with pendingTrigger := false, gate := false }

/-- Every channel is idled (R132). -/
def State.quietChannels (s : State) : State := { s with tcu := Bank.map Channel.quiet s.tcu }

/-- A drive whose strike is abandoned (R90). -/
def DriveRecord.abandon (r : DriveRecord) : DriveRecord := { r with strike := none }

/-- Strikes in flight are abandoned (R90). -/
def State.abandonStrikes (s : State) : State :=
  { s with ss := { s.ss with drives := Bank.map DriveRecord.abandon s.ss.drives } }

/-- A strike of the bed lift was cut off: one in flight, or one done with a planned drive outstanding
(R90). -/
def Bed.cutOff (b : Bed) : Bool :=
  decide (b.inFlight ≠ 0) || (decide (b.done ≠ 0) && decide (b.outstanding ≠ 0))

/-- The bed lift made a PASS lift with its planned set cut to its done set, and RELEASED (R90). -/
def Bed.cut (b : Bed) : Bed := { (b.toPass b.done).release with inFlight := 0 }

/-- A bed lift ON_BED at Safe Stop (R90, rows 2 to 4). -/
def State.stopOnBed (b : Bed) (s : State) : State :=
  if b.cutOff then (s.setBed (some b.cut)).raiseFault b.lift.slot .interrupted
  else if b.outstanding = 0 then s.setBed (some b.release)
  else s

/-- The bed lift taken to have arrived when its bed transfer is abandoned: a PASS lift, RELEASED (R90,
row 5). -/
def Bed.forceArrival (now : Nat) (b : Bed) : Bed :=
  { ((b.arrive now).toPass 0).release with done := 0, inFlight := 0 }

/-- The bed lift at Safe Stop, by the work of it in flight (R90). -/
def State.stopBed (b : Bed) (s : State) : State :=
  if s.ordered .bedTransfer then
    (s.setBed (some (b.forceArrival s.nowMs))).raiseFault b.lift.slot .interrupted
  else if s.ordered .outTransfer then (s.handOver b).raiseFault b.lift.slot .interrupted
  else if b.onBed then s.stopOnBed b
  else s

/-- The Strike Scheduler abandons its work (R90). -/
def State.stopScheduler (s : State) : State :=
  let s := s.abandonStrikes
  let s :=
    match s.ss.bed with
    | none => s
    | some b => s.stopBed b
  s.endOrder .bedShuttle

/-- The finish book is faulted INTERRUPTED (R155, R167 step 4). -/
def State.interruptFinish (f : Finish) (s : State) : State := s.raiseFault f.book .interrupted

/-- The finish book at Safe Stop, by its step (R155). The orders have been withdrawn before. -/
def State.stopStep (f : Finish) (s : State) : State :=
  match f.step with
  | .transferIn => s.emptyGather.interruptFinish f
  | .drill => s.interruptFinish f
  | .feed => s.interruptFinish f
  | .hanger => s.interruptFinish f
  | .close => s.interruptFinish f
  | .exit => (s.interruptFinish f).passBook f
  | .exitRun => (s.interruptFinish f).passBook f

/-- The Finish Unit abandons its work; a book blocked for the bit keeps its block (R155). -/
def State.stopFinish (s : State) : State :=
  let s := ((((s.endOrder .finishTransfer).endOrder .exitTransfer).endOrder .drill).endOrder
    .hanger).endOrder .closer
  match s.fu.finish with
  | none => s
  | some f => if f.bitWait then s else s.stopStep f

/-- The line enters Safe Stop (R167). -/
def State.enterSafeStop (s : State) : State :=
  let s := s.moveLine .safeStop
  let s := s.quietChannels
  let s := s.stopScheduler
  let s := s.stopPurges
  s.stopFinish

/-- A safe-stop cause is added; the first one enters Safe Stop (R166, R167). -/
def State.addCause (x : StopCause) (s : State) : State :=
  let s := { s with lsv := { s.lsv with causes := s.lsv.causes.add x } }
  if s.lsv.lineState = .safeStop then s else s.enterSafeStop

end Sys2Proof.Machine
end

