-- ==== Sys2Proof/Machine/Request.lean ====
section
/-! DEFINITION. Taking a request (R193 to R199) and taking an event: what every command of a family is
wrapped in. -/

namespace Sys2Proof.Machine

open Sys2Proof

/-- The outcome type of a step. -/
abbrev Outcome := Host.Outcome State Fault Refusal

/-- What the owner of a request answers: a result and, for DONE, data (R194). -/
structure Reply where
  result : Result
  data   : List Byte
deriving DecidableEq, Repr

/-- DONE without data. -/
def Reply.done : Reply := ⟨.done, []⟩

/-- A result other than DONE carries no data (R194). -/
def Reply.refuse (r : Result) : Reply := ⟨r, []⟩

/-- The receiver returns to HUNTING (R190). -/
def LinkPort.hunt (l : LinkPort) : LinkPort := { l with receiver := .hunting }

/-- A place is reserved for the answer (R197). -/
def LinkPort.reserve (l : LinkPort) : LinkPort := { l with reserved := true }

/-- The answer takes the reserved place (R197). -/
def LinkPort.answer (u : Upstream) (l : LinkPort) : LinkPort :=
  { l with queue := l.queue ++ [u], reserved := false }

/-- A request or returned frame is discarded unexecuted (R197). -/
def LinkPort.discard (l : LinkPort) : LinkPort := { l with requestsDiscarded := true }

/-- A returned frame joins the queue if a place is free (R199). -/
def LinkPort.echo (f : Frame) (l : LinkPort) : LinkPort :=
  if l.placesInUse < 16 then { l with queue := l.queue ++ [.echoed f] } else l.discard

/-- The Link Port takes a value. -/
def State.setLp (l : LinkPort) (s : State) : State := { s with lp := l }

/-- The answer of a frame's request (R194). -/
def Frame.answered (f : Frame) (r : Reply) : Upstream := .answer f.tag f.kind r.result.code r.data

/-- An event: nothing but the input levels changes while the Reset input is asserted (R172, R200; log
9). -/
def takeEvent (act : State → State) (s : State) : Outcome :=
  .next (if s.resetAsserted then s else act s)

/-- The owner's part of a request: its answer is admitted, the owner acts, the answer is queued (R193,
R197). A request for whose answer no place is free is discarded. -/
def State.serve (f : Frame) (act : State → State × Reply) (s : State) : State :=
  if s.lp.placesInUse < 16 then
    let r := act (s.setLp s.lp.reserve)
    r.1.setLp (r.1.lp.answer (f.answered r.2))
  else s.setLp s.lp.discard

/-- A completed frame of a request is taken: in ECHO it is returned, SET MODE excepted (R199);
otherwise it is carried out by its owner. -/
def State.request (f : Frame) (act : State → State × Reply) (s : State) : State :=
  let s := s.setLp s.lp.hunt
  if s.lsv.mode = .echo ∧ f.isSetMode = false then s.setLp (s.lp.echo f) else s.serve f act

/-- A request command. -/
def takeRequest (f : Frame) (act : State → State × Reply) (s : State) : Outcome :=
  takeEvent (State.request f act) s

/-- A request that is taken and answered DONE without data. -/
def doneWith (s : State) : State × Reply := (s, .done)

/-- A request that is answered with a result other than DONE: no state changes. -/
def refuse (r : Result) (s : State) : State × Reply := (s, .refuse r)

/-- The Link Port discards a frame: LINK_ERROR, and the receiver hunts (R190, R192). -/
def State.linkError (s : State) : State := (s.setLp s.lp.hunt).occur .linkError

end Sys2Proof.Machine
end

