-- ==== Sys2Proof/Machine/Intake.lean ====
section
/-! DEFINITION. The Sheet Intake's commands (chapter 1): SHEET_NOTICE, BOOK_OPEN, BOOK_CANCEL,
INFEED_EDGE, NOTICE_EXPIRY. -/

namespace Sys2Proof.Machine

open Sys2Proof

/-! ## Sheet Notice (R11, R12) -/

/-- The fields of a Sheet Notice payload (11.4). -/
structure SheetWords where
  book      : Half
  leaf      : Byte
  kind      : Byte
  thickness : Half
  flags     : Byte
deriving DecidableEq, Repr

/-- The last-of-book flag: bit 0; bits 1 to 7 are ignored (R204). -/
def SheetWords.last (w : SheetWords) : Bool := w.flags.getLsbD 0

/-- The leaf index as recorded: above 63 as 63 (R11 step 2). -/
def SheetWords.leafIndex (w : SheetWords) : Nat := min w.leaf.toNat 63

/-- The kind as recorded: an unknown code as LEAF (R11 step 2). -/
def SheetWords.sheetKind (w : SheetWords) : SheetKind := if w.kind = 1 then .board else .leaf

/-- The thickness as recorded: within 40 to 3000 µm (R11 step 2). -/
def SheetWords.recorded (w : SheetWords) : Nat := min (max w.thickness.toNat 40) 3000

/-- A value is outside its range (R11 step 2). -/
def SheetWords.outOfRange (w : SheetWords) : Bool :=
  decide (63 < w.leaf.toNat) || decide (1 < w.kind.toNat) || decide (w.thickness.toNat < 40)
    || decide (3000 < w.thickness.toNat)

/-- The Notice Queue entry a Sheet Notice makes (R10, R11). -/
def SheetWords.entry (slot : Option Slot) (divert : Option DivertReason) (travel : BitVec 32)
    (w : SheetWords) : Notice :=
  { slot, leaf := w.leafIndex, kind := w.sheetKind, thickness := w.recorded, last := w.last, divert,
    arrival := travel }

/-- An entry joins the Notice Queue: pause source at depth 12 (R21), peak (R22). -/
def SheetIntake.join (n : Notice) (si : SheetIntake) : SheetIntake :=
  let q := si.notices ++ [n]
  { si with
    notices := q
    pauseSource := si.pauseSource || decide (q.length = 12)
    peak := max si.peak q.length }

/-- An entry joins, and PAUSE follows (R10, R21). -/
def State.joinNotice (n : Notice) (s : State) : State := { s with si := s.si.join n }.syncPause

/-- The faults of a notice taken against its book, in order (R11 steps 1 to 3). -/
def State.noticeFaults (i : Slot) (b : Book) (w : SheetWords) (s : State) : State :=
  let s := if w.leaf.toNat ≠ b.noticed then s.raiseFault i .sequence else s
  let s := if w.outOfRange then s.raiseFault i .sequence else s
  if b.declared = some b.noticed ∨ b.noticed = 64 then s.raiseFault i .tooManySheets else s

/-- The book after a notice taken against it (R11 steps 5 to 7). -/
def Book.notice (last : Bool) (b : Book) : Book :=
  let noticed := min (b.noticed + 1) 64
  { b with
    noticed := noticed
    declared := if last ∧ b.declared.isNone then some noticed else b.declared
    stage := if b.stage = .opened then .collecting else b.stage }

/-- A notice is taken against its book (R11 case 4). -/
def State.noticeTaken (i : Slot) (b : Book) (w : SheetWords) (s : State) : State :=
  let s := s.noticeFaults i b w
  let s := s.joinNotice (w.entry (some i) none s.si.travel)
  s.modifyBook i (Book.notice w.last)

/-- A notice becomes a divert entry, with its Sheet Refused notice (R11 cases 2 and 3, R12). -/
def State.noticeDiverted (r : DivertReason) (w : SheetWords) (s : State) : State :=
  (s.joinNotice (w.entry none (some r) s.si.travel)).notify (.sheetRefused w.book w.leaf (some r))

/-- A Sheet Notice against the book in a slot (R11 cases 3 and 4). -/
def State.noticeFor (i : Slot) (b : Book) (w : SheetWords) (s : State) : State :=
  if b.takesSheets then s.noticeTaken i b w else s.noticeDiverted .bookClosed w

/-- A Sheet Notice is dropped, made a divert entry, or taken against its book (R11). -/
def State.sheetNotice (w : SheetWords) (s : State) : State :=
  if 16 ≤ s.si.notices.length then s.notify (.sheetRefused w.book w.leaf none)
  else
    match s.findBook w.book with
    | none => s.noticeDiverted .notFound w
    | some i =>
      match s.book i with
      | none => s
      | some b => s.noticeFor i b w

/-- SHEET_NOTICE: taken whatever the state of the Return Queue, with no answer (R11, R197); in ECHO the
frame is returned (R199). -/
def execSheetNotice (tag : Byte) (book : Half) (leaf kind : Byte) (thickness : Half) (flags : Byte)
    (s : State) : Outcome :=
  takeEvent (fun s =>
    let s := s.setLp s.lp.hunt
    if s.lsv.mode = .echo then
      s.setLp (s.lp.echo ⟨0x01, tag, halfBytes book ++ [leaf, kind] ++ halfBytes thickness ++ [flags]⟩)
    else s.sheetNotice ⟨book, leaf, kind, thickness, flags⟩) s

/-! ## Book Open (R3) -/

/-- A new book (R3). -/
def Book.new (id : Half) (format : FormatId) (declared : Option Nat) : Book :=
  { id, format, declared, noticed := 0, placed := 0, liftsClosed := 0, liftsPunched := 0,
    liftsGathered := 0, stage := .opened, fault := none }

/-- The declared sheet count of a byte: 0 absent, else 1 to 64 (R3 check 1). -/
def readDeclared (b : Byte) : Option (Option Nat) :=
  if b = 0 then some none else (readRange 1 64 b.toNat).map some

/-- The book is created and bound to its format (R3, R50). -/
def State.openBook (i : Slot) (b : Book) (s : State) : State :=
  { s with ts := s.ts.modifyFormat b.format FormatEntry.bind }.setBook i (some b)

/-- Book Open, checks 2 to 5 (R3). -/
def State.bookOpenChecked (id : Half) (f : FormatId) (declared : Option Nat) (s : State) :
    State × Reply :=
  let e := Bank.read s.ts.formats f
  if e.active.isNone then refuse .range s
  else if e.pending then refuse .pending s
  else if (s.findBook id).isSome then refuse .duplicate s
  else
    match s.freeSlot with
    | none => refuse .full s
    | some i => (s.openBook i (Book.new id f declared), ⟨.done, [natByte i.val]⟩)

/-- Book Open (R3). -/
def State.bookOpen (id : Half) (format declared : Byte) (s : State) : State × Reply :=
  match readIndex 16 format, readDeclared declared with
  | some f, some d => s.bookOpenChecked id f d
  | _, _ => refuse .range s

/-- BOOK_OPEN (R3). -/
def execBookOpen (tag : Byte) (book : Half) (format declared : Byte) (s : State) : Outcome :=
  takeRequest ⟨0x02, tag, halfBytes book ++ [format, declared]⟩
    (State.bookOpen book format declared) s

/-! ## Book Cancel (R8) -/

/-- Book Cancel of the book in a slot, by its stage (R8). -/
def State.cancelBook (i : Slot) (b : Book) (s : State) : State :=
  match b.stage with
  | .opened => s.removeBook i
  | .collecting => (s.raiseFault i .cancelled).endCollection i
  | .collected => s.raiseFault i .cancelled
  | .gathered => s.raiseFault i .cancelled
  | .finishing => s.raiseFault i .cancelled
  | .leaving => s.raiseFault i .cancelled

/-- Book Cancel (R8). -/
def State.bookCancel (id : Half) (s : State) : State × Reply :=
  match s.findBook id with
  | none => refuse .notFound s
  | some i =>
    match s.book i with
    | none => refuse .notFound s
    | some b => doneWith (s.cancelBook i b).testRest

/-- BOOK_CANCEL (R8). -/
def execBookCancel (tag : Byte) (book : Half) (s : State) : Outcome :=
  takeRequest ⟨0x03, tag, halfBytes book⟩ (State.bookCancel book) s

/-! ## Expiry (R17) -/

/-- An entry has left the Notice Queue: its pause source at depth 8 (R21). -/
def SheetIntake.leave (rest : List Notice) (si : SheetIntake) : SheetIntake :=
  { si with notices := rest, pauseSource := si.pauseSource && !decide (rest.length = 8) }

/-- The oldest entry leaves, and PAUSE follows (R10, R21). -/
def State.leaveNotice (rest : List Notice) (s : State) : State :=
  { s with si := s.si.leave rest }.syncPause

/-- Travel since an entry's arrival, modulo 2^32 (R17). -/
def State.travelSince (n : Notice) (s : State) : Nat := (s.si.travel - n.arrival).toNat

/-- The entry's travel exceeds the Match Window in force since the last forward count (R17). -/
def State.expired (n : Notice) (s : State) : Bool := decide (s.si.window < s.travelSince n)

/-- The stage of the slot's book is COLLECTING (R17 step 4). -/
def State.collecting (i : Slot) (s : State) : Bool :=
  (s.book i).any fun b => decide (b.stage = .collecting)

/-- The book of an expired notice (R17 steps 3 and 4). -/
def State.expireBook (i : Slot) (n : Notice) (s : State) : State :=
  let s := s.raiseFault i .missingSheet
  if n.last && s.collecting i then s.endCollection i else s

/-- The oldest entry expires (R17). -/
def State.expireNotice (n : Notice) (rest : List Notice) (s : State) : State :=
  let s := ((s.leaveNotice rest).count .missing).updateRegistration .expiry
  match n.slot with
  | none => s
  | some i => s.expireBook i n

/-- The oldest entry is tested, and the next one after each that expires, oldest first (R17). The
number bounds the entries tested. -/
def State.expireUpTo : Nat → State → State
  | 0, s => s
  | k + 1, s =>
    match s.si.notices with
    | [] => s
    | n :: rest => if s.expired n then (s.expireNotice n rest).expireUpTo k else s

/-- The test of the oldest entry (R17). -/
def State.testExpiry (s : State) : State := s.expireUpTo s.si.notices.length

/-- NOTICE_EXPIRY: no event unless the oldest entry has expired (R17). -/
def State.noticeExpiry (s : State) : State :=
  if s.si.notices.head?.any fun n => s.expired n then s.testExpiry.testRest else s

/-- NOTICE_EXPIRY (R17). -/
def execNoticeExpiry (s : State) : Outcome := takeEvent State.noticeExpiry s

/-! ## Infeed edges (R13 to R16) -/

/-- A sheet is diverted: CH7 is triggered and SHEETS_DIVERTED counts (R16). -/
def State.divertSheet (s : State) : State := (s.triggerStrobe 7).count .sheetsDiverted

/-- An unannounced sheet (R15). -/
def State.unannounced (s : State) : State :=
  ((s.triggerStrobe 7).count .unannounced).updateRegistration .unannounced

/-- The sheet of a matched notice, as handed to the Lift Builder (R14). -/
def Notice.sheet (i : Slot) (n : Notice) : Sheet :=
  { slot := i, leaf := n.leaf, kind := n.kind, thickness := n.thickness, last := n.last }

/-- The sheet is handed to the Lift Builder, and diverted if declined (R14 case 3). Where its book's
collection ends with it, that comes before the divert: the model's choice (log 33). -/
def State.handSheet (x : Sheet) (s : State) : State :=
  let r := s.placeSheet x
  if r.2 then r.1 else r.1.divertSheet

/-- A sheet diverted for registration, in the order in which R14 case 2 names the fault, the divert and the end
of collection. -/
def State.registrationDivert (i : Slot) (last : Bool) (s : State) : State :=
  let s := (s.raiseFault i .registration).divertSheet
  if last then s.endCollection i else s

/-- Registration is LOST and the Loss Action is DIVERT (R14 case 2). -/
def State.lossDiverts (s : State) : Bool :=
  decide (s.si.registration = .lost) && decide (s.ts.settings.lossAction = .divert)

/-- A sheet matched to a non-divert entry (R14). -/
def State.disposeSheet (i : Slot) (n : Notice) (s : State) : State :=
  if (s.book i).any Book.takesSheets then
    if s.lossDiverts then s.registrationDivert i n.last else s.handSheet (n.sheet i)
  else s.divertSheet

/-- An edge is matched to the oldest notice (R13). -/
def State.matchNotice (n : Notice) (rest : List Notice) (s : State) : State :=
  let s := (s.leaveNotice rest).updateRegistration .matching
  match n.slot with
  | none => s.divertSheet
  | some i => s.disposeSheet i n

/-- An infeed edge (R13, R15); after a match the new oldest entry is tested at once (R17, R18; log
29). -/
def State.infeedEdge (s : State) : State :=
  match s.si.notices with
  | [] => s.unannounced
  | n :: rest => (s.matchNotice n rest).testExpiry

/-- INFEED_EDGE (R13, R15). -/
def execInfeedEdge (s : State) : Outcome := takeEvent (fun s => s.infeedEdge.testRest) s

end Sys2Proof.Machine
end

