-- ==== Sys2Proof/Machine/Tables.lean ====
section
/-! DEFINITION. The Table Store's commands (chapter 3): TABLE_WRITE and TABLE_READ. -/

namespace Sys2Proof.Machine

open Sys2Proof

/-! ## Entries and their checks -/

/-- An entry of one of the four tables (R60 check 1). -/
inductive TableEntry where
  | pattern (i : Fin 24)
  | format (i : FormatId)
  | drive (d : DriveId)
  | settings
deriving DecidableEq, Repr

/-- The entry that a selector and an entry number name (R60 check 1, 11.3). -/
def readEntry (selector entry : Byte) : Option TableEntry :=
  match selector.toNat with
  | 0 => (readIndex 24 entry).map TableEntry.pattern
  | 1 => (readIndex 16 entry).map TableEntry.format
  | 2 => (readIndex 5 entry).map TableEntry.drive
  | 3 => if entry = 0 then some .settings else none
  | _ => none

/-- The length of the contents of an entry (11.6). -/
def TableEntry.length : TableEntry → Nat
  | .pattern _ => 8
  | .format _ => 10
  | .drive _ => 14
  | .settings => 30

/-- The entry a write names, if its length is that of the contents (R60 check 1, R204). -/
def readWritten (selector entry : Byte) (contents : List Byte) : Option TableEntry :=
  (readEntry selector entry).filter fun e => decide (contents.length = e.length)

/-- The line state is HELD or SAFE_STOP (R60 check 2, R128 check 2). -/
def LineState.heldOrStopped : LineState → Bool
  | .running => false
  | .holdPending => false
  | .held => true
  | .safeStop => true

/-- A valid copy names the pattern. -/
def copyNames (p : Fin 24) (c : Option Format) : Bool := c.any fun f => decide (f.pattern = p)

/-- The active copy of a format with books bound names the pattern (R54, first row). -/
def TableStore.patternBound (p : Fin 24) (t : TableStore) : Bool :=
  (List.finRange 16).any fun i =>
    decide (0 < (Bank.read t.formats i).refCount) && copyNames p (Bank.read t.formats i).active

/-- Some valid copy, active or staged, names the pattern (R54, second row). -/
def TableStore.patternNamed (p : Fin 24) (t : TableStore) : Bool :=
  (List.finRange 16).any fun i =>
    copyNames p (Bank.read t.formats i).active
      || (Bank.read t.formats i).staged.any fun c => copyNames p c

/-- A write of the pattern is refused BUSY (R54). -/
def TableStore.patternBusy (p : Fin 24) (x : Option Pattern) (t : TableStore) : Bool :=
  match x with
  | some _ => t.patternBound p
  | none => t.patternNamed p

/-! ## Writing -/

/-- Where a format write is placed (R51). -/
inductive Copy where
  | active | staged
deriving DecidableEq, Repr

/-- Copy codes (11.3). -/
def Copy.code : Copy → Byte
  | .active => 0
  | .staged => 1

/-- The copy a write to the entry goes to (R51). -/
def FormatEntry.target (e : FormatEntry) : Copy := if e.refCount = 0 then .active else .staged

/-- The entry with a copy placed (R51). -/
def FormatEntry.place (c : Option Format) (e : FormatEntry) : FormatEntry :=
  match e.target with
  | .active => { e with active := c }
  | .staged => { e with staged := some c }

/-- A pattern entry takes contents. -/
def State.setPattern (p : Fin 24) (x : Option Pattern) (s : State) : State :=
  { s with ts := { s.ts with patterns := Bank.write s.ts.patterns p x } }

/-- A drive entry takes contents: a change of the chosen kind tests the drive's purge request (R103, R105), an
outstanding drive that is now DISABLED turns the bed lift into a PASS lift, and intervals that first run
take their length (R55, R57, R74, R96). -/
def State.setDriveEntry (d : DriveId) (e : DriveEntry) (s : State) : State :=
  let kind := s.chosenKind d
  let s := { s with ts := { s.ts with drives := Bank.write s.ts.drives d e } }
  ((s.testKind d kind).cutDisabled).fixTimers

/-- A report timer that starts a period (R178). -/
def ReportTimer.start (set : LineSettings) : ReportTimer :=
  { length := set.reportPeriod * 1000, elapsed := 0 }

/-- The report timer after a Line Settings write (R178). -/
def ReportTimer.afterWrite (set : LineSettings) (before : Option ReportTimer) :
    Option ReportTimer :=
  match set.reportMode, before with
  | .manual, _ => none
  | .periodic, some t => some t
  | .periodic, none => some (ReportTimer.start set)

/-- Line Settings takes contents (R58, R59): the report timer follows (R178), and a Bed Dwell Limit
below the time spent raises BED_DWELL (R88). -/
def State.setSettings (x : LineSettings) (s : State) : State :=
  let s := { s with
    ts := { s.ts with settings := x }
    lm := { s.lm with timer := ReportTimer.afterWrite x s.lm.timer } }
  s.testDwell

/-- A pattern write: checks 3 and 4 of R60. -/
def State.writePattern (p : Fin 24) (contents : List Byte) (s : State) : State × Reply :=
  match readPattern contents with
  | none => refuse .range s
  | some x => if s.ts.patternBusy p x then refuse .busy s else doneWith (s.setPattern p x)

/-- A format write: check 3 of R60, then R51. -/
def State.writeFormat (i : FormatId) (contents : List Byte) (s : State) : State × Reply :=
  match readFormat s.ts.patterns contents with
  | none => refuse .range s
  | some c =>
    ({ s with ts := s.ts.modifyFormat i (FormatEntry.place c) },
      ⟨.done, [(Bank.read s.ts.formats i).target.code]⟩)

/-- A drive write: checks 2 and 3 of R60. -/
def State.writeDrive (d : DriveId) (contents : List Byte) (s : State) : State × Reply :=
  if s.lsv.lineState.heldOrStopped then
    match readDrive contents with
    | none => refuse .range s
    | some e => doneWith (s.setDriveEntry d e)
  else refuse .state s

/-- A Line Settings write: checks 2 and 3 of R60. -/
def State.writeSettings (contents : List Byte) (s : State) : State × Reply :=
  if s.lsv.lineState.heldOrStopped then
    match readSettings contents with
    | none => refuse .range s
    | some x => doneWith (s.setSettings x)
  else refuse .state s

/-- Table Write (R60). -/
def State.tableWrite (selector entry : Byte) (contents : List Byte) (s : State) : State × Reply :=
  match readWritten selector entry contents with
  | none => refuse .range s
  | some (.pattern p) => s.writePattern p contents
  | some (.format i) => s.writeFormat i contents
  | some (.drive d) => s.writeDrive d contents
  | some .settings => s.writeSettings contents

/-- TABLE_WRITE (R60). Contents of a length that no table has make the frame one of a length its kind
does not permit (R192 check 2; log 23). -/
def execTableWrite (tag selector entry : Byte) (contents : List Byte) (s : State) : Outcome :=
  if contentsLengthOk contents.length then
    takeRequest ⟨0x04, tag, selector :: entry :: contents⟩
      (State.tableWrite selector entry contents) s
  else takeEvent State.linkError s

/-! ## Reading (R62) -/

/-- The pattern answer: contents and hole count. -/
def State.patternData (p : Fin 24) (s : State) : List Byte :=
  let x := Bank.read s.ts.patterns p
  patternBytes x ++ [natByte (x.elim 0 Pattern.holeCount)]

/-- The format answer for a copy: contents, pending flag and reference count. -/
def formatData (c : Option Format) (e : FormatEntry) : List Byte :=
  formatBytes c ++ [flagByte e.pending, natByte e.refCount]

/-- The answer to a read of a format entry (R62; the copy codes are 0 and 1, R204). -/
def State.readFormatEntry (i : FormatId) (copy : Byte) (s : State) : Reply :=
  let e := Bank.read s.ts.formats i
  match readFlag copy with
  | none => .refuse .range
  | some false => ⟨.done, formatData e.active e⟩
  | some true => e.staged.elim (.refuse .notFound) fun c => ⟨.done, formatData c e⟩

/-- The answer to a Table Read (R62). -/
def State.tableReply (selector entry copy : Byte) (s : State) : Reply :=
  match readEntry selector entry with
  | none => .refuse .range
  | some (.pattern p) => ⟨.done, s.patternData p⟩
  | some (.format i) => s.readFormatEntry i copy
  | some (.drive d) => ⟨.done, driveBytes (Bank.read s.ts.drives d)⟩
  | some .settings => ⟨.done, settingsBytes s.ts.settings⟩

/-- TABLE_READ (R62): no state changes. -/
def execTableRead (tag selector entry copy : Byte) (s : State) : Outcome :=
  takeRequest ⟨0x05, tag, [selector, entry, copy]⟩
    (fun s => (s, s.tableReply selector entry copy)) s

end Sys2Proof.Machine
end

