-- ==== Sys2Proof/Machine/Timing.lean ====
section
/-! DEFINITION. The Timing Channel Unit's commands (chapter 6): CHANNEL_SET, CHANNEL_COUNT, CAPTURE,
CHANNEL_READ, and the events at which a countdown reaches 0. -/

namespace Sys2Proof.Machine

open Sys2Proof

/-! ## Channel Set (R128) -/

/-- A mode the channel may be set to (R114, R128 check 3). -/
def modeAllowed (i : ChannelId) (m : ChannelMode) : Bool :=
  decide (m = workingMode i) || decide (m = .soft) || decide (m = .off)

/-- The channel as Channel Set leaves it (R128 steps 1 to 5). -/
def Channel.set (mode : ChannelMode) (source : Source) (staged : Counts) (c : Channel) : Channel :=
  { c.toIdle with
    mode, source, staged, pending := true, pendingTrigger := false, gate := false,
    capturedCount := none, capturedStatus := none }

/-- A Cut is reported: the channel is running and not in SOFT, which makes no report (R118). -/
def Channel.reportsCut (c : Channel) : Bool := c.running && decide (c.mode ≠ .soft)

/-- The strobe of the drive's channel is cut off (R82). -/
def State.cutStrobe (i : ChannelId) (s : State) : State :=
  match channelDrive i with
  | some d => s.strobeEnded d
  | none => s

/-- The owner's part at a Cut by Channel Set, the channel still as it stood: the strobe of a strike ends
(R82), the feed keeps what it owes (R146). -/
def State.reportCut (i : ChannelId) (s : State) : State :=
  if (s.ch i).reportsCut then
    let s := if i = 6 then s.feedCut (s.ch 6).budget else s
    s.cutStrobe i
  else s

/-- START is set if a channel is out of its working mode (R160). -/
def State.holdForChannels (s : State) : State :=
  if s.channelsWorking then s else s.addHold .start

/-- What the owners of CH0 and CH6 do once the channel is set (R75, R76, R146). -/
def State.ownerAfterSet (i : ChannelId) (s : State) : State :=
  if i = 0 then s.clampOpened.testClamp else if i = 6 then s.feedAfterSet else s

/-- Channel Set, all checks passed (R128). -/
def State.setChannel (i : ChannelId) (mode : ChannelMode) (source : Source) (staged : Counts)
    (s : State) : State :=
  let s := s.reportCut i
  let s := s.setCh i ((s.ch i).set mode source staged)
  (((s.holdForChannels).cutDisabled).ownerAfterSet i).fixTimers

/-- Channel Set, checks 2 to 4 (R128). -/
def State.channelSetChecked (i : ChannelId) (mode : ChannelMode) (source : Source) (staged : Counts)
    (s : State) : State × Reply :=
  if !s.lsv.lineState.heldOrStopped then refuse .state s
  else if !modeAllowed i mode then refuse .range s
  else if mode = .pitch ∧ staged.pitchValid = false then refuse .range s
  else doneWith (s.setChannel i mode source staged)

/-- Channel Set (R128). -/
def State.channelSet (channel mode source : Byte) (staged : Counts) (s : State) : State × Reply :=
  match readIndex 9 channel, readChannelMode mode, readSource source with
  | some i, some m, some x => s.channelSetChecked i m x staged
  | _, _, _ => refuse .range s

/-- CHANNEL_SET (R128). -/
def execChannelSet (tag channel mode source : Byte) (n w b : Half) (s : State) : Outcome :=
  takeRequest ⟨0x06, tag, [channel, mode, source] ++ halfBytes n ++ halfBytes w ++ halfBytes b⟩
    (State.channelSet channel mode source ⟨n, w, b⟩) s

/-! ## Channel Count (R129) -/

/-- The staged counts are written (R117). -/
def Channel.stage (k : Counts) (c : Channel) : Channel := { c with staged := k, pending := true }

/-- The channel after a Channel Count (R124, R125, R129). -/
def State.counted (i : ChannelId) (k : Counts) (s : State) : Channel :=
  let c := (s.ch i).stage k
  if c.mode = .soft then
    if s.lsv.lineState = .safeStop then c else c.startCycle (s.suppressed i)
  else if c.phase = .pausedPitch then c.pitchLoadPoint
  else c

/-- Channel Count (R129). -/
def State.channelCount (channel : Byte) (k : Counts) (s : State) : State × Reply :=
  match readIndex 9 channel with
  | none => refuse .range s
  | some i => doneWith (s.setCh i (s.counted i k))

/-- CHANNEL_COUNT (R129). -/
def execChannelCount (tag channel : Byte) (n w b : Half) (s : State) : Outcome :=
  takeRequest ⟨0x07, tag, [channel] ++ halfBytes n ++ halfBytes w ++ halfBytes b⟩
    (State.channelCount channel ⟨n, w, b⟩) s

/-! ## Capture (R130) -/

/-- The status of a channel as it stands (R115). -/
def Channel.status (c : Channel) : CapturedStatus :=
  { mode := c.mode, source := c.source, output := c.output, phase := c.phase, pending := c.pending,
    pendingTrigger := c.pendingTrigger }

/-- The count of a channel as it stands (R115). -/
def Channel.count (c : Channel) : CapturedCount := { countdown := c.countdown, budget := c.budget }

/-- The parts a capture selector names: count and status (11.3). -/
def readSelector (b : Byte) : Option (Bool × Bool) :=
  if b = 1 then some (true, false) else if b = 2 then some (false, true)
  else if b = 3 then some (true, true) else none

/-- A capture keeps what is captured already (R130). -/
def Channel.capture (count status : Bool) (c : Channel) : Channel :=
  { c with
    capturedCount := if count then c.capturedCount.or (some c.count) else c.capturedCount
    capturedStatus := if status then c.capturedStatus.or (some c.status) else c.capturedStatus }

/-- The channel set is not empty and names CH0 to CH8 only (R130, R204). -/
def channelSetOk (x : Half) : Bool := decide (x ≠ 0) && decide (x.toNat < 512)

/-- The named channels are captured (R130). -/
def State.captureAll (x : Half) (count status : Bool) (s : State) : State :=
  { s with tcu := Bank.tabulate fun i =>
      if x.getLsbD i.val then (s.ch i).capture count status else s.ch i }

/-- Capture (R130). -/
def State.capture (x : Half) (selector : Byte) (s : State) : State × Reply :=
  match readSelector selector with
  | none => refuse .range s
  | some p => if channelSetOk x then doneWith (s.captureAll x p.1 p.2) else refuse .range s

/-- CAPTURE (R130). -/
def execCapture (tag : Byte) (channels : Half) (selector : Byte) (s : State) : Outcome :=
  takeRequest ⟨0x08, tag, halfBytes channels ++ [selector]⟩ (State.capture channels selector) s

/-! ## Channel Read (R131) -/

/-- The status byte (R205). -/
def CapturedStatus.byte (x : CapturedStatus) : Byte :=
  BitVec.ofBool x.pending ++ x.phase.code.extractLsb' 0 2 ++ BitVec.ofBool x.output
    ++ x.source.code.extractLsb' 0 1 ++ x.mode.code.extractLsb' 0 3

/-- The three counts as sent (11.5). -/
def Counts.bytes (k : Counts) : List Byte := halfBytes k.n ++ halfBytes k.w ++ halfBytes k.b

/-- What Channel Read answers (R131): status and count, each marked captured or live, the live counts, and
the staged counts with the pending flag as it stands. -/
structure ChannelAnswer where
  status         : CapturedStatus
  statusCaptured : Bool
  count          : CapturedCount
  countCaptured  : Bool
  live           : Counts
  staged         : Counts
  pending        : Bool
deriving DecidableEq, Repr

/-- The answer of Channel Read from a channel: the captures, or the channel as it stands (R131). -/
def Channel.answer (c : Channel) : ChannelAnswer :=
  { status := c.capturedStatus.getD c.status, statusCaptured := c.capturedStatus.isSome
    count := c.capturedCount.getD c.count, countCaptured := c.capturedCount.isSome
    live := c.live, staged := c.staged, pending := c.pending }

/-- Bits 3 to 7 of the flags byte, which 11.5 leaves without a meaning. Beside a live status they are 0:
bit 7 of the status byte carries the pending flag as it stands. Beside a captured status 11.5 names no
bit for it, and a free value says how these bits carry it (R131; log 30). -/
def ChannelAnswer.pendingBits (a : ChannelAnswer) : BitVec 5 :=
  if a.statusCaptured then Config.pendingBits a.pending else 0

/-- The flags byte: bit 0 pending trigger, bit 1 status captured, bit 2 count captured (11.5). -/
def ChannelAnswer.flags (a : ChannelAnswer) : Byte :=
  a.pendingBits ++ BitVec.ofBool a.countCaptured ++ BitVec.ofBool a.statusCaptured
    ++ BitVec.ofBool a.status.pendingTrigger

/-- The answer as sent (11.5). -/
def ChannelAnswer.bytes (a : ChannelAnswer) : List Byte :=
  [a.status.byte, a.flags] ++ natBytes a.count.countdown ++ natBytes a.count.budget ++ a.live.bytes
    ++ a.staged.bytes

/-- The data of a Channel Read's answer (R131, 11.5). -/
def Channel.data (c : Channel) : List Byte := c.answer.bytes

/-- Both captures are released (R131). -/
def Channel.dropCaptures (c : Channel) : Channel :=
  { c with capturedCount := none, capturedStatus := none }

/-- Channel Read (R131). -/
def State.channelRead (channel : Byte) (s : State) : State × Reply :=
  match readIndex 9 channel with
  | none => refuse .range s
  | some i => (s.setCh i (s.ch i).dropCaptures, ⟨.done, (s.ch i).data⟩)

/-- CHANNEL_READ (R131). -/
def execChannelRead (tag channel : Byte) (s : State) : Outcome :=
  takeRequest ⟨0x09, tag, [channel]⟩ (State.channelRead channel) s

/-! ## Countdowns that reach 0 -/

/-- The countdown of this phase in this mode has reached 0 (R116). -/
def Channel.due (mode : ChannelMode) (phase : Phase) (c : Channel) : Bool :=
  decide (c.mode = mode) && decide (c.phase = phase) && decide (c.countdown = 0)

/-- The dwell of the clamp has been counted (R119). -/
def State.dwellDue (s : State) : Bool := (s.ch 0).due .hold .active && !(s.ch 0).gate

/-- HOLD End: the clamp opens (R76, R119). -/
def State.holdDwellEnd (s : State) : State :=
  if s.dwellDue then (s.setCh 0 (s.ch 0).toIdle).clampOpened else s

/-- HOLD_DWELL_END (R119). -/
def execHoldDwellEnd (s : State) : Outcome := takeEvent State.holdDwellEnd s

/-- A STROBE wait ends (R120 steps 2 and 3). -/
def State.strobeWaitEnd (i : ChannelId) (s : State) : State :=
  if (s.ch i).due .strobe .waiting then s.setCh i ((s.ch i).pulse (s.suppressed i)) else s

/-- STROBE_WAIT_END (R120). -/
def execStrobeWaitEnd (channel : ChannelId) (s : State) : Outcome :=
  takeEvent (State.strobeWaitEnd channel) s

/-- A STROBE channel at End: a pending trigger starts the next cycle (R120 step 4). -/
def Channel.strobeEnd (suppressed : Bool) (c : Channel) : Channel :=
  if c.pendingTrigger then { c.toIdle with pendingTrigger := false }.startCycle suppressed
  else c.toIdle

/-- A STROBE pulse ends: End is reported, and CH1 to CH5 end the strobe of their drive's strike (R82,
R120 step 4). -/
def State.strobePulseEnd (i : ChannelId) (s : State) : State :=
  if (s.ch i).due .strobe .active then
    ((s.setCh i ((s.ch i).strobeEnd (s.suppressed i))).cutStrobe i).testRest
  else s

/-- STROBE_PULSE_END (R120). -/
def execStrobePulseEnd (channel : ChannelId) (s : State) : Outcome :=
  takeEvent (State.strobePulseEnd channel) s

/-- A PITCH channel at the end of a pulse (R122 step 4). -/
def Channel.pitchPulseEnd (c : Channel) : Channel :=
  let c := { c with budget := c.budget - 1, output := false }
  if c.budget = 0 then c.toIdle
  else { c with phase := .waiting, countdown := countOf c.live.n - countOf c.live.w }

/-- A PITCH pulse ends; with the budget spent, End is reported and the FEED step ends (R122, R146). -/
def State.pitchPulseEnd (s : State) : State :=
  if (s.ch 6).due .pitch .active then
    let c := (s.ch 6).pitchPulseEnd
    let s := s.setCh 6 c
    (if c.running then s else s.feedEnded).testRest
  else s

/-- PITCH_PULSE_END (R122). -/
def execPitchPulseEnd (s : State) : Outcome := takeEvent State.pitchPulseEnd s

/-- A PITCH period boundary: a load point (R122 step 5). -/
def State.pitchPeriodBoundary (s : State) : State :=
  if (s.ch 6).due .pitch .waiting then s.setCh 6 (s.ch 6).pitchLoadPoint else s

/-- PITCH_PERIOD_BOUNDARY (R122). -/
def execPitchPeriodBoundary (s : State) : Outcome := takeEvent State.pitchPeriodBoundary s

/-- A SOFT wait ends (R125 step 4). -/
def State.softWaitEnd (i : ChannelId) (s : State) : State :=
  if (s.ch i).due .soft .waiting then s.setCh i ((s.ch i).pulse (s.suppressed i)) else s

/-- SOFT_WAIT_END (R125). -/
def execSoftWaitEnd (channel : ChannelId) (s : State) : Outcome :=
  takeEvent (State.softWaitEnd channel) s

/-- A SOFT pulse ends without a report (R125 step 5). CH6 running in SOFT keeps the line from rest. -/
def State.softPulseEnd (i : ChannelId) (s : State) : State :=
  if (s.ch i).due .soft .active then (s.setCh i (s.ch i).toIdle).testRest else s

/-- SOFT_PULSE_END (R125). -/
def execSoftPulseEnd (channel : ChannelId) (s : State) : Outcome :=
  takeEvent (State.softPulseEnd channel) s

end Sys2Proof.Machine
end

