-- ==== Sys2Proof/Machine/Monitor.lean ====
section
/-! DEFINITION. The Line Monitor's commands (chapter 9): counter transfer and read, event setup and
clear, the pages of Status Read, the report period. -/

namespace Sys2Proof.Machine

open Sys2Proof

/-! ## Transfer and reporting (R176 to R179) -/

/-- A transfer (R176). -/
def LineMonitor.transfer (m : LineMonitor) : LineMonitor :=
  { m with held := m.work, work := Vector.replicate 18 ⟨0, false⟩,
           transferNumber := m.transferNumber + 1 }

/-- The Line Monitor takes a value. -/
def State.setLm (m : LineMonitor) (s : State) : State := { s with lm := m }

/-- Counter Transfer (R177). -/
def State.counterTransfer (s : State) : State × Reply :=
  match s.ts.settings.reportMode with
  | .manual => (s.setLm s.lm.transfer, ⟨.done, [s.lm.transfer.transferNumber]⟩)
  | .periodic => refuse .state s

/-- COUNTER_TRANSFER (R177). -/
def execCounterTransfer (tag : Byte) (s : State) : Outcome :=
  takeRequest ⟨0x0A, tag, []⟩ State.counterTransfer s

/-- The answer of Counter Read (R177, 11.5). -/
def LineMonitor.readData (m : LineMonitor) : List Byte := m.transferNumber :: countsBytes m.held

/-- COUNTER_READ (R177): no state changes. -/
def execCounterRead (tag : Byte) (s : State) : Outcome :=
  takeRequest ⟨0x0B, tag, []⟩ (fun s => (s, ⟨.done, s.lm.readData⟩)) s

/-- The report period has been counted; in ECHO the timer is suspended (R178). -/
def State.reportDue (s : State) : Bool :=
  decide (s.lsv.mode ≠ .echo) && s.lm.timer.any fun t => decide (t.length ≤ t.elapsed)

/-- The Counter Report of the holding copies (R179). -/
def LineMonitor.counterReport (m : LineMonitor) : Upstream := .counterReport m.transferNumber m.held

/-- A report period expires (R178). -/
def State.reportPeriodExpiry (s : State) : State :=
  if s.reportDue then
    (s.setLm { s.lm.transfer with timer := some (ReportTimer.start s.ts.settings) }).notify
      s.lm.transfer.counterReport
  else s

/-- REPORT_PERIOD_EXPIRY (R178). -/
def execReportPeriodExpiry (s : State) : Outcome := takeEvent State.reportPeriodExpiry s

/-! ## Event Setup and Event Clear (R183, R184) -/

/-- A condition set names conditions 0 to 14 only (R183, R184, R204). -/
def conditionSetOk (x : Half) : Bool := !x.msb

/-- Event Setup (R183). -/
def State.eventSetup (enables edges : Half) (s : State) : State × Reply :=
  if conditionSetOk enables && conditionSetOk edges then
    doneWith (s.setLm { s.lm with enables, edges })
  else refuse .range s

/-- EVENT_SETUP (R183). -/
def execEventSetup (tag : Byte) (enables edges : Half) (s : State) : Outcome :=
  takeRequest ⟨0x0C, tag, halfBytes enables ++ halfBytes edges⟩ (State.eventSetup enables edges) s

/-- Event Clear (R184). -/
def State.eventClear (conditions : Half) (s : State) : State × Reply :=
  if conditionSetOk conditions then
    doneWith (s.setLm { s.lm with latches := s.lm.latches &&& ~~~conditions })
  else refuse .range s

/-- EVENT_CLEAR (R184). -/
def execEventClear (tag : Byte) (conditions : Half) (s : State) : Outcome :=
  takeRequest ⟨0x0D, tag, halfBytes conditions⟩ (State.eventClear conditions) s

/-! ## Status Read (R186, R187) -/

/-- The set of hold sources as sent (11.3). -/
def HoldSources.byte (h : HoldSources) : Byte :=
  natByte (packBits [h.start, h.request, h.bitWorn, h.driveHot, h.stationWait])

/-- The set of safe-stop causes as sent (11.3). -/
def StopCauses.byte (c : StopCauses) : Byte :=
  natByte (packBits [c.guard, c.powerWarning, c.stopRequest, c.jam, c.purgeOverdue])

/-- The set of pause sources as sent (11.3). -/
def State.pauseByte (s : State) : Byte :=
  natByte (packBits [s.si.pauseSource, s.lb.pauseSource, s.lsv.lineState.pauses])

/-- The bed state code (11.3); a lift on the bed and not yet ON_BED is in transit (R65). -/
def Bed.code (b : Bed) : Byte :=
  match b.lift.state with
  | some .onBed => 2
  | some .released => 3
  | some .queued => 1
  | some .gathered => 1
  | none => 1

/-- Bed state, lift number and book slot (11.5; log 6). -/
def State.bedBytes (s : State) : List Byte :=
  match s.ss.bed with
  | none => [0, Config.emptyBedNumber s.free, slotByte none]
  | some b =>
    [b.code, b.lift.number.getD (Config.emptyBedNumber s.free), slotByte (some b.lift.slot)]

/-- Gather state, slot and number of lifts present (11.5, R135). -/
def State.gatherBytes (s : State) : List Byte :=
  match s.fu.gather with
  | none => [0, slotByte none, 0]
  | some g => [if g.lifts.isEmpty then 1 else 2, slotByte (some g.book), natByte g.lifts.length]

/-- Finish slot and step (11.5, R140; log 6). -/
def State.finishBytes (s : State) : List Byte :=
  match s.fu.finish with
  | none => [slotByte none, Config.emptyFinishStep s.free]
  | some f => [slotByte (some f.book), f.step.code]

/-- The LINE page (11.5, 32 bytes). Bits 2 to 7 of its flags byte, which 11.5 does not name, are 0: the model's
choice (log 36). -/
def State.linePage (s : State) : List Byte :=
  [s.lsv.mode.code, s.lsv.lineState.code, s.lsv.holds.byte, s.lsv.causes.byte, s.pauseByte,
    Config.registrationCode (decide (s.si.registration = .lost)), natByte s.si.unmatched,
    natByte s.si.matched]
    ++ halfBytes s.lm.latches ++ halfBytes s.lm.live ++ halfBytes s.lm.enables
    ++ halfBytes s.lm.edges
    ++ [natByte s.si.notices.length, natByte s.si.peak, natByte s.lb.queue.length,
        natByte s.lb.peak, natByte s.bookCount]
    ++ s.bedBytes ++ s.gatherBytes ++ s.finishBytes ++ natBytes s.fu.bitLife
    ++ [natByte (packBits [s.lp.noticesLost, s.lp.requestsDiscarded])]

/-- What a LINE read does beside its answer (R186): both loss flags cleared, both peaks set to the
depths; a free value has been drawn (log 6). -/
def State.afterLineRead (s : State) : State :=
  { s with
    free := s.free + 1
    lp := { s.lp with noticesLost := false, requestsDiscarded := false }
    si := { s.si with peak := s.si.notices.length }
    lb := { s.lb with peak := s.lb.queue.length } }

/-- Drive state codes (11.3). -/
def DriveState.code : DriveState → Byte
  | .disabled => 0 | .ready => 1 | .striking => 2 | .purging => 3 | .faulted => 4

/-- One drive of the DRIVES page (11.5). Bits 2 to 7 of its flags byte, which 11.5 does not name, are 0: the
model's choice (log 36). -/
def State.driveBytes (d : DriveId) (s : State) : List Byte :=
  [(s.driveState d).code, natByte (packBits [s.hot d, s.forced d]),
    (s.account d).temperature.code, BitVec.ofInt 8 (s.account d).debt]

/-- The DRIVES page (11.5, 21 bytes). -/
def State.drivesPage (s : State) : List Byte :=
  ((List.finRange 5).flatMap fun d => s.driveBytes d) ++ [flagByte s.pc.air]

/-- One slot of the BOOKS page (11.5, R205). -/
def bookBytes : Option Book → List Byte
  | none => [0, 0, 0, 0, 0]
  | some b => [1] ++ halfBytes b.id ++ [b.stage.code, faultCode b.fault]

/-- The BOOKS page (11.5, 40 bytes). -/
def State.booksPage (s : State) : List Byte := (List.finRange 8).flatMap fun i => bookBytes (s.book i)

/-- Status Read (R186, R187). -/
def State.statusRead (page : Byte) (s : State) : State × Reply :=
  match readPage page with
  | none => refuse .range s
  | some .line => (s.afterLineRead, ⟨.done, s.linePage⟩)
  | some .drives => (s, ⟨.done, s.drivesPage⟩)
  | some .books => (s, ⟨.done, s.booksPage⟩)

/-- STATUS_READ (R186). -/
def execStatusRead (tag page : Byte) (s : State) : Outcome :=
  takeRequest ⟨0x0E, tag, [page]⟩ (State.statusRead page) s

end Sys2Proof.Machine
end

