-- ==== Sys2Proof/Machine/Line.lean ====
section
/-! DEFINITION. The Line Supervisor's commands (chapter 8): the subcommands of LINE CONTROL, the
Recovery Record, the guard and the power warning; and BIT_CHANGED of the Finish Unit (R145). -/

namespace Sys2Proof.Machine

open Sys2Proof

/-! ## HOLD, RESUME, STOP, STOP CLEAR (R162 to R165) -/

/-- HOLD (R162); the line is tested for rest when it enters HOLD_PENDING (R161). -/
def State.holdLine (s : State) : State := (s.addHold .request).testRest

/-- HOLD. -/
def execHold (tag modeByte : Byte) (s : State) : Outcome :=
  takeRequest (lineControlFrame 0 tag modeByte) (fun s => doneWith s.holdLine) s

/-- START and REQUEST are withdrawn together (R163). -/
def State.withdrawRequests (s : State) : State :=
  (s.setHolds { s.lsv.holds with start := false, request := false }).releaseIfFree

/-- RESUME (R163). -/
def State.resumeLine (s : State) : State × Reply :=
  if s.lsv.lineState = .safeStop ∨ s.channelsWorking = false then refuse .state s
  else doneWith s.withdrawRequests

/-- RESUME. -/
def execResume (tag modeByte : Byte) (s : State) : Outcome :=
  takeRequest (lineControlFrame 1 tag modeByte) State.resumeLine s

/-- STOP (R164). -/
def execStop (tag modeByte : Byte) (s : State) : Outcome :=
  takeRequest (lineControlFrame 2 tag modeByte) (fun s => doneWith (s.addCause .stopRequest)) s

/-- No safe-stop cause. -/
def StopCauses.none : StopCauses := ⟨false, false, false, false, false⟩

/-- Each FAULTED drive takes DISABLED or READY (R91, R165 step 2). -/
def State.clearFaultedDrives (s : State) : State :=
  { s with ss := { s.ss with drives := Bank.map (fun r => { r with faulted := false }) s.ss.drives } }

/-- STOP CLEAR is taken (R165): the clamp is tested (R91), the finish book goes on (R154), and the
quarter timers run again (R99). -/
def State.clearStop (s : State) : State :=
  let s := { s with lsv := { s.lsv with causes := StopCauses.none } }
  let s := (s.clearFaultedDrives).setHolds (s.lsv.holds.put .start true)
  let s := s.moveLine .held
  ((s.testClamp).resumeFinish).fixTimers

/-- STOP CLEAR (R165). -/
def State.stopClear (s : State) : State × Reply :=
  if s.lsv.lineState = .safeStop ∧ s.inputs.guardClosed ∧ s.inputs.powerWarning = false then
    doneWith s.clearStop
  else refuse .state s

/-- STOP_CLEAR. -/
def execStopClear (tag modeByte : Byte) (s : State) : Outcome :=
  takeRequest (lineControlFrame 3 tag modeByte) State.stopClear s

/-! ## SET MODE (R158) -/

/-- The output of a channel as the line mode has it: active in phase ACTIVE unless suppressed (R127). -/
def State.showOutput (i : ChannelId) (s : State) : Channel :=
  let c := s.ch i
  if 1 ≤ i.val ∧ i.val ≤ 5 then
    { c with output := decide (c.phase = .active) && !s.suppressed i }
  else c

/-- The strike valve outputs are suppressed or restored (R127, R158). -/
def State.showOutputs (s : State) : State :=
  { s with tcu := Bank.tabulate fun i => s.showOutput i }

/-- The line mode takes a value, and the blocks follow (R158). -/
def State.changeMode (m : LineMode) (s : State) : State :=
  ({ s with lsv := { s.lsv with mode := m } }.showOutputs).fixTimers

/-- ECHO asks for START or REQUEST among the hold sources (R158 check 2). -/
def modeHeld (m : LineMode) (h : HoldSources) : Bool :=
  decide (m ≠ .echo) || h.start || h.request

/-- SET MODE, checks 2 and 3 (R158). The mode already in force is taken and changes nothing. -/
def State.setModeChecked (m : LineMode) (s : State) : State × Reply :=
  if s.lsv.lineState = .held ∧ modeHeld m s.lsv.holds then
    if s.bookCount = 0 then
      doneWith (if s.lsv.mode = m then s else s.changeMode m)
    else refuse .state s
  else refuse .state s

/-- SET MODE (R158). -/
def State.setMode (modeByte : Byte) (s : State) : State × Reply :=
  match readLineMode modeByte with
  | none => refuse .range s
  | some m => s.setModeChecked m

/-- SET_MODE: acted on in every line mode (R158, R199). -/
def execSetMode (tag modeByte : Byte) (s : State) : Outcome :=
  takeRequest (lineControlFrame 4 tag modeByte) (State.setMode modeByte) s

/-! ## The Recovery Record (R169 to R171) -/

/-- The record is frozen, if it is not (R170). -/
def RecoveryRecord.freeze (why : FreezeReason) (r : RecoveryRecord) : RecoveryRecord :=
  if r.retentionValid then r else { r with retentionValid := true, freezeReason := some why }

/-- The record takes a value. -/
def State.setRecord (r : RecoveryRecord) (s : State) : State :=
  { s with lsv := { s.lsv with record := r } }

/-- The record is frozen, if it is not (R170). -/
def State.freeze (why : FreezeReason) (s : State) : State := s.setRecord (s.lsv.record.freeze why)

/-- A record that follows the Book Table and the live last exit (R169). -/
def State.followingRecord (s : State) : RecoveryRecord :=
  { slots := Bank.map (fun b => b.map RecordSlot.ofBook) s.si.books, lastExit := s.lsv.liveExit,
    freezeReason := none, retentionValid := false }

/-- Recovery Clear: no change if the record is not frozen (R171). -/
def State.recoveryClear (s : State) : State :=
  if s.lsv.record.retentionValid then s.setRecord s.followingRecord else s

/-- RECOVERY_CLEAR (R171). -/
def execRecoveryClear (tag : Byte) (s : State) : Outcome :=
  takeRequest ⟨0x12, tag, []⟩ (fun s => doneWith s.recoveryClear) s

/-- A record slot as sent (11.5, R205). -/
def recordBytes : Option RecordSlot → List Byte
  | none => List.replicate 9 0
  | some x =>
    [1] ++ halfBytes x.id ++ [natByte x.format.val, natByte x.placed, natByte x.liftsClosed,
      natByte x.liftsPunched, x.stage.code, faultCode x.fault]

/-- The last exit as sent (11.5, R205). -/
def exitBytes : Option Exit → List Byte
  | none => [0, 0, 0, 0]
  | some e => [1] ++ halfBytes e.book ++ [e.outcome.code]

/-- The answer of Recovery Read (R171, 11.5). -/
def RecoveryRecord.data (i : Slot) (r : RecoveryRecord) : List Byte :=
  recordBytes (Bank.read r.slots i) ++ exitBytes r.lastExit
    ++ [freezeCode r.freezeReason, flagByte r.retentionValid]

/-- The answer to a Recovery Read (R171). -/
def State.recoveryReply (slot : Byte) (s : State) : Reply :=
  match readIndex 8 slot with
  | none => .refuse .range
  | some i => ⟨.done, s.lsv.record.data i⟩

/-- RECOVERY_READ (R171): no state changes. -/
def execRecoveryRead (tag slot : Byte) (s : State) : Outcome :=
  takeRequest ⟨0x11, tag, [slot]⟩ (fun s => (s, s.recoveryReply slot)) s

/-! ## LINE RESET (R173 and each block's rule) -/

/-- Notices and books are removed; registration starts afresh; the travel position is kept (R24). -/
def SheetIntake.lineReset (si : SheetIntake) : SheetIntake :=
  { SheetIntake.reset with travel := si.travel, window := si.window }

/-- Reference counts fall to 0 with promotion (R64). -/
def FormatEntry.lineReset (e : FormatEntry) : FormatEntry := { e with refCount := 0 }.promote

/-- The tables are kept, but for reference counts and promotion (R64). -/
def TableStore.lineReset (t : TableStore) : TableStore :=
  { t with formats := Bank.map FormatEntry.lineReset t.formats }

/-- The bed is emptied and strikes are abandoned; FAULTED, history and begins are kept (R93). -/
def StrikeScheduler.lineReset (x : StrikeScheduler) : StrikeScheduler :=
  { x with bed := none, drives := Bank.map DriveRecord.abandon x.drives }

/-- A channel at a Line Reset (R134). -/
def Channel.lineReset (c : Channel) : Channel := c.quiet.dropCaptures

/-- The gather and finish records are emptied; the bit life is kept (R157). -/
def FinishUnit.lineReset (f : FinishUnit) : FinishUnit := { f with gather := none, finish := none }

/-- The slots of the record follow the emptied Book Table, if the record is not frozen (R169). -/
def LineSupervisor.mirrorEmpty (l : LineSupervisor) : LineSupervisor :=
  if l.record.retentionValid then l
  else { l with record := { l.record with slots := Vector.replicate 8 none } }

/-- Hold sources after a Line Reset (R173 step 3, R160): in SAFE_STOP, START is added and the sources
withdrawn with their orders and block go; otherwise START alone, with DRIVE_HOT if any drive is Hot. -/
def State.holdsAfterReset (s : State) : HoldSources :=
  if s.lsv.lineState = .safeStop then
    { s.lsv.holds with start := true, bitWorn := false, stationWait := false }
  else ⟨true, false, false, s.anyHot, false⟩

/-- The line state after a Line Reset (R173 step 3). -/
def LineState.afterReset (l : LineState) : LineState := if l = .safeStop then .safeStop else .held

/-- Every block carries out its Line Reset rule (R173 step 2). -/
def State.resetBlocks (s : State) : State :=
  { s with
    si := s.si.lineReset
    lb := LiftBuilder.reset
    ts := s.ts.lineReset
    ss := s.ss.lineReset
    orders := Vector.replicate 6 none
    pc := s.pc.lineReset
    tcu := Bank.map Channel.lineReset s.tcu
    fu := s.fu.lineReset
    lsv := { s.lsv.mirrorEmpty with
      holds := s.holdsAfterReset
      lineState := s.lsv.lineState.afterReset } }

/-- The levels that a Line Reset may change, reported in the order of their numbers (R189; log 12). -/
def State.reportAfterReset (s : State) : State :=
  let s := s.reportLevel .registration false
  let s := s.syncPause
  let s := s.reportLevel .held (decide (s.lsv.lineState = .held))
  let s := s.reportLevel .bitWorn false
  s.reportLevel .stationWait false

/-- Line Reset (R173). -/
def State.lineReset (s : State) : State :=
  (((s.freeze .lineReset).resetBlocks).reportAfterReset).fixTimers

/-- LINE_RESET (R173). -/
def execLineReset (tag modeByte : Byte) (s : State) : Outcome :=
  takeRequest (lineControlFrame 5 tag modeByte) (fun s => doneWith s.lineReset) s

/-! ## BIT CHANGED (R145) -/

/-- The bit life takes a value. -/
def State.setBitLife (n : Nat) (s : State) : State := { s with fu := { s.fu with bitLife := n } }

/-- The drill holes of the book in a slot. -/
def State.drillHoles (i : Slot) (s : State) : Nat := (s.bookFormat i).elim 0 Format.drillHoles

/-- A block for the bit is dealt with afresh (R144): the mark is cleared and the DRILL step starts
again; in SAFE_STOP a step that could start waits for STOP CLEAR (R154; log 14). -/
def State.retryDrill (f : Finish) (s : State) : State :=
  let s := s.unblock f
  if s.lsv.lineState = .safeStop ∧ s.drillHoles f.book ≤ s.fu.bitLife then s
  else s.startDrill { f with bitWait := false }

/-- A book blocked for the bit, if there is one, is dealt with (R144). -/
def State.retryBlocked (s : State) : State :=
  match s.fu.finish with
  | none => s
  | some f => if f.bitWait then s.retryDrill f else s

/-- BIT CHANGED (R145). -/
def State.bitChanged (life : Half) (s : State) : State × Reply :=
  if 20000 < life.toNat then refuse .range s
  else if s.issued .drill then refuse .busy s
  else doneWith ((s.setBitLife life.toNat).retryBlocked).testRest

/-- BIT_CHANGED (R145). -/
def execBitChanged (tag : Byte) (life : Half) (s : State) : Outcome :=
  takeRequest ⟨0x10, tag, halfBytes life⟩ (State.bitChanged life) s

/-! ## Guard and power warning (R166) -/

/-- The inputs take a value. -/
def State.setInputs (x : Inputs) (s : State) : State := { s with inputs := x }

/-- An event that brings an input level: the level is recorded always; while the Reset input is
asserted nothing else follows (R172; log 9). -/
def takeLevel (record act : State → State) (s : State) : Outcome :=
  .next (if s.resetAsserted then record s else act (record s))

/-- The Guard input takes a level. -/
def State.recordGuard (closed : Bool) (s : State) : State :=
  s.setInputs { s.inputs with guardClosed := closed }

/-- GUARD_OPEN: no event if the guard is open already (R166; log 3). -/
def execGuardOpen (s : State) : Outcome :=
  takeLevel (State.recordGuard false)
    (fun t => if s.inputs.guardClosed then t.addCause .guard else t) s

/-- GUARD_CLOSE: the level alone changes (R166). -/
def execGuardClose (s : State) : Outcome := takeLevel (State.recordGuard true) (fun t => t) s

/-- The Power Warning input takes a level. -/
def State.recordWarning (on : Bool) (s : State) : State :=
  s.setInputs { s.inputs with powerWarning := on }

/-- Power Warning is asserted: the record is frozen as it stood before (R170), the condition is present
and the cause is added (R166). -/
def State.powerWarning (s : State) : State :=
  ((s.freeze .powerWarning).reportLevel .powerWarning true).addCause .powerWarning

/-- POWER_WARNING_ASSERT: no event if it is asserted already (R166; log 3). -/
def execPowerWarningAssert (s : State) : Outcome :=
  takeLevel (State.recordWarning true)
    (fun t => if s.inputs.powerWarning then t else t.powerWarning) s

/-- POWER_WARNING_RELEASE: the condition is absent; the cause stays (R166). -/
def execPowerWarningRelease (s : State) : Outcome :=
  takeLevel (State.recordWarning false) (State.reportLevel .powerWarning false) s

end Sys2Proof.Machine
end

