-- ==== Sys2Proof/Machine/Stations.lean ====
section
/-! DEFINITION. The events of the station orders (R68 to R70) and of the punch bed (chapter 4). -/

namespace Sys2Proof.Machine

open Sys2Proof

/-! ## Station orders (R68 to R70) -/

/-- The Ready input of a station takes a level. -/
def State.recordReady (st : Station) (present : Bool) (s : State) : State :=
  s.setInputs { s.inputs with ready := Bank.write s.inputs.ready (stationIndex st) present }

/-- The order as it is once its Ready is present: a waiting order is issued (R68). -/
def State.issueOrder (o : Order) (s : State) : Order :=
  if o.isIssued then o else { o with phase := s.issuePhase o.job }

/-- A waiting order of the station is issued; an overdue one stops being overdue (R68, R69). -/
def State.issueWaiting (st : Station) (s : State) : State :=
  (s.setOrder st ((s.order st).map fun o => s.issueOrder o)).syncStationWait

/-- STATION_READY: a level that drops has no effect on an issued order (R68; log 8). -/
def execStationReady (station : Station) (present : Bool) (s : State) : Outcome :=
  takeLevel (State.recordReady station present)
    (fun s => if present then s.issueWaiting station else s) s

/-- The order has waited longer than its Ready Wait (R69). -/
def Order.waitPassed (now : Nat) (o : Order) : Bool :=
  match o.phase with
  | .issued _ => false
  | .waiting since wait overdue => !overdue && decide (wait < now - since)

/-- The order is marked overdue (R69). -/
def Order.makeOverdue (o : Order) : Order :=
  match o.phase with
  | .issued _ => o
  | .waiting since wait _ => { o with phase := .waiting since wait true }

/-- The Ready Wait of the station's order has passed. -/
def State.waitDue (st : Station) (s : State) : Bool := (s.order st).any (Order.waitPassed s.nowMs)

/-- An order becomes overdue (R69). -/
def State.readyWaitExpiry (st : Station) (s : State) : State :=
  if s.waitDue st then
    (s.setOrder st ((s.order st).map Order.makeOverdue)).syncStationWait
  else s

/-- READY_WAIT_EXPIRY (R69). -/
def execReadyWaitExpiry (station : Station) (s : State) : Outcome :=
  takeEvent (State.readyWaitExpiry station) s

/-- The order's timeout has expired (R70). -/
def Order.timedOut (now : Nat) (o : Order) : Bool :=
  match o.phase with
  | .issued ends => decide (ends ≤ now)
  | .waiting _ _ _ => false

/-- The timeout of the station's order has expired. -/
def State.orderDue (st : Station) (s : State) : Bool := (s.order st).any (Order.timedOut s.nowMs)

/-- An order times out: cause JAM; Safe Stop abandons the order (R70, R90, R155). -/
def State.orderTimeout (st : Station) (s : State) : State :=
  if s.orderDue st then s.addCause .jam else s

/-- ORDER_TIMEOUT (R70). -/
def execOrderTimeout (station : Station) (s : State) : Outcome :=
  takeEvent (State.orderTimeout station) s

/-- A confirmation taken while no order of its job is issued is no event (R68). -/
def State.confirm (j : Job) (act : State → State) (s : State) : State :=
  if s.issued j then (act (s.endOrder j.station)).testRest else s

/-! ## The bed (R71 to R76) -/

/-- The bed transfer is ordered if it is due (R71). -/
def State.orderBedTransfer (s : State) : State :=
  if s.bedTransferDue then s.takeOldestLift.makeOrder .bedTransfer else s

/-- BED_TRANSFER_ORDER (R71). -/
def execBedTransferOrder (s : State) : Outcome := takeEvent State.orderBedTransfer s

/-- The lift in transit arrives (R72). -/
def State.liftArrives (s : State) : State :=
  match s.ss.bed with
  | none => s
  | some b => s.arriveOnBed b

/-- BED_ARRIVAL (R72). -/
def execBedArrival (s : State) : Outcome := takeEvent (State.confirm .bedTransfer State.liftArrives) s

/-! ## Strikes (R80 to R85) -/

/-- A strike begins on the lowest-numbered eligible drive, if there is one (R80, R81). -/
def State.strikeBegin (s : State) : State :=
  match s.nextStrike with
  | none => s
  | some d => s.beginStrike d

/-- STRIKE_BEGIN (R80, R81). -/
def execStrikeBegin (s : State) : Outcome := takeEvent State.strikeBegin s

/-- STROKE_DONE (R82, R85). -/
def execStrokeDone (drive : DriveId) (s : State) : Outcome :=
  takeEvent (fun s => (s.strokeDone drive).testRest) s

/-- The stroke timeout of the drive's strike has expired (R83). -/
def State.strokeDue (d : DriveId) (s : State) : Bool :=
  (s.drive d).strike.any fun k => decide (k.timeoutAt ≤ s.nowMs)

/-- A strike times out: the drive is FAULTED and JAM is reported; Safe Stop abandons the strike (R83,
R90). -/
def State.strokeTimeout (d : DriveId) (s : State) : State :=
  if s.strokeDue d then (s.setDrive d { s.drive d with faulted := true }).addCause .jam else s

/-- STROKE_TIMEOUT (R83). -/
def execStrokeTimeout (drive : DriveId) (s : State) : Outcome :=
  takeEvent (State.strokeTimeout drive) s

/-! ## From the bed to the gather position (R86 to R88) -/

/-- The standing out request is put to the Finish Unit, which answers it (R86, R136). -/
def State.outRequest (s : State) : State :=
  match s.ss.bed with
  | none => s
  | some b => if s.outRequestStands then (s.answerOutRequest b).testRest else s

/-- OUT_REQUEST (R86, R136). -/
def execOutRequest (s : State) : Outcome := takeEvent State.outRequest s

/-- The out transfer is to be ordered: the lift is accepted, no order of the shuttle is in progress and
the line is not in Safe Stop (R86). -/
def State.outTransferDue (s : State) : Bool :=
  (s.ss.bed.any Bed.accepted) && (s.order .bedShuttle).isNone
    && decide (s.lsv.lineState ≠ .safeStop)

/-- The out transfer is ordered if it is due (R86). -/
def State.orderOutTransfer (s : State) : State :=
  if s.outTransferDue then s.makeOrder .outTransfer else s

/-- OUT_TRANSFER_ORDER (R86). -/
def execOutTransferOrder (s : State) : Outcome := takeEvent State.orderOutTransfer s

/-- The bed lift arrives at the gather position (R87). -/
def State.liftGathered (s : State) : State :=
  match s.ss.bed with
  | none => s
  | some b => s.handOver b

/-- GATHER_ARRIVAL (R87). -/
def execGatherArrival (s : State) : Outcome :=
  takeEvent (State.confirm .outTransfer State.liftGathered) s

/-- BED_DWELL_LIMIT_EXPIRY (R88). -/
def execBedDwellLimitExpiry (s : State) : Outcome := takeEvent State.testDwell s

end Sys2Proof.Machine
end

