-- ==== Sys2Proof/Machine/Purging.lean ====
section
/-! DEFINITION. The Purge Controller's events (chapter 5). -/

namespace Sys2Proof.Machine

open Sys2Proof

/-! ## Accrual (R96 to R98) -/

/-- The drive's quarter interval has been counted and its timer runs (R96, R99). -/
def State.quarterDue (d : DriveId) (s : State) : Bool :=
  !s.timerSuspended d && (s.account d).length.any fun n => decide (n ≤ (s.account d).elapsed)

/-- The amount an expiry adds to the drive's debt (R97). -/
def State.accrued (d : DriveId) (s : State) : Int :=
  (s.account d).debt + (s.account d).temperature.accrual

/-- The account after an expiry: the debt given, and a new interval of the length given (R96). -/
def State.nextInterval (d : DriveId) (debt : Int) (length : Option Nat) (s : State) : DriveAccount :=
  { s.account d with debt, elapsed := 0, length }

/-- The debt takes a value, a new interval begins, and the Forced condition is tested (R96, R104). -/
def State.setDebtAtExpiry (d : DriveId) (debt : Int) (length : Option Nat) (s : State) : State :=
  (s.setAccount d (s.nextInterval d debt length)).syncForced

/-- The length that an interval which runs at once has, fixed from the base interval then in the table
(R96). -/
def State.lengthNow (d : DriveId) (s : State) : Option Nat :=
  some (Bank.read s.ts.drives d).quarterInterval

/-- A quarter interval expires: the debt accrues, or the purge is overdue (R97, R98). The interval that
begins at an overdue is suspended from its start by the Safe Stop, so its length is fixed when it is
first released (R96, R98). -/
def State.quarterExpiry (d : DriveId) (s : State) : State :=
  if s.quarterDue d then
    if s.accrued d ≤ 32 then s.setDebtAtExpiry d (s.accrued d) (s.lengthNow d)
    else ((s.setDebtAtExpiry d 32 none).occur .purgeOverdue).addCause .purgeOverdue
  else s

/-- QUARTER_INTERVAL_EXPIRY (R97). -/
def execQuarterIntervalExpiry (drive : DriveId) (s : State) : Outcome :=
  takeEvent (State.quarterExpiry drive) s

/-! ## Grant and end (R106, R107) -/

/-- PURGE_GRANT: a standing request is granted if it can be (R67, R106). -/
def execPurgeGrant (drive : DriveId) (s : State) : Outcome := takeEvent (State.tryGrant drive) s

/-- A purge ends and pays (R107). A drive disabled while PURGING takes DISABLED now, and turns the bed lift
into a PASS lift if it is outstanding (R66, R74, R109; log 31). -/
def State.payPurge (d : DriveId) (p : Purge) (s : State) : State :=
  let s := s.setAccount d
    { s.account d with debt := (s.account d).debt - p.payment, purge := none }
  let s := s.cutDisabled
  let s := if s.lsv.mode = .run then s.count (.purges d) else s
  s.syncForced.testRest

/-- A purge ends at its end time; otherwise no event (R107, R108). -/
def State.purgeEnd (d : DriveId) (s : State) : State :=
  match (s.account d).purge with
  | none => s
  | some p => if p.endAt ≤ s.nowMs then s.payPurge d p else s

/-- PURGE_END (R107). -/
def execPurgeEnd (drive : DriveId) (s : State) : Outcome := takeEvent (State.purgeEnd drive) s

/-! ## Temperature and air (R100, R101) -/

/-- The temperature lines of a drive take a combination. -/
def State.recordTemperature (d : DriveId) (r : TempReading) (s : State) : State :=
  s.setInputs { s.inputs with temperature := Bank.write s.inputs.temperature d r }

/-- The temperature state follows the input, and DRIVE_HOT follows it (R100). -/
def State.setTemperature (d : DriveId) (t : Temperature) (s : State) : State :=
  ((s.setAccount d { s.account d with temperature := t }).syncHot).testRest

/-- TEMPERATURE_CHANGE (R100). -/
def execTemperatureChange (drive : DriveId) (reading : TempReading) (s : State) : Outcome :=
  takeLevel (State.recordTemperature drive reading)
    (State.setTemperature drive (TempReading.temperature reading)) s

/-- The Purge Air input takes a level. -/
def State.recordAir (present : Bool) (s : State) : State :=
  s.setInputs { s.inputs with purgeAir := present }

/-- The air state follows the input: AIR_LOW follows; on loss purges are abandoned and the line is tested
for rest, since a drive's state has changed (R161); on return standing requests are granted (R101, R108;
log 21). -/
def State.setAir (present : Bool) (s : State) : State :=
  let s := { s with pc := { s.pc with air := present } }
  let s := s.reportLevel .airLow (!present)
  if present then s.grantAll else s.stopPurges.testRest

/-- PURGE_AIR_CHANGE (R101); no event if the level is the one already taken (log 3). -/
def execPurgeAirChange (present : Bool) (s : State) : Outcome :=
  takeLevel (State.recordAir present)
    (fun s => if s.pc.air = present then s else s.setAir present) s

end Sys2Proof.Machine
end

