-- ==== Sys2Proof/Machine/Exit.lean ====
section
/-! DEFINITION. The Finish Unit's events (chapter 7). -/

namespace Sys2Proof.Machine

open Sys2Proof

/-- The book at the gather position goes to the finish position (R141). -/
def State.transferBook (i : Slot) (s : State) : State :=
  let s := s.setFinish (some (Finish.transfer i))
  let s := s.modifyBook i (Book.advance .gathered .finishing)
  s.makeOrder .finishTransfer

/-- The finish transfer is ordered if it is due (R141). -/
def State.orderFinishTransfer (s : State) : State :=
  match s.fu.gather with
  | none => s
  | some g => if s.finishTransferDue then s.transferBook g.book else s

/-- FINISH_TRANSFER_ORDER (R141). -/
def execFinishTransferOrder (s : State) : Outcome := takeEvent State.orderFinishTransfer s

/-- What happens to the finish book, if there is one. -/
def State.onFinish (act : Finish → State → State) (s : State) : State :=
  match s.fu.finish with
  | none => s
  | some f => act f s

/-- The finish transfer is confirmed: the gather record is emptied and the sequence begins (R142). -/
def State.bookArrives (s : State) : State := s.emptyGather.onFinish State.enterFinish

/-- FINISH_TRANSFER_DONE (R142). -/
def execFinishTransferDone (s : State) : Outcome :=
  takeEvent (State.confirm .finishTransfer State.bookArrives) s

/-- DRILL_DONE (R143). -/
def execDrillDone (s : State) : Outcome :=
  takeEvent (State.confirm .drill (State.onFinish State.holeDrilled)) s

/-- The HANGER step ends: a faulted book goes to EXIT, any other to CLOSE (R147, R148). -/
def State.hangerSet (f : Finish) (s : State) : State :=
  if s.bookFaulted f.book then s.startExit f else s.startClose f

/-- HANGER_DONE (R147). -/
def execHangerDone (s : State) : Outcome :=
  takeEvent (State.confirm .hanger (State.onFinish State.hangerSet)) s

/-- CLOSER_DONE: the CLOSE step ends and EXIT starts (R147, R149). -/
def execCloserDone (s : State) : Outcome :=
  takeEvent (State.confirm .closer (State.onFinish State.startExit)) s

/-- The exit transfer is confirmed: a held edge passes the book at once, otherwise the exit run begins
(R149, R150). -/
def State.bookOnExit (f : Finish) (s : State) : State :=
  if f.exitEdgeHeld then s.passBook f
  else s.setFinish (some
    { f with step := .exitRun, exitRunEnd := some (s.nowMs + s.ts.settings.exitTimeout) })

/-- EXIT_TRANSFER_DONE (R149). -/
def execExitTransferDone (s : State) : Outcome :=
  takeEvent (State.confirm .exitTransfer (State.onFinish State.bookOnExit)) s

/-- The exit run timer has expired (R149). -/
def State.exitRunDue (s : State) : Bool :=
  s.fu.finish.any fun f =>
    decide (f.step = .exitRun) && f.exitRunEnd.any fun t => decide (t ≤ s.nowMs)

/-- The exit run times out: cause JAM (R149). -/
def State.exitRunTimeout (s : State) : State := if s.exitRunDue then s.addCause .jam else s

/-- EXIT_RUN_TIMEOUT (R149). -/
def execExitRunTimeout (s : State) : Outcome := takeEvent State.exitRunTimeout s

/-- An edge of the exit sensor, by the finish step (R150). -/
def State.exitEdge (f : Finish) (s : State) : State :=
  match f.step with
  | .transferIn => s
  | .drill => s
  | .feed => s
  | .hanger => s
  | .close => s
  | .exit => if s.issued .exitTransfer then s.setFinish (some { f with exitEdgeHeld := true }) else s
  | .exitRun => s.passBook f

/-- EXIT_SENSOR_EDGE (R150). -/
def execExitSensorEdge (s : State) : Outcome :=
  takeEvent (fun s => (s.onFinish State.exitEdge).testRest) s

end Sys2Proof.Machine
end

