-- ==== Sys2Proof/Machine/Resets.lean ====
section
/-! DEFINITION. The Reset input and power-on (R172, with R23, R44, R63, R92, R112, R133, R156, R188,
R200). -/

namespace Sys2Proof.Machine

open Sys2Proof

/-- The Purge Controller after a reset: temperatures and air as the inputs read (R112). -/
def PurgeController.read (x : Inputs) : PurgeController :=
  { drives := Bank.map (fun r => DriveAccount.reset (TempReading.temperature r)) x.temperature, air := x.purgeAir }

/-- The hold sources after a reset, but for DRIVE_HOT (R172). -/
def HoldSources.startAlone : HoldSources := ⟨true, false, false, false, false⟩

/-- The Line Supervisor after a reset, with the record as given (R172). -/
def LineSupervisor.afterReset (r : RecoveryRecord) : LineSupervisor :=
  { mode := .run, lineState := .held, moved := false, holds := HoldSources.startAlone,
    causes := StopCauses.none, record := r, liveExit := none }

/-- Every block at its values after power-on and the Reset input, with the record as given. Time goes
on, and the commands that wait stay. -/
def State.blocksReset (r : RecoveryRecord) (s : State) : State :=
  { s with
    travelOwed := 0
    lp := LinkPort.reset
    si := SheetIntake.reset
    lb := LiftBuilder.reset
    ts := TableStore.reset
    ss := StrikeScheduler.reset
    orders := Vector.replicate 6 none
    pc := PurgeController.read s.inputs
    tcu := Vector.replicate 9 Channel.reset
    fu := FinishUnit.reset
    lm := LineMonitor.reset
    lsv := LineSupervisor.afterReset r }

/-- The causes that the inputs present at the end of a reset (R172). -/
def causesFrom (x : Inputs) : StopCauses :=
  { StopCauses.none with guard := !x.guardClosed, powerWarning := x.powerWarning }

/-- SAFE_STOP if the guard is open or Power Warning is asserted, HELD otherwise (R172). -/
def lineStateFrom (x : Inputs) : LineState :=
  if !x.guardClosed || x.powerWarning then .safeStop else .held

/-- The record at the end of a reset: an asserted Power Warning is taken as an assertion (R172). -/
def freezeFrom (x : Inputs) (r : RecoveryRecord) : RecoveryRecord :=
  if x.powerWarning then r.freeze .powerWarning else r

/-- The line state, hold sources, causes and record from the inputs (R172). -/
def State.superviseInputs (s : State) : State :=
  { s with lsv :=
    { s.lsv with
      lineState := lineStateFrom s.inputs
      holds := { HoldSources.startAlone with driveHot := s.anyHot }
      causes := causesFrom s.inputs
      record := freezeFrom s.inputs s.lsv.record } }

/-- The level of a condition as its owner has it (R180). -/
def State.levelOf (c : Condition) (s : State) : Bool :=
  match c with
  | .registration => decide (s.si.registration = .lost)
  | .pause => s.pausePresent
  | .held => decide (s.lsv.lineState = .held)
  | .driveHot => s.anyHot
  | .driveForced => s.anyForced
  | .airLow => !s.pc.air
  | .bitWorn => s.fu.finish.any Finish.bitWait
  | .stationWait => s.anyOverdue
  | .safeStop => decide (s.lsv.lineState = .safeStop)
  | .powerWarning => s.inputs.powerWarning
  | .bedDwell => false
  | .purgeOverdue => false
  | .triggerOverrun => false
  | .counterOverflow => false
  | .linkError => false

/-- The level conditions in the order of their numbers (R180). -/
def levelConditions : List Condition :=
  [.registration, .pause, .held, .driveHot, .driveForced, .airLow, .bitWorn, .stationWait, .safeStop,
    .powerWarning]

/-- Every level is taken from its owner (R188). -/
def State.takeLevels (s : State) : State :=
  levelConditions.foldl (fun s c => s.reportLevel c (s.levelOf c)) s

/-- The end of a reset (R172, R188). -/
def State.bringUp (s : State) : State :=
  ((s.blocksReset s.lsv.record).superviseInputs).takeLevels

/-- The Reset input is asserted: the record is frozen, then the blocks are reset (R170, R172). -/
def State.assertReset (s : State) : State :=
  { s.blocksReset (s.lsv.record.freeze .resetInput) with resetAsserted := true }

/-- RESET_INPUT_ASSERT: no event if it is asserted already (log 3). -/
def execResetInputAssert (s : State) : Outcome := takeEvent State.assertReset s

/-- The Reset input is released (R172). -/
def State.releaseReset (s : State) : State := { s with resetAsserted := false }.bringUp

/-- RESET_INPUT_RELEASE: no event if it is not asserted (log 3). -/
def execResetInputRelease (s : State) : Outcome :=
  .next (if s.resetAsserted then s.releaseReset else s)

/-- The record at power-on: kept if it was frozen and the standby supply has held, else cleared
(R172). -/
def RecoveryRecord.atPowerOn (standbyHeld : Bool) (r : RecoveryRecord) : RecoveryRecord :=
  if r.retentionValid && standbyHeld then r else RecoveryRecord.cleared

/-- Power-on with the inputs found (R172; log 7): the blocks are reset, and unless the Reset input is
asserted the part comes up. -/
def State.powerOn (x : Inputs) (s : State) : State :=
  let s := { s with inputs := x }
  let s := s.blocksReset (s.lsv.record.atPowerOn x.standbyHeld)
  if s.resetAsserted then s else s.bringUp

/-- POWER_ON (R172). -/
def execPowerOn (inputs : Inputs) (s : State) : Outcome := .next (s.powerOn inputs)

end Sys2Proof.Machine
end

