-- ==== Sys2Proof/Machine/Link.lean ====
section
/-! DEFINITION. The Link Port's commands (chapter 10): frames that are no known request, the frame
limit, the return lane, and the receiver character by character. -/

namespace Sys2Proof.Machine

open Sys2Proof

/-- The meaning of a request; a command that is no request has none here. -/
def execRequest (i : Instr) (s : State) : Outcome :=
  match i with
  | .sheetNotice t b l k x f => execSheetNotice t b l k x f s
  | .bookOpen t b f d => execBookOpen t b f d s
  | .bookCancel t b => execBookCancel t b s
  | .tableWrite t x e c => execTableWrite t x e c s
  | .tableRead t x e c => execTableRead t x e c s
  | .channelSet t c m x n w b => execChannelSet t c m x n w b s
  | .channelCount t c n w b => execChannelCount t c n w b s
  | .capture t c x => execCapture t c x s
  | .channelRead t c => execChannelRead t c s
  | .counterTransfer t => execCounterTransfer t s
  | .counterRead t => execCounterRead t s
  | .eventSetup t a b => execEventSetup t a b s
  | .eventClear t a => execEventClear t a s
  | .statusRead t p => execStatusRead t p s
  | .hold t m => execHold t m s
  | .resume t m => execResume t m s
  | .stop t m => execStop t m s
  | .stopClear t m => execStopClear t m s
  | .setMode t m => execSetMode t m s
  | .lineReset t m => execLineReset t m s
  | .bitChanged t l => execBitChanged t l s
  | .recoveryRead t i => execRecoveryRead t i s
  | .recoveryClear t => execRecoveryClear t s
  | _ => .next s

/-- A frame that has passed check 1 of R192 is taken by what it turns out to be (R192, R193). Its
payload cannot exceed 56 bytes (R190). -/
def takeFrame (f : Frame) (s : State) : Outcome :=
  if 56 < f.payload.length then takeEvent State.linkError s
  else
    match f.received with
    | .request i => execRequest i s
    | .badSubcommand => takeRequest f (refuse .range) s
    | .badLength => takeEvent State.linkError s
    | .unknownKind => takeRequest f (refuse .unknown) s

/-- UNKNOWN_KIND_FRAME: answered UNKNOWN (R192 check 3); a kind that is known after all is taken as
what it is (log 23). -/
def execUnknownKindFrame (kind tag : Byte) (payload : List Byte) (s : State) : Outcome :=
  takeFrame ⟨kind, tag, payload⟩ s

/-- DAMAGED_FRAME (R192). -/
def execDamagedFrame (s : State) : Outcome := takeEvent State.linkError s

/-- ECHO_RETURN: returned in ECHO (R199); in another mode the frame is taken as what it is (log 23). -/
def execEchoReturn (kind tag : Byte) (payload : List Byte) (s : State) : Outcome :=
  takeFrame ⟨kind, tag, payload⟩ s

/-- The 2 ms of R191 have passed since the last character; one unit of time is 0.1 ms. -/
def Receiver.broken (now : Nat) : Receiver → Bool
  | .hunting => false
  | .receiving _ _ lastAt => decide (lastAt + 20 ≤ now)

/-- A broken frame is discarded (R191). -/
def State.frameBreak (s : State) : State :=
  if s.lp.receiver.broken s.time then s.linkError else s

/-- FRAME_BREAK_TIMEOUT (R191). -/
def execFrameBreakTimeout (s : State) : Outcome := takeEvent State.frameBreak s

/-- The oldest frame has been sent whole and leaves (R195, R203). -/
def LinkPort.sent (l : LinkPort) : LinkPort :=
  match l.queue with
  | [] => l
  | u :: rest => { l with queue := rest, laneOut := u.frame.bytes }

/-- FRAME_SENT: no event if the queue is empty (R195; log 3, log 11). -/
def execFrameSent (s : State) : Outcome := takeEvent (fun s => s.setLp s.lp.sent) s

/-! ## The receiver (R190) -/

/-- The start character. -/
def startCharacter : Byte := 0x5A#8

/-- A complete frame is checked and taken (R192, R203). -/
def takeCharacters (characters : List Byte) (bad : Bool) (s : State) : Outcome :=
  match characters with
  | _ :: len :: kind :: tag :: rest =>
    let f : Frame := ⟨kind, tag, rest.take len.toNat⟩
    if !bad && decide (rest.drop len.toNat = halfBytes (crc f.covered)) then takeFrame f s
    else takeEvent State.linkError s
  | _ => takeEvent State.linkError s

/-- The frame holds 4 + length + 2 characters (R190). -/
def frameComplete (characters : List Byte) : Bool :=
  match characters with
  | _ :: len :: rest => decide (rest.length = len.toNat + 4)
  | _ => false

/-- The receiver takes a value. -/
def State.setReceiver (r : Receiver) (s : State) : State :=
  s.setLp { s.lp with receiver := r }

/-- A character in HUNTING (R190). -/
def State.hunt (c : Byte) (framingError : Bool) (s : State) : State :=
  if c = startCharacter ∧ framingError = false then
    s.setReceiver (.receiving [c] false s.time)
  else s

/-- The character is a length character above 56 (R190). -/
def lengthTooGreat (c : Byte) (characters : List Byte) : Bool :=
  decide (characters.length = 1) && decide (56 < c.toNat)

/-- A character in RECEIVING (R190). -/
def takeInFrame (c : Byte) (framingError : Bool) (characters : List Byte) (bad : Bool) (s : State) :
    Outcome :=
  if lengthTooGreat c characters then takeEvent State.linkError s
  else
    let characters := characters ++ [c]
    let bad := bad || framingError
    if frameComplete characters then takeCharacters characters bad s
    else takeEvent (State.setReceiver (.receiving characters bad s.time)) s

/-- REQUEST_LANE_CHARACTER (R190). -/
def execRequestLaneCharacter (character : Byte) (framingError : Bool) (s : State) : Outcome :=
  match s.lp.receiver with
  | .hunting => takeEvent (State.hunt character framingError) s
  | .receiving characters bad _ => takeInFrame character framingError characters bad s

end Sys2Proof.Machine
end

