-- ==== Sys2Proof/Machine/Clock.lean ====
section
/-! DEFINITION. What the part does when no command waits: the events that have fallen due, one forward
travel count, or one unit of the reference timebase (log 1, log 2). -/

namespace Sys2Proof.Machine

open Sys2Proof

/-! ## Events that have fallen due -/

/-- The event, if its condition holds. -/
def dueIf (p : Bool) (i : Instr) : List Instr := if p then [i] else []

/-- The oldest notice has expired (R17). -/
def State.noticeDue (s : State) : Bool := s.si.notices.head?.any fun n => s.expired n

/-- The purge of the drive is at its end time (R107). -/
def State.purgeDone (d : DriveId) (s : State) : Bool :=
  (s.account d).purge.any fun p => decide (p.endAt ≤ s.nowMs)

/-- The out request is to be put to the Finish Unit: on release, and after the gather position has
changed (R86). -/
def State.askDue (s : State) : Bool := s.outRequestStands && s.ss.bed.any Bed.ask

/-- The due events of a station. -/
def State.dueStation (st : Station) (s : State) : List Instr :=
  dueIf (s.waitDue st) (.readyWaitExpiry st) ++ dueIf (s.orderDue st) (.orderTimeout st)

/-- The due events of a drive. -/
def State.dueDrive (d : DriveId) (s : State) : List Instr :=
  dueIf (s.strokeDue d) (.strokeTimeout d) ++ dueIf (s.quarterDue d) (.quarterIntervalExpiry d)
    ++ dueIf (s.purgeDone d) (.purgeEnd d) ++ dueIf (s.grantable d) (.purgeGrant d)

/-- The due events of a channel. -/
def State.dueChannel (i : ChannelId) (s : State) : List Instr :=
  let c := s.ch i
  dueIf (c.due .strobe .waiting) (.strobeWaitEnd i) ++ dueIf (c.due .strobe .active) (.strobePulseEnd i)
    ++ dueIf (c.due .soft .waiting) (.softWaitEnd i) ++ dueIf (c.due .soft .active) (.softPulseEnd i)

/-- The due events of the clamp and the wire feed. -/
def State.dueShaped (s : State) : List Instr :=
  dueIf s.dwellDue .holdDwellEnd ++ dueIf ((s.ch 6).due .pitch .active) .pitchPulseEnd
    ++ dueIf ((s.ch 6).due .pitch .waiting) .pitchPeriodBoundary

/-- The due events of the part's own work and timers. -/
def State.dueWork (s : State) : List Instr :=
  dueIf s.noticeDue .noticeExpiry ++ dueIf s.bedTransferDue .bedTransferOrder
    ++ dueIf s.nextStrike.isSome .strikeBegin ++ dueIf s.askDue .outRequest
    ++ dueIf s.outTransferDue .outTransferOrder ++ dueIf s.finishTransferDue .finishTransferOrder
    ++ dueIf s.dwellPassed .bedDwellLimitExpiry ++ dueIf s.exitRunDue .exitRunTimeout
    ++ dueIf s.reportDue .reportPeriodExpiry
    ++ dueIf (s.lp.receiver.broken s.time) .frameBreakTimeout

/-- Every event that has fallen due. -/
def State.dueEvents (s : State) : List Instr :=
  s.dueWork ++ s.dueShaped ++ stations.flatMap (fun st => s.dueStation st)
    ++ (List.finRange 5).flatMap (fun d => s.dueDrive d)
    ++ (List.finRange 9).flatMap (fun i => s.dueChannel i)

/-- One of the due events: the only one, or one that a free value picks (log 2). -/
def pickDue (free : Nat) (events : List Instr) : Option Instr :=
  match events with
  | [] => none
  | [i] => some i
  | _ => events[Config.pick free % events.length]?

/-- A choice has drawn a free value. -/
def State.drawn (s : State) : State :=
  if 1 < s.dueEvents.length then { s with free := s.free + 1 } else s

/-! ## Time and travel -/

/-- The countdown of the channel runs: a phase that is counted, and the gate released in HOLD (R116,
R119). -/
def Channel.counting (c : Channel) : Bool :=
  (decide (c.phase = .waiting) || decide (c.phase = .active))
    && !(decide (c.mode = .hold) && c.gate)

/-- One unit of a source is counted (R116). -/
def Channel.unit (x : Source) (c : Channel) : Channel :=
  if c.source = x ∧ c.counting then { c with countdown := c.countdown - 1 } else c

/-- One unit of a source is counted on every channel. -/
def State.countUnit (x : Source) (s : State) : State :=
  { s with tcu := Bank.map (Channel.unit x) s.tcu }

/-- One forward count of the conveyor (R17, R116). -/
def State.travelCount (s : State) : State :=
  { s.countUnit .travel with
    travelOwed := s.travelOwed - 1
    si := { s.si with travel := s.si.travel + 1, window := s.ts.settings.matchWindow } }

/-- A drive's quarter timer after one more millisecond (R96, R99). -/
def State.tickedAccount (d : DriveId) (s : State) : DriveAccount :=
  let a := s.account d
  if a.length.isSome && !s.timerSuspended d then { a with elapsed := a.elapsed + 1 } else a

/-- The report timer after one more millisecond (R178). -/
def State.tickedTimer (s : State) : Option ReportTimer :=
  if s.lsv.mode = .echo then s.lm.timer
  else s.lm.timer.map fun t => { t with elapsed := t.elapsed + 1 }

/-- One millisecond has been counted. -/
def State.millisecond (s : State) : State :=
  { s with
    pc := { s.pc with drives := Bank.tabulate fun d => s.tickedAccount d }
    lm := { s.lm with timer := s.tickedTimer } }

/-- Time goes on by one unit, and the encoder movement of the tick is taken in; a reverse movement is
not counted (R17; log 1). -/
def State.advance (s : State) : State :=
  { s with time := s.time + 1, encoder := s.encoder.tail,
           travelOwed := (s.encoder.headD 0).toNat }

/-- One unit of the reference timebase (R116; log 1). -/
def State.tick (s : State) : State :=
  let s := (s.countUnit .time).advance
  if s.time % 10 = 0 then s.millisecond else s

/-- The clock while the Reset input is asserted: time goes on, travel is not counted (log 9). -/
def State.resetTick (s : State) : State :=
  { s with time := s.time + 1, encoder := s.encoder.tail }

/-- Time or travel goes on when no event is due (log 1). -/
def State.goOn (s : State) : State := if 0 < s.travelOwed then s.travelCount else s.tick

end Sys2Proof.Machine
end

