-- ==== Sys2Proof/Machine/Dispatch.lean ====
section
/-! DEFINITION. The meaning of every command: one arm per row of the table of operations and events. -/

namespace Sys2Proof.Machine

open Sys2Proof

def exec (i : Instr) (s : State) : Host.Outcome State Fault Refusal :=
  match i with
  | .sheetNotice tag book leaf kind thickness flags => Sys2Proof.Machine.execSheetNotice tag book leaf kind thickness flags s
  | .bookOpen tag book format declared => Sys2Proof.Machine.execBookOpen tag book format declared s
  | .bookCancel tag book => Sys2Proof.Machine.execBookCancel tag book s
  | .tableWrite tag selector entry contents => Sys2Proof.Machine.execTableWrite tag selector entry contents s
  | .tableRead tag selector entry copy => Sys2Proof.Machine.execTableRead tag selector entry copy s
  | .channelSet tag channel mode source n w b => Sys2Proof.Machine.execChannelSet tag channel mode source n w b s
  | .channelCount tag channel n w b => Sys2Proof.Machine.execChannelCount tag channel n w b s
  | .capture tag channels selector => Sys2Proof.Machine.execCapture tag channels selector s
  | .channelRead tag channel => Sys2Proof.Machine.execChannelRead tag channel s
  | .counterTransfer tag => Sys2Proof.Machine.execCounterTransfer tag s
  | .counterRead tag => Sys2Proof.Machine.execCounterRead tag s
  | .eventSetup tag enables edges => Sys2Proof.Machine.execEventSetup tag enables edges s
  | .eventClear tag conditions => Sys2Proof.Machine.execEventClear tag conditions s
  | .statusRead tag page => Sys2Proof.Machine.execStatusRead tag page s
  | .hold tag modeByte => Sys2Proof.Machine.execHold tag modeByte s
  | .resume tag modeByte => Sys2Proof.Machine.execResume tag modeByte s
  | .stop tag modeByte => Sys2Proof.Machine.execStop tag modeByte s
  | .stopClear tag modeByte => Sys2Proof.Machine.execStopClear tag modeByte s
  | .setMode tag modeByte => Sys2Proof.Machine.execSetMode tag modeByte s
  | .lineReset tag modeByte => Sys2Proof.Machine.execLineReset tag modeByte s
  | .bitChanged tag life => Sys2Proof.Machine.execBitChanged tag life s
  | .recoveryRead tag slot => Sys2Proof.Machine.execRecoveryRead tag slot s
  | .recoveryClear tag => Sys2Proof.Machine.execRecoveryClear tag s
  | .unknownKindFrame kind tag payload => Sys2Proof.Machine.execUnknownKindFrame kind tag payload s
  | .damagedFrame => Sys2Proof.Machine.execDamagedFrame s
  | .echoReturn kind tag payload => Sys2Proof.Machine.execEchoReturn kind tag payload s
  | .frameBreakTimeout => Sys2Proof.Machine.execFrameBreakTimeout s
  | .frameSent => Sys2Proof.Machine.execFrameSent s
  | .infeedEdge => Sys2Proof.Machine.execInfeedEdge s
  | .noticeExpiry => Sys2Proof.Machine.execNoticeExpiry s
  | .bedTransferOrder => Sys2Proof.Machine.execBedTransferOrder s
  | .stationReady station present => Sys2Proof.Machine.execStationReady station present s
  | .readyWaitExpiry station => Sys2Proof.Machine.execReadyWaitExpiry station s
  | .orderTimeout station => Sys2Proof.Machine.execOrderTimeout station s
  | .bedArrival => Sys2Proof.Machine.execBedArrival s
  | .strikeBegin => Sys2Proof.Machine.execStrikeBegin s
  | .strokeDone drive => Sys2Proof.Machine.execStrokeDone drive s
  | .strokeTimeout drive => Sys2Proof.Machine.execStrokeTimeout drive s
  | .outRequest => Sys2Proof.Machine.execOutRequest s
  | .outTransferOrder => Sys2Proof.Machine.execOutTransferOrder s
  | .gatherArrival => Sys2Proof.Machine.execGatherArrival s
  | .bedDwellLimitExpiry => Sys2Proof.Machine.execBedDwellLimitExpiry s
  | .quarterIntervalExpiry drive => Sys2Proof.Machine.execQuarterIntervalExpiry drive s
  | .purgeGrant drive => Sys2Proof.Machine.execPurgeGrant drive s
  | .purgeEnd drive => Sys2Proof.Machine.execPurgeEnd drive s
  | .temperatureChange drive reading => Sys2Proof.Machine.execTemperatureChange drive reading s
  | .purgeAirChange present => Sys2Proof.Machine.execPurgeAirChange present s
  | .holdDwellEnd => Sys2Proof.Machine.execHoldDwellEnd s
  | .strobeWaitEnd channel => Sys2Proof.Machine.execStrobeWaitEnd channel s
  | .strobePulseEnd channel => Sys2Proof.Machine.execStrobePulseEnd channel s
  | .pitchPulseEnd => Sys2Proof.Machine.execPitchPulseEnd s
  | .pitchPeriodBoundary => Sys2Proof.Machine.execPitchPeriodBoundary s
  | .softWaitEnd channel => Sys2Proof.Machine.execSoftWaitEnd channel s
  | .softPulseEnd channel => Sys2Proof.Machine.execSoftPulseEnd channel s
  | .finishTransferOrder => Sys2Proof.Machine.execFinishTransferOrder s
  | .finishTransferDone => Sys2Proof.Machine.execFinishTransferDone s
  | .drillDone => Sys2Proof.Machine.execDrillDone s
  | .hangerDone => Sys2Proof.Machine.execHangerDone s
  | .closerDone => Sys2Proof.Machine.execCloserDone s
  | .exitTransferDone => Sys2Proof.Machine.execExitTransferDone s
  | .exitRunTimeout => Sys2Proof.Machine.execExitRunTimeout s
  | .exitSensorEdge => Sys2Proof.Machine.execExitSensorEdge s
  | .guardOpen => Sys2Proof.Machine.execGuardOpen s
  | .guardClose => Sys2Proof.Machine.execGuardClose s
  | .powerWarningAssert => Sys2Proof.Machine.execPowerWarningAssert s
  | .powerWarningRelease => Sys2Proof.Machine.execPowerWarningRelease s
  | .resetInputAssert => Sys2Proof.Machine.execResetInputAssert s
  | .resetInputRelease => Sys2Proof.Machine.execResetInputRelease s
  | .powerOn inputs => Sys2Proof.Machine.execPowerOn inputs s
  | .reportPeriodExpiry => Sys2Proof.Machine.execReportPeriodExpiry s
  | .requestLaneCharacter character framingError => Sys2Proof.Machine.execRequestLaneCharacter character framingError s

end Sys2Proof.Machine
end

