-- ==== Sys2Proof/Machine/Step.lean ====
section
/-! DEFINITION. One step: the command at the front of the queue, or, on an empty queue, the part's own
events and the clock (log 1, log 2, log 24). -/

namespace Sys2Proof.Machine

open Sys2Proof

/-- On an empty queue: an event that has fallen due, or time and travel go on. -/
def idle (s : State) : Host.Outcome State Fault Refusal :=
  if s.resetAsserted then .next s.resetTick
  else
    match pickDue s.free s.dueEvents with
    | some i => exec i s.drawn
    | none => .next s.goOn

/-- One step of the part. -/
def step (s : State) : Host.Outcome State Fault Refusal :=
  match s.pending with
  | [] => idle s
  | i :: rest => exec i { s with pending := rest }

/-- The state with the command that a word spells put at the front of its queue; no word spells one. -/
def State.withFetchWord (s : State) (nbits w : Nat) : State :=
  match decodeTableWord nbits w with
  | none => s
  | some i => { s with pending := i :: s.pending }

end Sys2Proof.Machine
end

