-- ==== Sys2Proof/WellFormed.lean ====
section
/-! DEFINITION. When a command is well-formed: its operands make a frame that the link could carry and
that is of the kind the command names. An ill-formed command has its meaning too (log 23). -/

namespace Sys2Proof

open Sys2Proof.Machine

/-- What can be wrong with a command. -/
inductive Defect where
  /-- TABLE_WRITE with contents of a length that no table has (11.2). -/
  | contentsLength
  /-- UNKNOWN_KIND_FRAME of a kind that is a request kind (R192 check 3). -/
  | knownKind
  /-- A frame with more than 56 payload bytes (R190). -/
  | payloadTooLong
  /-- ECHO_RETURN of a frame that is not well-formed: a length its kind does not permit (R192). -/
  | lengthNotPermitted
  /-- ECHO_RETURN of a SET MODE frame, which is not returned (R199). -/
  | setModeReturned
deriving DecidableEq, Repr

/-- The defects of a frame, whatever carries it. -/
def frameDefect (f : Frame) : Option Defect :=
  if 56 < f.payload.length then some .payloadTooLong else none

/-- The first defect of an unknown-kind frame. -/
def unknownDefect (f : Frame) : Option Defect :=
  (frameDefect f).or (if f.received = .unknownKind then none else some .knownKind)

/-- The first defect of a returned frame. -/
def returnDefect (f : Frame) : Option Defect :=
  (frameDefect f).or
    (if f.received = .badLength then some .lengthNotPermitted
      else if f.isSetMode then some .setModeReturned else none)

/-- The first defect of a command. -/
def Instr.defect : Instr → Option Defect
  | .tableWrite _ _ _ c => if contentsLengthOk c.length then none else some .contentsLength
  | .unknownKindFrame k t p => unknownDefect ⟨k, t, p⟩
  | .echoReturn k t p => returnDefect ⟨k, t, p⟩
  | _ => none

/-- The command is well-formed. -/
def Instr.wellFormed (i : Instr) : Bool := i.defect.isNone

end Sys2Proof
end

