-- ==== Sys2Proof/Safety.lean ====
section
/-! DEFINITION. The words in which statements about the part are written: when a request is served, what
a report may change, what a reset leaves, and the invariants of the part. -/

namespace Sys2Proof.Safety

open Sys2Proof Sys2Proof.Machine

/-! ## When a command is taken -/

/-- The part is not held in reset. -/
def Awake (s : State) : Prop := s.resetAsserted = false

/-- A request is served: the part is not held in reset, the line mode is not ECHO, and a place is free
for the answer (R193, R197, R199). -/
def Served (s : State) : Prop :=
  s.resetAsserted = false ∧ s.lsv.mode ≠ .echo ∧ s.lp.placesInUse < 16

/-- Commands that are frames whose kind has an answer: every request but SHEET NOTICE, and frames of
unknown kind (R194). ECHO_RETURN stands for a frame of any kind and is left out. -/
def needsAnswer : Instr → Bool
  | .sheetNotice _ _ _ _ _ _ => false
  | .echoReturn _ _ _ => false
  | i => (requestFrame i).isSome

/-- Commands that are requests of known kind. -/
def isRequest : Instr → Bool
  | .unknownKindFrame _ _ _ => false
  | .echoReturn _ _ _ => false
  | i => (requestFrame i).isSome

/-! ## The link after a request -/

/-- The Link Port after a request that raised no notice: the answer has joined the queue. -/
def answered (l : LinkPort) (tag kind : Byte) (r : Result) (data : List Byte) : LinkPort :=
  { l with receiver := .hunting, queue := l.queue ++ [.answer tag kind r.code data],
           reserved := false }

/-- The last frame queued is the answer of the request, and nothing is reserved for it any more; beside
the queue only NOTICES_LOST may have changed. -/
def AnsweredLast (tag kind : Byte) (r : Result) (data : List Byte) (s t : State) : Prop :=
  t.lp.queue.getLast? = some (.answer tag kind r.code data)
    ∧ t.lp = { s.lp with receiver := .hunting, queue := t.lp.queue, reserved := false,
                         noticesLost := t.lp.noticesLost }

/-- The state after a frame is discarded with LINK_ERROR (R190, R192): the receiver hunts, the latch of
LINK_ERROR is set, and an Event Notice is queued if the condition is enabled and was not latched. -/
def afterLinkError (s : State) : State :=
  { s with
    lm := { s.lm with latches := s.lm.latches ||| 0x1000#16 }
    lp :=
      if s.lm.latches.getLsbD 12 = false ∧ s.lm.enables.getLsbD 12 = true then
        { s.lp with receiver := .hunting }.pushNotice
          (.eventNotice .linkError .momentary (s.lm.latches ||| 0x1000#16))
      else { s.lp with receiver := .hunting } }

/-- The part after a list of characters has arrived on the request lane, one after another and without
framing errors. -/
def laneFeed : List Byte → State → Outcome
  | [], s => .next s
  | c :: rest, s =>
    match exec (.requestLaneCharacter c false) s with
    | .next t => laneFeed rest t
    | .fault x => .fault x
    | .refused x => .refused x

/-! ## Inputs -/

/-- The input levels after a command: a command that brings a level sets it, and no other command
changes an input. -/
def inputsAfter (i : Instr) (x : Inputs) : Inputs :=
  match i with
  | .stationReady st p => { x with ready := Bank.write x.ready (stationIndex st) p }
  | .temperatureChange d r => { x with temperature := Bank.write x.temperature d r }
  | .purgeAirChange p => { x with purgeAir := p }
  | .guardOpen => { x with guardClosed := false }
  | .guardClose => { x with guardClosed := true }
  | .powerWarningAssert => { x with powerWarning := true }
  | .powerWarningRelease => { x with powerWarning := false }
  | .powerOn y => y
  | _ => x

/-! ## Notices, sheets and lifts -/

/-- Counters with one more count of `k` (R174, R175). -/
def bumped (k : Counter) (work : Vector Count 18) : Vector Count 18 :=
  Bank.write work k.index (Bank.read work k.index).bump

/-- The entry that a Sheet Notice makes in the Notice Queue: its fields as R11 records them, bits 1 to 7
of its flags ignored (R10, R11, R204). -/
def noticeEntry (slot : Option Slot) (divert : Option DivertReason) (leaf kind : Byte)
    (thickness : Half) (flags : Byte) (s : State) : Notice :=
  { slot, leaf := min leaf.toNat 63, kind := if kind = 1#8 then .board else .leaf,
    thickness := min (max thickness.toNat 40) 3000, last := flags.getLsbD 0, divert,
    arrival := s.si.travel }

/-- The Sheet Intake with one more entry in the Notice Queue (R10, R21, R22). -/
def withNotice (n : Notice) (x : SheetIntake) : SheetIntake :=
  { x with
    notices := x.notices ++ [n]
    pauseSource := x.pauseSource || decide (x.notices.length = 11)
    peak := max x.peak (x.notices.length + 1) }

/-- The fault a Sheet Notice raises against its book, if any (R11 steps 1 to 3). -/
def noticeFault (leaf kind : Byte) (thickness : Half) (b : Book) : Option FaultCause :=
  if leaf.toNat ≠ b.noticed ∨ 63 < leaf.toNat ∨ 1 < kind.toNat ∨ thickness.toNat < 40
      ∨ 3000 < thickness.toNat then some .sequence
  else if b.declared = some b.noticed ∨ b.noticed = 64 then some .tooManySheets
  else none

/-- A book after a Sheet Notice taken against it (R11). -/
def noticedBook (leaf kind : Byte) (thickness : Half) (flags : Byte) (b : Book) : Book :=
  { b with
    noticed := min (b.noticed + 1) 64
    declared :=
      if flags.getLsbD 0 = true ∧ b.declared = none then some (min (b.noticed + 1) 64)
      else b.declared
    stage := .collecting
    fault := b.fault.or (noticeFault leaf kind thickness b) }

/-- The Sheet Intake when its oldest entry has left and `rest` remains (R10, R21). -/
def withoutOldest (rest : List Notice) (x : SheetIntake) : SheetIntake :=
  { x with notices := rest, pauseSource := x.pauseSource && !decide (rest.length = 8) }

/-- The oldest of the entries that remain has not expired (R17). -/
def HeadFresh (rest : List Notice) (s : State) : Prop :=
  ∀ m, rest.head? = some m → (s.si.travel - m.arrival).toNat ≤ s.si.window

/-- A sheet of book `b` may join the lift at the accumulator without closing it first: nothing is held
over, it is not too thick, and the limits of its format allow it (R28 to R31). -/
def SheetJoins (i : Slot) (n : Notice) (f : Format) (b : Book) (s : State) : Prop :=
  b.placed < 64 ∧ n.thickness ≤ f.capacity ∧
    match s.lb.openLift with
    | none => b.liftsClosed < 16
    | some l =>
      l.overrunHold = false ∧ l.slot = i ∧ l.thickness + n.thickness ≤ f.capacity
        ∧ l.sheets < f.maxSheets ∧ l.kind = .leaves ∧ ¬(n.kind = .board ∧ f.boardAlone = true)

/-- The lift that a sheet makes of an empty accumulator (R27, R32). -/
def newLift (i : Slot) (n : Notice) (f : Format) : Lift :=
  { number := none, slot := i, ordinal := none, firstLeaf := n.leaf, sheets := 1,
    thickness := n.thickness,
    kind := if n.kind = .board ∧ f.boardAlone = true then .board else .leaves, mode := none,
    endsCollection := n.last, holdsLast := n.last, overrunHold := false, state := none }

/-- The lift at the accumulator with the sheet in it (R27, R32). -/
def grownLift (i : Slot) (n : Notice) (f : Format) (s : State) : Lift :=
  match s.lb.openLift with
  | none => newLift i n f
  | some l =>
    { l with
      sheets := l.sheets + 1, thickness := l.thickness + n.thickness,
      endsCollection := l.endsCollection || n.last, holdsLast := l.holdsLast || n.last }

/-- A lift as it closes (R34 steps 1, 2, 4, 5). -/
def closedLift (number : Byte) (ordinal : Nat) (mode : PunchMode) (l : Lift) : Lift :=
  { l with
    number := some number, ordinal := some ordinal, mode := some mode, overrunHold := false,
    state := some .queued }

/-- The Lift Builder when a lift has closed into the Lift Queue (R34, R39, R40). -/
def withLift (l : Lift) (x : LiftBuilder) : LiftBuilder :=
  { openLift := none, queue := x.queue ++ [l], nextNumber := x.nextNumber + 1
    pauseSource := x.pauseSource || decide (x.queue.length = 9)
    peak := max x.peak (x.queue.length + 1) }

/-- The stage of a book whose collection has ended: COLLECTED, or GATHERED at once if it is the gather
book and complete (R6, R139). -/
def collectedStage (i : Slot) (gathered closed : Nat) (s : State) : Stage :=
  if s.fu.gather.any (fun g => decide (g.book = i)) = true ∧ gathered = closed then .gathered
  else .collected

/-- A lift as the end of its book's collection leaves it, `n` lifts of the book being closed and none of
its sheets in the Open Lift: the last lift closed is marked as the one that ended collection (R8, R26, R36
case 3). -/
def endMarked (i : Slot) (n : Nat) (l : Lift) : Lift :=
  if l.slot = i ∧ l.ordinal.map (· + 1) = some n then { l with endsCollection := true } else l

/-- The part with the last of the `n` lifts closed of the slot's book marked, in the Lift Queue, on the bed
or at the gather position. -/
def withLastMarked (i : Slot) (n : Nat) (s : State) : State :=
  { s with
    lb := { s.lb with queue := s.lb.queue.map (endMarked i n) }
    ss := { s.ss with bed := s.ss.bed.map fun b => { b with lift := endMarked i n b.lift } }
    fu := { s.fu with
      gather := s.fu.gather.map fun g => { g with lifts := g.lifts.map (endMarked i n) } } }

/-- A book with a fault raised against it: the first cause stands (R4). -/
def faulted (c : FaultCause) (k : Book) : Book := { k with fault := k.fault.or (some c) }

/-- A format entry whose last book has left, or that a Line Reset has emptied: a staged copy has been
promoted (R52). -/
def promoted (e : FormatEntry) : FormatEntry :=
  { active := e.staged.getD e.active, staged := none, refCount := 0 }

/-- A format entry with one book fewer bound (R50, R52). -/
def released (e : FormatEntry) : FormatEntry :=
  if e.refCount ≤ 1 then promoted e else { e with refCount := e.refCount - 1 }

/-- The notices when the book in a slot has left: its entries are divert entries in their places (R7). -/
def noticesWithout (i : Slot) (l : List Notice) : List Notice :=
  l.map fun n => if n.slot = some i then { n with slot := none, divert := some .bookClosed } else n

/-- No sheet of the book is in the Open Lift. -/
def NoneOpen (i : Slot) (s : State) : Prop := ∀ l, s.lb.openLift = some l → l.slot ≠ i

/-- The end of the collection of a book that has no sheet in the Open Lift, no lift closed and no sheet
placed removes it (R9). -/
def endsEmpty (i : Slot) (k : Book) (s : State) : Bool :=
  !s.openLiftOf i && decide (k.liftsClosed = 0) && decide (k.placed = 0)

/-- The counters after the end of a collection: BOOKS_REJECTED counts a book that it removes (R9). -/
def endWork (i : Slot) (k : Book) (work : Vector Count 18) (s : State) : Vector Count 18 :=
  if endsEmpty i k s = true then bumped .booksRejected work else work

/-- The collection of the COLLECTING book `k` in the slot has been ended, by the first case of R36 that
holds: a held lift of the book is marked; an open lift of it closes, or is held over while the Lift Queue is
full (R34, R41); otherwise the claim is made for the last lift closed, which is marked, or for a book with
nothing, which is removed (R6, R9, R139). -/
def CollectionEnded (i : Slot) (k : Book) (s t : State) : Prop :=
  (∀ l, s.lb.openLift = some l → l.slot = i →
      (l.overrunHold = true →
        t.book i = some k ∧ t.lb = { s.lb with openLift := some { l with endsCollection := true } })
      ∧ (l.overrunHold = false → 12 ≤ s.lb.queue.length →
        t.book i = some (faulted .overrun k)
        ∧ t.lb = { s.lb with
            openLift := some
              { l with endsCollection := true, overrunHold := true, mode := some .pass } })
      ∧ (l.overrunHold = false → s.lb.queue.length < 12 → ∀ c,
          c = (if l.holdsLast = true ∧ k.declared.any (fun d => decide (k.placed < d)) = true then
            faulted .short k else k) →
          t.lb = withLift
            (closedLift s.lb.nextNumber k.liftsClosed (if c.fault = none then .strike else .pass)
              { l with endsCollection := true }) s.lb
          ∧ t.book i = some
              { c with
                liftsClosed := k.liftsClosed + 1
                stage := collectedStage i k.liftsGathered (k.liftsClosed + 1) s })
      ∧ t.ss = s.ss ∧ t.fu = s.fu)
    ∧ (NoneOpen i s → endsEmpty i k s = false →
        t.book i = some { k with stage := collectedStage i k.liftsGathered k.liftsClosed s }
        ∧ t.lb = (withLastMarked i k.liftsClosed s).lb
        ∧ t.ss = (withLastMarked i k.liftsClosed s).ss
        ∧ t.fu = (withLastMarked i k.liftsClosed s).fu)
    ∧ (endsEmpty i k s = true →
        t.book i = none ∧ t.lb = s.lb ∧ t.ss = s.ss ∧ t.fu = s.fu
        ∧ t.si.notices = noticesWithout i s.si.notices
        ∧ t.ts = { s.ts with
            formats := Bank.write s.ts.formats k.format (released (Bank.read s.ts.formats k.format)) })
    ∧ (endsEmpty i k s = false → t.si.notices = s.si.notices ∧ t.ts = s.ts)

/-- Of the part, only what the placing and the end of a collection reach has changed: books and their
notices, the Lift Builder, the marks of closed lifts, format references, reports, and what this state
gives. -/
def CollectionMoved (s t : State) : Prop :=
  t = { s with
      lp := t.lp, lm := t.lm, lsv := t.lsv, tcu := t.tcu, lb := t.lb, ss := t.ss, fu := t.fu
      si := { s.si with books := t.si.books, notices := t.si.notices }
      ts := { s.ts with formats := t.ts.formats } }

/-- The finish book is FINISHING or LEAVING (R141, R149). -/
def FinishBookBound (s : State) : Prop :=
  ∀ f, s.fu.finish = some f →
    ∃ b, s.book f.book = some b ∧ (b.stage = .finishing ∨ b.stage = .leaving)

/-- A sheet of a COLLECTING book is about to be handed to the Lift Builder: the edge matches the oldest
notice, no other notice has expired, and registration diverts nothing (R13, R14). -/
def SheetHanded (n : Notice) (rest : List Notice) (i : Slot) (b : Book) (f : Format) (s : State) : Prop :=
  Awake s ∧ FinishBookBound s ∧ s.si.notices = n :: rest ∧ n.slot = some i ∧ HeadFresh rest s
    ∧ s.book i = some b ∧ b.stage = .collecting ∧ s.bookFormat i = some f
    ∧ (s.ts.settings.lossAction = .continue
      ∨ (s.si.registration = .matched ∧ 1 ≤ s.ts.settings.declareCount))

/-- The lift at the accumulator must close before the sheet may join it (R30): another book's, full in
thickness or sheets, or a board-alone lift, or the sheet is one. -/
def MustCloseFirst (i : Slot) (n : Notice) (f : Format) (l : Lift) : Prop :=
  l.slot ≠ i ∨ f.capacity < l.thickness + n.thickness ∨ f.maxSheets ≤ l.sheets ∨ l.kind = .board
    ∨ (n.kind = .board ∧ f.boardAlone = true)

/-- A change of the line state is noted, and a note stays until the blocks are reset: the line state is an
input of every drive's purge request (R105; log 35). -/
def MoveNoted (s t : State) : Prop :=
  (s.lsv.moved = true → t.lsv.moved = true)
    ∧ (t.lsv.lineState ≠ s.lsv.lineState → t.lsv.moved = true)

/-! ## Expiry of notices (R17) -/

/-- The oldest notice of `s` has expired, and `u` is the part when it alone has been dealt with: it has left,
MISSING has counted and the streaks follow; its book, if it names one, is faulted MISSING_SHEET, with what that
brings a finish book not faulted before (R148, said with `FaultsDuringFinish`); and the last-of-book notice of
a COLLECTING book ends its collection. -/
def NoticeExpired (s u : State) : Prop :=
  ∃ n rest, s.si.notices = n :: rest ∧ s.si.window < (s.si.travel - n.arrival).toNat
    ∧ (∀ v, v = { s with si := (withoutOldest rest s.si).streak .expiry s.ts.settings } →
        (n.slot.bind (fun i => s.book i) = none →
          u = { v with lp := u.lp, lm := u.lm, lsv := u.lsv }
          ∧ u.lm = { s.lm with
              work := bumped .missing s.lm.work, latches := u.lm.latches, live := u.lm.live }
          ∧ u.lsv.record = s.lsv.record)
        ∧ ∀ i b, n.slot = some i → s.book i = some b →
            (∀ j, j ≠ i → u.book j = s.book j)
            ∧ (¬(n.last = true ∧ b.stage = .collecting) →
              (b.fault ≠ none ∨ ∀ f, s.fu.finish = some f → f.book ≠ i) →
              u = { v with
                  lp := u.lp, lm := u.lm, lsv := u.lsv, si := { v.si with books := u.si.books } }
              ∧ u.book i = some (faulted .missingSheet b)
              ∧ u.lm.work = bumped .missing s.lm.work)
            ∧ (¬(n.last = true ∧ b.stage = .collecting) →
              u = { v with
                  lp := u.lp, lm := u.lm, lsv := u.lsv, fu := u.fu, orders := u.orders
                  si := { v.si with books := u.si.books } }
              ∧ (∃ c, u.book i = some c ∧ c = { faulted .missingSheet b with stage := c.stage })
              ∧ u.lm.work = bumped .missing s.lm.work)
            ∧ (n.last = true → b.stage = .collecting → FinishBookBound s →
              CollectionMoved v u ∧ u.tcu = s.tcu ∧ CollectionEnded i (faulted .missingSheet b) v u
              ∧ u.lm.work = endWork i b (bumped .missing s.lm.work) s))
    ∧ u.lm = { s.lm with work := u.lm.work, latches := u.lm.latches, live := u.lm.live }
    ∧ u.lp = { s.lp with queue := u.lp.queue, noticesLost := u.lp.noticesLost }
    ∧ u.lsv =
        { s.lsv with
          lineState := u.lsv.lineState, holds := u.lsv.holds, moved := u.lsv.moved
          record := { s.lsv.record with slots := u.lsv.record.slots } }
    ∧ MoveNoted s u
    ∧ (FinishBookBound s → FinishBookBound u)

/-- `k` notices have expired, one after another, the oldest first. -/
def NoticesExpiredBy : Nat → State → State → Prop
  | 0, s, u => u = s
  | k + 1, s, u => ∃ v, NoticeExpired s v ∧ NoticesExpiredBy k v u

/-- Every notice that had expired has been dealt with, oldest first, each new oldest one being tested at once;
the oldest that remains has not expired. Then the line may have come to rest (R161). -/
def ExpiredOut (s t : State) : Prop :=
  ∃ k u, NoticesExpiredBy k s u ∧ HeadFresh u.si.notices u
    ∧ t = { u with
        lp := { u.lp with queue := t.lp.queue, noticesLost := t.lp.noticesLost }
        lm := { u.lm with latches := t.lm.latches, live := t.lm.live }
        lsv := { u.lsv with lineState := t.lsv.lineState, moved := t.lsv.moved } }
    ∧ MoveNoted u t

/-! ## Tables -/

/-- The hole count of a pattern: how many of the positions 0 to 47 its pin set holds; the notch is not a hole
(R46). -/
def holes (p : Pattern) : Nat := ((List.finRange 48).filter fun q => p.pins.getLsbD q.val).length

/-- The active copy of a format with books bound names the pattern (R54, first row). -/
def NamedByBound (p : Fin 24) (s : State) : Prop :=
  ∃ f c, 0 < (Bank.read s.ts.formats f).refCount ∧ (Bank.read s.ts.formats f).active = some c
    ∧ c.pattern = p

/-- A valid copy, active or staged, names the pattern (R54, second row). -/
def NamedByCopy (p : Fin 24) (s : State) : Prop :=
  ∃ f c, c.pattern = p ∧ ((Bank.read s.ts.formats f).active = some c
    ∨ (Bank.read s.ts.formats f).staged = some (some c))

/-- A format copy within the ranges of R48 that names a valid pattern (R49). -/
def FormatInRange (patterns : Vector (Option Pattern) 24) (f : Format) : Prop :=
  (Bank.read patterns f.pattern).isSome = true ∧ 500 ≤ f.capacity ∧ f.capacity ≤ 6000
    ∧ 1 ≤ f.maxSheets ∧ f.maxSheets ≤ 24 ∧ drillCountOk f.hanger f.drillHoles = true
    ∧ 1 ≤ f.wireClass ∧ f.wireClass ≤ 8 ∧ 1 ≤ f.feedSteps ∧ f.feedSteps ≤ 64

/-- A drive entry within the ranges of R55 that passes the check of R56. -/
def DriveInRange (e : DriveEntry) : Prop :=
  20 ≤ e.spacing ∧ e.spacing ≤ 2000 ∧ 50 ≤ e.strokeTimeout ∧ e.strokeTimeout ≤ 5000
    ∧ 400 ≤ e.baseInterval ∧ e.baseInterval ≤ 60000 ∧ 1 ≤ e.full ∧ e.full ≤ 7499 ∧ 1 ≤ e.half
    ∧ e.half ≤ 7499 ∧ 1 ≤ e.quarter ∧ e.quarter ≤ 7499 ∧ e.durationsOk = true

/-- A time of Line Settings that R58 bounds by 100 and 60000 ms. -/
def TimeInRange (n : Nat) : Prop := 100 ≤ n ∧ n ≤ 60000

/-- Line Settings within the ranges of R58. -/
def SettingsInRange (x : LineSettings) : Prop :=
  100 ≤ x.matchWindow ∧ x.matchWindow ≤ 65535 ∧ 1 ≤ x.declareCount ∧ x.declareCount ≤ 15
    ∧ 1 ≤ x.clearCount ∧ x.clearCount ≤ 255 ∧ 1 ≤ x.crossSpacing ∧ x.crossSpacing ≤ 200
    ∧ 10 ≤ x.strikeWindow ∧ x.strikeWindow ≤ 5000 ∧ TimeInRange x.bedDwellLimit
    ∧ TimeInRange x.bedTimeout ∧ TimeInRange x.outTimeout ∧ TimeInRange x.finishTimeout
    ∧ TimeInRange x.exitTimeout ∧ TimeInRange x.readyWait ∧ TimeInRange x.drillTimeout
    ∧ TimeInRange x.hangerTimeout ∧ TimeInRange x.closerTimeout ∧ 1 ≤ x.reportPeriod
    ∧ x.reportPeriod ≤ 3600

/-! ## Channels, timers and orders -/

/-- A channel after its owner's trigger or a start in STROBE (R118, R120, R121). -/
def triggered (i : ChannelId) (s : State) : Channel :=
  if s.channelHears i = true ∧ (s.ch i).triggerLost = false then (s.ch i).trigger (s.suppressed i)
  else s.ch i

/-- The valve output of the channel is suppressed: CH1 to CH5 in DRY (R127). -/
def valveDry (i : ChannelId) (s : State) : Bool :=
  decide (s.lsv.mode = .dry) && decide (1 ≤ i.val ∧ i.val ≤ 5)

/-- A channel at the start of a STROBE or SOFT cycle: its load point, then its wait, or its pulse where it has
none (R117, R120, R125). -/
def cycleStarted (suppressed : Bool) (c : Channel) : Channel :=
  let k := if c.pending = true then c.staged else c.live
  { c with
    live := k, pending := false
    phase := if k.n = 0 then .active else .waiting
    countdown := if k.n = 0 then countOf k.w else k.n.toNat
    output := decide (k.n = 0) && !suppressed }

/-- CH6, idle in PITCH, when the Finish Unit starts it: the budget, then the load point, which takes N and W
alone and pauses the train where the staged W is not less than the staged N (R117, R122, R124). -/
def feedStarted (budget : Nat) (c : Channel) : Channel :=
  if c.pending = true ∧ countOf c.staged.n ≤ countOf c.staged.w then
    { c with budget, phase := .pausedPitch, countdown := 0, output := false }
  else
    let k : Counts := if c.pending = true then ⟨c.staged.n, c.staged.w, c.live.b⟩ else c.live
    { c with
      budget, live := k, pending := false, phase := .active, countdown := countOf k.w, output := true }

/-- CH0, idle in HOLD, when the Strike Scheduler closes the clamp, its staged counts pending (R75, R117,
R119). -/
def clampClosedOn (c : Channel) : Channel :=
  { c with
    live := c.staged, pending := false, phase := .active, countdown := countOf c.staged.n, gate := true,
    output := true }

/-- A channel whose shaped output has ended or been cut off. -/
def rested (c : Channel) : Channel := { c with phase := .idle, countdown := 0, output := false }

/-- A channel as Channel Set leaves it (R128). -/
def channelAsSet (mode : ChannelMode) (source : Source) (staged : Counts) (c : Channel) : Channel :=
  { mode, source, live := c.live, staged, pending := true, phase := .idle, countdown := 0,
    budget := c.budget, output := false, pendingTrigger := false, gate := false,
    capturedCount := none, capturedStatus := none }

/-- The drive's quarter timer is suspended (R99). -/
def Suspended (d : DriveId) (s : State) : Prop :=
  s.driveState d = .disabled ∨ s.driveState d = .faulted ∨ s.lsv.lineState = .safeStop
    ∨ s.lsv.mode = .echo

/-- Every quarter timer of `s` that runs in `t` and had no length has taken its length (R96). -/
def TimersFixed (s t : State) : Prop :=
  t.pc.air = s.pc.air
    ∧ ∀ d,
      ((s.account d).length = none → ¬Suspended d t →
        t.account d =
          { s.account d with length := some ((Bank.read t.ts.drives d).baseInterval / 4) })
      ∧ ((s.account d).length ≠ none ∨ Suspended d t → t.account d = s.account d)

/-- Channel Set has been answered DONE and has left channel `i` as `c`; nothing else has changed but START,
which is set while a channel is out of its working mode (R160), and the quarter timers that first run now
(R96). -/
def ChannelLeft (tag : Byte) (i : ChannelId) (c : Channel) (s t : State) : Prop :=
  t = { s with
      tcu := Bank.write s.tcu i c
      pc := t.pc
      lsv := { s.lsv with holds := t.lsv.holds }
      lp := answered s.lp tag 0x06 .done [] }
    ∧ t.lsv.holds =
        (if ∃ j, (t.ch j).mode ≠ workingMode j then { s.lsv.holds with start := true }
        else s.lsv.holds)
    ∧ TimersFixed { s with tcu := t.tcu, ss := t.ss } t

/-- The order of a job as it is made (R68). -/
def orderMade (j : Job) (s : State) : Order :=
  { job := j
    phase :=
      if s.ready j.station = true then .issued (s.nowMs + j.timeout s.ts.settings)
      else .waiting s.nowMs s.ts.settings.readyWait false }

/-- Of the orders, only that of this station has changed. -/
def OnlyOrder (st : Station) (s t : State) : Prop := ∀ x, x ≠ st → t.order x = s.order x

/-- Of the Book Table, only this slot has changed. -/
def OnlyBook (i : Slot) (s t : State) : Prop :=
  t.si = { s.si with books := t.si.books } ∧ ∀ j, j ≠ i → t.book j = s.book j

/-- Of the drives' accounts, only this one has changed. -/
def OnlyAccount (d : DriveId) (s t : State) : Prop :=
  t.pc.air = s.pc.air ∧ ∀ x, x ≠ d → t.account x = s.account x

/-! ## Events that fall due, and the clock -/

/-- The countdown of a channel in this mode and phase has reached 0 (R116). -/
def CountedDown (m : ChannelMode) (p : Phase) (c : Channel) : Prop :=
  c.mode = m ∧ c.phase = p ∧ c.countdown = 0

/-- The event has fallen due: the oldest notice has expired (R17); the bed transfer (R71), the next strike
(R80), the standing out request (R86), the out transfer (R86) or the finish transfer (R141) can be made; the
Bed Dwell Limit (R88), an exit run (R149), a report period (R178), the silence of a broken frame (R191), a
Ready Wait (R69), an order (R70), a stroke (R83), a quarter interval (R96) or a purge (R107) is at its end; a
standing purge request can be granted (R67); a channel has counted down (R119 to R125). That each of these is
an event of its own is log 2, and that a limit is passed at its very ms is log 10. -/
def Due (i : Instr) (s : State) : Prop :=
  match i with
  | .noticeExpiry =>
    ∃ n, s.si.notices.head? = some n ∧ s.si.window < (s.si.travel - n.arrival).toNat
  | .bedTransferOrder =>
    s.ss.bed = none ∧ s.lb.queue ≠ [] ∧ s.lsv.lineState = .running ∧ (s.ch 0).mode = .hold
  | .strikeBegin => ∃ d, s.eligible d = true
  | .outRequest =>
    s.order .bedShuttle = none
      ∧ ∃ b, s.ss.bed = some b ∧ b.outRequest = true ∧ b.accepted = false ∧ b.ask = true
  | .outTransferOrder =>
    s.order .bedShuttle = none ∧ s.lsv.lineState ≠ .safeStop
      ∧ ∃ b, s.ss.bed = some b ∧ b.accepted = true
  | .finishTransferOrder =>
    s.fu.finish = none ∧ s.lsv.lineState = .running
      ∧ ∃ g b, s.fu.gather = some g ∧ s.book g.book = some b ∧ b.stage = .gathered
  | .bedDwellLimitExpiry =>
    ∃ b a, s.ss.bed = some b ∧ b.dwellRaised = false ∧ b.dwellStart = some a
      ∧ s.ts.settings.bedDwellLimit < s.nowMs - a
  | .exitRunTimeout =>
    ∃ f e, s.fu.finish = some f ∧ f.step = .exitRun ∧ f.exitRunEnd = some e ∧ e ≤ s.nowMs
  | .reportPeriodExpiry =>
    s.lsv.mode ≠ .echo ∧ ∃ r, s.lm.timer = some r ∧ r.length ≤ r.elapsed
  | .frameBreakTimeout =>
    ∃ cs bad last, s.lp.receiver = .receiving cs bad last ∧ last + 20 ≤ s.time
  | .holdDwellEnd => CountedDown .hold .active (s.ch 0) ∧ (s.ch 0).gate = false
  | .pitchPulseEnd => CountedDown .pitch .active (s.ch 6)
  | .pitchPeriodBoundary => CountedDown .pitch .waiting (s.ch 6)
  | .readyWaitExpiry st =>
    ∃ j since wait, s.order st = some ⟨j, .waiting since wait false⟩ ∧ wait < s.nowMs - since
  | .orderTimeout st => ∃ j e, s.order st = some ⟨j, .issued e⟩ ∧ e ≤ s.nowMs
  | .strokeTimeout d => ∃ k, (s.drive d).strike = some k ∧ k.timeoutAt ≤ s.nowMs
  | .quarterIntervalExpiry d =>
    ¬Suspended d s ∧ ∃ n, (s.account d).length = some n ∧ n ≤ (s.account d).elapsed
  | .purgeEnd d => ∃ p, (s.account d).purge = some p ∧ p.endAt ≤ s.nowMs
  | .purgeGrant d => s.grantable d = true
  | .strobeWaitEnd i => CountedDown .strobe .waiting (s.ch i)
  | .strobePulseEnd i => CountedDown .strobe .active (s.ch i)
  | .softWaitEnd i => CountedDown .soft .waiting (s.ch i)
  | .softPulseEnd i => CountedDown .soft .active (s.ch i)
  | _ => False

/-- One unit of the source has been counted on every channel that counts it: one waiting or active, and in
HOLD with its gate released (R116, R119). -/
def UnitCounted (x : Source) (s t : State) : Prop :=
  ∀ i, ∀ c, c = s.ch i →
    (c.source = x → (c.phase = .waiting ∨ c.phase = .active) → ¬(c.mode = .hold ∧ c.gate = true) →
      t.ch i = { c with countdown := c.countdown - 1 })
    ∧ (c.source ≠ x ∨ c.phase = .idle ∨ c.phase = .pausedPitch ∨ (c.mode = .hold ∧ c.gate = true) →
      t.ch i = c)

/-- One forward count of the conveyor: the travel position goes up by 1, modulo 2^32 (R17), the Match Window
written last is in force (log 26), and the channels on TRAVEL count (R116). -/
def TravelCounted (s t : State) : Prop :=
  t = { s with
      travelOwed := s.travelOwed - 1, tcu := t.tcu
      si := { s.si with travel := s.si.travel + 1, window := s.ts.settings.matchWindow } }
    ∧ UnitCounted .travel s t

/-- One unit of 0.1 ms: time goes on, the forward movement of the encoder is owed (R17), and the channels on
TIME count (R116). At a whole ms a quarter timer that is not suspended and has its length (R96, R99) and,
outside ECHO, the report timer (R178) count 1 (log 1). -/
def Ticked (s t : State) : Prop :=
  t = { s with
      time := s.time + 1, encoder := s.encoder.tail, travelOwed := (s.encoder.headD 0).toNat
      tcu := t.tcu, pc := { s.pc with drives := t.pc.drives }
      lm := { s.lm with timer := t.lm.timer } }
    ∧ UnitCounted .time s t
    ∧ (∀ d,
        ((s.time + 1) % 10 = 0 → (s.account d).length ≠ none → ¬Suspended d s →
          t.account d = { s.account d with elapsed := (s.account d).elapsed + 1 })
        ∧ ((s.time + 1) % 10 ≠ 0 ∨ (s.account d).length = none ∨ Suspended d s →
          t.account d = s.account d))
    ∧ ((s.time + 1) % 10 = 0 → s.lsv.mode ≠ .echo →
        t.lm.timer = s.lm.timer.map fun r => { r with elapsed := r.elapsed + 1 })
    ∧ ((s.time + 1) % 10 ≠ 0 ∨ s.lsv.mode = .echo → t.lm.timer = s.lm.timer)

/-! ## Reports -/

/-- The working counters with one more count of `k`. -/
def counted (k : Counter) (s : State) : Vector Count 18 := bumped k s.lm.work

/-- The Line Monitor has changed only as reports of conditions change it, with these working counters:
held counts, enables, edge selects and the report timer are as they were. -/
def Monitored (work : Vector Count 18) (s t : State) : Prop :=
  t.lm = { s.lm with work := work, latches := t.lm.latches, live := t.lm.live }

/-- The Link Port has changed only as notices change it. -/
def Noticed (s t : State) : Prop :=
  t.lp = { s.lp with queue := t.lp.queue, noticesLost := t.lp.noticesLost }

/-- Conditions may have been reported; nothing was counted. -/
def Reported (s t : State) : Prop := Monitored s.lm.work s t ∧ Noticed s t

/-- One count of `k`, and conditions may have been reported. -/
def Counted (k : Counter) (s t : State) : Prop := Monitored (counted k s) s t ∧ Noticed s t

/-- Of the Line Supervisor, only the line state and the hold sources may have changed, and a change of the line
state is noted. -/
def LineMoved (s t : State) : Prop :=
  t.lsv =
      { s.lsv with lineState := t.lsv.lineState, holds := t.lsv.holds, moved := t.lsv.moved }
    ∧ MoveNoted s t

/-- Of the Line Supervisor, only the record's slots, the line state and the hold sources may have changed, and
a change of the line state is noted. -/
def LineFollowed (s t : State) : Prop :=
  t.lsv =
      { s.lsv with
        lineState := t.lsv.lineState, holds := t.lsv.holds, moved := t.lsv.moved
        record := { s.lsv.record with slots := t.lsv.record.slots } }
    ∧ MoveNoted s t

/-- The Link Port has taken a frame: the receiver hunts, and beside that only notices have changed
it. -/
def FrameNoticed (s t : State) : Prop :=
  t.lp = { s.lp with receiver := .hunting, queue := t.lp.queue, noticesLost := t.lp.noticesLost }

/-- The finish record holds no book of this slot. -/
def NotFinishing (i : Slot) (s : State) : Prop := ∀ f, s.fu.finish = some f → f.book ≠ i

/-- A sheet has been diverted at the infeed (R16): the gate has been triggered, and SHEETS_DIVERTED has
counted. -/
def SheetDiverted (s t : State) : Prop :=
  t.tcu = Bank.write s.tcu 7 (triggered 7 s) ∧ Monitored (counted .sheetsDiverted s) s t ∧ Noticed s t
    ∧ LineFollowed s t

/-- No outstanding drive of a lift ON_BED is DISABLED. -/
def NoneDisabled (s : State) : Prop :=
  ∀ b, s.ss.bed = some b → b.lift.state = some .onBed → ∀ d, DriveSet.has d b.outstanding = true →
    s.driveState d ≠ .disabled

/-- The bed lift `b`, with an outstanding drive DISABLED, has become a PASS lift: its planned set is cut to
its drives done and in flight, its book is faulted DRIVE_DISABLED, and where none is in flight the lift is
released, through the clamp's gate if that is held (R74, R76). -/
def CutToPass (b : Bed) (s t : State) : Prop :=
  (∃ c, t.ss.bed = some c
      ∧ c = { b with
          lift := { b.lift with mode := some .pass, state := c.lift.state }
          planned := b.done ||| b.inFlight, outRequest := c.outRequest, ask := c.ask }
      ∧ (b.inFlight = 0 → (s.ch 0).gate = false →
          c.lift.state = some .released ∧ c.outRequest = true ∧ c.ask = true)
      ∧ (b.inFlight ≠ 0 ∨ (s.ch 0).gate = true →
          c.lift.state = b.lift.state ∧ c.outRequest = b.outRequest ∧ c.ask = b.ask))
    ∧ t.ch 0 = (if b.inFlight = 0 then { s.ch 0 with gate := false } else s.ch 0)
    ∧ ∀ k, s.book b.lift.slot = some k →
        ∃ c, t.book b.lift.slot = some c ∧ c.fault = k.fault.or (some .driveDisabled)

/-! ## Strikes and exits -/

/-- The strike of drive `d` on the bed lift has completed, and the drive's channel is left as `c` (R82,
R76): the drive has moved from the in-flight set to the done set, a lift with nothing left goes the way of
its clamp, and STRIKES_Dd has counted in RUN. -/
def StrikeTaken (d : DriveId) (b : Bed) (c : Channel) (s t : State) : Prop :=
  t = { s with
      lp := t.lp, lm := t.lm, lsv := t.lsv, tcu := t.tcu, pc := t.pc
      ss := { s.ss with
        bed := t.ss.bed
        drives := Bank.write s.ss.drives d { s.drive d with strike := none } } }
    ∧ (∃ x, t.ss.bed = some x
        ∧ x = { b with
            inFlight := b.inFlight &&& ~~~(1#5 <<< d.val), done := b.done ||| (1#5 <<< d.val)
            lift := x.lift, outRequest := x.outRequest, ask := x.ask }
        ∧ (x.finished = false → x.lift = b.lift ∧ t.ch 0 = s.ch 0)
        ∧ (x.finished = true → b.lift.state = some .onBed → (s.ch 0).gate = true →
            x.lift = b.lift ∧ t.ch 0 = { s.ch 0 with gate := false })
        ∧ (x.finished = true → b.lift.state = some .onBed → (s.ch 0).gate = false →
            x.lift = { b.lift with state := some .released } ∧ x.outRequest = true
              ∧ t.ch 0 = s.ch 0))
    ∧ t.ch (strikeChannel d) = c
    ∧ (∀ j, j ≠ 0 → j ≠ strikeChannel d → t.ch j = s.ch j)
    ∧ (s.lsv.mode = .run → Monitored (counted (.strikes d) s) s t)
    ∧ (s.lsv.mode ≠ .run → Monitored s.lm.work s t)
    ∧ LineMoved s t

/-- The strike of drive `d` has completed at the end of its strobe or at Stroke Done (R82). -/
def StrikeDone (d : DriveId) (b : Bed) (c : Channel) (s t : State) : Prop :=
  StrikeTaken d b c s t ∧ t.pc = s.pc ∧ Noticed s t

/-- The finish book `b` has passed the exit sensor with outcome `o` (R151, R7): the gate, the notice, the
counter, the last exit, the removal and the emptied finish record. -/
def BookPassed (f : Finish) (b : Book) (o : BookOutcome) (s t : State) : Prop :=
  t = { s with
      lp := t.lp, lm := t.lm, lsv := t.lsv, orders := t.orders
      si := { s.si with
        books := Bank.write s.si.books f.book none
        notices := noticesWithout f.book s.si.notices }
      ts := { s.ts with
        formats :=
          Bank.write s.ts.formats b.format (released (Bank.read s.ts.formats b.format)) }
      tcu := if o = .bound then s.tcu else Bank.write s.tcu 8 (triggered 8 s)
      fu := { s.fu with finish := none } }
    ∧ OnlyOrder .exitTransfer s t
    ∧ t.lsv.liveExit = some ⟨b.id, o⟩
    ∧ (s.lsv.record.retentionValid = false →
        t.lsv.record.lastExit = some ⟨b.id, o⟩ ∧ Bank.read t.lsv.record.slots f.book = none)
    ∧ (s.lsv.record.retentionValid = true → t.lsv.record = s.lsv.record)
    ∧ (o = .bound → Monitored (counted .booksBound s) s t)
    ∧ (o = .rejected → Monitored (counted .booksRejected s) s t)
    ∧ (o = .proofed → Monitored s.lm.work s t)
    ∧ (s.ts.settings.outcomeNotices = true → s.lp.placesInUse < 4 →
        (.bookOutcome b.id o (if o = .rejected then b.fault else none) b.format b.placed
          b.liftsPunched) ∈ t.lp.queue)
    ∧ Noticed s t

/-- A finish step has ended: beside reports, only the books, the wire feed and the Finish Unit's records
and orders may have changed; the emptied gather position may have put a standing out request again
(R86). -/
def StageMoved (s t : State) : Prop :=
  t = { s with
        lp := t.lp, lm := t.lm, lsv := t.lsv, si := t.si, orders := t.orders, tcu := t.tcu
        fu := t.fu, ss := { s.ss with bed := t.ss.bed } }
    ∧ (t.ss.bed = s.ss.bed
        ∨ t.ss.bed = s.ss.bed.map fun b => { b with ask := b.outRequest && !b.accepted })
    ∧ (∀ i, i ≠ 6 → t.ch i = s.ch i) ∧ Reported s t ∧ LineFollowed s t

/-! ## What a reset leaves -/

/-- The Sheet Intake, Lift Builder, Table Store, Strike Scheduler, Timing Channel Unit and Finish Unit
hold what R23, R44, R63, R92, R133 and R156 give. -/
def LineCleared (t : State) : Prop :=
  (∀ i, t.book i = none) ∧ t.si.notices = [] ∧ t.si.registration = .matched ∧ t.si.unmatched = 0
    ∧ t.si.matched = 0 ∧ t.si.travel = 0 ∧ t.si.pauseSource = false ∧ t.si.peak = 0
    ∧ t.lb.openLift = none ∧ t.lb.queue = [] ∧ t.lb.nextNumber = 0 ∧ t.lb.peak = 0
    ∧ t.lb.pauseSource = false
    ∧ (∀ p, Bank.read t.ts.patterns p = none)
    ∧ (∀ f, Bank.read t.ts.formats f = { active := none, staged := none, refCount := 0 })
    ∧ (∀ d, Bank.read t.ts.drives d = DriveEntry.default) ∧ t.ts.settings = LineSettings.default
    ∧ t.ss.bed = none ∧ t.ss.history = [] ∧ (∀ d, t.driveState d = .disabled)
    ∧ (∀ d, (t.drive d).lastBegin = none) ∧ (∀ st, t.order st = none)
    ∧ (∀ i, t.ch i = Channel.reset) ∧ t.fu.gather = none ∧ t.fu.finish = none ∧ t.fu.bitLife = 0

/-- The purge accounts are as R112 gives them, with no purge request; the temperatures and the air are read
from the inputs. -/
def AccountsReset (t : State) : Prop :=
  (∀ d, (t.account d).debt = 4 ∧ (t.account d).elapsed = 0 ∧ (t.account d).length = none
      ∧ (t.account d).purge = none ∧ (t.account d).tested = false
      ∧ (t.account d).temperature = TempReading.temperature (Bank.read t.inputs.temperature d)
      ∧ t.purgeRequested d = false)
    ∧ t.pc.air = t.inputs.purgeAir

/-- The counters, enables, edge selects and report timer are as R188 gives them. -/
def MonitorReset (t : State) : Prop :=
  (∀ k, Bank.read t.lm.work k = ⟨0, false⟩) ∧ (∀ k, Bank.read t.lm.held k = ⟨0, false⟩)
    ∧ t.lm.transferNumber = 0 ∧ t.lm.enables = 0 ∧ t.lm.edges = 0 ∧ t.lm.timer = none

/-- The Line Supervisor holds what R172 gives at the end of a reset. -/
def SupervisorReset (t : State) : Prop :=
  t.lsv.mode = .run ∧ t.lsv.liveExit = none ∧ t.lsv.moved = false
    ∧ t.lsv.lineState = (if t.inputs.guardClosed ∧ t.inputs.powerWarning = false then .held
        else .safeStop)
    ∧ t.lsv.causes = ⟨!t.inputs.guardClosed, t.inputs.powerWarning, false, false, false⟩
    ∧ t.lsv.holds = ⟨true, false, false, t.anyHot, false⟩

/-- The levels present at the end of a reset are live and latched, and SAFE_STOP and POWER_WARNING among them
are announced (R188, R180 to R182). That SAFE_STOP is announced before POWER_WARNING, each with the latches set
so far, is the order of the condition numbers: log 12, the model's choice. -/
def LevelsTaken (t : State) : Prop :=
  t.lm.live =
      0x0002#16 ||| (if t.lsv.lineState = .held then 0x0004#16 else 0)
        ||| (if t.anyHot = true then 0x0008#16 else 0)
        ||| (if t.inputs.purgeAir = false then 0x0020#16 else 0)
        ||| (if t.lsv.lineState = .safeStop then 0x2000#16 else 0)
        ||| (if t.inputs.powerWarning = true then 0x4000#16 else 0)
    ∧ t.lm.latches = t.lm.live
    ∧ t.lp.queue =
        (if t.lsv.lineState = .safeStop then
          [.eventNotice .safeStop .present (t.lm.latches &&& 0x3FFF#16)] else [])
          ++ (if t.inputs.powerWarning = true then
            [.eventNotice .powerWarning .present t.lm.latches] else [])

/-- A state just after the end of a reset. -/
def FreshlyReset (t : State) : Prop :=
  t.resetAsserted = false ∧ LineCleared t ∧ AccountsReset t ∧ MonitorReset t ∧ SupervisorReset t
    ∧ LevelsTaken t ∧ t.lp.receiver = .hunting ∧ t.lp.reserved = false
    ∧ t.lp.requestsDiscarded = false ∧ t.lp.noticesLost = false

/-! ## Invariants -/

/-- The Return Queue: at most 16 places in use, at most 12 of them notices, and no reservation between
steps (R195, R197). -/
def LinkBounds (s : State) : Prop :=
  s.lp.queue.length ≤ 16 ∧ s.lp.noticeCount ≤ 12 ∧ s.lp.reserved = false

/-- Every debt lies between -32 and +32, and a purge in flight can be paid (R95). -/
def DebtBounds (s : State) : Prop :=
  ∀ d, -32 ≤ (s.account d).debt ∧ (s.account d).debt ≤ 32
    ∧ ∀ p, (s.account d).purge = some p → -32 ≤ (s.account d).debt - p.payment

/-- While Retention Valid is clear, the Recovery Record follows the Book Table and the live last exit
(R169); while the Reset input is asserted there is no book and no exit (R172). -/
def RecordFollows (s : State) : Prop :=
  (s.lsv.record.retentionValid = false →
    (∀ i, Bank.read s.lsv.record.slots i = (s.book i).map RecordSlot.ofBook)
      ∧ s.lsv.record.lastExit = s.lsv.liveExit ∧ s.lsv.record.freezeReason = none)
  ∧ (s.resetAsserted = true → (∀ i, s.book i = none) ∧ s.lsv.liveExit = none)

/-- No strike, purge, transfer, station operation or channel output is in flight. -/
def Quiet (s : State) : Prop :=
  (∀ i, (s.ch i).phase = .idle ∧ (s.ch i).output = false) ∧ (∀ d, (s.drive d).strike = none)
    ∧ (∀ d, (s.account d).purge = none) ∧ (∀ st, s.order st = none)

/-- A channel forced inactive by Safe Stop or a Line Reset (R132). -/
def stoppedChannel (c : Channel) : Channel :=
  { c with phase := .idle, countdown := 0, output := false, pendingTrigger := false, gate := false }

/-- What entering Safe Stop may change, and what it makes of channels, drives and accounts (R132, R90,
R108, R167): the Lift Builder, the tables but for format references, the debts, the strike history and
the bit life are kept. -/
def StopKept (s t : State) : Prop :=
  t = { s with
        lp := t.lp
        lm := { s.lm with work := t.lm.work, latches := t.lm.latches, live := t.lm.live }
        si := { s.si with books := t.si.books, notices := t.si.notices }
        ts := { s.ts with formats := t.ts.formats }
        ss := { s.ss with bed := t.ss.bed, drives := t.ss.drives }
        orders := t.orders
        pc := { s.pc with drives := t.pc.drives }
        tcu := t.tcu
        fu := { s.fu with gather := t.fu.gather, finish := t.fu.finish }
        lsv := t.lsv }
    ∧ (∀ i, t.ch i = stoppedChannel (s.ch i))
    ∧ (∀ d, t.drive d = { s.drive d with strike := none })
    ∧ (∀ d, t.account d = { s.account d with purge := none })
    ∧ t.lsv.holds.start = s.lsv.holds.start ∧ t.lsv.holds.request = s.lsv.holds.request
    ∧ t.lsv.holds.driveHot = s.lsv.holds.driveHot ∧ t.lsv.mode = s.lsv.mode ∧ t.lsv.moved = true
    ∧ t.lsv.record.retentionValid = s.lsv.record.retentionValid
    ∧ t.lsv.record.freezeReason = s.lsv.record.freezeReason

/-- The bed lift is not of the finish book. -/
def BedApart (s : State) : Prop :=
  ∀ b f, s.ss.bed = some b → s.fu.finish = some f → b.lift.slot ≠ f.book

/-- The finish transfer is in progress at the entry of Safe Stop. -/
def transferringIn (s : State) : Bool :=
  s.fu.finish.any fun f => !f.bitWait && decide (f.step = .transferIn)

/-- An exit transfer or an exit run is in progress at the entry of Safe Stop. -/
def exiting (s : State) : Bool :=
  s.fu.finish.any fun f => !f.bitWait && (decide (f.step = .exit) || decide (f.step = .exitRun))
    && (s.book f.book).isSome

/-- A book whose lift has reached the gather position (R87, R139): punched or not, gathered, and GATHERED
when it is the gather book and complete. -/
def gatheredBook (b : Bed) (k : Book) (s : State) : Book :=
  { k with
    liftsPunched :=
      if b.lift.mode = some .strike ∧ b.planned &&& ~~~b.done = 0 then k.liftsPunched + 1
      else k.liftsPunched
    liftsGathered := k.liftsGathered + 1
    stage :=
      if s.fu.gather.any (fun g => decide (g.book = b.lift.slot)) = true ∧ k.stage = .collected
          ∧ k.liftsClosed = k.liftsGathered + 1 ∧ s.openLiftOf b.lift.slot = false then .gathered
      else k.stage }

/-- Of the bed record, only whether the standing out request is to be put again is left open. -/
def BedIs (b : Bed) (t : State) : Prop := ∃ x, t.ss.bed = some x ∧ x = { b with ask := x.ask }

/-- What the entry of Safe Stop makes of the bed lift and of its book (R90, its rows). -/
def BedStopped (s t : State) : Prop :=
  (s.ss.bed = none → t.ss.bed = none)
    ∧ ∀ b k, s.ss.bed = some b → s.book b.lift.slot = some k →
      (s.ordered .bedTransfer = true →
        BedIs { b with
          lift := { b.lift with mode := some .pass, state := some .released }
          planned := 0, done := 0, inFlight := 0, dwellStart := some s.nowMs, dwellRaised := false
          outRequest := true } t
        ∧ t.book b.lift.slot = some (faulted .interrupted k))
      ∧ (s.ordered .outTransfer = true →
        t.ss.bed = none ∧ t.book b.lift.slot = some (faulted .interrupted (gatheredBook b k s)))
      ∧ (s.ordered .bedTransfer = false → s.ordered .outTransfer = false →
        (b.lift.state ≠ some .onBed → BedIs b t ∧ t.book b.lift.slot = some k)
        ∧ (b.lift.state = some .onBed →
          (b.inFlight ≠ 0 ∨ (b.done ≠ 0 ∧ b.outstanding ≠ 0) →
            BedIs { b with
              lift := { b.lift with mode := some .pass, state := some .released }
              planned := b.done, inFlight := 0, outRequest := true } t
            ∧ t.book b.lift.slot = some (faulted .interrupted k))
          ∧ (b.inFlight = 0 → b.outstanding = 0 →
            BedIs { b with lift := { b.lift with state := some .released }, outRequest := true } t
            ∧ t.book b.lift.slot = some k)
          ∧ (b.inFlight = 0 → b.done = 0 → b.outstanding ≠ 0 →
            ((∀ d, DriveSet.has d b.outstanding = true → t.driveState d ≠ .disabled) →
              BedIs b t ∧ t.book b.lift.slot = some k)
            ∧ ((∃ d, DriveSet.has d b.outstanding = true ∧ t.driveState d = .disabled) →
              BedIs { b with
                lift := { b.lift with mode := some .pass, state := some .released }
                planned := 0, outRequest := true } t
              ∧ t.book b.lift.slot = some (faulted .driveDisabled k)))))

/-- What the entry of Safe Stop makes of the finish book and the gather record (R155, its rows; R167 step
4): a book in work is INTERRUPTED, one in its exit has passed as REJECTED, one blocked for the bit keeps its
block. -/
def FinishStopped (s t : State) : Prop :=
  (s.fu.finish = none → t.fu.finish = none)
    ∧ t.fu.gather =
        (if transferringIn s = true then none
        else if s.ordered .bedTransfer = false ∧ s.ordered .outTransfer = true then
          s.fu.gather.map fun g =>
            { g with
              lifts := g.lifts ++
                (s.ss.bed.map fun b => { b.lift with state := some .gathered }).toList }
        else s.fu.gather)
    ∧ ∀ f k, s.fu.finish = some f → s.book f.book = some k →
      (f.bitWait = true → t.fu.finish = some f ∧ t.book f.book = some k)
      ∧ (f.bitWait = false → exiting s = false →
        t.fu.finish = some f ∧ t.book f.book = some (faulted .interrupted k))
      ∧ (exiting s = true →
        t.fu.finish = none ∧ t.book f.book = none ∧ t.lsv.liveExit = some ⟨k.id, .rejected⟩
        ∧ (s.lsv.record.retentionValid = false →
            t.lsv.record.lastExit = some ⟨k.id, .rejected⟩)
        ∧ t.si.notices = noticesWithout f.book s.si.notices
        ∧ t.ts.formats =
            Bank.write s.ts.formats k.format (released (Bank.read s.ts.formats k.format))
        ∧ (s.ts.settings.outcomeNotices = true → s.lp.placesInUse < 4 →
            .bookOutcome k.id .rejected (faulted .interrupted k).fault k.format k.placed
              k.liftsPunched ∈ t.lp.queue))

/-- What the entry of Safe Stop leaves of the other books and of the tables, and what it counts (R167, R87,
R151): a lift taken as gathered, a book taken as passed. -/
def StopCounted (s t : State) : Prop :=
  (∀ j, (∀ b, s.ss.bed = some b → b.lift.slot ≠ j) → NotFinishing j s → t.book j = s.book j)
    ∧ (exiting s = false →
        t.si.notices = s.si.notices ∧ t.ts = s.ts ∧ t.lsv.liveExit = s.lsv.liveExit
          ∧ t.lsv.record.lastExit = s.lsv.record.lastExit)
    ∧ t.lsv.holds = { s.lsv.holds with stationWait := false }
    ∧ ∀ work,
        work =
          (if s.ordered .bedTransfer = false ∧ s.ordered .outTransfer = true then
            s.ss.bed.elim s.lm.work fun b =>
              bumped (if b.lift.mode = some .strike ∧ b.planned &&& ~~~b.done = 0 then .liftsPunched
                else .liftsPassed) s.lm.work
          else s.lm.work) →
        t.lm.work = (if exiting s = true then bumped .booksRejected work else work)

/-- A safe-stop cause has been added (R166, R167). Outside SAFE_STOP the line has entered it, nothing is in
flight, and bed lift, finish book and the other books are as R90 and R155 leave them; in SAFE_STOP the cause
has joined the set and nothing else has changed but for the link. That the bed lift is not of the finish book
is part of the invariant `StagesAgree`. The order of the entry's parts is log 13, and what the end of a purge
brings the bed lift of a drive disabled meanwhile is log 31. -/
def StopTaken (x : StopCause) (s t : State) : Prop :=
  t.lsv.lineState = .safeStop ∧ t.lsv.causes = s.lsv.causes.add x
    ∧ (s.lsv.lineState = .safeStop →
        t = { s with lp := t.lp, lsv := { s.lsv with causes := s.lsv.causes.add x } })
    ∧ (s.lsv.lineState ≠ .safeStop →
        Quiet t ∧ StopKept s t
          ∧ (BedApart s → BedStopped s t ∧ FinishStopped s t ∧ StopCounted s t))

/-- While the line state is SAFE_STOP nothing is in flight (R167). -/
def StoppedIsQuiet (s : State) : Prop := s.lsv.lineState = .safeStop → Quiet s

/-- The number of books bound to a format. -/
def boundBooks (f : FormatId) (s : State) : Nat :=
  (List.finRange 8).countP fun i => (s.book i).any fun b => decide (b.format = f)

/-- Each reference count is the number of books bound to the format, and a staged copy is present only
while it is above 0 (R50, R52). -/
def ReferencesCounted (s : State) : Prop :=
  ∀ f, (Bank.read s.ts.formats f).refCount = boundBooks f s
    ∧ ((Bank.read s.ts.formats f).refCount = 0 → (Bank.read s.ts.formats f).staged = none)

/-- At most one book of the table has a given id (R1). -/
def BooksDistinct (s : State) : Prop :=
  ∀ i j b c, s.book i = some b → s.book j = some c → b.id = c.id → i = j

/-- The Open Lift holds placed sheets of a book still COLLECTING or COLLECTED, and one that ends its
book's collection stands open only under an overrun hold (R33, R36, R41). -/
def OpenLiftBound (s : State) : Prop :=
  ∀ l, s.lb.openLift = some l →
    (∃ b, s.book l.slot = some b ∧ (b.stage = .collecting ∨ b.stage = .collected) ∧ 1 ≤ b.placed)
      ∧ (l.endsCollection = true → l.overrunHold = true)

/-- Every notice that names a slot names a book that has had a notice (R7, R11). -/
def NoticesBound (s : State) : Prop :=
  ∀ n i, n ∈ s.si.notices → n.slot = some i → ∃ b, s.book i = some b ∧ b.stage ≠ .opened

/-- The lifts of a slot that are closed and not yet gathered: in the Lift Queue or on the bed. -/
def liftsUnderWay (i : Slot) (s : State) : Nat :=
  s.lb.queue.countP (fun l => decide (l.slot = i))
    + (s.ss.bed.any fun b => decide (b.lift.slot = i)).toNat

/-- The lifts closed of a book are those under way and those gathered (R1, R34, R87); an OPEN book has none,
a free slot and a book that is GATHERED or later have none under way (R139). -/
def LiftsAgree (s : State) : Prop :=
  ∀ i, (s.book i = none → liftsUnderWay i s = 0)
    ∧ ∀ b, s.book i = some b →
        b.liftsClosed = liftsUnderWay i s + b.liftsGathered
        ∧ (b.stage = .opened → b.liftsClosed = 0 ∧ b.placed = 0)
        ∧ (b.stage = .gathered ∨ b.stage = .finishing ∨ b.stage = .leaving → liftsUnderWay i s = 0)

/-- The finish position, the Open Lift, the Notice Queue, the Lift Queue and the bed name books whose stage
and lift counts agree. -/
def StagesAgree (s : State) : Prop :=
  FinishBookBound s ∧ OpenLiftBound s ∧ NoticesBound s ∧ LiftsAgree s ∧ BedApart s

/-- The line state agrees with the hold sources, and the sources with their owners, while the part is not
held in reset (R160, R161, R163): RUNNING has no source, HOLD_PENDING and HELD have one, HOLD_PENDING is not
at rest; BIT_WORN, DRIVE_HOT and STATION_WAIT stand while their owner's condition holds; START stands while a
channel is out of its working mode. Until the line state first changes after a reset it is HELD or SAFE_STOP
(R172), and nothing is on the bed, at the finish position or ordered (R71, R141). -/
def LineAgrees (s : State) : Prop :=
  Awake s →
    (s.lsv.lineState = .running → s.lsv.holds.any = false)
    ∧ (s.lsv.lineState = .holdPending → s.lsv.holds.any = true ∧ s.atRest = false)
    ∧ (s.lsv.lineState = .held → s.lsv.holds.any = true)
    ∧ s.lsv.holds.bitWorn = s.fu.finish.any Finish.bitWait
    ∧ s.lsv.holds.driveHot = s.anyHot ∧ s.lsv.holds.stationWait = s.anyOverdue
    ∧ ((∃ i, (s.ch i).mode ≠ workingMode i) → s.lsv.holds.start = true)
    ∧ (s.lsv.moved = false →
        (s.lsv.lineState = .held ∨ s.lsv.lineState = .safeStop) ∧ s.ss.bed = none
          ∧ s.fu.gather = none ∧ s.fu.finish = none ∧ s.noOrders = true)

/-- The line state has moved as the table of R160 has it, between states outside SAFE_STOP: with no source
left it is RUNNING; with one, a line that was RUNNING or HOLD_PENDING is HELD if it is at rest and
HOLD_PENDING if not, and a line that was HELD stays HELD. The exception is a block for the bit that ends and
begins anew inside one step, with BIT_WORN withdrawn and presented again (R144, R145): that the line then
leaves HELD is log 17, the model's reading. The first change of the line state after a reset is noted, and
nothing else is (log 35). -/
def LineStepped (s t : State) : Prop :=
  Awake s → Awake t → s.lsv.lineState ≠ .safeStop → t.lsv.lineState ≠ .safeStop →
    (t.lsv.holds.any = false → t.lsv.lineState = .running)
    ∧ (t.lsv.holds.any = true → s.lsv.lineState ≠ .held →
        t.lsv.lineState = if t.atRest = true then .held else .holdPending)
    ∧ (t.lsv.holds.any = true → s.lsv.lineState = .held →
        t.lsv.lineState = .held
          ∨ (t.lsv.lineState = .holdPending ∧ s.lsv.holds.bitWorn = true
            ∧ t.lsv.holds.bitWorn = true))
    ∧ (s.lsv.moved = false → (t.lsv.moved = true ↔ t.lsv.lineState ≠ s.lsv.lineState))

/-- The Strike History holds at most 4 times, oldest first, none of them to come (R77). -/
def HistoryBounds (s : State) : Prop :=
  s.ss.history.length ≤ 4 ∧ s.ss.history.Pairwise (· ≤ ·) ∧ ∀ t ∈ s.ss.history, t ≤ s.nowMs

/-- The Notice Queue holds at most 16 entries (R10), the Lift Queue at most 12 lifts (R38), and the Strike
History is within its bounds (R77). -/
def CollectionBounds (s : State) : Prop :=
  s.si.notices.length ≤ 16 ∧ s.lb.queue.length ≤ 12 ∧ HistoryBounds s

end Sys2Proof.Safety
end

