-- ==== Sys2Proof/Certificates/Slice0/Obligations.lean ====
section
/-! DEFINITION. The statements about the part that are to be proved: each says what a rule of the spec
says a command or the machine does. -/

section

open Sys2Proof Sys2Proof.Machine Sys2Proof.Safety

/-! ## Steps and the link -/

/-- A step with a command at the front of the queue is that command's meaning on the state with the
queue's rest. -/
def Obligations.StepRunsFrontCommand : Prop :=
  ∀ (s : State) (c : Instr) (rest : List Instr),
    s.pending = c :: rest → step s = exec c { s with pending := rest }

/-- A step on an empty queue takes the one event that has fallen due, or one of several that have
(R17, R67, R69 to R71, R80, R83, R86, R88, R96, R107, R119 to R125, R141, R149, R178, R191); where
none has, it counts one forward count of the conveyor that is still owed (R17, R116), or else one
unit of 0.1 ms: the channels, and at a whole ms the quarter timers and the report timer, count (R96,
R99, R116, R119, R178). While the Reset input is asserted time goes on and nothing is counted. That
a step does these things, and one at a time, is the model's choice (log 1, log 2, log 9, log 24;
limits reached at their very ms: log 10; the Match Window in force: log 26). -/
def Obligations.IdleStepTakesWhatIsDue : Prop :=
  ∀ s : State, s.pending = [] →
    (s.resetAsserted = true → step s = .next { s with time := s.time + 1, encoder := s.encoder.tail })
    ∧ (s.resetAsserted = false →
        (∀ i, Due i s → (∀ j, Due j s → j = i) → step s = exec i s)
        ∧ (∀ i j, Due i s → Due j s → i ≠ j →
            ∃ k, Due k s ∧ step s = exec k { s with free := s.free + 1 })
        ∧ ((∀ i, ¬Due i s) → 0 < s.travelOwed → ∃ t, step s = .next t ∧ TravelCounted s t)
        ∧ ((∀ i, ¬Due i s) → s.travelOwed = 0 → ∃ t, step s = .next t ∧ Ticked s t))

/-- Every command, power-on and the resets included, answers with a next state; it leaves the queue,
the clock and the encoder as they were, and an input changes only by the command that brings its
level (the model's choice: log 1, log 7, log 24). While the Reset input is asserted, a command other
than power-on and the release changes nothing but the input level it brings (R172, R200; what inputs
do then is log 9, the model's choice). -/
def Obligations.EveryCommandAnswersNext : Prop :=
  (∀ (i : Instr) (s : State), ∃ t, exec i s = .next t ∧ t.pending = s.pending ∧ t.time = s.time
    ∧ t.encoder = s.encoder ∧ t.inputs = inputsAfter i s.inputs)
  ∧ (∀ (i : Instr) (s : State), s.resetAsserted = true → i ≠ .resetInputRelease →
    (∀ x, i ≠ .powerOn x) → exec i s = .next { s with inputs := inputsAfter i s.inputs })

/-- A request that finds all 16 places of the Return Queue in use is discarded unexecuted, with
REQUESTS_DISCARDED set (R197). In line mode ECHO every well-formed frame but SET MODE is returned
unacted, or discarded when all 16 places are in use (R199). -/
def Obligations.RequestsDiscardedOrReturned : Prop :=
  (∀ (i : Instr) (s : State), Awake s → s.lsv.mode ≠ .echo → 16 ≤ s.lp.placesInUse →
    needsAnswer i = true → i.wellFormed = true →
    exec i s = .next { s with lp := { s.lp with receiver := .hunting, requestsDiscarded := true } })
  ∧ (∀ (i : Instr) (f : Frame) (s : State), Awake s → s.lsv.mode = .echo → i.wellFormed = true →
    requestFrame i = some f → f.isSetMode = false →
    exec i s = .next
      { s with
        lp :=
          if s.lp.placesInUse < 16 then
            { s.lp with receiver := .hunting, queue := s.lp.queue ++ [.echoed f] }
          else { s.lp with receiver := .hunting, requestsDiscarded := true } })

/-- The characters of a request's frame, arriving one by one at a hunting receiver, are taken as
that request (R190, R192, R203, 11.4). -/
def Obligations.LaneCarriesRequests : Prop :=
  ∀ (i : Instr) (f : Frame) (s : State), isRequest i = true → i.wellFormed = true →
    requestFrame i = some f → Awake s → s.lp.receiver = .hunting →
    laneFeed f.bytes s = exec i s

/-- The receiver, character by character: hunting for the start character; in a frame, the length
limit, the growing frame, and a complete frame that is bad or fails its check (R190, R192, R203). -/
def Obligations.ReceiverTakesCharacters : Prop :=
  ∀ (s : State) (c : Byte) (e : Bool), Awake s →
    (s.lp.receiver = .hunting →
      exec (.requestLaneCharacter c e) s = .next
        (if c = 0x5A#8 ∧ e = false then
          { s with lp := { s.lp with receiver := .receiving [c] false s.time } }
        else s))
    ∧ ∀ (cs : List Byte) (bad : Bool) (since : Nat), s.lp.receiver = .receiving cs bad since →
        (cs.length = 1 → 56 < c.toNat →
          exec (.requestLaneCharacter c e) s = .next (afterLinkError s))
        ∧ (¬(cs.length = 1 ∧ 56 < c.toNat) →
            (∀ x len r, cs ++ [c] = x :: len :: r → r.length ≠ len.toNat + 4) →
            exec (.requestLaneCharacter c e) s = .next
              { s with
                lp :=
                  { s.lp with receiver := .receiving (cs ++ [c]) (bad || e) s.time } })
        ∧ ∀ x len kind tag rest, cs ++ [c] = x :: len :: kind :: tag :: rest →
            rest.length = len.toNat + 2 →
            ((bad || e) = true ∨
              rest.drop len.toNat ≠ halfBytes (crc (len :: kind :: tag :: rest.take len.toNat))) →
            exec (.requestLaneCharacter c e) s = .next (afterLinkError s)

/-- Frames that are no request: a damaged frame and a frame broken by 2 ms of silence raise
LINK_ERROR, a frame of unknown kind is answered UNKNOWN; before 2 ms of silence, and while hunting,
the timeout is no event (log 3; at 2 ms it is one, log 10). Frames leave the Return Queue oldest
first, the frame sent standing on the lane (log 11); with an empty queue that is no event (log 3). A
notice joins at the young end while fewer than 16 places are in use and fewer than 12 are notices,
and is dropped otherwise (R191, R192, R195, R196, R203). -/
def Obligations.FramesReportedAdmittedAndSent : Prop :=
  (∀ s : State, Awake s →
    exec .damagedFrame s = .next (afterLinkError s)
    ∧ (∀ cs bad since, s.lp.receiver = .receiving cs bad since →
        (since + 20 ≤ s.time → exec .frameBreakTimeout s = .next (afterLinkError s))
        ∧ (s.time < since + 20 → exec .frameBreakTimeout s = .next s))
    ∧ (s.lp.receiver = .hunting → exec .frameBreakTimeout s = .next s)
    ∧ ∀ kind tag payload, (Instr.unknownKindFrame kind tag payload).wellFormed = true → Served s →
        exec (.unknownKindFrame kind tag payload) s = .next
          { s with lp := answered s.lp tag kind .unknown [] })
  ∧ ((∀ s : State, Awake s →
    (∀ u rest, s.lp.queue = u :: rest →
      exec .frameSent s = .next { s with lp := { s.lp with queue := rest, laneOut := u.frame.bytes } })
    ∧ (s.lp.queue = [] → exec .frameSent s = .next s))
  ∧ ∀ (l : LinkPort) (u : Upstream), u.isNotice = true →
      (l.queue.length + l.reserved.toNat < 16 ∧ l.noticeCount < 12 →
        l.pushNotice u = { l with queue := l.queue ++ [u] }
          ∧ (l.pushNotice u).noticeCount = l.noticeCount + 1)
      ∧ (16 ≤ l.queue.length + l.reserved.toNat ∨ 12 ≤ l.noticeCount →
          l.pushNotice u = { l with noticesLost := true }))

/-! ## Sheet notices, books and sheets -/

/-- The streaks and the registration state at their events (R19), with both counts of Line Settings
in their ranges. -/
def Obligations.RegistrationStreaks : Prop :=
  ∀ (x : SheetIntake) (set : LineSettings), 1 ≤ set.declareCount → 1 ≤ set.clearCount →
    x.streak .matching set =
        { x with
          unmatched := 0, matched := min (x.matched + 1) 255
          registration :=
            if x.registration = .lost ∧ set.clearCount ≤ min (x.matched + 1) 255 then .matched
            else x.registration }
    ∧ ∀ e, e = .unannounced ∨ e = .expiry →
        x.streak e set =
          { x with
            unmatched := min (x.unmatched + 1) 255, matched := 0
            registration :=
              if x.registration = .matched ∧ set.declareCount ≤ min (x.unmatched + 1) 255 then .lost
              else x.registration }

/-- A Sheet Notice that finds the queue full is dropped; one for an unknown book, or for a book past
COLLECTING, becomes a divert entry; either is told upstream while there is room. One for a book in
OPEN or COLLECTING is taken against it, whatever it carries (R11, R12). That such a book is not at
the finish position is part of the invariant `StagesAgree`. -/
def Obligations.SheetNoticeDisposed : Prop :=
  (∀ (s : State) (tag : Byte) (book : Half) (leaf kind : Byte) (thickness : Half) (flags : Byte),
    Awake s → s.lsv.mode ≠ .echo →
    (16 ≤ s.si.notices.length →
      exec (.sheetNotice tag book leaf kind thickness flags) s = .next
        { s with
          lp :=
            { s.lp with receiver := .hunting }.pushNotice (.sheetRefused book leaf none) })
    ∧ ∀ r, s.si.notices.length < 16 →
        ((r = .notFound ∧ s.findBook book = none)
          ∨ (r = .bookClosed ∧ ∃ i, s.findBook book = some i ∧ ∃ b, s.book i = some b
              ∧ b.stage ≠ .opened ∧ b.stage ≠ .collecting)) →
        ∃ t, exec (.sheetNotice tag book leaf kind thickness flags) s = .next t
          ∧ t = { s with
              lp := t.lp, lm := t.lm
              si := withNotice (noticeEntry none (some r) leaf kind thickness flags s) s.si }
          ∧ Monitored s.lm.work s t ∧ FrameNoticed s t
          ∧ (s.lp.placesInUse < 15 → s.lp.noticeCount < 11 →
              t.lp.queue.getLast? = some (.sheetRefused book leaf (some r))))
  ∧ (∀ (s : State) (tag : Byte) (book : Half) (leaf kind : Byte) (thickness : Half) (flags : Byte)
    (i : Slot) (b : Book),
    Awake s → s.lsv.mode ≠ .echo → FinishBookBound s → s.si.notices.length < 16 →
    s.findBook book = some i → s.book i = some b → (b.stage = .opened ∨ b.stage = .collecting) →
    ∃ t, exec (.sheetNotice tag book leaf kind thickness flags) s = .next t
      ∧ t = { s with
          lp := t.lp, lm := t.lm
          si := { withNotice (noticeEntry (some i) none leaf kind thickness flags s) s.si with
            books := t.si.books }
          lsv := s.lsv.mirror i (some (noticedBook leaf kind thickness flags b)) }
      ∧ t.book i = some (noticedBook leaf kind thickness flags b)
      ∧ (∀ j, j ≠ i → t.book j = s.book j)
      ∧ Monitored s.lm.work s t ∧ FrameNoticed s t)

/-- Book Open: the checks in their order, and the book created in the lowest free slot (R3, R50). -/
def Obligations.BookOpenChecksAndCreates : Prop :=
  ∀ (s : State) (tag : Byte) (id : Half) (format declared : Byte), Served s →
    (∀ r,
      (((16 ≤ format.toNat ∨ 64 < declared.toNat) ∧ r = .range)
        ∨ ∃ f : FormatId, format = natByte f.val ∧ declared.toNat ≤ 64 ∧
          (((Bank.read s.ts.formats f).active = none ∧ r = .range)
            ∨ ((Bank.read s.ts.formats f).active ≠ none ∧ (Bank.read s.ts.formats f).staged ≠ none
                ∧ r = .pending)
            ∨ ((Bank.read s.ts.formats f).active ≠ none ∧ (Bank.read s.ts.formats f).staged = none
                ∧ (((∃ j c, s.book j = some c ∧ c.id = id) ∧ r = .duplicate)
                  ∨ ((∀ j c, s.book j = some c → c.id ≠ id) ∧ (∀ j, s.book j ≠ none)
                      ∧ r = .full))))) →
      exec (.bookOpen tag id format declared) s = .next
        { s with lp := answered s.lp tag 0x02 r [] })
    ∧ ∀ (f : FormatId) (i : Slot), format = natByte f.val → declared.toNat ≤ 64 →
        (Bank.read s.ts.formats f).active ≠ none → (Bank.read s.ts.formats f).staged = none →
        (∀ j c, s.book j = some c → c.id ≠ id) → s.book i = none →
        (∀ j, j < i → s.book j ≠ none) →
        ∃ b : Book,
          b = { id := id, format := f,
                declared := if declared = 0 then none else some declared.toNat
                noticed := 0, placed := 0, liftsClosed := 0, liftsPunched := 0, liftsGathered := 0,
                stage := .opened, fault := none }
          ∧ exec (.bookOpen tag id format declared) s = .next
              { s with
                si := { s.si with books := Bank.write s.si.books i (some b) }
                ts := { s.ts with
                  formats := Bank.write s.ts.formats f
                    { Bank.read s.ts.formats f with
                      refCount := (Bank.read s.ts.formats f).refCount + 1 } }
                lsv := s.lsv.mirror i (some b)
                lp := answered s.lp tag 0x02 .done [natByte i.val] }

/-- Book Cancel: NOT_FOUND for an unknown book; a book in OPEN is removed with its notices turned to
divert entries; any other book is faulted CANCELLED, and a COLLECTING book's collection ends, which
removes a book with no lifts and no sheets and closes its open lift while the Lift Queue has room
(R4, R7, R8, R9, R36). -/
def Obligations.BookCancelByStage : Prop :=
  ∀ (s : State) (tag : Byte) (id : Half), Served s →
    (s.findBook id = none →
      exec (.bookCancel tag id) s = .next { s with lp := answered s.lp tag 0x03 .notFound [] })
    ∧ ∀ i b, s.findBook id = some i → s.book i = some b →
        (b.stage = .opened →
          ∃ t, exec (.bookCancel tag id) s = .next t
            ∧ AnsweredLast tag 0x03 .done [] s t ∧ Monitored s.lm.work s t
            ∧ t = { s with
                lp := t.lp, lm := t.lm, lsv := t.lsv
                si := { s.si with
                  books := t.si.books
                  notices := noticesWithout i s.si.notices }
                ts := { s.ts with
                  formats :=
                    Bank.write s.ts.formats b.format (released (Bank.read s.ts.formats b.format)) } }
            ∧ t.book i = none ∧ (∀ j, j ≠ i → t.book j = s.book j) ∧ LineFollowed s t)
        ∧ (b.stage ≠ .opened → b.stage ≠ .collecting →
            ∃ t, exec (.bookCancel tag id) s = .next t ∧ AnsweredLast tag 0x03 .done [] s t
              ∧ (∃ c, t.book i = some c ∧ c.fault = b.fault.or (some .cancelled)
                  ∧ (NotFinishing i s → c = { b with fault := b.fault.or (some .cancelled) }))
              ∧ (NotFinishing i s →
                  t = { s with lp := t.lp, lm := t.lm, si := t.si, lsv := t.lsv }
                    ∧ OnlyBook i s t ∧ LineFollowed s t ∧ Monitored s.lm.work s t))
        ∧ (b.stage = .collecting → FinishBookBound s →
            ∃ t, exec (.bookCancel tag id) s = .next t ∧ AnsweredLast tag 0x03 .done [] s t
              ∧ CollectionEnded i (faulted .cancelled b) s t ∧ (∀ j, j ≠ i → t.book j = s.book j)
              ∧ CollectionMoved s t ∧ t.tcu = s.tcu
              ∧ Monitored (endWork i b s.lm.work s) s t ∧ LineFollowed s t)

/-- An edge that finds no notice is an unannounced sheet; one that matches a divert entry, a notice
of a book past COLLECTING, or a notice of a book that collects while registration is LOST under Loss
Action DIVERT, is a diverted sheet, and the last case faults the book REGISTRATION and ends its
collection at its last sheet. The gate is triggered, a trigger that finds one pending is
TRIGGER_OVERRUN, the counter counts and the streaks follow (R13 to R16, R19, R36, R121, R122). -/
def Obligations.InfeedEdgeDiverts : Prop :=
  (∀ s : State, Awake s →
    (s.si.notices = [] →
      ∃ t, exec .infeedEdge s = .next t
        ∧ t = { s with
            lp := t.lp, lm := t.lm, lsv := t.lsv, tcu := Bank.write s.tcu 7 (triggered 7 s)
            si := s.si.streak .unannounced s.ts.settings }
        ∧ Monitored (counted .unannounced s) s t ∧ Noticed s t ∧ LineMoved s t
        ∧ (s.channelHears 7 = true → (s.ch 7).triggerLost = true → t.lm.latches.getLsbD 10 = true))
    ∧ ∀ n rest, s.si.notices = n :: rest → n.slot = none → HeadFresh rest s →
        ∃ t, exec .infeedEdge s = .next t
          ∧ t = { s with
              lp := t.lp, lm := t.lm, lsv := t.lsv, tcu := Bank.write s.tcu 7 (triggered 7 s)
              si := (withoutOldest rest s.si).streak .matching s.ts.settings }
          ∧ Monitored (counted .sheetsDiverted s) s t ∧ Noticed s t ∧ LineMoved s t
          ∧ (s.channelHears 7 = true → (s.ch 7).triggerLost = true → t.lm.latches.getLsbD 10 = true))
  ∧ (∀ (s : State) (n : Notice) (rest : List Notice) (i : Slot) (b : Book),
    Awake s → FinishBookBound s → s.si.notices = n :: rest → n.slot = some i → HeadFresh rest s →
    s.book i = some b → ∀ u,
    u = { s with si := (withoutOldest rest s.si).streak .matching s.ts.settings } →
    (b.stage ≠ .opened → b.stage ≠ .collecting →
      ∃ t, exec .infeedEdge s = .next t
        ∧ t = { u with lp := t.lp, lm := t.lm, lsv := t.lsv, tcu := t.tcu }
        ∧ SheetDiverted s t ∧ LineMoved s t)
    ∧ (b.stage = .collecting → u.si.registration = .lost → s.ts.settings.lossAction = .divert →
      (n.last = false →
        ∃ t, exec .infeedEdge s = .next t
          ∧ t = { u with
              lp := t.lp, lm := t.lm, lsv := t.lsv, tcu := t.tcu
              si := { u.si with books := t.si.books } }
          ∧ t.book i = some (faulted .registration b) ∧ (∀ j, j ≠ i → t.book j = s.book j)
          ∧ SheetDiverted s t)
      ∧ (n.last = true →
        ∃ t, exec .infeedEdge s = .next t ∧ CollectionMoved u t
          ∧ CollectionEnded i (faulted .registration b) u t ∧ (∀ j, j ≠ i → t.book j = s.book j)
          ∧ t.tcu = Bank.write s.tcu 7 (triggered 7 s)
          ∧ Monitored (endWork i b (counted .sheetsDiverted s) s) s t ∧ Noticed s t
          ∧ LineFollowed s t)))

/-- A sheet of a COLLECTING book is declined and diverted: while a lift is held over for an overrun,
with fault OVERRUN; with 64 sheets placed; where it would make a seventeenth lift, with fault
TOO_MANY_LIFTS. Its last-of-book flag ends its collection (R16, R28, R31, R36, R42; log 18). -/
def Obligations.SheetsDeclined : Prop :=
  ∀ (s : State) (n : Notice) (rest : List Notice) (i : Slot) (b : Book) (f : Format)
    (cause : Option FaultCause), SheetHanded n rest i b f s →
    (((∃ l, s.lb.openLift = some l ∧ l.overrunHold = true) ∧ cause = some .overrun)
      ∨ ((∀ l, s.lb.openLift = some l → l.overrunHold = false) ∧ 64 ≤ b.placed ∧ cause = none)
      ∨ (s.lb.openLift = none ∧ b.placed < 64 ∧ n.thickness ≤ f.capacity ∧ 16 ≤ b.liftsClosed
        ∧ cause = some .tooManyLifts)) →
    ∀ u, u = { s with si := (withoutOldest rest s.si).streak .matching s.ts.settings } →
    (n.last = false →
      ∃ t, exec .infeedEdge s = .next t
        ∧ t = { u with
            lp := t.lp, lm := t.lm, lsv := t.lsv, tcu := t.tcu
            si := { u.si with books := t.si.books } }
        ∧ t.book i = some { b with fault := b.fault.or cause } ∧ (∀ j, j ≠ i → t.book j = s.book j)
        ∧ SheetDiverted s t)
    ∧ (n.last = true →
      ∃ t, exec .infeedEdge s = .next t ∧ CollectionMoved u t
        ∧ CollectionEnded i { b with fault := b.fault.or cause } u t
        ∧ (∀ j, j ≠ i → t.book j = s.book j) ∧ t.tcu = Bank.write s.tcu 7 (triggered 7 s)
        ∧ Monitored (bumped .sheetsDiverted (endWork i b s.lm.work s)) s t ∧ Noticed s t
        ∧ LineFollowed s t)

/-- A sheet that may not share the lift at the accumulator closes it first and starts a new lift; a
sheet thicker than the lift capacity makes a PASS lift of its own and faults its book TOO_THICK; a
board that stands alone makes a lift of its own. Where the Lift Queue is full the lift is held over
as a PASS lift and its book is faulted OVERRUN; a sheet that it was to make room for is diverted and
its book faulted OVERRUN, a sheet that has joined it is not (R27, R29, R30, R33, R34, R36, R41). -/
def Obligations.SheetsCloseLifts : Prop :=
  (∀ (s : State) (n : Notice) (rest : List Notice) (i : Slot) (b : Book) (f : Format) (l : Lift)
    (k : Book), SheetHanded n rest i b f s → s.lb.openLift = some l → l.overrunHold = false →
    l.endsCollection = false → l.holdsLast = false → s.book l.slot = some k →
    (k.stage = .collecting ∨ k.stage = .collected) → b.placed < 64 → n.thickness ≤ f.capacity →
    MustCloseFirst i n f l →
    ∀ u, u = { s with si := (withoutOldest rest s.si).streak .matching s.ts.settings } →
    (s.lb.queue.length < 12 → n.last = false → ¬(n.kind = .board ∧ f.boardAlone = true) →
      ∀ closed, closed = (if l.slot = i then b.liftsClosed + 1 else b.liftsClosed) → closed < 16 →
      ∃ t, exec .infeedEdge s = .next t
        ∧ t = { u with
            lp := t.lp, lm := t.lm, lsv := t.lsv
            si := { u.si with books := t.si.books }
            lb := { withLift (closedLift s.lb.nextNumber k.liftsClosed
                (if k.fault = none then .strike else .pass) l) s.lb with
              openLift := some (newLift i n f) } }
        ∧ t.book i = some { b with placed := b.placed + 1, liftsClosed := closed }
        ∧ (l.slot ≠ i → t.book l.slot = some { k with liftsClosed := k.liftsClosed + 1 })
        ∧ (∀ j, j ≠ i → j ≠ l.slot → t.book j = s.book j)
        ∧ Monitored (counted .sheetsPlaced s) s t ∧ Noticed s t ∧ LineFollowed s t)
    ∧ (12 ≤ s.lb.queue.length → ∀ held,
      held = { s.lb with openLift := some { l with overrunHold := true, mode := some .pass } } →
      ∃ t, exec .infeedEdge s = .next t ∧ CollectionMoved u t
        ∧ (n.last = false → t.lb = held ∧ t.book i = some (faulted .overrun b) ∧ t.ss = s.ss
          ∧ t.fu = s.fu ∧ t.si.notices = rest ∧ t.ts = s.ts)
        ∧ (n.last = true → CollectionEnded i (faulted .overrun b) { u with lb := held } t)
        ∧ (l.slot ≠ i → t.book l.slot = some (faulted .overrun k))
        ∧ (∀ j, j ≠ i → j ≠ l.slot → t.book j = s.book j)
        ∧ t.tcu = Bank.write s.tcu 7 (triggered 7 s)
        ∧ Monitored (bumped .sheetsDiverted
            (if n.last = true then endWork i b s.lm.work s else s.lm.work)) s t
        ∧ Noticed s t ∧ LineFollowed s t))
  ∧ (∀ (s : State) (n : Notice) (rest : List Notice) (i : Slot) (b : Book) (f : Format),
    SheetHanded n rest i b f s → b.placed < 64 →
    ∀ u, u = { s with si := (withoutOldest rest s.si).streak .matching s.ts.settings } →
    (f.capacity < n.thickness → ∀ c, c = { faulted .tooThick b with placed := b.placed + 1 } →
      (s.lb.openLift = none → b.liftsClosed < 16 →
        (s.lb.queue.length < 12 →
          ∃ t, exec .infeedEdge s = .next t
            ∧ t = { u with
                lp := t.lp, lm := t.lm, lsv := t.lsv
                si := { u.si with books := t.si.books }
                lb := withLift (closedLift s.lb.nextNumber b.liftsClosed .pass (newLift i n f)) s.lb }
            ∧ t.book i = some
                { c with
                  liftsClosed := b.liftsClosed + 1
                  stage := if n.last = true then
                      collectedStage i b.liftsGathered (b.liftsClosed + 1) s
                    else b.stage }
            ∧ (∀ j, j ≠ i → t.book j = s.book j)
            ∧ Monitored (counted .sheetsPlaced s) s t ∧ Noticed s t ∧ LineFollowed s t)
        ∧ (12 ≤ s.lb.queue.length →
          ∃ t, exec .infeedEdge s = .next t
            ∧ t = { u with
                lp := t.lp, lm := t.lm, lsv := t.lsv
                si := { u.si with books := t.si.books }
                lb := { s.lb with
                  openLift := some
                    { newLift i n f with overrunHold := true, mode := some .pass } } }
            ∧ t.book i = some c ∧ (∀ j, j ≠ i → t.book j = s.book j)
            ∧ Monitored (counted .sheetsPlaced s) s t ∧ Noticed s t ∧ LineFollowed s t))
      ∧ ∀ l, s.lb.openLift = some l → l.overrunHold = false → l.endsCollection = false →
          l.holdsLast = false → ∀ k, s.book l.slot = some k →
          (k.stage = .collecting ∨ k.stage = .collected) → s.lb.queue.length < 11 →
          ∀ closed, closed = (if l.slot = i then b.liftsClosed + 1 else b.liftsClosed) →
          closed < 16 →
          ∃ t, exec .infeedEdge s = .next t
            ∧ t = { u with
                lp := t.lp, lm := t.lm, lsv := t.lsv
                si := { u.si with books := t.si.books }
                lb := withLift (closedLift (s.lb.nextNumber + 1) closed .pass (newLift i n f))
                  (withLift (closedLift s.lb.nextNumber k.liftsClosed
                    (if l.slot ≠ i ∧ k.fault = none then .strike else .pass) l) s.lb) }
            ∧ t.book i = some
                { c with
                  liftsClosed := closed + 1
                  stage := if n.last = true then collectedStage i b.liftsGathered (closed + 1) s
                    else b.stage }
            ∧ (l.slot ≠ i → t.book l.slot = some { k with liftsClosed := k.liftsClosed + 1 })
            ∧ (∀ j, j ≠ i → j ≠ l.slot → t.book j = s.book j)
            ∧ Monitored (counted .sheetsPlaced s) s t ∧ Noticed s t ∧ LineFollowed s t)
    ∧ (SheetJoins i n f b s → s.lb.openLift = none → n.kind = .board → f.boardAlone = true →
      n.last = false → s.lb.queue.length < 12 →
        ∃ t, exec .infeedEdge s = .next t
          ∧ t = { u with
              lp := t.lp, lm := t.lm, lsv := t.lsv
              si := { u.si with books := t.si.books }
              lb := withLift (closedLift s.lb.nextNumber b.liftsClosed
                (if b.fault = none then .strike else .pass) (newLift i n f)) s.lb }
          ∧ t.book i = some { b with placed := b.placed + 1, liftsClosed := b.liftsClosed + 1 }
          ∧ (∀ j, j ≠ i → t.book j = s.book j)
          ∧ Monitored (counted .sheetsPlaced s) s t ∧ Noticed s t ∧ LineFollowed s t)
    ∧ (SheetJoins i n f b s → n.last = true → 12 ≤ s.lb.queue.length →
        ∃ t, exec .infeedEdge s = .next t
          ∧ t = { u with
              lp := t.lp, lm := t.lm, lsv := t.lsv
              si := { u.si with books := t.si.books }
              lb := { s.lb with
                openLift := some
                  { grownLift i n f s with overrunHold := true, mode := some .pass } } }
          ∧ t.book i = some (faulted .overrun { b with placed := b.placed + 1 })
          ∧ (∀ j, j ≠ i → t.book j = s.book j)
          ∧ Monitored (counted .sheetsPlaced s) s t ∧ Noticed s t ∧ LineFollowed s t))

/-- A sheet matched to a notice of a COLLECTING book joins the lift at the accumulator when its
format allows it and registration does not divert it; a sheet that does not carry the last-of-book
flag and makes no board-alone lift leaves the lift open. The last sheet of a book closes its lift
into the Lift Queue and ends the book's collection; a book with fewer sheets placed than declared is
faulted SHORT, and a faulted book's lift is a PASS lift (R6, R13, R14, R27 to R36, R39, R40,
R139). -/
def Obligations.InfeedEdgePlacesSheet : Prop :=
  (∀ (s : State) (n : Notice) (rest : List Notice) (i : Slot) (b : Book) (f : Format),
    Awake s → s.si.notices = n :: rest → n.slot = some i → HeadFresh rest s →
    s.book i = some b → b.stage = .collecting → s.bookFormat i = some f →
    (s.ts.settings.lossAction = .continue
      ∨ (s.si.registration = .matched ∧ 1 ≤ s.ts.settings.declareCount)) →
    SheetJoins i n f b s →
    n.last = false → ¬(n.kind = .board ∧ f.boardAlone = true) →
    ∃ t, exec .infeedEdge s = .next t
      ∧ t = { s with
          lp := t.lp, lm := t.lm, lsv := t.lsv
          si := { (withoutOldest rest s.si).streak .matching s.ts.settings with books := t.si.books }
          lb := { s.lb with openLift := some (grownLift i n f s) } }
      ∧ t.book i = some { b with placed := b.placed + 1 } ∧ (∀ j, j ≠ i → t.book j = s.book j)
      ∧ Monitored (counted .sheetsPlaced s) s t ∧ Noticed s t ∧ LineFollowed s t)
  ∧ (∀ (s : State) (n : Notice) (rest : List Notice) (i : Slot) (b : Book) (f : Format),
    Awake s → FinishBookBound s → s.si.notices = n :: rest → n.slot = some i → HeadFresh rest s →
    s.book i = some b → b.stage = .collecting → s.bookFormat i = some f →
    (s.ts.settings.lossAction = .continue
      ∨ (s.si.registration = .matched ∧ 1 ≤ s.ts.settings.declareCount)) →
    SheetJoins i n f b s → n.last = true → s.lb.queue.length < 12 →
    ∀ cause, cause = b.fault.or
        (if b.declared.any (fun d => decide (b.placed + 1 < d)) = true then some .short else none) →
    ∃ t, exec .infeedEdge s = .next t
      ∧ t.lb = withLift
          (closedLift s.lb.nextNumber b.liftsClosed (if cause = none then .strike else .pass)
            (grownLift i n f s)) s.lb
      ∧ t.book i = some
          { b with
            placed := b.placed + 1, liftsClosed := b.liftsClosed + 1, fault := cause
            stage := collectedStage i b.liftsGathered (b.liftsClosed + 1) s }
      ∧ (∀ j, j ≠ i → t.book j = s.book j)
      ∧ t = { s with
          lp := t.lp, lm := t.lm, lsv := t.lsv, lb := t.lb
          si := { (withoutOldest rest s.si).streak .matching s.ts.settings with
            books := t.si.books } }
      ∧ Monitored (counted .sheetsPlaced s) s t ∧ Noticed s t ∧ LineFollowed s t)

/-- The oldest notice expires when the travel since its arrival exceeds the Match Window: it leaves,
MISSING counts, the streaks follow, its book is faulted MISSING_SHEET, and the last-of-book notice
of a COLLECTING book ends its collection. The new oldest notice is tested at once, and so on, so
that several expire in one step, oldest first; the same after an edge has been matched, when the
sheet has been disposed of (log 29). Before that time the command is no event (log 3). (R17, R19,
R36) -/
def Obligations.OldestNoticeExpires : Prop :=
  ∀ s : State, Awake s →
    (HeadFresh s.si.notices s → exec .noticeExpiry s = .next s)
    ∧ ∀ n rest, s.si.notices = n :: rest →
        (s.si.window < (s.si.travel - n.arrival).toNat →
          ∃ t, exec .noticeExpiry s = .next t ∧ ExpiredOut s t)
        ∧ ∀ u, u = s.matchNotice n rest →
            (∃ t, exec .infeedEdge s = .next t ∧ ExpiredOut u t)
            ∧ (n.slot = none →
              u = { s with
                lp := u.lp, lm := u.lm, lsv := u.lsv, tcu := Bank.write s.tcu 7 (triggered 7 s)
                si := (withoutOldest rest s.si).streak .matching s.ts.settings }
              ∧ Monitored (counted .sheetsDiverted s) s u ∧ Noticed s u ∧ LineMoved s u)
/-! ## Tables -/

/-- Pattern and format writes: the checks, the protection of patterns in use, and where a format
copy is placed. A Table Write that names no entry, or whose contents have the length of another
table's, is refused RANGE; contents of a length that no table has make a damaged frame (R47, R49,
R51, R54, R60, R192, R204; log 23). -/
def Obligations.PatternAndFormatWrites : Prop :=
  (∀ (s : State) (tag : Byte) (contents : List Byte), Served s →
    (∀ p : Fin 24, contents.length = 8 →
      (readPattern contents = none →
        exec (.tableWrite tag 0 (natByte p.val) contents) s = .next
          { s with lp := answered s.lp tag 0x04 .range [] })
      ∧ ∀ x, readPattern contents = some x →
          ((x ≠ none ∧ NamedByBound p s) ∨ (x = none ∧ NamedByCopy p s) →
            exec (.tableWrite tag 0 (natByte p.val) contents) s = .next
              { s with lp := answered s.lp tag 0x04 .busy [] })
          ∧ (¬((x ≠ none ∧ NamedByBound p s) ∨ (x = none ∧ NamedByCopy p s)) →
            exec (.tableWrite tag 0 (natByte p.val) contents) s = .next
              { s with
                ts := { s.ts with patterns := Bank.write s.ts.patterns p x }
                lp := answered s.lp tag 0x04 .done [] }))
    ∧ ∀ f : FormatId, contents.length = 10 →
        (readFormat s.ts.patterns contents = none →
          exec (.tableWrite tag 1 (natByte f.val) contents) s = .next
            { s with lp := answered s.lp tag 0x04 .range [] })
        ∧ ∀ c, readFormat s.ts.patterns contents = some c →
            ((Bank.read s.ts.formats f).refCount = 0 →
              exec (.tableWrite tag 1 (natByte f.val) contents) s = .next
                { s with
                  ts := { s.ts with
                    formats := Bank.write s.ts.formats f
                      { Bank.read s.ts.formats f with active := c } }
                  lp := answered s.lp tag 0x04 .done [0] })
            ∧ (0 < (Bank.read s.ts.formats f).refCount →
              exec (.tableWrite tag 1 (natByte f.val) contents) s = .next
                { s with
                  ts := { s.ts with
                    formats := Bank.write s.ts.formats f
                      { Bank.read s.ts.formats f with staged := some c } }
                  lp := answered s.lp tag 0x04 .done [1] }))
  ∧ (∀ (s : State) (tag selector entry : Byte) (contents : List Byte),
    (Served s →
      (contents.length = 8 ∨ contents.length = 10 ∨ contents.length = 14 ∨ contents.length = 30) →
      ¬((selector = 0 ∧ entry.toNat < 24 ∧ contents.length = 8)
        ∨ (selector = 1 ∧ entry.toNat < 16 ∧ contents.length = 10)
        ∨ (selector = 2 ∧ entry.toNat < 5 ∧ contents.length = 14)
        ∨ (selector = 3 ∧ entry = 0 ∧ contents.length = 30)) →
      exec (.tableWrite tag selector entry contents) s = .next
        { s with lp := answered s.lp tag 0x04 .range [] })
    ∧ (Awake s → contents.length ≠ 8 → contents.length ≠ 10 → contents.length ≠ 14 →
      contents.length ≠ 30 →
      exec (.tableWrite tag selector entry contents) s = .next (afterLinkError s)))

/-- Drive Table and Line Settings writes: STATE outside HELD and SAFE_STOP, RANGE for contents that
fail their checks; otherwise the entry is replaced at once. A lift with an outstanding drive that is
now DISABLED becomes a PASS lift; a change of the drive's chosen kind tests its purge request, also
before it has first been READY (log 35); the report timer follows; a Bed Dwell Limit below the time a
lift has spent raises BED_DWELL (R55 to R60, R74, R88, R96, R103, R105, R178). -/
def Obligations.DriveAndSettingsWrites : Prop :=
  (∀ (s : State) (tag : Byte) (d : DriveId) (contents : List Byte), Served s →
    contents.length = 14 →
    (s.lsv.lineState = .running ∨ s.lsv.lineState = .holdPending →
      exec (.tableWrite tag 2 (natByte d.val) contents) s = .next
        { s with lp := answered s.lp tag 0x04 .state [] })
    ∧ (s.lsv.lineState = .held ∨ s.lsv.lineState = .safeStop →
        (readDrive contents = none →
          exec (.tableWrite tag 2 (natByte d.val) contents) s = .next
            { s with lp := answered s.lp tag 0x04 .range [] })
        ∧ ∀ e v w, readDrive contents = some e →
            v = { s with ts := { s.ts with drives := Bank.write s.ts.drives d e } } →
            w = (if v.chosenKind d = s.chosenKind d then v
              else v.setAccount d { s.account d with tested := true }) →
            (NoneDisabled w →
              ∃ t, exec (.tableWrite tag 2 (natByte d.val) contents) s = .next t
                ∧ t = { w with pc := t.pc, lp := answered s.lp tag 0x04 .done [] }
                ∧ TimersFixed w t)
            ∧ ∀ b, s.ss.bed = some b → b.lift.state = some .onBed →
                (∃ x, DriveSet.has x b.outstanding = true ∧ w.driveState x = .disabled) →
                ∃ t, exec (.tableWrite tag 2 (natByte d.val) contents) s = .next t
                  ∧ t.ts = w.ts ∧ AnsweredLast tag 0x04 .done [] s t
                  ∧ t = { s with
                      lp := t.lp, lm := t.lm, lsv := t.lsv, si := t.si, ts := t.ts, tcu := t.tcu
                      ss := { s.ss with bed := t.ss.bed }, pc := t.pc, fu := t.fu
                      orders := t.orders }
                  ∧ CutToPass b s t ∧ TimersFixed w t))
  ∧ (∀ (s : State) (tag : Byte) (contents : List Byte), Served s → contents.length = 30 →
    (s.lsv.lineState = .running ∨ s.lsv.lineState = .holdPending →
      exec (.tableWrite tag 3 0 contents) s = .next
        { s with lp := answered s.lp tag 0x04 .state [] })
    ∧ (s.lsv.lineState = .held ∨ s.lsv.lineState = .safeStop →
        (readSettings contents = none →
          exec (.tableWrite tag 3 0 contents) s = .next
            { s with lp := answered s.lp tag 0x04 .range [] })
        ∧ ∀ x timer, readSettings contents = some x →
            timer = (if x.reportMode = .manual then none
              else some (s.lm.timer.getD { length := x.reportPeriod * 1000, elapsed := 0 })) →
            ((∀ b, s.ss.bed = some b → b.dwellRaised = false → ∀ since, b.dwellStart = some since →
                s.nowMs - since ≤ x.bedDwellLimit) →
              exec (.tableWrite tag 3 0 contents) s = .next
                { s with
                  ts := { s.ts with settings := x }
                  lm := { s.lm with timer := timer }
                  lp := answered s.lp tag 0x04 .done [] })
            ∧ ∀ b, s.ss.bed = some b → b.dwellRaised = false → ∀ since, b.dwellStart = some since →
                x.bedDwellLimit < s.nowMs - since →
                ∃ t, exec (.tableWrite tag 3 0 contents) s = .next t
                  ∧ t = { s with
                      ts := { s.ts with settings := x }
                      lm := { s.lm with timer := timer, latches := s.lm.latches ||| 0x100#16 }
                      ss := { s.ss with bed := some { b with dwellRaised := true } }
                      lp := t.lp }
                  ∧ AnsweredLast tag 0x04 .done [] s t))

/-- Table Read answers from the entry as it stands, an invalid one as zeros, and changes no state;
no entry, or an unknown copy selector of a format, is refused RANGE. (R62, R204, 11.5) -/
def Obligations.TableReadsAnswer : Prop :=
  ∀ (s : State) (tag copy : Byte), Served s →
    (∀ p : Fin 24, exec (.tableRead tag 0 (natByte p.val) copy) s = .next
      { s with
        lp := answered s.lp tag 0x05 .done
          (patternBytes (Bank.read s.ts.patterns p)
            ++ [natByte ((Bank.read s.ts.patterns p).elim 0 holes)]) })
    ∧ (∀ f : FormatId,
        exec (.tableRead tag 1 (natByte f.val) 0) s = .next
          { s with
            lp := answered s.lp tag 0x05 .done
              (formatBytes (Bank.read s.ts.formats f).active
                ++ [flagByte (Bank.read s.ts.formats f).staged.isSome,
                  natByte (Bank.read s.ts.formats f).refCount]) }
        ∧ (∀ c, (Bank.read s.ts.formats f).staged = some c →
            exec (.tableRead tag 1 (natByte f.val) 1) s = .next
              { s with
                lp := answered s.lp tag 0x05 .done
                  (formatBytes c ++ [1, natByte (Bank.read s.ts.formats f).refCount]) })
        ∧ ((Bank.read s.ts.formats f).staged = none →
            exec (.tableRead tag 1 (natByte f.val) 1) s = .next
              { s with lp := answered s.lp tag 0x05 .notFound [] })
        ∧ (2 ≤ copy.toNat →
            exec (.tableRead tag 1 (natByte f.val) copy) s = .next
              { s with lp := answered s.lp tag 0x05 .range [] }))
    ∧ (∀ d : DriveId, exec (.tableRead tag 2 (natByte d.val) copy) s = .next
        { s with lp := answered s.lp tag 0x05 .done (driveBytes (Bank.read s.ts.drives d)) })
    ∧ exec (.tableRead tag 3 0 copy) s = .next
        { s with lp := answered s.lp tag 0x05 .done (settingsBytes s.ts.settings) }
    ∧ (∀ selector entry : Byte,
        (3 < selector.toNat ∨ (selector = 0 ∧ 24 ≤ entry.toNat) ∨ (selector = 1 ∧ 16 ≤ entry.toNat)
          ∨ (selector = 2 ∧ 5 ≤ entry.toNat) ∨ (selector = 3 ∧ entry ≠ 0)) →
        exec (.tableRead tag selector entry copy) s = .next
          { s with lp := answered s.lp tag 0x05 .range [] })
    ∧ patternBytes none = List.replicate 8 0 ∧ formatBytes none = List.replicate 10 0

/-- A pattern or format entry written with Valid 0 takes no notice of its other bytes, and an
invalid entry reads back as zeros; a free slot, an invalid record slot and an absent last exit carry
0 after their first byte; the channel status byte holds its fields. -/
def Obligations.InvalidAndEmptyPlacesAreZeros : Prop :=
  (∀ (s : State) (tag : Byte) (rest : List Byte), Served s →
    (∀ p : Fin 24, rest.length = 7 → ¬NamedByCopy p s →
      exec (.tableWrite tag 0 (natByte p.val) (0 :: rest)) s = .next
        { s with
          ts := { s.ts with patterns := Bank.write s.ts.patterns p none }
          lp := answered s.lp tag 0x04 .done [] })
    ∧ (∀ f : FormatId, rest.length = 9 → (Bank.read s.ts.formats f).refCount = 0 →
        exec (.tableWrite tag 1 (natByte f.val) (0 :: rest)) s = .next
          { s with
            ts := { s.ts with
              formats := Bank.write s.ts.formats f
                { Bank.read s.ts.formats f with active := none } }
            lp := answered s.lp tag 0x04 .done [0] })
    ∧ (∀ f : FormatId, rest.length = 9 → 0 < (Bank.read s.ts.formats f).refCount →
        exec (.tableWrite tag 1 (natByte f.val) (0 :: rest)) s = .next
          { s with
            ts := { s.ts with
              formats := Bank.write s.ts.formats f
                { Bank.read s.ts.formats f with staged := some none } }
            lp := answered s.lp tag 0x04 .done [1] })
    ∧ (∀ (p : Fin 24) (copy : Byte), Bank.read s.ts.patterns p = none →
        exec (.tableRead tag 0 (natByte p.val) copy) s = .next
          { s with lp := answered s.lp tag 0x05 .done (List.replicate 9 0) })
    ∧ (∀ f : FormatId, (Bank.read s.ts.formats f).active = none →
        ∃ flag count, exec (.tableRead tag 1 (natByte f.val) 0) s = .next
          { s with lp := answered s.lp tag 0x05 .done (List.replicate 10 0 ++ [flag, count]) })
    ∧ ∀ f : FormatId, (Bank.read s.ts.formats f).staged = some none →
        ∃ flag count, exec (.tableRead tag 1 (natByte f.val) 1) s = .next
          { s with lp := answered s.lp tag 0x05 .done (List.replicate 10 0 ++ [flag, count]) })
  ∧ (bookBytes none = [0, 0, 0, 0, 0] ∧ recordBytes none = List.replicate 9 0
    ∧ exitBytes none = [0, 0, 0, 0]
    ∧ ∀ x : CapturedStatus,
        x.byte.extractLsb' 0 3 = x.mode.code.extractLsb' 0 3
          ∧ x.byte.getLsbD 3 = decide (x.source = .travel)
          ∧ x.byte.getLsbD 4 = x.output
          ∧ x.byte.extractLsb' 5 2 = x.phase.code.extractLsb' 0 2
          ∧ x.byte.getLsbD 7 = x.pending)

/-- Contents within their ranges, laid out as 11.6 gives them, are read as what they were, and no
other contents are read, but those of an entry written with Valid 0: what is out of range is
refused. The bytes and codes of 11.3 to 11.6 are as spelled out (R47, R49, R55, R56, R58, R202 to
R206). -/
def Obligations.TableContentsReadBack : Prop :=
  (((∀ p : Pattern, p.check = true → readPattern (patternBytes (some p)) = some (some p))
  ∧ (∀ patterns f, FormatInRange patterns f →
      readFormat patterns (formatBytes (some f)) = some (some f))
  ∧ (∀ e, DriveInRange e → readDrive (driveBytes e) = some e)
  ∧ ∀ x, SettingsInRange x → readSettings (settingsBytes x) = some x)
  ∧ (∀ (contents : List Byte) (patterns : Vector (Option Pattern) 24),
    (∀ x, readPattern contents = some x →
      (x = none → contents.length = 8 ∧ contents.head? = some 0)
      ∧ ∀ p, x = some p →
          p.pins ≠ 0 ∧ (p.notch = true → p.pins &&& 0x7E00000#48 = 0)
            ∧ contents = patternBytes (some p))
    ∧ (∀ x, readFormat patterns contents = some x →
      (x = none → contents.length = 10 ∧ contents.head? = some 0)
      ∧ ∀ f, x = some f → FormatInRange patterns f ∧ contents = formatBytes (some f))
    ∧ (∀ e, readDrive contents = some e → DriveInRange e ∧ contents = driveBytes e)
    ∧ ∀ x, readSettings contents = some x → SettingsInRange x ∧ contents = settingsBytes x))
  ∧ ((∀ x : Half, halfBytes x = [x.extractLsb' 8 8, x.extractLsb' 0 8])
  ∧ (∀ n : Nat, natBytes n = [BitVec.ofNat 8 (n / 256), BitVec.ofNat 8 n]
    ∧ natByte n = BitVec.ofNat 8 n)
  ∧ [false, true].map flagByte = [0, 1]
  ∧ [Result.done, .busy, .range, .state, .unknown, .full, .pending, .duplicate, .notFound].map
      Result.code = [0, 1, 2, 3, 4, 5, 6, 7, 8]
  ∧ [none, some FaultCause.cancelled, some .sequence, some .missingSheet, some .tooManySheets,
      some .registration, some .overrun, some .tooThick, some .tooManyLifts, some .short,
      some .driveDisabled, some .incomplete, some .interrupted].map faultCode
      = [0, 1, 2, 3, 4, 5, 6, 7, 8, 9, 10, 11, 12]
  ∧ [Stage.opened, .collecting, .collected, .gathered, .finishing, .leaving].map Stage.code
      = [0, 1, 2, 3, 4, 5]
  ∧ [BookOutcome.bound, .rejected, .proofed].map BookOutcome.code = [0, 1, 2]
  ∧ [HangerKind.none, .wireHook, .drilled].map HangerKind.code = [0, 1, 2]
  ∧ [PurgeMode.fullOnly, .halfOnly, .quarterOnly, .fullOrHalf, .fullOrQuarter].map PurgeMode.code
      = [0, 1, 2, 3, 4]
  ∧ [ChannelMode.off, .hold, .strobe, .pitch, .soft].map ChannelMode.code = [0, 1, 2, 3, 4]
  ∧ [Source.time, .travel].map Source.code = [0, 1]
  ∧ [Phase.idle, .waiting, .active, .pausedPitch].map Phase.code = [0, 1, 2, 3]
  ∧ [LineMode.run, .dry, .echo].map LineMode.code = [0, 1, 2]
  ∧ [LineState.running, .holdPending, .held, .safeStop].map LineState.code = [0, 1, 2, 3]
  ∧ [DriveState.disabled, .ready, .striking, .purging, .faulted].map DriveState.code
      = [0, 1, 2, 3, 4]
  ∧ [Temperature.cool, .warm, .hot].map Temperature.code = [0, 1, 2]
  ∧ [none, some DivertReason.notFound, some .bookClosed].map reasonCode = [0, 1, 2]
  ∧ [EventLevel.absent, .present, .momentary].map EventLevel.code = [0, 1, 2]
  ∧ [FinishStep.transferIn, .drill, .feed, .hanger, .close, .exit, .exitRun].map FinishStep.code
      = [0, 1, 2, 3, 4, 5, 6]
  ∧ [none, some FreezeReason.powerWarning, some .resetInput, some .lineReset].map freezeCode
      = [0, 1, 2, 3]
  ∧ [Condition.registration, .pause, .held, .driveHot, .driveForced, .airLow, .bitWorn,
      .stationWait, .bedDwell, .purgeOverdue, .triggerOverrun, .counterOverflow, .linkError,
      .safeStop, .powerWarning].map Condition.code = [0, 1, 2, 3, 4, 5, 6, 7, 8, 9, 10, 11, 12, 13, 14]
  ∧ (∀ p : Pattern, patternBytes (some p) =
      [1, flagByte p.notch, p.pins.extractLsb' 0 8, p.pins.extractLsb' 8 8,
        p.pins.extractLsb' 16 8, p.pins.extractLsb' 24 8, p.pins.extractLsb' 32 8,
        p.pins.extractLsb' 40 8])
  ∧ (∀ f : Format, formatBytes (some f) =
      [1, natByte f.pattern.val] ++ natBytes f.capacity
        ++ [natByte f.maxSheets, flagByte f.boardAlone, f.hanger.code, natByte f.drillHoles,
          natByte f.wireClass, natByte f.feedSteps])
  ∧ (∀ e : DriveEntry, driveBytes e =
      [flagByte e.enabled] ++ natBytes e.spacing ++ natBytes e.strokeTimeout
        ++ natBytes e.baseInterval ++ [e.mode.code] ++ natBytes e.full ++ natBytes e.half
        ++ natBytes e.quarter)
  ∧ (∀ x : LineSettings, settingsBytes x =
      natBytes x.matchWindow
        ++ [natByte x.declareCount, natByte x.clearCount,
          if x.lossAction = .continue then 1 else 0, natByte x.crossSpacing]
        ++ natBytes x.strikeWindow ++ natBytes x.bedDwellLimit ++ natBytes x.bedTimeout
        ++ natBytes x.outTimeout ++ natBytes x.finishTimeout ++ natBytes x.exitTimeout
        ++ natBytes x.readyWait ++ natBytes x.drillTimeout ++ natBytes x.hangerTimeout
        ++ natBytes x.closerTimeout ++ [if x.reportMode = .periodic then 1 else 0]
        ++ natBytes x.reportPeriod ++ [flagByte x.outcomeNotices])
  ∧ (∀ tag kind result data, (Upstream.answer tag kind result data).frame
      = ⟨0x81, tag, kind :: result :: data⟩)
  ∧ (∀ book leaf reason, (Upstream.sheetRefused book leaf reason).frame
      = ⟨0x82, 0, halfBytes book ++ [leaf, if reason = none then 0 else 1, reasonCode reason]⟩)
  ∧ (∀ book o fault format placed punched,
      (Upstream.bookOutcome book o fault format placed punched).frame
        = ⟨0x83, 0, halfBytes book
            ++ [o.code, faultCode fault, natByte format.val, natByte placed, natByte punched]⟩)
  ∧ (∀ c level latches, (Upstream.eventNotice c level latches).frame
      = ⟨0x84, 0, [c.code, level.code] ++ halfBytes latches⟩)
  ∧ ∀ number counts, (Upstream.counterReport number counts).frame
      = ⟨0x85, 0, number :: countsBytes counts⟩)

/-! ## Timing channels -/

/-- Channel Set: its checks in their order, and the channel as it is left, with START set while a
channel is out of its working mode and the quarter timers that first run. A Cut of CH0 opens the
clamp, which releases a lift whose strikes are done and is closed again on one that still has drives
outstanding; a Cut of a strike channel ends the strobe of its strike, which then waits for Stroke
Done or completes; a mode that makes an outstanding drive DISABLED turns the lift into a PASS lift;
a Cut of CH6 in the FEED step leaves its budget owed, and PITCH starts the feed again with what is
owed, while a faulted book without PITCH goes to EXIT (log 16). That bed and finish position hold
lifts of two books is part of the invariant `StagesAgree`. (R74 to R76, R82, R84, R96, R114, R118,
R128, R146, R160) -/
def Obligations.ChannelSetChecksAndSets : Prop :=
  ∀ (s : State) (tag channel mode source : Byte) (n w b : Half), Served s →
    (∀ r,
      (((9 ≤ channel.toNat ∨ 5 ≤ mode.toNat ∨ 2 ≤ source.toNat) ∧ r = .range)
        ∨ (channel.toNat < 9 ∧ mode.toNat < 5 ∧ source.toNat < 2
          ∧ (s.lsv.lineState = .running ∨ s.lsv.lineState = .holdPending) ∧ r = .state)
        ∨ ((s.lsv.lineState = .held ∨ s.lsv.lineState = .safeStop) ∧ source.toNat < 2
          ∧ ∃ (i : ChannelId) (m : ChannelMode), channel = natByte i.val ∧ mode = m.code
            ∧ r = .range ∧ ((m ≠ workingMode i ∧ m ≠ .soft ∧ m ≠ .off)
              ∨ (m = .pitch ∧ countOf n ≤ countOf w)))) →
      exec (.channelSet tag channel mode source n w b) s = .next
        { s with lp := answered s.lp tag 0x06 r [] })
    ∧ ∀ (i : ChannelId) (m : ChannelMode) (x : Source), channel = natByte i.val → mode = m.code →
        source = x.code → (s.lsv.lineState = .held ∨ s.lsv.lineState = .safeStop) →
        (m = workingMode i ∨ m = .soft ∨ m = .off) →
        (m = .pitch → countOf w < countOf n) →
        ∀ c, c = channelAsSet m x ⟨n, w, b⟩ (s.ch i) →
        ∀ u, u = { s with tcu := Bank.write s.tcu i c } →
        (∃ t, exec (.channelSet tag channel mode source n w b) s = .next t
          ∧ AnsweredLast tag 0x06 .done [] s t
          ∧ (i ≠ 0 → i ≠ 6 → t.ch i = c) ∧ (∀ j, j ≠ i → j ≠ 0 → t.ch j = s.ch j)
          ∧ (t.ch i).mode = m ∧ (t.ch i).source = x
          ∧ ((∃ j, (t.ch j).mode ≠ workingMode j) → t.lsv.holds.start = true))
        ∧ (NoneDisabled u → i ≠ 0 → i ≠ 6 →
            (∀ d, i = strikeChannel d →
              (s.drive d).strike = none ∨ (s.ch i).phase = .idle ∨ (s.ch i).mode = .soft) →
            ∃ t, exec (.channelSet tag channel mode source n w b) s = .next t
              ∧ ChannelLeft tag i c s t)
        ∧ (NoneDisabled u → i = 0 →
            (∀ l, s.ss.bed = some l → l.lift.state = some .onBed → l.outstanding = 0 → l.inFlight = 0 →
              ∃ t, exec (.channelSet tag channel mode source n w b) s = .next t
                ∧ ChannelLeft tag 0 c
                    { s with ss := { s.ss with
                      bed := some
                        { l with
                          lift := { l.lift with state := some .released }
                          outRequest := true, ask := true } } } t)
            ∧ (∀ l, s.ss.bed = some l → l.lift.state = some .onBed → l.outstanding ≠ 0 →
              l.lift.mode = some .strike → m = .hold → s.lsv.lineState ≠ .safeStop →
              ∃ t, exec (.channelSet tag channel mode source n w b) s = .next t
                ∧ ChannelLeft tag 0 (clampClosedOn c) s t)
            ∧ ((∀ l, s.ss.bed = some l → l.lift.state = some .onBed →
                (l.outstanding ≠ 0 ∨ l.inFlight ≠ 0)
                  ∧ (l.outstanding = 0 ∨ l.lift.mode ≠ some .strike ∨ m ≠ .hold
                    ∨ s.lsv.lineState = .safeStop)) →
              ∃ t, exec (.channelSet tag channel mode source n w b) s = .next t
                ∧ ChannelLeft tag 0 c s t))
        ∧ (∀ d, i = strikeChannel d → ∀ k, (s.drive d).strike = some k → (s.ch i).phase ≠ .idle →
            (s.ch i).mode ≠ .soft → NoneDisabled u →
            (k.strokeDone = false → k.simulated = false →
              ∃ t, exec (.channelSet tag channel mode source n w b) s = .next t
                ∧ ChannelLeft tag i c
                    { s with ss := { s.ss with
                      drives := Bank.write s.ss.drives d
                        { s.drive d with strike := some { k with strobeEnded := true } } } } t)
            ∧ (k.strokeDone = true ∨ k.simulated = true → ∀ l, s.ss.bed = some l →
              ∃ t, exec (.channelSet tag channel mode source n w b) s = .next t
                ∧ StrikeTaken d l c s t ∧ AnsweredLast tag 0x06 .done [] s t
                ∧ t.lsv.lineState = s.lsv.lineState
                ∧ TimersFixed { s with tcu := t.tcu, ss := t.ss } t))
        ∧ (∀ d, i = strikeChannel d → m ≠ .strobe → ∀ l, s.ss.bed = some l →
            l.lift.state = some .onBed → DriveSet.has d l.outstanding = true →
            u.driveState d = .disabled → BedApart s →
            ∃ t, exec (.channelSet tag channel mode source n w b) s = .next t
              ∧ CutToPass l s t ∧ t.ch i = c ∧ (∀ j, j ≠ i → j ≠ 0 → t.ch j = s.ch j)
              ∧ OnlyBook l.lift.slot s t
              ∧ t.book l.lift.slot = (s.book l.lift.slot).map (faulted .driveDisabled)
              ∧ t = { s with
                  lp := answered s.lp tag 0x06 .done [], lsv := t.lsv, si := t.si, pc := t.pc
                  tcu := t.tcu, ss := { s.ss with bed := t.ss.bed } }
              ∧ t.lsv.holds = { s.lsv.holds with start := true }
              ∧ t.lsv.lineState = s.lsv.lineState ∧ LineFollowed s t
              ∧ TimersFixed { s with tcu := t.tcu, ss := t.ss } t)
        ∧ (i = 6 → NoneDisabled u →
            ((s.lsv.lineState = .safeStop ∨ ∀ f, s.fu.finish = some f → f.step ≠ .feed) →
              ∃ t, exec (.channelSet tag channel mode source n w b) s = .next t
                ∧ ChannelLeft tag 6 c s t)
            ∧ ∀ f, s.fu.finish = some f → f.step = .feed → s.lsv.lineState = .held →
                ∀ g, g = (if (s.ch 6).phase ≠ .idle ∧ (s.ch 6).mode ≠ .soft then
                  { f with feedOwed := (s.ch 6).budget } else f) →
                (m = .pitch →
                  ∃ t, exec (.channelSet tag channel mode source n w b) s = .next t
                    ∧ ChannelLeft tag 6 (feedStarted g.feedOwed c)
                        { s with fu := { s.fu with finish := some g } } t)
                ∧ (m ≠ .pitch → s.bookFaulted f.book = false →
                  ∃ t, exec (.channelSet tag channel mode source n w b) s = .next t
                    ∧ ChannelLeft tag 6 c { s with fu := { s.fu with finish := some g } } t)
                ∧ (m ≠ .pitch → s.bookFaulted f.book = true → ∀ k, s.book f.book = some k →
                  k.stage = .finishing →
                  ∃ t, exec (.channelSet tag channel mode source n w b) s = .next t
                    ∧ ChannelLeft tag 6 c
                        { s with
                          fu := { s.fu with finish := some { g with step := .exit } }
                          si := { s.si with
                            books :=
                              Bank.write s.si.books f.book (some { k with stage := .leaving }) }
                          lsv := s.lsv.mirror f.book (some { k with stage := .leaving })
                          orders := Bank.write s.orders (stationIndex .exitTransfer)
                            (some (orderMade .exitTransfer s)) } t))

/-- Channel Count stages its counts; in SOFT it starts a cycle, and in PAUSED_PITCH it is a load
point (R117, R124, R125, R127, R129). -/
def Obligations.ChannelCountStagesAndStarts : Prop :=
  ∀ (s : State) (tag channel : Byte) (n w b : Half), Served s →
    (9 ≤ channel.toNat →
      exec (.channelCount tag channel n w b) s = .next
        { s with lp := answered s.lp tag 0x07 .range [] })
    ∧ ∀ i : ChannelId, channel = natByte i.val →
        ((s.ch i).phase ≠ .pausedPitch → (s.ch i).mode ≠ .soft ∨ s.lsv.lineState = .safeStop →
          exec (.channelCount tag channel n w b) s = .next
            { s with
              lp := answered s.lp tag 0x07 .done []
              tcu := Bank.write s.tcu i { s.ch i with staged := ⟨n, w, b⟩, pending := true } })
        ∧ ((s.ch i).phase = .pausedPitch → (s.ch i).mode ≠ .soft → countOf w < countOf n →
          exec (.channelCount tag channel n w b) s = .next
            { s with
              lp := answered s.lp tag 0x07 .done []
              tcu := Bank.write s.tcu i
                { s.ch i with
                  live := ⟨n, w, (s.ch i).live.b⟩, staged := ⟨n, w, b⟩, pending := false,
                  phase := .active, countdown := countOf w, output := true } })
        ∧ ((s.ch i).phase = .pausedPitch → (s.ch i).mode ≠ .soft → countOf n ≤ countOf w →
          exec (.channelCount tag channel n w b) s = .next
            { s with
              lp := answered s.lp tag 0x07 .done []
              tcu := Bank.write s.tcu i
                { s.ch i with
                  staged := ⟨n, w, b⟩, pending := true, countdown := 0, output := false } })
        ∧ ((s.ch i).mode = .soft → s.lsv.lineState ≠ .safeStop →
          exec (.channelCount tag channel n w b) s = .next
            { s with
              lp := answered s.lp tag 0x07 .done []
              tcu := Bank.write s.tcu i
                { s.ch i with
                  live := ⟨n, w, b⟩, staged := ⟨n, w, b⟩, pending := false
                  phase := if n = 0 then .active else .waiting
                  countdown := if n = 0 then countOf w else n.toNat
                  output := decide (n = 0) && !valveDry i s } })

/-- Capture copies the count, the status or both, as its selector says, of every channel named,
unless one is held already; Channel Read answers from the captures, or from the live channel, and
drops them; bits 3 to 7 of its flags byte carry the pending flag as it stands beside a captured
status, as a free value, and are 0 beside a live one: the model's choice (log 30). (R130, R131,
11.5) -/
def Obligations.CaptureAndChannelRead : Prop :=
  ∀ (s : State) (tag : Byte), Served s →
    (∀ (x : Half) (selector : Byte),
      ((x = 0 ∨ 512 ≤ x.toNat ∨ selector = 0 ∨ 4 ≤ selector.toNat) →
        exec (.capture tag x selector) s = .next { s with lp := answered s.lp tag 0x08 .range [] })
      ∧ (x ≠ 0 → x.toNat < 512 → selector ≠ 0 → selector.toNat < 4 →
        ∃ t, exec (.capture tag x selector) s = .next t
          ∧ t = { s with tcu := t.tcu, lp := answered s.lp tag 0x08 .done [] }
          ∧ ∀ i, t.ch i =
              { s.ch i with
                capturedCount :=
                  if x.getLsbD i.val = true ∧ selector.getLsbD 0 = true
                      ∧ (s.ch i).capturedCount = none then
                    some { countdown := (s.ch i).countdown, budget := (s.ch i).budget }
                  else (s.ch i).capturedCount
                capturedStatus :=
                  if x.getLsbD i.val = true ∧ selector.getLsbD 1 = true
                      ∧ (s.ch i).capturedStatus = none then
                    some
                      { mode := (s.ch i).mode, source := (s.ch i).source,
                        output := (s.ch i).output, phase := (s.ch i).phase,
                        pending := (s.ch i).pending, pendingTrigger := (s.ch i).pendingTrigger }
                  else (s.ch i).capturedStatus }))
    ∧ (∀ channel : Byte, 9 ≤ channel.toNat →
        exec (.channelRead tag channel) s = .next { s with lp := answered s.lp tag 0x09 .range [] })
    ∧ ∀ i : ChannelId,
        exec (.channelRead tag (natByte i.val)) s = .next
          { s with
            tcu := Bank.write s.tcu i
              { s.ch i with capturedCount := none, capturedStatus := none }
            lp := answered s.lp tag 0x09 .done (s.ch i).data }
        ∧ ∀ c x k y, s.ch i = c →
            x = c.capturedStatus.getD
              { mode := c.mode, source := c.source, output := c.output, phase := c.phase,
                pending := c.pending, pendingTrigger := c.pendingTrigger } →
            k = c.capturedCount.getD { countdown := c.countdown, budget := c.budget } →
            y = (if c.capturedStatus.isSome = true then Config.pendingBits c.pending else 0#5)
                ++ BitVec.ofBool c.capturedCount.isSome ++ BitVec.ofBool c.capturedStatus.isSome
                ++ BitVec.ofBool x.pendingTrigger →
            (s.ch i).data =
              [x.byte, y] ++ natBytes k.countdown ++ natBytes k.budget ++ halfBytes c.live.n
                ++ halfBytes c.live.w ++ halfBytes c.live.b ++ halfBytes c.staged.n
                ++ halfBytes c.staged.w ++ halfBytes c.staged.b

/-- What an owner's trigger does to a channel: nothing outside its working mode or in SAFE_STOP; an
idle STROBE channel starts a cycle, a running one keeps one trigger pending and discards the next
with TRIGGER_OVERRUN; a wire feed that runs discards a start the same way, an idle one begins its
train or pauses it. The wait of a STROBE or SOFT cycle ends in its pulse, the strike valves
suppressed in DRY; a SOFT pulse ends; a gate's STROBE pulse ends, or is followed by the cycle of a
pending trigger; the clamp's dwell ends (R76, R117 to R122, R124, R125, R127). -/
def Obligations.ShapedOutputsBeginAndEnd : Prop :=
  (∀ (s : State) (i : ChannelId) (c : Channel), Awake s → s.ch i = c →
    (c.phase = .waiting → c.countdown = 0 → c.mode = .strobe →
      exec (.strobeWaitEnd i) s = .next
        { s with
          tcu := Bank.write s.tcu i
            { c with phase := .active, countdown := countOf c.live.w, output := !valveDry i s } })
    ∧ (c.phase = .waiting → c.countdown = 0 → c.mode = .soft →
      exec (.softWaitEnd i) s = .next
        { s with
          tcu := Bank.write s.tcu i
            { c with phase := .active, countdown := countOf c.live.w, output := !valveDry i s } })
    ∧ (c.phase = .active → c.countdown = 0 → c.mode = .soft →
      ∃ t, exec (.softPulseEnd i) s = .next t
        ∧ t = { s with
            tcu := Bank.write s.tcu i (rested c), lp := t.lp, lm := t.lm, lsv := t.lsv }
        ∧ Reported s t ∧ LineMoved s t)
    ∧ (c.phase = .active → c.countdown = 0 → c.mode = .strobe →
      (∀ d, i = strikeChannel d → (s.drive d).strike = none) →
      ∃ t, exec (.strobePulseEnd i) s = .next t
        ∧ t = { s with tcu := t.tcu, lp := t.lp, lm := t.lm, lsv := t.lsv }
        ∧ Reported s t ∧ LineMoved s t ∧ (∀ j, j ≠ i → t.ch j = s.ch j)
        ∧ (c.pendingTrigger = false → t.ch i = rested c)
        ∧ (c.pendingTrigger = true →
            t.ch i = cycleStarted (valveDry i s) { rested c with pendingTrigger := false }))
    ∧ (i = 0 → c.phase = .active → c.countdown = 0 → c.mode = .hold → c.gate = false →
      exec .holdDwellEnd s = .next
        { s with
          tcu := Bank.write s.tcu 0 (rested c)
          ss := { s.ss with
            bed :=
              if s.ss.bed.any (fun b => b.onBed && b.finished) = true then
                s.ss.bed.map fun b =>
                  { b with
                    lift := { b.lift with state := some .released }
                    outRequest := true, ask := true }
              else s.ss.bed } }))
  ∧ (∀ (s : State) (i : ChannelId) (budget : Nat) (c : Channel), s.ch i = c →
    (c.mode ≠ workingMode i ∨ s.lsv.lineState = .safeStop →
      s.triggerStrobe i = s ∧ (i = 6 → s.startFeed budget = s))
    ∧ (c.mode = workingMode i → s.lsv.lineState ≠ .safeStop →
      (c.phase = .idle →
        s.triggerStrobe i = s.setCh i (cycleStarted (valveDry i s) c))
      ∧ (c.phase ≠ .idle → c.pendingTrigger = false →
        s.triggerStrobe i = s.setCh i { c with pendingTrigger := true })
      ∧ (c.phase ≠ .idle → c.pendingTrigger = true →
        s.triggerStrobe i = s.occur .triggerOverrun)
      ∧ (i = 6 → c.phase ≠ .idle → s.startFeed budget = s.occur .triggerOverrun)
      ∧ (i = 6 → c.phase = .idle → s.startFeed budget = s.setCh 6 (feedStarted budget c)))
    ∧ (s.occur .triggerOverrun).lm.latches.getLsbD 10 = true
    ∧ s.occur .triggerOverrun = { s with
        lp := (s.occur .triggerOverrun).lp
        lm := { s.lm with latches := s.lm.latches ||| 0x400#16 } })

/-- The wire feed train on CH6: the end of a pulse, the end of the train with the finish book's next
step, or EXIT for a faulted book, and the period boundary with its load point (R122 to R124, R142,
R146, R148). -/
def Obligations.PitchTrain : Prop :=
  ∀ (s : State) (c : Channel), Awake s → s.ch 6 = c → c.mode = .pitch → c.countdown = 0 →
    (c.phase = .active → 2 ≤ c.budget →
      exec .pitchPulseEnd s = .next
        { s with
          tcu := Bank.write s.tcu 6
            { c with
              phase := .waiting, countdown := countOf c.live.n - countOf c.live.w,
              budget := c.budget - 1, output := false } })
    ∧ (c.phase = .active → c.budget = 1 →
        ((∀ f, s.fu.finish = some f → f.step ≠ .feed) →
          ∃ t, exec .pitchPulseEnd s = .next t
            ∧ t = { s with
                tcu := Bank.write s.tcu 6 { rested c with budget := 0 }
                lp := t.lp, lm := t.lm, lsv := t.lsv }
            ∧ Reported s t ∧ LineMoved s t)
        ∧ ∀ f, s.fu.finish = some f → f.step = .feed → ∀ b, s.book f.book = some b →
            (b.fault = none → ∀ k, s.bookFormat f.book = some k →
            ∃ t, exec .pitchPulseEnd s = .next t
              ∧ t = { s with
                  tcu := Bank.write s.tcu 6 { rested c with budget := 0 }
                  fu := { s.fu with
                    finish := some
                      { f with
                        feedOwed := 0
                        step := if k.hanger = .wireHook then .hanger else .close } }
                  orders := t.orders }
              ∧ (k.hanger = .wireHook →
                  t.order .hanger = some (orderMade .hanger s) ∧ OnlyOrder .hanger s t)
              ∧ (k.hanger ≠ .wireHook →
                  t.order .closer = some (orderMade .closer s) ∧ OnlyOrder .closer s t))
          ∧ (b.fault ≠ none → b.stage = .finishing →
            ∃ t, exec .pitchPulseEnd s = .next t
              ∧ t = { s with
                  lp := t.lp, lm := t.lm, lsv := t.lsv
                  tcu := Bank.write s.tcu 6 { rested c with budget := 0 }
                  fu := { s.fu with finish := some { f with feedOwed := 0, step := .exit } }
                  si := { s.si with books := t.si.books }
                  orders := t.orders }
              ∧ t.order .exitTransfer = some (orderMade .exitTransfer s)
              ∧ OnlyOrder .exitTransfer s t
              ∧ t.book f.book = some { b with stage := .leaving } ∧ OnlyBook f.book s t
              ∧ Reported s t ∧ LineFollowed s t))
    ∧ (c.phase = .waiting →
        (c.pending = false →
          exec .pitchPeriodBoundary s = .next
            { s with
              tcu := Bank.write s.tcu 6
                { c with phase := .active, countdown := countOf c.live.w, output := true } })
        ∧ (c.pending = true → countOf c.staged.w < countOf c.staged.n →
          exec .pitchPeriodBoundary s = .next
            { s with
              tcu := Bank.write s.tcu 6
                { c with
                  live := ⟨c.staged.n, c.staged.w, c.live.b⟩, pending := false, phase := .active,
                  countdown := countOf c.staged.w, output := true } })
        ∧ (c.pending = true → countOf c.staged.n ≤ countOf c.staged.w →
          exec .pitchPeriodBoundary s = .next
            { s with
              tcu := Bank.write s.tcu 6
                { c with phase := .pausedPitch, countdown := 0, output := false } }))

/-! ## Orders, the punch bed and strikes -/

/-- The three transfers that the part orders by itself: the oldest lift to an empty bed in RUNNING,
an accepted lift from the bed outside SAFE_STOP, a GATHERED book to an empty finish position in
RUNNING (R68, R71, R43, R86, R141). -/
def Obligations.TransfersOrdered : Prop :=
  ∀ s : State, Awake s →
    (∀ l rest, s.lb.queue = l :: rest → s.ss.bed = none → s.lsv.lineState = .running →
      (s.ch 0).mode = .hold →
      ((∀ x, s.lb.openLift = some x → x.overrunHold = false) →
        ∃ t, exec .bedTransferOrder s = .next t
          ∧ t = { s with
              lp := t.lp, lm := t.lm, orders := t.orders
              ss := { s.ss with bed := t.ss.bed }
              lb := { s.lb with
                queue := rest
                pauseSource := s.lb.pauseSource && !decide (rest.length = 6) } }
          ∧ t.ss.bed = some (Bed.inTransit l)
          ∧ t.order .bedShuttle = some (orderMade .bedTransfer s) ∧ OnlyOrder .bedShuttle s t
          ∧ Reported s t)
      ∧ ∀ x, s.lb.openLift = some x → x.overrunHold = true → s.book x.slot ≠ none →
          rest.length < 12 →
          ∃ t, exec .bedTransferOrder s = .next t
            ∧ t.ss.bed = some (Bed.inTransit l) ∧ t.lb.openLift = none
            ∧ t = { s with
                lp := t.lp, lm := t.lm, lsv := t.lsv, orders := t.orders, si := t.si, lb := t.lb
                ss := { s.ss with bed := t.ss.bed }, ts := t.ts, fu := t.fu }
            ∧ t.lb.queue.length = rest.length + 1 ∧ t.lb.queue.take rest.length = rest
            ∧ ∃ c, t.lb.queue.getLast? = some c ∧ c.slot = x.slot
                ∧ c.sheets = x.sheets ∧ c.state = some .queued ∧ c.overrunHold = false
                ∧ c.number = some s.lb.nextNumber)
    ∧ (∀ b, s.ss.bed = some b → b.accepted = true → s.order .bedShuttle = none →
        s.lsv.lineState ≠ .safeStop →
        exec .outTransferOrder s = .next
          { s with
            orders :=
              Bank.write s.orders (stationIndex .bedShuttle) (some (orderMade .outTransfer s)) })
    ∧ ∀ g, s.fu.gather = some g → ∀ b, s.book g.book = some b → b.stage = .gathered →
        s.fu.finish = none → s.lsv.lineState = .running →
        exec .finishTransferOrder s = .next
          { s with
            fu := { s.fu with
              finish := some
                { book := g.book, step := .transferIn, holesDrilled := 0, bitWait := false,
                  feedOwed := 0, exitEdgeHeld := false, exitRunEnd := none } }
            si := { s.si with
              books := Bank.write s.si.books g.book (some { b with stage := .finishing }) }
            lsv := s.lsv.mirror g.book (some { b with stage := .finishing })
            orders := Bank.write s.orders (stationIndex .finishTransfer)
              (some (orderMade .finishTransfer s)) }

/-- Bed Arrival: the lift is ON_BED with its dwell started; a STRIKE lift is planned from its
pattern and clamped, a PASS lift is released, and a lift that needs a DISABLED or FAULTED drive
becomes a PASS lift and faults its book. The drive set of a pattern has a drive for each twelve pin
positions and drive 4 for the notch (R46, R68, R72, R73, R75, R76). -/
def Obligations.LiftArrivesOnBed : Prop :=
  ∀ (s : State) (o : Order) (b : Bed), Awake s → s.order .bedShuttle = some o →
    o.job = .bedTransfer → o.isIssued = true → s.ss.bed = some b →
    (b.lift.mode = some .strike → ∀ p, s.bookPattern b.lift.slot = some p →
      (∀ d, DriveSet.has d p.driveSet = true →
        s.driveState d ≠ .disabled ∧ s.driveState d ≠ .faulted) →
      p.driveSet ≠ 0 → (s.ch 0).mode = .hold → (s.ch 0).output = false →
      s.lsv.lineState ≠ .safeStop →
      ∃ t, exec .bedArrival s = .next t
        ∧ t = { s with
            lp := t.lp, lm := t.lm, lsv := t.lsv, orders := t.orders
            ss := { s.ss with
              bed := some
                { b with
                  lift := { b.lift with state := some .onBed }, planned := p.driveSet, done := 0,
                  inFlight := 0, dwellStart := some s.nowMs, dwellRaised := false } }
            tcu := Bank.write s.tcu 0
              { s.ch 0 with
                live := if (s.ch 0).pending = true then (s.ch 0).staged else (s.ch 0).live
                pending := false
                countdown := countOf
                  (if (s.ch 0).pending = true then (s.ch 0).staged else (s.ch 0).live).n
                gate := true, output := true, phase := .active } }
        ∧ t.order .bedShuttle = none ∧ OnlyOrder .bedShuttle s t ∧ Reported s t ∧ LineMoved s t)
    ∧ (b.lift.mode ≠ some .strike → (s.ch 0).gate = false →
      ∃ t, exec .bedArrival s = .next t
        ∧ t = { s with
            lp := t.lp, lm := t.lm, lsv := t.lsv, orders := t.orders
            ss := { s.ss with
              bed := some
                { b with
                  lift := { b.lift with state := some .released }, planned := 0, done := 0,
                  inFlight := 0, dwellStart := some s.nowMs, dwellRaised := false,
                  outRequest := true, ask := true } } }
        ∧ t.order .bedShuttle = none ∧ OnlyOrder .bedShuttle s t ∧ Reported s t ∧ LineMoved s t)
    ∧ (b.lift.mode = some .strike → ∀ p, s.bookPattern b.lift.slot = some p →
        (∃ d, DriveSet.has d p.driveSet = true
          ∧ (s.driveState d = .disabled ∨ s.driveState d = .faulted)) →
        ∀ k, s.book b.lift.slot = some k →
        ∃ t, exec .bedArrival s = .next t
          ∧ (∃ c, t.ss.bed = some c ∧ c.lift.mode = some .pass ∧ c.planned = 0
              ∧ c.dwellStart = some s.nowMs)
          ∧ t = { s with
              lp := t.lp, lm := t.lm, lsv := t.lsv, orders := t.orders, si := t.si, tcu := t.tcu
              fu := t.fu, ss := { s.ss with bed := t.ss.bed } }
          ∧ ∃ x, t.book b.lift.slot = some x ∧ x.fault = k.fault.or (some .driveDisabled))
    ∧ ∀ (p : Pattern) (d : DriveId), DriveSet.has d p.driveSet = true ↔
        (d = 4 ∧ p.notch = true)
          ∨ (d ≠ 4 ∧ ∃ q : Fin 12, p.pins.getLsbD (12 * d.val + q.val) = true)

/-- A drive is FAULTED, STRIKING, PURGING, READY or DISABLED by the table of R66, and eligible
exactly under the conditions of R78: drive, lift, clamp, line, both spacings and the window; a
strike begins on the lowest-numbered eligible drive: in flight, in the history, timed, and its
channel triggered; with no eligible drive the command is no event (log 3). (R66, R77 to R81, R85) -/
def Obligations.StrikeBeginsOnLowestEligibleDrive : Prop :=
  (∀ (s : State) (d : DriveId),
    s.driveState d =
      (if (s.drive d).faulted = true then .faulted
      else if (s.drive d).strike ≠ none then .striking
      else if (s.account d).purge ≠ none then .purging
      else if (Bank.read s.ts.drives d).enabled = true ∧ (s.ch (strikeChannel d)).mode = .strobe then
        .ready
      else .disabled)
    ∧ (s.eligible d = true ↔
      s.driveState d = .ready ∧ (s.account d).temperature ≠ .hot ∧ (s.account d).debt < 24
      ∧ (∃ b, s.ss.bed = some b ∧ b.lift.state = some .onBed ∧ b.lift.mode = some .strike
          ∧ DriveSet.has d b.planned = true ∧ DriveSet.has d b.done = false
          ∧ DriveSet.has d b.inFlight = false)
      ∧ (s.ch 0).mode = .hold ∧ (s.ch 0).output = true
      ∧ s.lsv.lineState ≠ .safeStop
      ∧ (∀ t, (s.drive d).lastBegin = some t → t + (Bank.read s.ts.drives d).spacing ≤ s.nowMs)
      ∧ (∀ t, s.ss.history.getLast? = some t → t + s.ts.settings.crossSpacing ≤ s.nowMs)
      ∧ s.ss.history.countP (fun t => decide (s.nowMs - t ≤ s.ts.settings.strikeWindow)) < 4))
  ∧ (∀ s : State, Awake s →
    ((∀ d, s.eligible d = false) → exec .strikeBegin s = .next s)
    ∧ ∀ d, s.eligible d = true → (∀ x, x < d → s.eligible x = false) →
        ∀ b, s.ss.bed = some b → (s.ch (strikeChannel d)).phase = .idle →
        exec .strikeBegin s = .next
          { s with
            ss :=
              { bed := some { b with inFlight := b.inFlight ||| (1#5 <<< d.val) }
                drives := Bank.write s.ss.drives d
                  { faulted := (s.drive d).faulted
                    strike := some
                      { timeoutAt := s.nowMs + (Bank.read s.ts.drives d).strokeTimeout
                        strobeEnded := false, strokeDone := false
                        simulated := decide (s.lsv.mode = .dry) }
                    lastBegin := some s.nowMs }
                history :=
                  (if s.ss.history.length < 4 then s.ss.history else s.ss.history.drop 1)
                    ++ [s.nowMs] }
            tcu := Bank.write s.tcu (strikeChannel d)
              (cycleStarted (valveDry (strikeChannel d) s) (s.ch (strikeChannel d))) })

/-- A strike completes at the later of the end of its strobe and Stroke Done, a simulated one at the
end of its strobe: the drive is done, STRIKES_Dd counts in RUN, and a lift with nothing left is
released (R76, R82, R85). -/
def Obligations.StrikesComplete : Prop :=
  ∀ (s : State) (d : DriveId) (k : Strike) (b : Bed), Awake s → (s.drive d).strike = some k →
    s.ss.bed = some b →
    (k.simulated = true ∨ k.strobeEnded = false →
      ∃ t, exec (.strokeDone d) s = .next t
        ∧ t = { s with
            lp := t.lp, lm := t.lm, lsv := t.lsv
            ss := { s.ss with
              drives := Bank.write s.ss.drives d
                { s.drive d with
                  strike := some { k with strokeDone := k.strokeDone || !k.simulated } } } }
        ∧ Reported s t ∧ LineMoved s t)
    ∧ (k.simulated = false → k.strokeDone = false →
        (s.ch (strikeChannel d)).mode = .strobe → (s.ch (strikeChannel d)).phase = .active →
        (s.ch (strikeChannel d)).countdown = 0 → (s.ch (strikeChannel d)).pendingTrigger = false →
        ∃ t, exec (.strobePulseEnd (strikeChannel d)) s = .next t
          ∧ t = { s with
              lp := t.lp, lm := t.lm, lsv := t.lsv
              tcu := Bank.write s.tcu (strikeChannel d) (rested (s.ch (strikeChannel d)))
              ss := { s.ss with
                drives := Bank.write s.ss.drives d
                  { s.drive d with strike := some { k with strobeEnded := true } } } }
          ∧ Reported s t ∧ LineMoved s t)
    ∧ (k.simulated = false → k.strobeEnded = true →
        ∃ t, exec (.strokeDone d) s = .next t
          ∧ StrikeDone d b (s.ch (strikeChannel d)) s t)
    ∧ ((k.strokeDone = true ∨ k.simulated = true) →
        (s.ch (strikeChannel d)).mode = .strobe → (s.ch (strikeChannel d)).phase = .active →
        (s.ch (strikeChannel d)).countdown = 0 → (s.ch (strikeChannel d)).pendingTrigger = false →
        ∃ t, exec (.strobePulseEnd (strikeChannel d)) s = .next t
          ∧ StrikeDone d b (rested (s.ch (strikeChannel d))) s t)

/-- The Finish Unit's answer to a standing out request: the lift is accepted at an empty gather
position or by its own book; it waits for another book that is complete or already found incomplete;
and otherwise that book is found incomplete, and its collection ends (R36, R86, R136, R137; log
27). -/
def Obligations.OutRequestAnswered : Prop :=
  ∀ (s : State) (b : Bed), Awake s → s.ss.bed = some b → b.outRequest = true → b.accepted = false →
    s.order .bedShuttle = none →
    (s.fu.gather = none →
      ∃ t, exec .outRequest s = .next t
        ∧ t = { s with
            lp := t.lp, lm := t.lm, lsv := t.lsv
            ss := { s.ss with bed := some { b with accepted := true, ask := false } }
            fu := { s.fu with
              gather := some
                { book := b.lift.slot, lifts := [], incomplete := false } } }
        ∧ Reported s t ∧ LineMoved s t)
    ∧ ∀ g, s.fu.gather = some g →
        (g.book = b.lift.slot →
          ∃ t, exec .outRequest s = .next t
            ∧ t = { s with
                lp := t.lp, lm := t.lm, lsv := t.lsv
                ss := { s.ss with bed := some { b with accepted := true, ask := false } } }
            ∧ Reported s t ∧ LineMoved s t)
        ∧ (g.book ≠ b.lift.slot →
            (s.complete g.book = true ∨ g.incomplete = true
              ∨ ∃ x, s.book g.book = some x
                  ∧ (x.stage = .gathered ∨ x.stage = .finishing ∨ x.stage = .leaving)) →
            ∃ t, exec .outRequest s = .next t
              ∧ t = { s with
                  lp := t.lp, lm := t.lm, lsv := t.lsv
                  ss := { s.ss with bed := some { b with ask := false } } }
              ∧ Reported s t ∧ LineMoved s t)
        ∧ (g.book ≠ b.lift.slot → s.complete g.book = false → g.incomplete = false →
            FinishBookBound s → ∀ x, s.book g.book = some x →
            (x.stage = .collecting ∨ x.stage = .collected) →
            ∀ w, w = { s with
                ss := { s.ss with bed := some { b with ask := false } }
                fu := { s.fu with gather := some { g with incomplete := true } } } →
            ∃ t, exec .outRequest s = .next t ∧ CollectionMoved w t ∧ t.tcu = s.tcu
              ∧ CollectionEnded g.book { faulted .incomplete x with stage := .collected } w t
              ∧ (∀ j, j ≠ g.book → t.book j = s.book j)
              ∧ Monitored (endWork g.book x s.lm.work s) s t ∧ Noticed s t ∧ LineFollowed s t)

/-- Gather Arrival: the lift joins the gather record and its book's lifts gathered; it counts as
punched or passed; a complete book becomes GATHERED; the bed is empty (R87, R139). -/
def Obligations.LiftGathered : Prop :=
  ∀ (s : State) (o : Order) (b : Bed) (g : Gather) (k : Book), Awake s →
    s.order .bedShuttle = some o → o.job = .outTransfer → o.isIssued = true → s.ss.bed = some b →
    s.fu.gather = some g → g.book = b.lift.slot → s.book b.lift.slot = some k →
    ∀ punched : Bool,
      (punched = true ↔ b.lift.mode = some .strike ∧ b.planned &&& ~~~b.done = 0) →
      ∃ t, exec .gatherArrival s = .next t
        ∧ t = { s with
            lp := t.lp, lm := t.lm, lsv := t.lsv, orders := t.orders, si := t.si
            ss := { s.ss with bed := none }
            fu := { s.fu with
              gather := some
                { g with lifts := g.lifts ++ [{ b.lift with state := some .gathered }] } } }
        ∧ t.order .bedShuttle = none ∧ OnlyOrder .bedShuttle s t ∧ OnlyBook b.lift.slot s t
        ∧ t.book b.lift.slot = some
            { k with
              liftsPunched := if punched = true then k.liftsPunched + 1 else k.liftsPunched
              liftsGathered := k.liftsGathered + 1
              stage :=
                if k.stage = .collected ∧ k.liftsClosed = k.liftsGathered + 1
                    ∧ s.openLiftOf b.lift.slot = false then .gathered
                else k.stage }
        ∧ Monitored
            (counted (if punched = true then Counter.liftsPunched else Counter.liftsPassed) s) s t
        ∧ Noticed s t ∧ LineFollowed s t

/-- Ready levels (log 8), the Ready Wait and the Bed Dwell Limit: a waiting order is issued when
Ready comes; an order that has waited too long is overdue and holds the line; a lift that stays too
long raises BED_DWELL once; before its time an expiry is no event (log 3). (R68, R69, R88) -/
def Obligations.WaitsAndDwells : Prop :=
  ∀ s : State, Awake s →
    (∀ st, exec (.stationReady st false) s = .next
      { s with inputs := inputsAfter (.stationReady st false) s.inputs })
    ∧ (∀ st, (∀ o, s.order st = some o → o.isIssued = true) →
        ∃ t, exec (.stationReady st true) s = .next t
          ∧ t = { s with
              lp := t.lp, lm := t.lm, lsv := t.lsv
              inputs := inputsAfter (.stationReady st true) s.inputs }
          ∧ Reported s t ∧ LineMoved s t)
    ∧ (∀ st o, s.order st = some o → ∀ since wait late, o.phase = .waiting since wait late →
        (∃ t, exec (.stationReady st true) s = .next t
          ∧ t = { s with
              lp := t.lp, lm := t.lm, lsv := t.lsv, orders := t.orders
              inputs := inputsAfter (.stationReady st true) s.inputs }
          ∧ t.order st = some
              { o with phase := .issued (s.nowMs + o.job.timeout s.ts.settings) }
          ∧ OnlyOrder st s t ∧ Reported s t ∧ LineMoved s t)
        ∧ (late = false → wait < s.nowMs - since →
          ∃ t, exec (.readyWaitExpiry st) s = .next t
            ∧ t = { s with lp := t.lp, lm := t.lm, lsv := t.lsv, orders := t.orders }
            ∧ t.order st = some { o with phase := .waiting since wait true } ∧ OnlyOrder st s t
            ∧ t.lm.live.getLsbD 7 = true ∧ t.lsv.holds.stationWait = true
            ∧ (s.lsv.holds.stationWait = false → t.lsv.lineState ≠ .running)
            ∧ Reported s t ∧ LineMoved s t)
        ∧ (late = true ∨ s.nowMs - since ≤ wait → exec (.readyWaitExpiry st) s = .next s))
    ∧ ∀ b, s.ss.bed = some b → ∀ since, b.dwellStart = some since →
        (b.dwellRaised = false → s.ts.settings.bedDwellLimit < s.nowMs - since →
          ∃ t, exec .bedDwellLimitExpiry s = .next t
            ∧ t = { s with
                lp := t.lp
                ss := { s.ss with bed := some { b with dwellRaised := true } }
                lm := { s.lm with latches := s.lm.latches ||| 0x100#16 } }
            ∧ Noticed s t)
        ∧ (b.dwellRaised = true ∨ s.nowMs - since ≤ s.ts.settings.bedDwellLimit →
          exec .bedDwellLimitExpiry s = .next s)

/-- The timeouts that report JAM: of an issued order, of a stroke, which faults its drive, and of
the exit run; before its time none of them is an event (log 3), at the time itself it is taken (log
10). What the stop does to bed lift, finish book and the other books is said with it (log 13, log
31). (R70, R83, R90, R149, R155, R166, R167) -/
def Obligations.JamsEnterSafeStop : Prop :=
  ∀ s : State, Awake s →
    (∀ st o, s.order st = some o → ∀ ends, o.phase = .issued ends →
      (ends ≤ s.nowMs →
        ∃ t, exec (.orderTimeout st) s = .next t ∧ StopTaken .jam s t ∧ Noticed s t)
      ∧ (s.nowMs < ends → exec (.orderTimeout st) s = .next s))
    ∧ (∀ d k, (s.drive d).strike = some k →
        (k.timeoutAt ≤ s.nowMs →
          ∃ t, exec (.strokeTimeout d) s = .next t ∧ Noticed s t
            ∧ StopTaken .jam (s.setDrive d { s.drive d with faulted := true }) t)
        ∧ (s.nowMs < k.timeoutAt → exec (.strokeTimeout d) s = .next s))
    ∧ ∀ f, s.fu.finish = some f → f.step = .exitRun → ∀ ends, f.exitRunEnd = some ends →
        (ends ≤ s.nowMs →
          ∃ t, exec .exitRunTimeout s = .next t ∧ StopTaken .jam s t ∧ Noticed s t)
        ∧ (s.nowMs < ends → exec .exitRunTimeout s = .next s)

/-! ## Purge -/

/-- A quarter interval expires: the debt rises by 1 when COOL and by 2 otherwise; an accrual that
would pass 32 leaves it at 32, is a purge overdue and stops the line (what the stop does: log 13,
log 31), and the interval then begun is suspended from its start and has no length yet (log 22). A
timer that is suspended or has not counted its interval has no event (log 3). (R96 to R99, R104) -/
def Obligations.QuarterIntervalAccrues : Prop :=
  ∀ (s : State) (d : DriveId) (len : Nat) (due : Int), Awake s →
    (s.account d).length = some len →
    due = (s.account d).debt + (if (s.account d).temperature = .cool then 1 else 2) →
    (Suspended d s ∨ (s.account d).elapsed < len →
      exec (.quarterIntervalExpiry d) s = .next s)
    ∧ (¬Suspended d s → len ≤ (s.account d).elapsed →
        (due ≤ 32 →
          ∃ t, exec (.quarterIntervalExpiry d) s = .next t
            ∧ t = { s with lp := t.lp, lm := t.lm, pc := t.pc } ∧ OnlyAccount d s t
            ∧ t.account d =
                { s.account d with
                  debt := due, elapsed := 0
                  length := some ((Bank.read s.ts.drives d).baseInterval / 4) }
            ∧ t.lm.live.getLsbD 4 = t.anyForced ∧ Reported s t)
        ∧ (32 < due →
          ∃ t, exec (.quarterIntervalExpiry d) s = .next t
            ∧ (t.account d).debt = 32 ∧ (t.account d).elapsed = 0
            ∧ t.lm.latches.getLsbD 9 = true ∧ Noticed s t
            ∧ StopTaken .purgeOverdue
                (s.setAccount d
                  { s.account d with
                    debt := 32, elapsed := 0, length := none }) t))

/-- A purge: the chosen kind by purge mode and need, with its payment and its duration; requested
while a reason of R105 holds, DUE and PULL_IN from the first test after a reset, which a change of
the line state or of the chosen kind, a Line Reset or the drive's becoming READY brings (log 35);
granted on a READY drive with air and a reason standing, with the kind chosen then; at its end
time it pays, and PURGES_Dd counts by the line mode at that time (log 19); a drive disabled while
PURGING then becomes DISABLED, and turns the bed lift into a PASS lift if it is outstanding (log
31). A grant that is not possible and an end before its time are no events (log 3). (R66, R67, R74,
R102, R103, R105 to R107, R109, R111, R112) -/
def Obligations.PurgeGrantedAndPaid : Prop :=
  ∀ (s : State) (d : DriveId), Awake s →
    (∀ (need : Bool) (e : DriveEntry), e = Bank.read s.ts.drives d →
      (need = true ↔ ∃ b, s.ss.bed = some b ∧ b.lift.state = some .onBed
        ∧ DriveSet.has d b.planned = true ∧ DriveSet.has d b.done = false
        ∧ DriveSet.has d b.inFlight = false) →
      s.needs d = need
      ∧ s.chosenKind d =
          (match e.mode with
          | .fullOnly => .full
          | .halfOnly => .half
          | .quarterOnly => .quarter
          | .fullOrHalf => if need = true then .half else .full
          | .fullOrQuarter => if need = true then .quarter else .full)
      ∧ (e.mode.single = true ↔ e.mode ≠ .fullOrHalf ∧ e.mode ≠ .fullOrQuarter)
      ∧ PurgeKind.full.payment = 4 ∧ PurgeKind.half.payment = 2 ∧ PurgeKind.quarter.payment = 1
      ∧ e.duration .full = e.full ∧ e.duration .half = e.half ∧ e.duration .quarter = e.quarter)
    ∧ (s.purgeRequested d = true ↔
        s.lsv.mode ≠ .echo ∧ (s.account d).purge = none
        ∧ (24 ≤ (s.account d).debt
          ∨ ((s.lsv.moved = true ∨ (s.account d).tested = true ∨ (s.account d).length ≠ none
              ∨ ¬Suspended d s)
            ∧ ((((s.chosenKind d).payment : Int) ≤ (s.account d).debt ∧ s.needs d = false)
              ∨ (s.lsv.lineState = .held
                ∧ (s.chosenKind d = .full ∨ (Bank.read s.ts.drives d).mode.single = true)
                ∧ -32 ≤ (s.account d).debt - (s.chosenKind d).payment)))))
    ∧ (s.grantable d = false → exec (.purgeGrant d) s = .next s)
    ∧ (s.grantable d = true ↔
        s.lsv.mode ≠ .echo ∧ s.driveState d = .ready ∧ s.pc.air = true
        ∧ s.lsv.lineState ≠ .safeStop
        ∧ (24 ≤ (s.account d).debt
          ∨ (((s.chosenKind d).payment : Int) ≤ (s.account d).debt ∧ s.needs d = false)
          ∨ (s.lsv.lineState = .held
            ∧ (s.chosenKind d = .full ∨ (Bank.read s.ts.drives d).mode.single = true)
            ∧ -32 ≤ (s.account d).debt - (s.chosenKind d).payment)))
    ∧ (s.grantable d = true →
        exec (.purgeGrant d) s = .next
          { s with pc := { s.pc with
            drives := Bank.write s.pc.drives d
              { s.account d with
                purge := some
                  { kind := s.chosenKind d, payment := (s.chosenKind d).payment
                    endAt := s.nowMs + (Bank.read s.ts.drives d).duration (s.chosenKind d)
                    valve := decide (s.lsv.mode = .run) } } } })
    ∧ ∀ p, (s.account d).purge = some p →
        (s.nowMs < p.endAt → exec (.purgeEnd d) s = .next s)
        ∧ (p.endAt ≤ s.nowMs → ∀ w,
            w = s.setAccount d
              { s.account d with debt := (s.account d).debt - p.payment, purge := none } →
            (NoneDisabled w →
              ∃ t, exec (.purgeEnd d) s = .next t
                ∧ t = { w with lp := t.lp, lm := t.lm, lsv := t.lsv }
                ∧ (s.lsv.mode = .run → Monitored (counted (.purges d) s) s t)
                ∧ (s.lsv.mode ≠ .run → Monitored s.lm.work s t)
                ∧ Noticed s t ∧ LineMoved s t)
            ∧ ∀ b, s.ss.bed = some b → b.lift.state = some .onBed →
                (∃ x, DriveSet.has x b.outstanding = true ∧ w.driveState x = .disabled) →
                ∃ t, exec (.purgeEnd d) s = .next t
                  ∧ t = { w with
                      lp := t.lp, lm := t.lm, lsv := t.lsv, si := t.si, tcu := t.tcu
                      ss := { s.ss with bed := t.ss.bed }, fu := t.fu, orders := t.orders }
                  ∧ CutToPass b s t
                  ∧ (s.lsv.mode = .run → Monitored (counted (.purges d) s) s t)
                  ∧ (s.lsv.mode ≠ .run → Monitored s.lm.work s t) ∧ Noticed s t)

/-- The temperature lines and the purge air are taken as they change: DRIVE_HOT follows any Hot
drive; air loss abandons purges without payment, which makes a drive disabled while PURGING DISABLED
(log 31); and the return of air grants the standing requests in the same step (log 21). A level
already taken is no event (log 3). (R66, R74, R100, R101, R108, R109) -/
def Obligations.TemperatureAndAir : Prop :=
  ∀ s : State, Awake s →
    (∀ d r, ∃ t, exec (.temperatureChange d r) s = .next t
      ∧ t = { s with
          lp := t.lp, lm := t.lm, pc := t.pc, lsv := t.lsv
          inputs := inputsAfter (.temperatureChange d r) s.inputs }
      ∧ OnlyAccount d s t
      ∧ t.account d =
          { s.account d with
            temperature :=
              match r with
              | .cool => .cool
              | .warm => .warm
              | .hot => .hot
              | .fourth => .hot }
      ∧ t.lm.live.getLsbD 3 = t.anyHot ∧ t.lsv.holds.driveHot = t.anyHot
      ∧ Reported s t ∧ LineMoved s t)
    ∧ (∀ p, s.pc.air = p → exec (.purgeAirChange p) s = .next
        { s with inputs := inputsAfter (.purgeAirChange p) s.inputs })
    ∧ (s.pc.air = true → ∀ w,
        w = { s with
            inputs := inputsAfter (.purgeAirChange false) s.inputs
            pc := { air := false, drives := Bank.map (fun a => { a with purge := none }) s.pc.drives } } →
        (NoneDisabled w →
          ∃ t, exec (.purgeAirChange false) s = .next t
            ∧ t = { w with lp := t.lp, lm := t.lm, lsv := t.lsv }
            ∧ t.lm.live.getLsbD 5 = true ∧ Reported s t ∧ LineMoved s t)
        ∧ ∀ b, s.ss.bed = some b → b.lift.state = some .onBed →
            (∃ x, DriveSet.has x b.outstanding = true ∧ w.driveState x = .disabled) →
            ∃ t, exec (.purgeAirChange false) s = .next t
              ∧ t = { w with
                  lp := t.lp, lm := t.lm, lsv := t.lsv, si := t.si, tcu := t.tcu
                  ss := { s.ss with bed := t.ss.bed }, fu := t.fu, orders := t.orders }
              ∧ CutToPass b s t ∧ t.lm.live.getLsbD 5 = true ∧ Reported s t)
    ∧ (s.pc.air = false →
        ∃ t, exec (.purgeAirChange true) s = .next t
          ∧ t = { s with
              lp := t.lp, lm := t.lm, pc := t.pc
              inputs := inputsAfter (.purgeAirChange true) s.inputs }
          ∧ t.pc.air = true ∧ t.lm.live.getLsbD 5 = false ∧ Reported s t
          ∧ ∀ d, t.account d =
              if s.purgeRequested d = true ∧ s.driveState d = .ready
                  ∧ s.lsv.lineState ≠ .safeStop then
                { s.account d with
                  purge := some
                    { kind := s.chosenKind d, payment := (s.chosenKind d).payment
                      endAt := s.nowMs + (Bank.read s.ts.drives d).duration (s.chosenKind d)
                      valve := decide (s.lsv.mode = .run) } }
              else s.account d)

/-! ## Gather and finish -/

/-- The steps of the finish sequence: from the finish transfer to DRILL, FEED (with the wire feed
idle, or waiting for PITCH) or EXIT, from hole to hole, and from the hanger and the closer onwards;
a faulted book goes to EXIT when its step ends. The feed is owed the hole count times the feed steps
per loop. A bit life of 0 stays 0 at a Drill Done (log 32). (R46, R117, R122, R124, R141 to R149,
R153) -/
def Obligations.FinishStepsFollow : Prop :=
  ∀ (s : State) (f : Finish) (b : Book) (k : Format), Awake s → s.fu.finish = some f →
    s.book f.book = some b → b.stage = .finishing → s.bookFormat f.book = some k →
    (s.issued .finishTransfer = true →
      (b.fault ≠ none ∨ s.lsv.mode = .dry →
        ∃ t, exec .finishTransferDone s = .next t
          ∧ t.fu = { s.fu with gather := none, finish := some { f with step := .exit } }
          ∧ t.book f.book = some { b with stage := .leaving } ∧ OnlyBook f.book s t
          ∧ t.order .exitTransfer = some (orderMade .exitTransfer s)
          ∧ t.order .finishTransfer = none
          ∧ StageMoved s t)
      ∧ (b.fault = none → s.lsv.mode ≠ .dry → k.hanger = .drilled → k.drillHoles ≤ s.fu.bitLife →
        ∃ t, exec .finishTransferDone s = .next t
          ∧ t.fu = { s.fu with gather := none, finish := some { f with step := .drill } }
          ∧ t.order .drill = some (orderMade .drill s) ∧ t.order .finishTransfer = none
          ∧ t.si = s.si ∧ t.tcu = s.tcu
          ∧ StageMoved s t)
      ∧ (b.fault = none → s.lsv.mode ≠ .dry → k.hanger = .drilled → s.fu.bitLife < k.drillHoles →
        ∃ t, exec .finishTransferDone s = .next t
          ∧ t.fu = { s.fu with
              gather := none, finish := some { f with step := .drill, bitWait := true } }
          ∧ t.order .finishTransfer = none ∧ t.si = s.si ∧ t.tcu = s.tcu
          ∧ t.lsv.holds.bitWorn = true ∧ t.lm.live.getLsbD 6 = true
          ∧ (s.lsv.holds.bitWorn = false → t.lsv.lineState ≠ .running)
          ∧ StageMoved s t)
      ∧ (b.fault = none → s.lsv.mode ≠ .dry → k.hanger ≠ .drilled →
        ∀ p, s.bookPattern f.book = some p → (s.ch 6).mode = .pitch → (s.ch 6).phase = .idle →
        s.lsv.lineState ≠ .safeStop →
        ∃ t, exec .finishTransferDone s = .next t
          ∧ t.fu = { s.fu with
              gather := none
              finish := some { f with step := .feed, feedOwed := holes p * k.feedSteps } }
          ∧ t.tcu = Bank.write s.tcu 6 (feedStarted (holes p * k.feedSteps) (s.ch 6))
          ∧ t.order .finishTransfer = none ∧ t.si = s.si
          ∧ StageMoved s t))
    ∧ (s.issued .finishTransfer = true → b.fault = none → s.lsv.mode ≠ .dry → k.hanger ≠ .drilled →
        ∀ p, s.bookPattern f.book = some p → (s.ch 6).mode ≠ .pitch →
        ∃ t, exec .finishTransferDone s = .next t
          ∧ t.fu = { s.fu with
              gather := none
              finish := some { f with step := .feed, feedOwed := holes p * k.feedSteps } }
          ∧ t.tcu = s.tcu ∧ t.order .finishTransfer = none ∧ t.si = s.si ∧ StageMoved s t)
    ∧ (s.issued .drill = true → b.fault = none → f.holesDrilled + 1 < k.drillHoles →
        ∃ t, exec .drillDone s = .next t
          ∧ t.fu = { s.fu with
              bitLife := s.fu.bitLife - 1
              finish := some { f with holesDrilled := f.holesDrilled + 1 } }
          ∧ t.order .drill = some (orderMade .drill s) ∧ OnlyOrder .drill s t ∧ t.si = s.si
          ∧ t.tcu = s.tcu
          ∧ StageMoved s t)
    ∧ (s.issued .drill = true → b.fault = none → k.drillHoles ≤ f.holesDrilled + 1 →
        ∀ p, s.bookPattern f.book = some p →
        ∃ t, exec .drillDone s = .next t
          ∧ t.fu = { s.fu with
              bitLife := s.fu.bitLife - 1
              finish := some
                { f with
                  holesDrilled := f.holesDrilled + 1, step := .feed
                  feedOwed := holes p * k.feedSteps } }
          ∧ t.order .drill = none ∧ OnlyOrder .drill s t ∧ t.si = s.si
          ∧ ((s.ch 6).mode = .pitch → (s.ch 6).phase = .idle → s.lsv.lineState ≠ .safeStop →
              t.tcu = Bank.write s.tcu 6 (feedStarted (holes p * k.feedSteps) (s.ch 6)))
          ∧ ((s.ch 6).mode ≠ .pitch → t.tcu = s.tcu)
          ∧ StageMoved s t)
    ∧ (s.issued .drill = true → b.fault ≠ none →
        ∃ t, exec .drillDone s = .next t
          ∧ t.fu = { s.fu with
              bitLife := s.fu.bitLife - 1
              finish := some { f with holesDrilled := f.holesDrilled + 1, step := .exit } }
          ∧ t.order .exitTransfer = some (orderMade .exitTransfer s) ∧ t.order .drill = none
          ∧ t.book f.book = some { b with stage := .leaving } ∧ OnlyBook f.book s t
          ∧ StageMoved s t)
    ∧ (s.issued .hanger = true → b.fault = none →
        ∃ t, exec .hangerDone s = .next t
          ∧ t = { s with
              lp := t.lp, lm := t.lm, lsv := t.lsv, orders := t.orders
              fu := { s.fu with finish := some { f with step := .close } } }
          ∧ t.order .closer = some (orderMade .closer s) ∧ t.order .hanger = none
          ∧ Reported s t ∧ LineMoved s t)
    ∧ (s.issued .hanger = true → b.fault ≠ none →
        ∃ t, exec .hangerDone s = .next t
          ∧ t = { s with
              lp := t.lp, lm := t.lm, lsv := t.lsv, orders := t.orders, si := t.si
              fu := { s.fu with finish := some { f with step := .exit } } }
          ∧ t.order .exitTransfer = some (orderMade .exitTransfer s) ∧ t.order .hanger = none
          ∧ t.book f.book = some { b with stage := .leaving } ∧ OnlyBook f.book s t
          ∧ Reported s t ∧ LineFollowed s t)
    ∧ (s.issued .closer = true →
        ∃ t, exec .closerDone s = .next t
          ∧ t = { s with
              lp := t.lp, lm := t.lm, lsv := t.lsv, orders := t.orders, si := t.si
              fu := { s.fu with finish := some { f with step := .exit } } }
          ∧ t.order .exitTransfer = some (orderMade .exitTransfer s) ∧ t.order .closer = none
          ∧ t.book f.book = some { b with stage := .leaving } ∧ OnlyBook f.book s t
          ∧ Reported s t ∧ LineFollowed s t)

/-- A fault raised against the finish book, here by Book Cancel, takes effect on its sequence
(R148): an order of its step that waits for Ready is withdrawn, a block for the bit ends and a feed
that waits for PITCH is given up, and the book goes to EXIT; in SAFE_STOP no step starts (log 14).
An operation that runs is not disturbed, and a book already faulted or in its exit goes on. -/
def Obligations.FaultsDuringFinish : Prop :=
  ∀ (s : State) (tag : Byte) (id : Half) (i : Slot) (b : Book) (f : Finish), Served s →
    s.findBook id = some i → s.book i = some b → s.fu.finish = some f → f.book = i →
    (b.stage = .finishing ∨ b.stage = .leaving) →
    ((b.fault ≠ none ∨ f.step = .transferIn ∨ f.step = .exit ∨ f.step = .exitRun
        ∨ (f.step = .drill ∧ f.bitWait = false ∧ s.orderWaits .drill = false)
        ∨ (f.step = .hanger ∧ s.orderWaits .hanger = false)
        ∨ (f.step = .close ∧ s.orderWaits .closer = false)
        ∨ (f.step = .feed
          ∧ (((s.ch 6).mode = .pitch ∧ (s.ch 6).phase ≠ .idle) ∨ s.lsv.lineState = .safeStop))) →
      ∃ t, exec (.bookCancel tag id) s = .next t
        ∧ t = { s with
            lp := t.lp, lm := t.lm, lsv := t.lsv, si := { s.si with books := t.si.books } }
        ∧ t.book i = some (faulted .cancelled b) ∧ OnlyBook i s t
        ∧ AnsweredLast tag 0x03 .done [] s t ∧ Monitored s.lm.work s t ∧ LineFollowed s t)
    ∧ (b.fault = none → ∀ st o, s.order st = some o → o.isIssued = false →
        ((f.step = .drill ∧ f.bitWait = false ∧ st = .drill) ∨ (f.step = .hanger ∧ st = .hanger)
          ∨ (f.step = .close ∧ st = .closer)) →
        ∃ t, exec (.bookCancel tag id) s = .next t
          ∧ t = { s with
              lp := t.lp, lm := t.lm, lsv := t.lsv, orders := t.orders
              si := { s.si with books := t.si.books }
              fu := { s.fu with finish := some { f with step := .exit } } }
          ∧ t.order st = none ∧ t.order .exitTransfer = some (orderMade .exitTransfer s)
          ∧ (∀ x, x ≠ st → x ≠ .exitTransfer → t.order x = s.order x)
          ∧ t.book i = some { faulted .cancelled b with stage := .leaving } ∧ OnlyBook i s t
          ∧ AnsweredLast tag 0x03 .done [] s t ∧ Monitored s.lm.work s t ∧ LineFollowed s t)
    ∧ (b.fault = none → f.step = .drill → f.bitWait = true →
        ∃ t, exec (.bookCancel tag id) s = .next t
          ∧ t = { s with
              lp := t.lp, lm := t.lm, lsv := t.lsv, orders := t.orders
              si := { s.si with books := t.si.books }
              fu := { s.fu with
                finish := some
                  { f with
                    bitWait := false
                    step := if s.lsv.lineState = .safeStop then .drill else .exit } } }
          ∧ t.lsv.holds.bitWorn = false ∧ t.lm.live.getLsbD 6 = false
          ∧ (s.lsv.lineState = .safeStop →
              t.orders = s.orders ∧ t.book i = some (faulted .cancelled b))
          ∧ (s.lsv.lineState ≠ .safeStop →
              t.order .exitTransfer = some (orderMade .exitTransfer s)
              ∧ OnlyOrder .exitTransfer s t
              ∧ t.book i = some { faulted .cancelled b with stage := .leaving })
          ∧ OnlyBook i s t ∧ AnsweredLast tag 0x03 .done [] s t ∧ Monitored s.lm.work s t
          ∧ LineFollowed s t)
    ∧ (b.fault = none → f.step = .feed → (s.ch 6).mode ≠ .pitch ∨ (s.ch 6).phase = .idle →
        s.lsv.lineState ≠ .safeStop →
        ∃ t, exec (.bookCancel tag id) s = .next t
          ∧ t = { s with
              lp := t.lp, lm := t.lm, lsv := t.lsv, orders := t.orders
              si := { s.si with books := t.si.books }
              fu := { s.fu with finish := some { f with step := .exit } } }
          ∧ t.order .exitTransfer = some (orderMade .exitTransfer s) ∧ OnlyOrder .exitTransfer s t
          ∧ t.book i = some { faulted .cancelled b with stage := .leaving } ∧ OnlyBook i s t
          ∧ AnsweredLast tag 0x03 .done [] s t ∧ Monitored s.lm.work s t ∧ LineFollowed s t)

/-- The exit: the exit transfer's Done starts the exit run, or passes a book whose edge was held; an
edge in EXIT_RUN passes the book, with its outcome, its notice while few places are in use, its
counter, gate, last exit and removal; an edge in EXIT is held; any other is no event (R149 to R152,
R7). -/
def Obligations.BookPassesExit : Prop :=
  ∀ (s : State) (f : Finish) (b : Book) (o : BookOutcome), Awake s → s.fu.finish = some f →
    s.book f.book = some b →
    o = (if b.fault ≠ none then .rejected else if s.lsv.mode = .dry then .proofed else .bound) →
    (s.issued .exitTransfer = true → f.exitEdgeHeld = false →
      ∃ t, exec .exitTransferDone s = .next t
        ∧ t = { s with
            lp := t.lp, lm := t.lm, lsv := t.lsv, orders := t.orders
            fu := { s.fu with
              finish := some
                { f with
                  step := .exitRun, exitRunEnd := some (s.nowMs + s.ts.settings.exitTimeout) } } }
        ∧ t.order .exitTransfer = none ∧ OnlyOrder .exitTransfer s t
        ∧ Reported s t ∧ LineMoved s t)
    ∧ (f.step = .exit → s.issued .exitTransfer = true →
      ∃ t, exec .exitSensorEdge s = .next t
        ∧ t = { s with
            lp := t.lp, lm := t.lm, lsv := t.lsv
            fu := { s.fu with finish := some { f with exitEdgeHeld := true } } }
        ∧ Reported s t ∧ LineMoved s t)
    ∧ (f.step ≠ .exitRun → (f.step = .exit → s.issued .exitTransfer = false) →
      ∃ t, exec .exitSensorEdge s = .next t
        ∧ t = { s with lp := t.lp, lm := t.lm, lsv := t.lsv } ∧ Reported s t ∧ LineMoved s t)
    ∧ (f.step = .exitRun → ∃ t, exec .exitSensorEdge s = .next t ∧ BookPassed f b o s t)
    ∧ (s.issued .exitTransfer = true → f.exitEdgeHeld = true →
      ∃ t, exec .exitTransferDone s = .next t ∧ BookPassed f b o s t ∧ t.order .exitTransfer = none)

/-! ## Line states, holds and stops -/

/-- HOLD adds REQUEST in every line state, and RESUME withdraws START and REQUEST where it is
allowed; the line state follows, and its change is noted (log 35). The line is at rest exactly when no order is in progress, no strike
is in flight, no wire feed step is under way and CH6 is idle, the bed lift has no outstanding drive
but Hot ones (PURGING or Forced as well or not: log 34), and the finish position is empty or its
book is blocked for the bit (R160 to R163). -/
def Obligations.HoldAndResume : Prop :=
  (∀ (s : State) (tag modeByte : Byte), Served s →
    (∃ t, exec (.hold tag modeByte) s = .next t
      ∧ t = { s with
          lp := t.lp, lm := t.lm
          lsv := { s.lsv with
            holds := { s.lsv.holds with request := true }
            moved := s.lsv.moved || decide (t.lsv.lineState ≠ s.lsv.lineState)
            lineState :=
              if s.lsv.lineState = .running ∨ s.lsv.lineState = .holdPending then
                (if s.atRest = true then .held else .holdPending)
              else s.lsv.lineState } }
      ∧ AnsweredLast tag 0x0F .done [] s t ∧ Monitored s.lm.work s t)
    ∧ (s.lsv.lineState = .safeStop ∨ (∃ i, (s.ch i).mode ≠ workingMode i) →
        exec (.resume tag modeByte) s = .next { s with lp := answered s.lp tag 0x0F .state [] })
    ∧ (s.lsv.lineState ≠ .safeStop → (∀ i, (s.ch i).mode = workingMode i) →
        ∃ t, exec (.resume tag modeByte) s = .next t
          ∧ t = { s with
              lp := t.lp, lm := t.lm
              lsv := { s.lsv with
                holds := { s.lsv.holds with start := false, request := false }
                moved := s.lsv.moved || decide (t.lsv.lineState ≠ s.lsv.lineState)
                lineState :=
                  if s.lsv.holds.bitWorn = false ∧ s.lsv.holds.driveHot = false
                      ∧ s.lsv.holds.stationWait = false then .running
                  else s.lsv.lineState } }
          ∧ AnsweredLast tag 0x0F .done [] s t ∧ Monitored s.lm.work s t))
  ∧ (∀ s : State,
    s.atRest = true ↔
      (∀ st, s.order st = none) ∧ (∀ d, (s.drive d).strike = none) ∧ (s.ch 6).phase = .idle
      ∧ (∀ f, s.fu.finish = some f → f.bitWait = true ∧ f.step ≠ .feed)
      ∧ ∀ b, s.ss.bed = some b → ∀ d, DriveSet.has d b.planned = true →
          DriveSet.has d b.done = false → DriveSet.has d b.inFlight = false →
          (s.account d).temperature = .hot)

/-- STOP adds the cause STOP_REQUEST and is answered DONE in every line state; outside SAFE_STOP the
line enters Safe Stop, and in SAFE_STOP nothing else changes. What the stop does to bed lift, finish
book and the other books is said with it; the order of its parts is log 13, and the bed lift of a
drive that was disabled while PURGING is log 31. (R164, R167, R90, R155) -/
def Obligations.StopRequested : Prop :=
  ∀ (s : State) (tag modeByte : Byte), Served s →
    ∃ t, exec (.stop tag modeByte) s = .next t
      ∧ t.lsv.causes = { s.lsv.causes with stopRequest := true }
      ∧ AnsweredLast tag 0x0F .done [] s t
      ∧ (s.lsv.lineState ≠ .safeStop → StopTaken .stopRequest s t)
      ∧ (s.lsv.lineState = .safeStop →
          t = { s with
            lsv := { s.lsv with causes := { s.lsv.causes with stopRequest := true } }
            lp := answered s.lp tag 0x0F .done [] })

/-- STOP CLEAR is refused unless the line is in SAFE_STOP with the guard closed and no Power
Warning; taken, it removes the causes, frees the FAULTED drives, sets START and leaves the line HELD
(R165, R91, R154, R99). -/
def Obligations.StopCleared : Prop :=
  ∀ (s : State) (tag modeByte : Byte), Served s →
    (¬(s.lsv.lineState = .safeStop ∧ s.inputs.guardClosed = true ∧ s.inputs.powerWarning = false) →
      exec (.stopClear tag modeByte) s = .next { s with lp := answered s.lp tag 0x0F .state [] })
    ∧ (s.lsv.lineState = .safeStop → s.inputs.guardClosed = true → s.inputs.powerWarning = false →
        ∃ t, exec (.stopClear tag modeByte) s = .next t
          ∧ AnsweredLast tag 0x0F .done [] s t ∧ Monitored s.lm.work s t
          ∧ t.lsv.causes = ⟨false, false, false, false, false⟩ ∧ t.lsv.lineState = .held
          ∧ t.lsv.moved = true
          ∧ t.lsv.holds.start = true ∧ t.lsv.holds.request = s.lsv.holds.request
          ∧ (∀ d, t.drive d = { s.drive d with faulted := false })
          ∧ (∀ i, i ≠ 0 → t.ch i = s.ch i)
          ∧ t = { s with
              lp := t.lp, lm := t.lm, lsv := t.lsv, pc := t.pc, tcu := t.tcu, orders := t.orders
              si := { s.si with books := t.si.books }
              ss := { s.ss with drives := t.ss.drives }
              fu := { s.fu with finish := t.fu.finish } }
          ∧ (s.fu.finish = none → t.si = s.si ∧ t.orders = s.orders ∧ t.fu = s.fu)
          ∧ (∀ f, s.fu.finish = some f → f.bitWait = false → ∀ b, s.book f.book = some b →
              b.fault ≠ none → b.stage = .finishing →
              t.fu.finish = some { f with step := .exit }
                ∧ t.order .exitTransfer = some (orderMade .exitTransfer s)
                ∧ t.book f.book = some { b with stage := .leaving })
          ∧ ∀ b, s.ss.bed = some b → b.lift.state = some .onBed → b.lift.mode = some .strike →
              b.outstanding ≠ 0 → (s.ch 0).mode = .hold → (s.ch 0).output = false →
              (t.ch 0).output = true ∧ (t.ch 0).gate = true ∧ (t.ch 0).phase = .active)

/-- SET MODE: the checks in their order; taken, in every line mode, it changes the mode, the
suppression of the strike valves and the suspension of the quarter timers, and nothing else (R127,
R158, R199). -/
def Obligations.ModeSet : Prop :=
  ∀ (s : State) (tag modeByte : Byte), Awake s → s.lp.placesInUse < 16 →
    (3 ≤ modeByte.toNat →
      exec (.setMode tag modeByte) s = .next { s with lp := answered s.lp tag 0x0F .range [] })
    ∧ ∀ m : LineMode, modeByte = m.code →
        (¬(s.lsv.lineState = .held
            ∧ (m = .echo → s.lsv.holds.start = true ∨ s.lsv.holds.request = true)
            ∧ ∀ i, s.book i = none) →
          exec (.setMode tag modeByte) s = .next { s with lp := answered s.lp tag 0x0F .state [] })
        ∧ (s.lsv.lineState = .held →
            (m = .echo → s.lsv.holds.start = true ∨ s.lsv.holds.request = true) →
            (∀ i, s.book i = none) →
            (s.lsv.mode = m →
              exec (.setMode tag modeByte) s = .next { s with lp := answered s.lp tag 0x0F .done [] })
            ∧ (s.lsv.mode ≠ m →
              ∃ t, exec (.setMode tag modeByte) s = .next t
                ∧ t = { s with
                    lsv := { s.lsv with mode := m }
                    tcu := t.tcu, pc := t.pc, lp := answered s.lp tag 0x0F .done [] }
                ∧ (∀ i, t.ch i =
                    if 1 ≤ i.val ∧ i.val ≤ 5 then
                      { s.ch i with
                        output := decide ((s.ch i).phase = .active) && decide (m ≠ .dry) }
                    else s.ch i)
                ∧ TimersFixed s t))

/-- LINE RESET: the record is frozen, the books, notices, lifts, bed, orders, gather and finish
records are emptied, references fall with promotion, the channels go idle; the line is HELD under
START, or stays in SAFE_STOP; tables, debts, counters, latches, history and bit life are kept; the
purge requests are tested again, of every drive (R24, R44, R64, R93, R105, R113, R134, R157, R170,
R173, R189). -/
def Obligations.LineResetEmptiesTheLine : Prop :=
  ∀ (s : State) (tag modeByte : Byte), Served s →
    ∃ t, exec (.lineReset tag modeByte) s = .next t
      ∧ AnsweredLast tag 0x0F .done [] s t ∧ Monitored s.lm.work s t
      ∧ (∀ i, t.book i = none) ∧ t.si.notices = [] ∧ t.si.registration = .matched
      ∧ t.si.unmatched = 0 ∧ t.si.matched = 0 ∧ t.si.pauseSource = false ∧ t.si.peak = 0
      ∧ t.si.travel = s.si.travel
      ∧ t.lb = { openLift := none, queue := [], nextNumber := 0, peak := 0, pauseSource := false }
      ∧ (∀ f, Bank.read t.ts.formats f = promoted (Bank.read s.ts.formats f))
      ∧ t.ts = { s.ts with formats := t.ts.formats }
      ∧ t.ss.bed = none ∧ t.ss.history = s.ss.history
      ∧ (∀ d, t.drive d = { s.drive d with strike := none })
      ∧ (∀ st, t.order st = none)
      ∧ (∀ i, t.ch i =
          { stoppedChannel (s.ch i) with capturedCount := none, capturedStatus := none })
      ∧ t.fu = { s.fu with gather := none, finish := none }
      ∧ TimersFixed
          { s with pc := { s.pc with
            drives := Bank.map (fun a => { a with tested := true }) s.pc.drives } } t
      ∧ (∀ d, t.purgeRequested d = true ↔
          (s.account d).purge = none
          ∧ (24 ≤ (s.account d).debt ∨ ((t.chosenKind d).payment : Int) ≤ (s.account d).debt
            ∨ (t.lsv.lineState = .held
              ∧ (t.chosenKind d = .full ∨ (Bank.read s.ts.drives d).mode.single = true)
              ∧ -32 ≤ (s.account d).debt - (t.chosenKind d).payment)))
      ∧ t.lsv.mode = s.lsv.mode ∧ t.lsv.causes = s.lsv.causes ∧ t.lsv.liveExit = s.lsv.liveExit
      ∧ t.lsv.moved = s.lsv.moved
      ∧ t.lsv.lineState = (if s.lsv.lineState = .safeStop then .safeStop else .held)
      ∧ t.lsv.holds.start = true
      ∧ (s.lsv.lineState ≠ .safeStop → t.lsv.holds = ⟨true, false, false, s.anyHot, false⟩)
      ∧ t.lsv.record =
          (if s.lsv.record.retentionValid = true then s.lsv.record
          else { s.lsv.record with retentionValid := true, freezeReason := some .lineReset })
      ∧ t.free = s.free ∧ t.travelOwed = s.travelOwed ∧ t.resetAsserted = false

/-- BIT CHANGED: the checks in their order; the new bit life; a book blocked for the bit starts its
DRILL step again; in SAFE_STOP a step that could start waits for STOP CLEAR with its block ended
(log 14). (R143 to R145) -/
def Obligations.BitChangedTaken : Prop :=
  ∀ (s : State) (tag : Byte) (life : Half), Served s →
    (20000 < life.toNat →
      exec (.bitChanged tag life) s = .next { s with lp := answered s.lp tag 0x10 .range [] })
    ∧ (life.toNat ≤ 20000 → s.issued .drill = true →
      exec (.bitChanged tag life) s = .next { s with lp := answered s.lp tag 0x10 .busy [] })
    ∧ (life.toNat ≤ 20000 → s.issued .drill = false →
        ((∀ f, s.fu.finish = some f → f.bitWait = false) →
          ∃ t, exec (.bitChanged tag life) s = .next t
            ∧ t = { s with
                lp := t.lp, lm := t.lm, lsv := t.lsv, fu := { s.fu with bitLife := life.toNat } }
            ∧ AnsweredLast tag 0x10 .done [] s t ∧ Monitored s.lm.work s t ∧ LineMoved s t)
        ∧ ∀ f, s.fu.finish = some f → f.bitWait = true → ∀ k, s.bookFormat f.book = some k →
            (k.drillHoles ≤ life.toNat → s.lsv.lineState ≠ .safeStop →
              ∃ t, exec (.bitChanged tag life) s = .next t
                ∧ t = { s with
                    lp := t.lp, lm := t.lm, lsv := t.lsv, orders := t.orders
                    fu := { s.fu with
                      bitLife := life.toNat
                      finish := some { f with bitWait := false, step := .drill } } }
                ∧ t.order .drill = some (orderMade .drill s) ∧ OnlyOrder .drill s t
                ∧ t.lsv.holds.bitWorn = false ∧ t.lm.live.getLsbD 6 = false
                ∧ AnsweredLast tag 0x10 .done [] s t ∧ Monitored s.lm.work s t ∧ LineMoved s t)
            ∧ (k.drillHoles ≤ life.toNat → s.lsv.lineState = .safeStop →
              ∃ t, exec (.bitChanged tag life) s = .next t
                ∧ t = { s with
                    lp := t.lp, lm := t.lm
                    lsv := { s.lsv with holds := { s.lsv.holds with bitWorn := false } }
                    fu := { s.fu with
                      bitLife := life.toNat, finish := some { f with bitWait := false } } }
                ∧ t.lm.live.getLsbD 6 = false ∧ AnsweredLast tag 0x10 .done [] s t
                ∧ Monitored s.lm.work s t)
            ∧ (life.toNat < k.drillHoles →
              ∃ t, exec (.bitChanged tag life) s = .next t
                ∧ t = { s with
                    lp := t.lp, lm := t.lm, lsv := t.lsv
                    fu := { s.fu with
                      bitLife := life.toNat
                      finish := some { f with bitWait := true, step := .drill } } }
                ∧ t.lsv.holds.bitWorn = true ∧ t.lm.live.getLsbD 6 = true
                ∧ AnsweredLast tag 0x10 .done [] s t ∧ Monitored s.lm.work s t
                ∧ LineMoved s t))

/-- RECOVERY READ and RECOVERY CLEAR in every line state, in line modes RUN and DRY; in ECHO their
frames are returned. The bytes of a slot and of the last exit are spelled out. -/
def Obligations.RecoveryReadAndClear : Prop :=
  (∀ (s : State) (tag slot : Byte), Awake s → s.lp.placesInUse < 16 →
    (s.lsv.mode ≠ .echo →
      (8 ≤ slot.toNat →
        exec (.recoveryRead tag slot) s = .next { s with lp := answered s.lp tag 0x11 .range [] })
      ∧ (∀ i : Slot, slot = natByte i.val →
        exec (.recoveryRead tag slot) s = .next
          { s with
            lp := answered s.lp tag 0x11 .done
              (recordBytes (Bank.read s.lsv.record.slots i) ++ exitBytes s.lsv.record.lastExit
                ++ [freezeCode s.lsv.record.freezeReason, flagByte s.lsv.record.retentionValid]) })
      ∧ (s.lsv.record.retentionValid = false →
        exec (.recoveryClear tag) s = .next { s with lp := answered s.lp tag 0x12 .done [] })
      ∧ (s.lsv.record.retentionValid = true →
        exec (.recoveryClear tag) s = .next
          { s with
            lp := answered s.lp tag 0x12 .done []
            lsv := { s.lsv with
              record :=
                { slots := Bank.tabulate fun i => (s.book i).map RecordSlot.ofBook
                  lastExit := s.lsv.liveExit, freezeReason := none, retentionValid := false } } }))
    ∧ (s.lsv.mode = .echo →
      exec (.recoveryRead tag slot) s = .next
        { s with
          lp :=
            { s.lp with receiver := .hunting, queue := s.lp.queue ++ [.echoed ⟨0x11, tag, [slot]⟩] } }
      ∧ exec (.recoveryClear tag) s = .next
        { s with
          lp :=
            { s.lp with receiver := .hunting, queue := s.lp.queue ++ [.echoed ⟨0x12, tag, []⟩] } }))
  ∧ ((∀ x : RecordSlot, recordBytes (some x) =
      [1] ++ halfBytes x.id ++ [natByte x.format.val, natByte x.placed, natByte x.liftsClosed,
        natByte x.liftsPunched, x.stage.code, faultCode x.fault])
    ∧ ∀ e : Exit, exitBytes (some e) = [1] ++ halfBytes e.book ++ [e.outcome.code])

/-- The Guard and Power Warning inputs: an opening and an assertion add their causes, the assertion
after freezing the record; a closing and a withdrawal add nothing; an opening while open and an
assertion while asserted are no events (log 3). What the stop does to bed lift, finish book and the
other books is said with it (log 13, log 31). (R90, R155, R166, R167, R170) -/
def Obligations.GuardAndPowerWarning : Prop :=
  ∀ s w : State, Awake s →
    (w = { s with inputs := { s.inputs with guardClosed := false } } →
      (s.inputs.guardClosed = true →
        ∃ t, exec .guardOpen s = .next t ∧ StopTaken .guard w t ∧ Noticed s t)
      ∧ (s.inputs.guardClosed = false → exec .guardOpen s = .next w))
    ∧ (w = { s with inputs := { s.inputs with guardClosed := true } } →
      exec .guardClose s = .next w)
    ∧ (w = { s with inputs := { s.inputs with powerWarning := true } } →
      (s.inputs.powerWarning = true → exec .powerWarningAssert s = .next w)
      ∧ (s.inputs.powerWarning = false →
        ∃ t, exec .powerWarningAssert s = .next t
          ∧ StopTaken .powerWarning
              (State.reportLevel .powerWarning true
                { w with lsv := { s.lsv with record := t.lsv.record } }) t
          ∧ t.lsv.record =
              (if s.lsv.record.retentionValid = true then s.lsv.record
              else { s.lsv.record with
                retentionValid := true, freezeReason := some .powerWarning })
          ∧ t.lm.live.getLsbD 14 = true ∧ Noticed s t))
    ∧ (w = { s with inputs := { s.inputs with powerWarning := false } } →
      ∃ t, exec .powerWarningRelease s = .next t
        ∧ t = { w with lp := t.lp, lm := t.lm } ∧ t.lm.live.getLsbD 14 = false ∧ Reported s t)

/-! ## Counters, events, status -/

/-- The transfer of the counters: by COUNTER TRANSFER in MANUAL, by the report timer in PERIODIC,
with the Counter Report of the holding copies; and the read of the holding copies, its bytes spelled
out: bit n of the three bytes of marks is for counter n, from bit 0 of the last byte (log 28, the
model's reading). (R174, R176 to R179) -/
def Obligations.CountersTransferredAndRead : Prop :=
  (∀ (s : State) (tag : Byte) (m : LineMonitor), Awake s → s.lp.placesInUse < 16 →
    m = { s.lm with
      held := s.lm.work, work := Vector.replicate 18 ⟨0, false⟩
      transferNumber := s.lm.transferNumber + 1 } →
    (s.lsv.mode ≠ .echo →
      (s.ts.settings.reportMode = .manual →
        exec (.counterTransfer tag) s = .next
          { s with lm := m, lp := answered s.lp tag 0x0A .done [s.lm.transferNumber + 1] })
      ∧ (s.ts.settings.reportMode = .periodic →
        exec (.counterTransfer tag) s = .next { s with lp := answered s.lp tag 0x0A .state [] })
      ∧ exec (.counterRead tag) s = .next
          { s with
            lp := answered s.lp tag 0x0B .done (s.lm.transferNumber :: countsBytes s.lm.held) }
      ∧ ∀ r, s.lm.timer = some r → r.length ≤ r.elapsed →
          exec .reportPeriodExpiry s = .next
            { s with
              lm := { m with
                timer := some { length := s.ts.settings.reportPeriod * 1000, elapsed := 0 } }
              lp := s.lp.pushNotice (.counterReport m.transferNumber m.held) })
    ∧ (s.lsv.mode = .echo →
      exec (.counterTransfer tag) s = .next
        { s with
          lp :=
            { s.lp with receiver := .hunting, queue := s.lp.queue ++ [.echoed ⟨0x0A, tag, []⟩] } }
      ∧ exec (.counterRead tag) s = .next
        { s with
          lp :=
            { s.lp with receiver := .hunting, queue := s.lp.queue ++ [.echoed ⟨0x0B, tag, []⟩] } }))
  ∧ (∀ v : Vector Count 18, ∃ marks : BitVec 24,
    countsBytes v =
        ((List.finRange 18).flatMap fun k => natBytes (Bank.read v k).value)
          ++ [marks.extractLsb' 16 8, marks.extractLsb' 8 8, marks.extractLsb' 0 8]
      ∧ (∀ k : Fin 18, marks.getLsbD k.val = (Bank.read v k).overflow)
      ∧ marks.extractLsb' 18 6 = 0)

/-- A counter rises by 1 below 65535, and at 65535 stays with its mark set and raises
COUNTER_OVERFLOW. A reported level changes nothing without a change; the latch is set on a rise, and
on a fall under edge select CHANGE; an Event Notice is queued when a clear latch is set and the
condition is enabled or non-maskable (R174, R175, R180 to R182). -/
def Obligations.CountsAndLevelsReported : Prop :=
  (∀ (s : State) (k : Counter) (c : Count), Bank.read s.lm.work k.index = c →
    (c.value < 65535 →
      s.count k = { s with
        lm := { s.lm with
          work := Bank.write s.lm.work k.index { c with value := c.value + 1 } } })
    ∧ (c.value = 65535 →
        s.count k = { s with
            lp := (s.count k).lp
            lm := { s.lm with
              work := Bank.write s.lm.work k.index { value := 65535, overflow := true }
              latches := s.lm.latches ||| 0x800#16 } }
        ∧ (s.count k).lp =
            if s.lm.latches.getLsbD 11 = false ∧ s.lm.enables.getLsbD 11 = true then
              s.lp.pushNotice
                (.eventNotice .counterOverflow .momentary (s.lm.latches ||| 0x800#16))
            else s.lp))
  ∧ (∀ (s : State) (c : Condition) (present : Bool),
    (s.lm.live.getLsbD c.number = present → s.reportLevel c present = s)
    ∧ (s.lm.live.getLsbD c.number ≠ present →
        s.reportLevel c present = { s with
            lp := (s.reportLevel c present).lp
            lm := { s.lm with
              live := if present = true then s.lm.live ||| (1#16 <<< c.number)
                else s.lm.live &&& ~~~(1#16 <<< c.number)
              latches := if present = true ∨ s.lm.edges.getLsbD c.number = true then
                  s.lm.latches ||| (1#16 <<< c.number)
                else s.lm.latches } }
        ∧ (s.reportLevel c present).lp =
            if (present = true ∨ s.lm.edges.getLsbD c.number = true)
                ∧ s.lm.latches.getLsbD c.number = false
                ∧ (s.lm.enables.getLsbD c.number = true ∨ c = .safeStop ∨ c = .powerWarning) then
              s.lp.pushNotice
                (.eventNotice c (if present = true then .present else .absent)
                  (s.lm.latches ||| (1#16 <<< c.number)))
            else s.lp))

/-- EVENT SETUP and EVENT CLEAR: RANGE for a number above 14; otherwise the enables and edge
selects, or the latches, and nothing else but ALERT. STATUS READ: RANGE for an unknown page; the
DRIVES and BOOKS pages change nothing, and a LINE read clears both loss flags and sets both peaks to
the depths; the bytes of the three pages are spelled out (the free bytes of the LINE page, its
registration byte among them, are log 6; bits that 11.5 does not name are 0, the model's choice: log
36). (R183 to R187) -/
def Obligations.EventsSetUpAndStatusRead : Prop :=
  (∀ (s : State) (tag : Byte) (a b : Half), Served s →
    (a.getLsbD 15 = true ∨ b.getLsbD 15 = true →
      exec (.eventSetup tag a b) s = .next { s with lp := answered s.lp tag 0x0C .range [] })
    ∧ (a.getLsbD 15 = false → b.getLsbD 15 = false →
      exec (.eventSetup tag a b) s = .next
        { s with lm := { s.lm with enables := a, edges := b }
                 lp := answered s.lp tag 0x0C .done [] })
    ∧ (a.getLsbD 15 = true →
      exec (.eventClear tag a) s = .next { s with lp := answered s.lp tag 0x0D .range [] })
    ∧ (a.getLsbD 15 = false →
      exec (.eventClear tag a) s = .next
        { s with lm := { s.lm with latches := s.lm.latches &&& ~~~a }
                 lp := answered s.lp tag 0x0D .done [] })
    ∧ (s.alert = true ↔
        ∃ n : Fin 16, s.lm.latches.getLsbD n.val = true
          ∧ (s.lm.enables.getLsbD n.val = true ∨ n.val = 13 ∨ n.val = 14)))
  ∧ (∀ (s : State) (tag page : Byte), Served s →
    (3 ≤ page.toNat →
      exec (.statusRead tag page) s = .next { s with lp := answered s.lp tag 0x0E .range [] })
    ∧ exec (.statusRead tag 0) s = .next
        { s with
          free := s.free + 1
          si := { s.si with peak := s.si.notices.length }
          lb := { s.lb with peak := s.lb.queue.length }
          lp := { answered s.lp tag 0x0E .done s.linePage with
            noticesLost := false, requestsDiscarded := false } }
    ∧ exec (.statusRead tag 1) s = .next
        { s with
          lp := answered s.lp tag 0x0E .done
            ((List.finRange 5).flatMap (fun d =>
              [(s.driveState d).code,
                natByte ((if (s.account d).temperature = .hot then 1 else 0)
                  + (if 24 ≤ (s.account d).debt then 2 else 0)),
                (s.account d).temperature.code, BitVec.ofInt 8 (s.account d).debt])
              ++ [flagByte s.pc.air]) }
    ∧ exec (.statusRead tag 2) s = .next
        { s with
          lp := answered s.lp tag 0x0E .done
            ((List.finRange 8).flatMap fun i => bookBytes (s.book i)) }
    ∧ s.linePage.length = 32
    ∧ (∀ b : Book,
        bookBytes (some b) = [1] ++ halfBytes b.id ++ [b.stage.code, faultCode b.fault])
    ∧ ∀ h c bed gather finish, h = s.lsv.holds → c = s.lsv.causes →
        bed =
          (match s.ss.bed with
          | none => [0, Config.emptyBedNumber s.free, 0xFF#8]
          | some b =>
            [if b.lift.state = some .onBed then 2 else if b.lift.state = some .released then 3 else 1,
              b.lift.number.getD (Config.emptyBedNumber s.free), natByte b.lift.slot.val]) →
        gather =
          (match s.fu.gather with
          | none => [0, 0xFF#8, 0]
          | some g => [if g.lifts = [] then 1 else 2, natByte g.book.val, natByte g.lifts.length]) →
        finish =
          (match s.fu.finish with
          | none => [0xFF#8, Config.emptyFinishStep s.free]
          | some f => [natByte f.book.val, f.step.code]) →
        s.linePage =
          [s.lsv.mode.code, s.lsv.lineState.code,
            natByte ((if h.start = true then 1 else 0) + (if h.request = true then 2 else 0)
              + (if h.bitWorn = true then 4 else 0) + (if h.driveHot = true then 8 else 0)
              + (if h.stationWait = true then 16 else 0)),
            natByte ((if c.guard = true then 1 else 0) + (if c.powerWarning = true then 2 else 0)
              + (if c.stopRequest = true then 4 else 0) + (if c.jam = true then 8 else 0)
              + (if c.purgeOverdue = true then 16 else 0)),
            natByte ((if s.si.pauseSource = true then 1 else 0)
              + (if s.lb.pauseSource = true then 2 else 0)
              + (if s.lsv.lineState = .running then 0 else 4)),
            Config.registrationCode (decide (s.si.registration = .lost)), natByte s.si.unmatched,
            natByte s.si.matched]
          ++ halfBytes s.lm.latches ++ halfBytes s.lm.live ++ halfBytes s.lm.enables
          ++ halfBytes s.lm.edges
          ++ [natByte s.si.notices.length, natByte s.si.peak, natByte s.lb.queue.length,
            natByte s.lb.peak, natByte ((List.finRange 8).countP fun i => (s.book i).isSome)]
          ++ bed ++ gather ++ finish ++ natBytes s.fu.bitLife
          ++ [natByte ((if s.lp.noticesLost = true then 1 else 0)
            + (if s.lp.requestsDiscarded = true then 2 else 0))])

/-! ## Resets -/

/-- Power-on and the Reset input: what each leaves, with the levels and latches at the end of a
reset, and what becomes of the Recovery Record. SAFE_STOP and POWER_WARNING are announced in that
order, each notice with the latches set up to it: the model's choice (log 12). The values held
during a reset are there from the assertion on (log 9). A release while the input is released is no
event (log 3), and power-on takes the inputs as it finds them, under an asserted Reset input as well
(log 7). (R23, R44, R63, R92, R112, R133, R156, R170, R172, R188, R200) -/
def Obligations.ResetsLeaveTheSpecValues : Prop :=
  ∀ (s : State) (x : Inputs),
    (Awake s →
      (∃ t, exec .resetInputAssert s = .next t ∧ t.resetAsserted = true ∧ LineCleared t
        ∧ AccountsReset t ∧ MonitorReset t ∧ t.lm.latches = 0 ∧ t.lp = LinkPort.reset
        ∧ t.inputs = s.inputs
        ∧ t.lsv.record =
            (if s.lsv.record.retentionValid = true then s.lsv.record
            else { s.lsv.record with
              retentionValid := true, freezeReason := some .resetInput })
        ∧ t.safeStopOutput = true ∧ t.pauseOutput = false ∧ t.alert = false)
      ∧ exec .resetInputRelease s = .next s
      ∧ ∃ t, exec (.powerOn x) s = .next t ∧ t.inputs = x ∧ FreshlyReset t
          ∧ ∀ r, r = (if s.lsv.record.retentionValid = true ∧ x.standbyHeld = true then s.lsv.record
                else { slots := Vector.replicate 8 none, lastExit := none, freezeReason := none,
                       retentionValid := false }) →
              t.lsv.record =
                (if x.powerWarning = true ∧ r.retentionValid = false then
                  { r with retentionValid := true, freezeReason := some .powerWarning }
                else r))
    ∧ (s.resetAsserted = true →
      (∃ t, exec .resetInputRelease s = .next t ∧ t.inputs = s.inputs ∧ FreshlyReset t
        ∧ t.lsv.record =
            (if s.inputs.powerWarning = true ∧ s.lsv.record.retentionValid = false then
              { s.lsv.record with
                retentionValid := true, freezeReason := some .powerWarning }
            else s.lsv.record))
      ∧ ∃ t, exec (.powerOn x) s = .next t ∧ t.resetAsserted = true ∧ t.inputs = x
        ∧ LineCleared t ∧ AccountsReset t ∧ MonitorReset t ∧ t.lm.latches = 0 ∧ t.lm.live = 0
        ∧ t.lp = LinkPort.reset ∧ t.lsv.liveExit = none
        ∧ t.lsv.record =
            (if s.lsv.record.retentionValid = true ∧ x.standbyHeld = true then s.lsv.record
            else { slots := Vector.replicate 8 none, lastExit := none, freezeReason := none,
                   retentionValid := false })
        ∧ t.safeStopOutput = true ∧ t.pauseOutput = false ∧ t.alert = false)

/-! ## Invariants -/

/-- Every step keeps the bounds of the Return Queue; and every step keeps those of the Notice Queue,
the Lift Queue and the Strike History (R10, R38, R77, R195 to R197). -/
def Obligations.QueueBoundsKept : Prop :=
  (∀ s t : State, LinkBounds s → step s = .next t → LinkBounds t)
  ∧ (∀ s t : State, CollectionBounds s → step s = .next t → CollectionBounds t)

/-- Every step keeps every debt between -32 and +32 (R95). -/
def Obligations.DebtBoundsKept : Prop :=
  ∀ s t : State, DebtBounds s → step s = .next t → DebtBounds t

/-- Every step keeps the Recovery Record in step with the Book Table and the live last exit while it
is not frozen (R169, R170). -/
def Obligations.RecordFollowsKept : Prop :=
  ∀ s t : State, RecordFollows s → step s = .next t → RecordFollows t

/-- Every step keeps SAFE_STOP free of anything in flight (R167). -/
def Obligations.StoppedIsQuietKept : Prop :=
  ∀ s t : State, StoppedIsQuiet s → step s = .next t → StoppedIsQuiet t

/-- Every step keeps the line state in agreement with the hold sources and with what is at rest, and
the sources with their owners' conditions (a Hot drive that is also PURGING or Forced does not keep
the line from rest: log 34); and, whatever the event, it moves the line state as the table of R160
has it, but where a block for the bit ends and begins anew in one step: BIT_WORN is then withdrawn
and presented again, and a line HELD may be HOLD_PENDING after it, the model's reading (log 17). The
first change of the line state after a reset is noted (log 35), and until then nothing is on the bed,
at the gather or finish position or ordered. (R71, R105, R141, R144, R145, R160, R161, R163) -/
def Obligations.LineAgreesKept : Prop :=
  ∀ s t : State, LineAgrees s → step s = .next t → LineAgrees t ∧ LineStepped s t

/-- Every step keeps the reference counts equal to the books bound, and no two books with one id
(R1, R50, R52). -/
def Obligations.BookReferencesKept : Prop :=
  ∀ s t : State, ReferencesCounted s → BooksDistinct s → step s = .next t →
    ReferencesCounted t ∧ BooksDistinct t

/-- Every step keeps the stages and the lift counts of the books that the finish position, the Open
Lift, the Notice Queue, the Lift Queue and the bed name in agreement with where they are (R1, R33,
R34, R87, R139, R141). -/
def Obligations.StagesAgreeKept : Prop :=
  ∀ s t : State, StagesAgree s → step s = .next t → StagesAgree t

/-- The state after reset satisfies every invariant above. -/
def Obligations.ResetSatisfiesInvariants : Prop :=
  LinkBounds State.reset ∧ CollectionBounds State.reset ∧ DebtBounds State.reset
    ∧ RecordFollows State.reset ∧ StoppedIsQuiet State.reset ∧ LineAgrees State.reset
    ∧ ReferencesCounted State.reset ∧ BooksDistinct State.reset
    ∧ StagesAgree State.reset

end
end

