-- ==== Sys2Proof/Laws/State.lean ====
section
/-! SUPPORT. What each plain update of the state leaves unchanged: one lemma per field, true by
definition. -/

namespace Sys2Proof.Machine

open Sys2Proof

set_option Elab.async false

@[simp] theorem State.notify_pending (s : State) (u : Upstream) :
    (s.notify u).pending = s.pending := rfl

@[simp] theorem State.notify_time (s : State) (u : Upstream) :
    (s.notify u).time = s.time := rfl

@[simp] theorem State.notify_encoder (s : State) (u : Upstream) :
    (s.notify u).encoder = s.encoder := rfl

@[simp] theorem State.notify_travelOwed (s : State) (u : Upstream) :
    (s.notify u).travelOwed = s.travelOwed := rfl

@[simp] theorem State.notify_free (s : State) (u : Upstream) :
    (s.notify u).free = s.free := rfl

@[simp] theorem State.notify_inputs (s : State) (u : Upstream) :
    (s.notify u).inputs = s.inputs := rfl

@[simp] theorem State.notify_resetAsserted (s : State) (u : Upstream) :
    (s.notify u).resetAsserted = s.resetAsserted := rfl

@[simp] theorem State.notify_si (s : State) (u : Upstream) :
    (s.notify u).si = s.si := rfl

@[simp] theorem State.notify_lb (s : State) (u : Upstream) :
    (s.notify u).lb = s.lb := rfl

@[simp] theorem State.notify_ts (s : State) (u : Upstream) :
    (s.notify u).ts = s.ts := rfl

@[simp] theorem State.notify_ss (s : State) (u : Upstream) :
    (s.notify u).ss = s.ss := rfl

@[simp] theorem State.notify_orders (s : State) (u : Upstream) :
    (s.notify u).orders = s.orders := rfl

@[simp] theorem State.notify_pc (s : State) (u : Upstream) :
    (s.notify u).pc = s.pc := rfl

@[simp] theorem State.notify_tcu (s : State) (u : Upstream) :
    (s.notify u).tcu = s.tcu := rfl

@[simp] theorem State.notify_fu (s : State) (u : Upstream) :
    (s.notify u).fu = s.fu := rfl

@[simp] theorem State.notify_lm (s : State) (u : Upstream) :
    (s.notify u).lm = s.lm := rfl

@[simp] theorem State.notify_lsv (s : State) (u : Upstream) :
    (s.notify u).lsv = s.lsv := rfl

@[simp] theorem State.reportLevel_pending (s : State) (c : Condition) (p : Bool) :
    (s.reportLevel c p).pending = s.pending := rfl

@[simp] theorem State.reportLevel_time (s : State) (c : Condition) (p : Bool) :
    (s.reportLevel c p).time = s.time := rfl

@[simp] theorem State.reportLevel_encoder (s : State) (c : Condition) (p : Bool) :
    (s.reportLevel c p).encoder = s.encoder := rfl

@[simp] theorem State.reportLevel_travelOwed (s : State) (c : Condition) (p : Bool) :
    (s.reportLevel c p).travelOwed = s.travelOwed := rfl

@[simp] theorem State.reportLevel_free (s : State) (c : Condition) (p : Bool) :
    (s.reportLevel c p).free = s.free := rfl

@[simp] theorem State.reportLevel_inputs (s : State) (c : Condition) (p : Bool) :
    (s.reportLevel c p).inputs = s.inputs := rfl

@[simp] theorem State.reportLevel_resetAsserted (s : State) (c : Condition) (p : Bool) :
    (s.reportLevel c p).resetAsserted = s.resetAsserted := rfl

@[simp] theorem State.reportLevel_si (s : State) (c : Condition) (p : Bool) :
    (s.reportLevel c p).si = s.si := rfl

@[simp] theorem State.reportLevel_lb (s : State) (c : Condition) (p : Bool) :
    (s.reportLevel c p).lb = s.lb := rfl

@[simp] theorem State.reportLevel_ts (s : State) (c : Condition) (p : Bool) :
    (s.reportLevel c p).ts = s.ts := rfl

@[simp] theorem State.reportLevel_ss (s : State) (c : Condition) (p : Bool) :
    (s.reportLevel c p).ss = s.ss := rfl

@[simp] theorem State.reportLevel_orders (s : State) (c : Condition) (p : Bool) :
    (s.reportLevel c p).orders = s.orders := rfl

@[simp] theorem State.reportLevel_pc (s : State) (c : Condition) (p : Bool) :
    (s.reportLevel c p).pc = s.pc := rfl

@[simp] theorem State.reportLevel_tcu (s : State) (c : Condition) (p : Bool) :
    (s.reportLevel c p).tcu = s.tcu := rfl

@[simp] theorem State.reportLevel_fu (s : State) (c : Condition) (p : Bool) :
    (s.reportLevel c p).fu = s.fu := rfl

@[simp] theorem State.reportLevel_lsv (s : State) (c : Condition) (p : Bool) :
    (s.reportLevel c p).lsv = s.lsv := rfl

@[simp] theorem State.occur_pending (s : State) (c : Condition) :
    (s.occur c).pending = s.pending := rfl

@[simp] theorem State.occur_time (s : State) (c : Condition) :
    (s.occur c).time = s.time := rfl

@[simp] theorem State.occur_encoder (s : State) (c : Condition) :
    (s.occur c).encoder = s.encoder := rfl

@[simp] theorem State.occur_travelOwed (s : State) (c : Condition) :
    (s.occur c).travelOwed = s.travelOwed := rfl

@[simp] theorem State.occur_free (s : State) (c : Condition) :
    (s.occur c).free = s.free := rfl

@[simp] theorem State.occur_inputs (s : State) (c : Condition) :
    (s.occur c).inputs = s.inputs := rfl

@[simp] theorem State.occur_resetAsserted (s : State) (c : Condition) :
    (s.occur c).resetAsserted = s.resetAsserted := rfl

@[simp] theorem State.occur_si (s : State) (c : Condition) :
    (s.occur c).si = s.si := rfl

@[simp] theorem State.occur_lb (s : State) (c : Condition) :
    (s.occur c).lb = s.lb := rfl

@[simp] theorem State.occur_ts (s : State) (c : Condition) :
    (s.occur c).ts = s.ts := rfl

@[simp] theorem State.occur_ss (s : State) (c : Condition) :
    (s.occur c).ss = s.ss := rfl

@[simp] theorem State.occur_orders (s : State) (c : Condition) :
    (s.occur c).orders = s.orders := rfl

@[simp] theorem State.occur_pc (s : State) (c : Condition) :
    (s.occur c).pc = s.pc := rfl

@[simp] theorem State.occur_tcu (s : State) (c : Condition) :
    (s.occur c).tcu = s.tcu := rfl

@[simp] theorem State.occur_fu (s : State) (c : Condition) :
    (s.occur c).fu = s.fu := rfl

@[simp] theorem State.occur_lsv (s : State) (c : Condition) :
    (s.occur c).lsv = s.lsv := rfl

@[simp] theorem State.count_pending (s : State) (k : Counter) :
    (s.count k).pending = s.pending := rfl

@[simp] theorem State.count_time (s : State) (k : Counter) :
    (s.count k).time = s.time := rfl

@[simp] theorem State.count_encoder (s : State) (k : Counter) :
    (s.count k).encoder = s.encoder := rfl

@[simp] theorem State.count_travelOwed (s : State) (k : Counter) :
    (s.count k).travelOwed = s.travelOwed := rfl

@[simp] theorem State.count_free (s : State) (k : Counter) :
    (s.count k).free = s.free := rfl

@[simp] theorem State.count_inputs (s : State) (k : Counter) :
    (s.count k).inputs = s.inputs := rfl

@[simp] theorem State.count_resetAsserted (s : State) (k : Counter) :
    (s.count k).resetAsserted = s.resetAsserted := rfl

@[simp] theorem State.count_si (s : State) (k : Counter) :
    (s.count k).si = s.si := rfl

@[simp] theorem State.count_lb (s : State) (k : Counter) :
    (s.count k).lb = s.lb := rfl

@[simp] theorem State.count_ts (s : State) (k : Counter) :
    (s.count k).ts = s.ts := rfl

@[simp] theorem State.count_ss (s : State) (k : Counter) :
    (s.count k).ss = s.ss := rfl

@[simp] theorem State.count_orders (s : State) (k : Counter) :
    (s.count k).orders = s.orders := rfl

@[simp] theorem State.count_pc (s : State) (k : Counter) :
    (s.count k).pc = s.pc := rfl

@[simp] theorem State.count_tcu (s : State) (k : Counter) :
    (s.count k).tcu = s.tcu := rfl

@[simp] theorem State.count_fu (s : State) (k : Counter) :
    (s.count k).fu = s.fu := rfl

@[simp] theorem State.count_lsv (s : State) (k : Counter) :
    (s.count k).lsv = s.lsv := rfl

@[simp] theorem State.setHolds_pending (s : State) (h : HoldSources) :
    (s.setHolds h).pending = s.pending := rfl

@[simp] theorem State.setHolds_time (s : State) (h : HoldSources) :
    (s.setHolds h).time = s.time := rfl

@[simp] theorem State.setHolds_encoder (s : State) (h : HoldSources) :
    (s.setHolds h).encoder = s.encoder := rfl

@[simp] theorem State.setHolds_travelOwed (s : State) (h : HoldSources) :
    (s.setHolds h).travelOwed = s.travelOwed := rfl

@[simp] theorem State.setHolds_free (s : State) (h : HoldSources) :
    (s.setHolds h).free = s.free := rfl

@[simp] theorem State.setHolds_inputs (s : State) (h : HoldSources) :
    (s.setHolds h).inputs = s.inputs := rfl

@[simp] theorem State.setHolds_resetAsserted (s : State) (h : HoldSources) :
    (s.setHolds h).resetAsserted = s.resetAsserted := rfl

@[simp] theorem State.setHolds_lp (s : State) (h : HoldSources) :
    (s.setHolds h).lp = s.lp := rfl

@[simp] theorem State.setHolds_si (s : State) (h : HoldSources) :
    (s.setHolds h).si = s.si := rfl

@[simp] theorem State.setHolds_lb (s : State) (h : HoldSources) :
    (s.setHolds h).lb = s.lb := rfl

@[simp] theorem State.setHolds_ts (s : State) (h : HoldSources) :
    (s.setHolds h).ts = s.ts := rfl

@[simp] theorem State.setHolds_ss (s : State) (h : HoldSources) :
    (s.setHolds h).ss = s.ss := rfl

@[simp] theorem State.setHolds_orders (s : State) (h : HoldSources) :
    (s.setHolds h).orders = s.orders := rfl

@[simp] theorem State.setHolds_pc (s : State) (h : HoldSources) :
    (s.setHolds h).pc = s.pc := rfl

@[simp] theorem State.setHolds_tcu (s : State) (h : HoldSources) :
    (s.setHolds h).tcu = s.tcu := rfl

@[simp] theorem State.setHolds_fu (s : State) (h : HoldSources) :
    (s.setHolds h).fu = s.fu := rfl

@[simp] theorem State.setHolds_lm (s : State) (h : HoldSources) :
    (s.setHolds h).lm = s.lm := rfl

@[simp] theorem State.setBook_pending (s : State) (i : Slot) (b : Option Book) :
    (s.setBook i b).pending = s.pending := rfl

@[simp] theorem State.setBook_time (s : State) (i : Slot) (b : Option Book) :
    (s.setBook i b).time = s.time := rfl

@[simp] theorem State.setBook_encoder (s : State) (i : Slot) (b : Option Book) :
    (s.setBook i b).encoder = s.encoder := rfl

@[simp] theorem State.setBook_travelOwed (s : State) (i : Slot) (b : Option Book) :
    (s.setBook i b).travelOwed = s.travelOwed := rfl

@[simp] theorem State.setBook_free (s : State) (i : Slot) (b : Option Book) :
    (s.setBook i b).free = s.free := rfl

@[simp] theorem State.setBook_inputs (s : State) (i : Slot) (b : Option Book) :
    (s.setBook i b).inputs = s.inputs := rfl

@[simp] theorem State.setBook_resetAsserted (s : State) (i : Slot) (b : Option Book) :
    (s.setBook i b).resetAsserted = s.resetAsserted := rfl

@[simp] theorem State.setBook_lp (s : State) (i : Slot) (b : Option Book) :
    (s.setBook i b).lp = s.lp := rfl

@[simp] theorem State.setBook_lb (s : State) (i : Slot) (b : Option Book) :
    (s.setBook i b).lb = s.lb := rfl

@[simp] theorem State.setBook_ts (s : State) (i : Slot) (b : Option Book) :
    (s.setBook i b).ts = s.ts := rfl

@[simp] theorem State.setBook_ss (s : State) (i : Slot) (b : Option Book) :
    (s.setBook i b).ss = s.ss := rfl

@[simp] theorem State.setBook_orders (s : State) (i : Slot) (b : Option Book) :
    (s.setBook i b).orders = s.orders := rfl

@[simp] theorem State.setBook_pc (s : State) (i : Slot) (b : Option Book) :
    (s.setBook i b).pc = s.pc := rfl

@[simp] theorem State.setBook_tcu (s : State) (i : Slot) (b : Option Book) :
    (s.setBook i b).tcu = s.tcu := rfl

@[simp] theorem State.setBook_fu (s : State) (i : Slot) (b : Option Book) :
    (s.setBook i b).fu = s.fu := rfl

@[simp] theorem State.setBook_lm (s : State) (i : Slot) (b : Option Book) :
    (s.setBook i b).lm = s.lm := rfl

@[simp] theorem State.setCh_pending (s : State) (i : ChannelId) (c : Channel) :
    (s.setCh i c).pending = s.pending := rfl

@[simp] theorem State.setCh_time (s : State) (i : ChannelId) (c : Channel) :
    (s.setCh i c).time = s.time := rfl

@[simp] theorem State.setCh_encoder (s : State) (i : ChannelId) (c : Channel) :
    (s.setCh i c).encoder = s.encoder := rfl

@[simp] theorem State.setCh_travelOwed (s : State) (i : ChannelId) (c : Channel) :
    (s.setCh i c).travelOwed = s.travelOwed := rfl

@[simp] theorem State.setCh_free (s : State) (i : ChannelId) (c : Channel) :
    (s.setCh i c).free = s.free := rfl

@[simp] theorem State.setCh_inputs (s : State) (i : ChannelId) (c : Channel) :
    (s.setCh i c).inputs = s.inputs := rfl

@[simp] theorem State.setCh_resetAsserted (s : State) (i : ChannelId) (c : Channel) :
    (s.setCh i c).resetAsserted = s.resetAsserted := rfl

@[simp] theorem State.setCh_lp (s : State) (i : ChannelId) (c : Channel) :
    (s.setCh i c).lp = s.lp := rfl

@[simp] theorem State.setCh_si (s : State) (i : ChannelId) (c : Channel) :
    (s.setCh i c).si = s.si := rfl

@[simp] theorem State.setCh_lb (s : State) (i : ChannelId) (c : Channel) :
    (s.setCh i c).lb = s.lb := rfl

@[simp] theorem State.setCh_ts (s : State) (i : ChannelId) (c : Channel) :
    (s.setCh i c).ts = s.ts := rfl

@[simp] theorem State.setCh_ss (s : State) (i : ChannelId) (c : Channel) :
    (s.setCh i c).ss = s.ss := rfl

@[simp] theorem State.setCh_orders (s : State) (i : ChannelId) (c : Channel) :
    (s.setCh i c).orders = s.orders := rfl

@[simp] theorem State.setCh_pc (s : State) (i : ChannelId) (c : Channel) :
    (s.setCh i c).pc = s.pc := rfl

@[simp] theorem State.setCh_fu (s : State) (i : ChannelId) (c : Channel) :
    (s.setCh i c).fu = s.fu := rfl

@[simp] theorem State.setCh_lm (s : State) (i : ChannelId) (c : Channel) :
    (s.setCh i c).lm = s.lm := rfl

@[simp] theorem State.setCh_lsv (s : State) (i : ChannelId) (c : Channel) :
    (s.setCh i c).lsv = s.lsv := rfl

@[simp] theorem State.setDrive_pending (s : State) (d : DriveId) (r : DriveRecord) :
    (s.setDrive d r).pending = s.pending := rfl

@[simp] theorem State.setDrive_time (s : State) (d : DriveId) (r : DriveRecord) :
    (s.setDrive d r).time = s.time := rfl

@[simp] theorem State.setDrive_encoder (s : State) (d : DriveId) (r : DriveRecord) :
    (s.setDrive d r).encoder = s.encoder := rfl

@[simp] theorem State.setDrive_travelOwed (s : State) (d : DriveId) (r : DriveRecord) :
    (s.setDrive d r).travelOwed = s.travelOwed := rfl

@[simp] theorem State.setDrive_free (s : State) (d : DriveId) (r : DriveRecord) :
    (s.setDrive d r).free = s.free := rfl

@[simp] theorem State.setDrive_inputs (s : State) (d : DriveId) (r : DriveRecord) :
    (s.setDrive d r).inputs = s.inputs := rfl

@[simp] theorem State.setDrive_resetAsserted (s : State) (d : DriveId) (r : DriveRecord) :
    (s.setDrive d r).resetAsserted = s.resetAsserted := rfl

@[simp] theorem State.setDrive_lp (s : State) (d : DriveId) (r : DriveRecord) :
    (s.setDrive d r).lp = s.lp := rfl

@[simp] theorem State.setDrive_si (s : State) (d : DriveId) (r : DriveRecord) :
    (s.setDrive d r).si = s.si := rfl

@[simp] theorem State.setDrive_lb (s : State) (d : DriveId) (r : DriveRecord) :
    (s.setDrive d r).lb = s.lb := rfl

@[simp] theorem State.setDrive_ts (s : State) (d : DriveId) (r : DriveRecord) :
    (s.setDrive d r).ts = s.ts := rfl

@[simp] theorem State.setDrive_orders (s : State) (d : DriveId) (r : DriveRecord) :
    (s.setDrive d r).orders = s.orders := rfl

@[simp] theorem State.setDrive_pc (s : State) (d : DriveId) (r : DriveRecord) :
    (s.setDrive d r).pc = s.pc := rfl

@[simp] theorem State.setDrive_tcu (s : State) (d : DriveId) (r : DriveRecord) :
    (s.setDrive d r).tcu = s.tcu := rfl

@[simp] theorem State.setDrive_fu (s : State) (d : DriveId) (r : DriveRecord) :
    (s.setDrive d r).fu = s.fu := rfl

@[simp] theorem State.setDrive_lm (s : State) (d : DriveId) (r : DriveRecord) :
    (s.setDrive d r).lm = s.lm := rfl

@[simp] theorem State.setDrive_lsv (s : State) (d : DriveId) (r : DriveRecord) :
    (s.setDrive d r).lsv = s.lsv := rfl

@[simp] theorem State.setAccount_pending (s : State) (d : DriveId) (a : DriveAccount) :
    (s.setAccount d a).pending = s.pending := rfl

@[simp] theorem State.setAccount_time (s : State) (d : DriveId) (a : DriveAccount) :
    (s.setAccount d a).time = s.time := rfl

@[simp] theorem State.setAccount_encoder (s : State) (d : DriveId) (a : DriveAccount) :
    (s.setAccount d a).encoder = s.encoder := rfl

@[simp] theorem State.setAccount_travelOwed (s : State) (d : DriveId) (a : DriveAccount) :
    (s.setAccount d a).travelOwed = s.travelOwed := rfl

@[simp] theorem State.setAccount_free (s : State) (d : DriveId) (a : DriveAccount) :
    (s.setAccount d a).free = s.free := rfl

@[simp] theorem State.setAccount_inputs (s : State) (d : DriveId) (a : DriveAccount) :
    (s.setAccount d a).inputs = s.inputs := rfl

@[simp] theorem State.setAccount_resetAsserted (s : State) (d : DriveId) (a : DriveAccount) :
    (s.setAccount d a).resetAsserted = s.resetAsserted := rfl

@[simp] theorem State.setAccount_lp (s : State) (d : DriveId) (a : DriveAccount) :
    (s.setAccount d a).lp = s.lp := rfl

@[simp] theorem State.setAccount_si (s : State) (d : DriveId) (a : DriveAccount) :
    (s.setAccount d a).si = s.si := rfl

@[simp] theorem State.setAccount_lb (s : State) (d : DriveId) (a : DriveAccount) :
    (s.setAccount d a).lb = s.lb := rfl

@[simp] theorem State.setAccount_ts (s : State) (d : DriveId) (a : DriveAccount) :
    (s.setAccount d a).ts = s.ts := rfl

@[simp] theorem State.setAccount_ss (s : State) (d : DriveId) (a : DriveAccount) :
    (s.setAccount d a).ss = s.ss := rfl

@[simp] theorem State.setAccount_orders (s : State) (d : DriveId) (a : DriveAccount) :
    (s.setAccount d a).orders = s.orders := rfl

@[simp] theorem State.setAccount_tcu (s : State) (d : DriveId) (a : DriveAccount) :
    (s.setAccount d a).tcu = s.tcu := rfl

@[simp] theorem State.setAccount_fu (s : State) (d : DriveId) (a : DriveAccount) :
    (s.setAccount d a).fu = s.fu := rfl

@[simp] theorem State.setAccount_lm (s : State) (d : DriveId) (a : DriveAccount) :
    (s.setAccount d a).lm = s.lm := rfl

@[simp] theorem State.setAccount_lsv (s : State) (d : DriveId) (a : DriveAccount) :
    (s.setAccount d a).lsv = s.lsv := rfl

@[simp] theorem State.setBed_pending (s : State) (b : Option Bed) :
    (s.setBed b).pending = s.pending := rfl

@[simp] theorem State.setBed_time (s : State) (b : Option Bed) :
    (s.setBed b).time = s.time := rfl

@[simp] theorem State.setBed_encoder (s : State) (b : Option Bed) :
    (s.setBed b).encoder = s.encoder := rfl

@[simp] theorem State.setBed_travelOwed (s : State) (b : Option Bed) :
    (s.setBed b).travelOwed = s.travelOwed := rfl

@[simp] theorem State.setBed_free (s : State) (b : Option Bed) :
    (s.setBed b).free = s.free := rfl

@[simp] theorem State.setBed_inputs (s : State) (b : Option Bed) :
    (s.setBed b).inputs = s.inputs := rfl

@[simp] theorem State.setBed_resetAsserted (s : State) (b : Option Bed) :
    (s.setBed b).resetAsserted = s.resetAsserted := rfl

@[simp] theorem State.setBed_lp (s : State) (b : Option Bed) :
    (s.setBed b).lp = s.lp := rfl

@[simp] theorem State.setBed_si (s : State) (b : Option Bed) :
    (s.setBed b).si = s.si := rfl

@[simp] theorem State.setBed_lb (s : State) (b : Option Bed) :
    (s.setBed b).lb = s.lb := rfl

@[simp] theorem State.setBed_ts (s : State) (b : Option Bed) :
    (s.setBed b).ts = s.ts := rfl

@[simp] theorem State.setBed_orders (s : State) (b : Option Bed) :
    (s.setBed b).orders = s.orders := rfl

@[simp] theorem State.setBed_pc (s : State) (b : Option Bed) :
    (s.setBed b).pc = s.pc := rfl

@[simp] theorem State.setBed_tcu (s : State) (b : Option Bed) :
    (s.setBed b).tcu = s.tcu := rfl

@[simp] theorem State.setBed_fu (s : State) (b : Option Bed) :
    (s.setBed b).fu = s.fu := rfl

@[simp] theorem State.setBed_lm (s : State) (b : Option Bed) :
    (s.setBed b).lm = s.lm := rfl

@[simp] theorem State.setBed_lsv (s : State) (b : Option Bed) :
    (s.setBed b).lsv = s.lsv := rfl

@[simp] theorem State.setOrder_pending (s : State) (st : Station) (o : Option Order) :
    (s.setOrder st o).pending = s.pending := rfl

@[simp] theorem State.setOrder_time (s : State) (st : Station) (o : Option Order) :
    (s.setOrder st o).time = s.time := rfl

@[simp] theorem State.setOrder_encoder (s : State) (st : Station) (o : Option Order) :
    (s.setOrder st o).encoder = s.encoder := rfl

@[simp] theorem State.setOrder_travelOwed (s : State) (st : Station) (o : Option Order) :
    (s.setOrder st o).travelOwed = s.travelOwed := rfl

@[simp] theorem State.setOrder_free (s : State) (st : Station) (o : Option Order) :
    (s.setOrder st o).free = s.free := rfl

@[simp] theorem State.setOrder_inputs (s : State) (st : Station) (o : Option Order) :
    (s.setOrder st o).inputs = s.inputs := rfl

@[simp] theorem State.setOrder_resetAsserted (s : State) (st : Station) (o : Option Order) :
    (s.setOrder st o).resetAsserted = s.resetAsserted := rfl

@[simp] theorem State.setOrder_lp (s : State) (st : Station) (o : Option Order) :
    (s.setOrder st o).lp = s.lp := rfl

@[simp] theorem State.setOrder_si (s : State) (st : Station) (o : Option Order) :
    (s.setOrder st o).si = s.si := rfl

@[simp] theorem State.setOrder_lb (s : State) (st : Station) (o : Option Order) :
    (s.setOrder st o).lb = s.lb := rfl

@[simp] theorem State.setOrder_ts (s : State) (st : Station) (o : Option Order) :
    (s.setOrder st o).ts = s.ts := rfl

@[simp] theorem State.setOrder_ss (s : State) (st : Station) (o : Option Order) :
    (s.setOrder st o).ss = s.ss := rfl

@[simp] theorem State.setOrder_pc (s : State) (st : Station) (o : Option Order) :
    (s.setOrder st o).pc = s.pc := rfl

@[simp] theorem State.setOrder_tcu (s : State) (st : Station) (o : Option Order) :
    (s.setOrder st o).tcu = s.tcu := rfl

@[simp] theorem State.setOrder_fu (s : State) (st : Station) (o : Option Order) :
    (s.setOrder st o).fu = s.fu := rfl

@[simp] theorem State.setOrder_lm (s : State) (st : Station) (o : Option Order) :
    (s.setOrder st o).lm = s.lm := rfl

@[simp] theorem State.setOrder_lsv (s : State) (st : Station) (o : Option Order) :
    (s.setOrder st o).lsv = s.lsv := rfl

@[simp] theorem State.setFinish_pending (s : State) (f : Option Finish) :
    (s.setFinish f).pending = s.pending := rfl

@[simp] theorem State.setFinish_time (s : State) (f : Option Finish) :
    (s.setFinish f).time = s.time := rfl

@[simp] theorem State.setFinish_encoder (s : State) (f : Option Finish) :
    (s.setFinish f).encoder = s.encoder := rfl

@[simp] theorem State.setFinish_travelOwed (s : State) (f : Option Finish) :
    (s.setFinish f).travelOwed = s.travelOwed := rfl

@[simp] theorem State.setFinish_free (s : State) (f : Option Finish) :
    (s.setFinish f).free = s.free := rfl

@[simp] theorem State.setFinish_inputs (s : State) (f : Option Finish) :
    (s.setFinish f).inputs = s.inputs := rfl

@[simp] theorem State.setFinish_resetAsserted (s : State) (f : Option Finish) :
    (s.setFinish f).resetAsserted = s.resetAsserted := rfl

@[simp] theorem State.setFinish_lp (s : State) (f : Option Finish) :
    (s.setFinish f).lp = s.lp := rfl

@[simp] theorem State.setFinish_si (s : State) (f : Option Finish) :
    (s.setFinish f).si = s.si := rfl

@[simp] theorem State.setFinish_lb (s : State) (f : Option Finish) :
    (s.setFinish f).lb = s.lb := rfl

@[simp] theorem State.setFinish_ts (s : State) (f : Option Finish) :
    (s.setFinish f).ts = s.ts := rfl

@[simp] theorem State.setFinish_ss (s : State) (f : Option Finish) :
    (s.setFinish f).ss = s.ss := rfl

@[simp] theorem State.setFinish_orders (s : State) (f : Option Finish) :
    (s.setFinish f).orders = s.orders := rfl

@[simp] theorem State.setFinish_pc (s : State) (f : Option Finish) :
    (s.setFinish f).pc = s.pc := rfl

@[simp] theorem State.setFinish_tcu (s : State) (f : Option Finish) :
    (s.setFinish f).tcu = s.tcu := rfl

@[simp] theorem State.setFinish_lm (s : State) (f : Option Finish) :
    (s.setFinish f).lm = s.lm := rfl

@[simp] theorem State.setFinish_lsv (s : State) (f : Option Finish) :
    (s.setFinish f).lsv = s.lsv := rfl

@[simp] theorem State.setOpenLift_pending (s : State) (l : Option Lift) :
    (s.setOpenLift l).pending = s.pending := rfl

@[simp] theorem State.setOpenLift_time (s : State) (l : Option Lift) :
    (s.setOpenLift l).time = s.time := rfl

@[simp] theorem State.setOpenLift_encoder (s : State) (l : Option Lift) :
    (s.setOpenLift l).encoder = s.encoder := rfl

@[simp] theorem State.setOpenLift_travelOwed (s : State) (l : Option Lift) :
    (s.setOpenLift l).travelOwed = s.travelOwed := rfl

@[simp] theorem State.setOpenLift_free (s : State) (l : Option Lift) :
    (s.setOpenLift l).free = s.free := rfl

@[simp] theorem State.setOpenLift_inputs (s : State) (l : Option Lift) :
    (s.setOpenLift l).inputs = s.inputs := rfl

@[simp] theorem State.setOpenLift_resetAsserted (s : State) (l : Option Lift) :
    (s.setOpenLift l).resetAsserted = s.resetAsserted := rfl

@[simp] theorem State.setOpenLift_lp (s : State) (l : Option Lift) :
    (s.setOpenLift l).lp = s.lp := rfl

@[simp] theorem State.setOpenLift_si (s : State) (l : Option Lift) :
    (s.setOpenLift l).si = s.si := rfl

@[simp] theorem State.setOpenLift_ts (s : State) (l : Option Lift) :
    (s.setOpenLift l).ts = s.ts := rfl

@[simp] theorem State.setOpenLift_ss (s : State) (l : Option Lift) :
    (s.setOpenLift l).ss = s.ss := rfl

@[simp] theorem State.setOpenLift_orders (s : State) (l : Option Lift) :
    (s.setOpenLift l).orders = s.orders := rfl

@[simp] theorem State.setOpenLift_pc (s : State) (l : Option Lift) :
    (s.setOpenLift l).pc = s.pc := rfl

@[simp] theorem State.setOpenLift_tcu (s : State) (l : Option Lift) :
    (s.setOpenLift l).tcu = s.tcu := rfl

@[simp] theorem State.setOpenLift_fu (s : State) (l : Option Lift) :
    (s.setOpenLift l).fu = s.fu := rfl

@[simp] theorem State.setOpenLift_lm (s : State) (l : Option Lift) :
    (s.setOpenLift l).lm = s.lm := rfl

@[simp] theorem State.setOpenLift_lsv (s : State) (l : Option Lift) :
    (s.setOpenLift l).lsv = s.lsv := rfl

@[simp] theorem State.emptyGather_pending (s : State) :
    (s.emptyGather).pending = s.pending := rfl

@[simp] theorem State.emptyGather_time (s : State) :
    (s.emptyGather).time = s.time := rfl

@[simp] theorem State.emptyGather_encoder (s : State) :
    (s.emptyGather).encoder = s.encoder := rfl

@[simp] theorem State.emptyGather_travelOwed (s : State) :
    (s.emptyGather).travelOwed = s.travelOwed := rfl

@[simp] theorem State.emptyGather_free (s : State) :
    (s.emptyGather).free = s.free := rfl

@[simp] theorem State.emptyGather_inputs (s : State) :
    (s.emptyGather).inputs = s.inputs := rfl

@[simp] theorem State.emptyGather_resetAsserted (s : State) :
    (s.emptyGather).resetAsserted = s.resetAsserted := rfl

@[simp] theorem State.emptyGather_lp (s : State) :
    (s.emptyGather).lp = s.lp := rfl

@[simp] theorem State.emptyGather_si (s : State) :
    (s.emptyGather).si = s.si := rfl

@[simp] theorem State.emptyGather_lb (s : State) :
    (s.emptyGather).lb = s.lb := rfl

@[simp] theorem State.emptyGather_ts (s : State) :
    (s.emptyGather).ts = s.ts := rfl

@[simp] theorem State.emptyGather_orders (s : State) :
    (s.emptyGather).orders = s.orders := rfl

@[simp] theorem State.emptyGather_pc (s : State) :
    (s.emptyGather).pc = s.pc := rfl

@[simp] theorem State.emptyGather_tcu (s : State) :
    (s.emptyGather).tcu = s.tcu := rfl

@[simp] theorem State.emptyGather_lm (s : State) :
    (s.emptyGather).lm = s.lm := rfl

@[simp] theorem State.emptyGather_lsv (s : State) :
    (s.emptyGather).lsv = s.lsv := rfl

@[simp] theorem State.abandonPurges_pending (s : State) :
    (s.abandonPurges).pending = s.pending := rfl

@[simp] theorem State.abandonPurges_time (s : State) :
    (s.abandonPurges).time = s.time := rfl

@[simp] theorem State.abandonPurges_encoder (s : State) :
    (s.abandonPurges).encoder = s.encoder := rfl

@[simp] theorem State.abandonPurges_travelOwed (s : State) :
    (s.abandonPurges).travelOwed = s.travelOwed := rfl

@[simp] theorem State.abandonPurges_free (s : State) :
    (s.abandonPurges).free = s.free := rfl

@[simp] theorem State.abandonPurges_inputs (s : State) :
    (s.abandonPurges).inputs = s.inputs := rfl

@[simp] theorem State.abandonPurges_resetAsserted (s : State) :
    (s.abandonPurges).resetAsserted = s.resetAsserted := rfl

@[simp] theorem State.abandonPurges_lp (s : State) :
    (s.abandonPurges).lp = s.lp := rfl

@[simp] theorem State.abandonPurges_si (s : State) :
    (s.abandonPurges).si = s.si := rfl

@[simp] theorem State.abandonPurges_lb (s : State) :
    (s.abandonPurges).lb = s.lb := rfl

@[simp] theorem State.abandonPurges_ts (s : State) :
    (s.abandonPurges).ts = s.ts := rfl

@[simp] theorem State.abandonPurges_ss (s : State) :
    (s.abandonPurges).ss = s.ss := rfl

@[simp] theorem State.abandonPurges_orders (s : State) :
    (s.abandonPurges).orders = s.orders := rfl

@[simp] theorem State.abandonPurges_tcu (s : State) :
    (s.abandonPurges).tcu = s.tcu := rfl

@[simp] theorem State.abandonPurges_fu (s : State) :
    (s.abandonPurges).fu = s.fu := rfl

@[simp] theorem State.abandonPurges_lm (s : State) :
    (s.abandonPurges).lm = s.lm := rfl

@[simp] theorem State.abandonPurges_lsv (s : State) :
    (s.abandonPurges).lsv = s.lsv := rfl

@[simp] theorem State.fixTimers_pending (s : State) :
    (s.fixTimers).pending = s.pending := rfl

@[simp] theorem State.fixTimers_time (s : State) :
    (s.fixTimers).time = s.time := rfl

@[simp] theorem State.fixTimers_encoder (s : State) :
    (s.fixTimers).encoder = s.encoder := rfl

@[simp] theorem State.fixTimers_travelOwed (s : State) :
    (s.fixTimers).travelOwed = s.travelOwed := rfl

@[simp] theorem State.fixTimers_free (s : State) :
    (s.fixTimers).free = s.free := rfl

@[simp] theorem State.fixTimers_inputs (s : State) :
    (s.fixTimers).inputs = s.inputs := rfl

@[simp] theorem State.fixTimers_resetAsserted (s : State) :
    (s.fixTimers).resetAsserted = s.resetAsserted := rfl

@[simp] theorem State.fixTimers_lp (s : State) :
    (s.fixTimers).lp = s.lp := rfl

@[simp] theorem State.fixTimers_si (s : State) :
    (s.fixTimers).si = s.si := rfl

@[simp] theorem State.fixTimers_lb (s : State) :
    (s.fixTimers).lb = s.lb := rfl

@[simp] theorem State.fixTimers_ts (s : State) :
    (s.fixTimers).ts = s.ts := rfl

@[simp] theorem State.fixTimers_ss (s : State) :
    (s.fixTimers).ss = s.ss := rfl

@[simp] theorem State.fixTimers_orders (s : State) :
    (s.fixTimers).orders = s.orders := rfl

@[simp] theorem State.fixTimers_tcu (s : State) :
    (s.fixTimers).tcu = s.tcu := rfl

@[simp] theorem State.fixTimers_fu (s : State) :
    (s.fixTimers).fu = s.fu := rfl

@[simp] theorem State.fixTimers_lm (s : State) :
    (s.fixTimers).lm = s.lm := rfl

@[simp] theorem State.fixTimers_lsv (s : State) :
    (s.fixTimers).lsv = s.lsv := rfl

@[simp] theorem State.quietChannels_pending (s : State) :
    (s.quietChannels).pending = s.pending := rfl

@[simp] theorem State.quietChannels_time (s : State) :
    (s.quietChannels).time = s.time := rfl

@[simp] theorem State.quietChannels_encoder (s : State) :
    (s.quietChannels).encoder = s.encoder := rfl

@[simp] theorem State.quietChannels_travelOwed (s : State) :
    (s.quietChannels).travelOwed = s.travelOwed := rfl

@[simp] theorem State.quietChannels_free (s : State) :
    (s.quietChannels).free = s.free := rfl

@[simp] theorem State.quietChannels_inputs (s : State) :
    (s.quietChannels).inputs = s.inputs := rfl

@[simp] theorem State.quietChannels_resetAsserted (s : State) :
    (s.quietChannels).resetAsserted = s.resetAsserted := rfl

@[simp] theorem State.quietChannels_lp (s : State) :
    (s.quietChannels).lp = s.lp := rfl

@[simp] theorem State.quietChannels_si (s : State) :
    (s.quietChannels).si = s.si := rfl

@[simp] theorem State.quietChannels_lb (s : State) :
    (s.quietChannels).lb = s.lb := rfl

@[simp] theorem State.quietChannels_ts (s : State) :
    (s.quietChannels).ts = s.ts := rfl

@[simp] theorem State.quietChannels_ss (s : State) :
    (s.quietChannels).ss = s.ss := rfl

@[simp] theorem State.quietChannels_orders (s : State) :
    (s.quietChannels).orders = s.orders := rfl

@[simp] theorem State.quietChannels_pc (s : State) :
    (s.quietChannels).pc = s.pc := rfl

@[simp] theorem State.quietChannels_fu (s : State) :
    (s.quietChannels).fu = s.fu := rfl

@[simp] theorem State.quietChannels_lm (s : State) :
    (s.quietChannels).lm = s.lm := rfl

@[simp] theorem State.quietChannels_lsv (s : State) :
    (s.quietChannels).lsv = s.lsv := rfl

@[simp] theorem State.abandonStrikes_pending (s : State) :
    (s.abandonStrikes).pending = s.pending := rfl

@[simp] theorem State.abandonStrikes_time (s : State) :
    (s.abandonStrikes).time = s.time := rfl

@[simp] theorem State.abandonStrikes_encoder (s : State) :
    (s.abandonStrikes).encoder = s.encoder := rfl

@[simp] theorem State.abandonStrikes_travelOwed (s : State) :
    (s.abandonStrikes).travelOwed = s.travelOwed := rfl

@[simp] theorem State.abandonStrikes_free (s : State) :
    (s.abandonStrikes).free = s.free := rfl

@[simp] theorem State.abandonStrikes_inputs (s : State) :
    (s.abandonStrikes).inputs = s.inputs := rfl

@[simp] theorem State.abandonStrikes_resetAsserted (s : State) :
    (s.abandonStrikes).resetAsserted = s.resetAsserted := rfl

@[simp] theorem State.abandonStrikes_lp (s : State) :
    (s.abandonStrikes).lp = s.lp := rfl

@[simp] theorem State.abandonStrikes_si (s : State) :
    (s.abandonStrikes).si = s.si := rfl

@[simp] theorem State.abandonStrikes_lb (s : State) :
    (s.abandonStrikes).lb = s.lb := rfl

@[simp] theorem State.abandonStrikes_ts (s : State) :
    (s.abandonStrikes).ts = s.ts := rfl

@[simp] theorem State.abandonStrikes_orders (s : State) :
    (s.abandonStrikes).orders = s.orders := rfl

@[simp] theorem State.abandonStrikes_pc (s : State) :
    (s.abandonStrikes).pc = s.pc := rfl

@[simp] theorem State.abandonStrikes_tcu (s : State) :
    (s.abandonStrikes).tcu = s.tcu := rfl

@[simp] theorem State.abandonStrikes_fu (s : State) :
    (s.abandonStrikes).fu = s.fu := rfl

@[simp] theorem State.abandonStrikes_lm (s : State) :
    (s.abandonStrikes).lm = s.lm := rfl

@[simp] theorem State.abandonStrikes_lsv (s : State) :
    (s.abandonStrikes).lsv = s.lsv := rfl

@[simp] theorem State.setLp_pending (s : State) (l : LinkPort) :
    (s.setLp l).pending = s.pending := rfl

@[simp] theorem State.setLp_time (s : State) (l : LinkPort) :
    (s.setLp l).time = s.time := rfl

@[simp] theorem State.setLp_encoder (s : State) (l : LinkPort) :
    (s.setLp l).encoder = s.encoder := rfl

@[simp] theorem State.setLp_travelOwed (s : State) (l : LinkPort) :
    (s.setLp l).travelOwed = s.travelOwed := rfl

@[simp] theorem State.setLp_free (s : State) (l : LinkPort) :
    (s.setLp l).free = s.free := rfl

@[simp] theorem State.setLp_inputs (s : State) (l : LinkPort) :
    (s.setLp l).inputs = s.inputs := rfl

@[simp] theorem State.setLp_resetAsserted (s : State) (l : LinkPort) :
    (s.setLp l).resetAsserted = s.resetAsserted := rfl

@[simp] theorem State.setLp_si (s : State) (l : LinkPort) :
    (s.setLp l).si = s.si := rfl

@[simp] theorem State.setLp_lb (s : State) (l : LinkPort) :
    (s.setLp l).lb = s.lb := rfl

@[simp] theorem State.setLp_ts (s : State) (l : LinkPort) :
    (s.setLp l).ts = s.ts := rfl

@[simp] theorem State.setLp_ss (s : State) (l : LinkPort) :
    (s.setLp l).ss = s.ss := rfl

@[simp] theorem State.setLp_orders (s : State) (l : LinkPort) :
    (s.setLp l).orders = s.orders := rfl

@[simp] theorem State.setLp_pc (s : State) (l : LinkPort) :
    (s.setLp l).pc = s.pc := rfl

@[simp] theorem State.setLp_tcu (s : State) (l : LinkPort) :
    (s.setLp l).tcu = s.tcu := rfl

@[simp] theorem State.setLp_fu (s : State) (l : LinkPort) :
    (s.setLp l).fu = s.fu := rfl

@[simp] theorem State.setLp_lm (s : State) (l : LinkPort) :
    (s.setLp l).lm = s.lm := rfl

@[simp] theorem State.setLp_lsv (s : State) (l : LinkPort) :
    (s.setLp l).lsv = s.lsv := rfl

@[simp] theorem State.setLm_pending (s : State) (m : LineMonitor) :
    (s.setLm m).pending = s.pending := rfl

@[simp] theorem State.setLm_time (s : State) (m : LineMonitor) :
    (s.setLm m).time = s.time := rfl

@[simp] theorem State.setLm_encoder (s : State) (m : LineMonitor) :
    (s.setLm m).encoder = s.encoder := rfl

@[simp] theorem State.setLm_travelOwed (s : State) (m : LineMonitor) :
    (s.setLm m).travelOwed = s.travelOwed := rfl

@[simp] theorem State.setLm_free (s : State) (m : LineMonitor) :
    (s.setLm m).free = s.free := rfl

@[simp] theorem State.setLm_inputs (s : State) (m : LineMonitor) :
    (s.setLm m).inputs = s.inputs := rfl

@[simp] theorem State.setLm_resetAsserted (s : State) (m : LineMonitor) :
    (s.setLm m).resetAsserted = s.resetAsserted := rfl

@[simp] theorem State.setLm_lp (s : State) (m : LineMonitor) :
    (s.setLm m).lp = s.lp := rfl

@[simp] theorem State.setLm_si (s : State) (m : LineMonitor) :
    (s.setLm m).si = s.si := rfl

@[simp] theorem State.setLm_lb (s : State) (m : LineMonitor) :
    (s.setLm m).lb = s.lb := rfl

@[simp] theorem State.setLm_ts (s : State) (m : LineMonitor) :
    (s.setLm m).ts = s.ts := rfl

@[simp] theorem State.setLm_ss (s : State) (m : LineMonitor) :
    (s.setLm m).ss = s.ss := rfl

@[simp] theorem State.setLm_orders (s : State) (m : LineMonitor) :
    (s.setLm m).orders = s.orders := rfl

@[simp] theorem State.setLm_pc (s : State) (m : LineMonitor) :
    (s.setLm m).pc = s.pc := rfl

@[simp] theorem State.setLm_tcu (s : State) (m : LineMonitor) :
    (s.setLm m).tcu = s.tcu := rfl

@[simp] theorem State.setLm_fu (s : State) (m : LineMonitor) :
    (s.setLm m).fu = s.fu := rfl

@[simp] theorem State.setLm_lsv (s : State) (m : LineMonitor) :
    (s.setLm m).lsv = s.lsv := rfl

@[simp] theorem State.setPattern_pending (s : State) (p : Fin 24) (x : Option Pattern) :
    (s.setPattern p x).pending = s.pending := rfl

@[simp] theorem State.setPattern_time (s : State) (p : Fin 24) (x : Option Pattern) :
    (s.setPattern p x).time = s.time := rfl

@[simp] theorem State.setPattern_encoder (s : State) (p : Fin 24) (x : Option Pattern) :
    (s.setPattern p x).encoder = s.encoder := rfl

@[simp] theorem State.setPattern_travelOwed (s : State) (p : Fin 24) (x : Option Pattern) :
    (s.setPattern p x).travelOwed = s.travelOwed := rfl

@[simp] theorem State.setPattern_free (s : State) (p : Fin 24) (x : Option Pattern) :
    (s.setPattern p x).free = s.free := rfl

@[simp] theorem State.setPattern_inputs (s : State) (p : Fin 24) (x : Option Pattern) :
    (s.setPattern p x).inputs = s.inputs := rfl

@[simp] theorem State.setPattern_resetAsserted (s : State) (p : Fin 24) (x : Option Pattern) :
    (s.setPattern p x).resetAsserted = s.resetAsserted := rfl

@[simp] theorem State.setPattern_lp (s : State) (p : Fin 24) (x : Option Pattern) :
    (s.setPattern p x).lp = s.lp := rfl

@[simp] theorem State.setPattern_si (s : State) (p : Fin 24) (x : Option Pattern) :
    (s.setPattern p x).si = s.si := rfl

@[simp] theorem State.setPattern_lb (s : State) (p : Fin 24) (x : Option Pattern) :
    (s.setPattern p x).lb = s.lb := rfl

@[simp] theorem State.setPattern_ss (s : State) (p : Fin 24) (x : Option Pattern) :
    (s.setPattern p x).ss = s.ss := rfl

@[simp] theorem State.setPattern_orders (s : State) (p : Fin 24) (x : Option Pattern) :
    (s.setPattern p x).orders = s.orders := rfl

@[simp] theorem State.setPattern_pc (s : State) (p : Fin 24) (x : Option Pattern) :
    (s.setPattern p x).pc = s.pc := rfl

@[simp] theorem State.setPattern_tcu (s : State) (p : Fin 24) (x : Option Pattern) :
    (s.setPattern p x).tcu = s.tcu := rfl

@[simp] theorem State.setPattern_fu (s : State) (p : Fin 24) (x : Option Pattern) :
    (s.setPattern p x).fu = s.fu := rfl

@[simp] theorem State.setPattern_lm (s : State) (p : Fin 24) (x : Option Pattern) :
    (s.setPattern p x).lm = s.lm := rfl

@[simp] theorem State.setPattern_lsv (s : State) (p : Fin 24) (x : Option Pattern) :
    (s.setPattern p x).lsv = s.lsv := rfl

@[simp] theorem State.captureAll_pending (s : State) (x : Half) (a b : Bool) :
    (s.captureAll x a b).pending = s.pending := rfl

@[simp] theorem State.captureAll_time (s : State) (x : Half) (a b : Bool) :
    (s.captureAll x a b).time = s.time := rfl

@[simp] theorem State.captureAll_encoder (s : State) (x : Half) (a b : Bool) :
    (s.captureAll x a b).encoder = s.encoder := rfl

@[simp] theorem State.captureAll_travelOwed (s : State) (x : Half) (a b : Bool) :
    (s.captureAll x a b).travelOwed = s.travelOwed := rfl

@[simp] theorem State.captureAll_free (s : State) (x : Half) (a b : Bool) :
    (s.captureAll x a b).free = s.free := rfl

@[simp] theorem State.captureAll_inputs (s : State) (x : Half) (a b : Bool) :
    (s.captureAll x a b).inputs = s.inputs := rfl

@[simp] theorem State.captureAll_resetAsserted (s : State) (x : Half) (a b : Bool) :
    (s.captureAll x a b).resetAsserted = s.resetAsserted := rfl

@[simp] theorem State.captureAll_lp (s : State) (x : Half) (a b : Bool) :
    (s.captureAll x a b).lp = s.lp := rfl

@[simp] theorem State.captureAll_si (s : State) (x : Half) (a b : Bool) :
    (s.captureAll x a b).si = s.si := rfl

@[simp] theorem State.captureAll_lb (s : State) (x : Half) (a b : Bool) :
    (s.captureAll x a b).lb = s.lb := rfl

@[simp] theorem State.captureAll_ts (s : State) (x : Half) (a b : Bool) :
    (s.captureAll x a b).ts = s.ts := rfl

@[simp] theorem State.captureAll_ss (s : State) (x : Half) (a b : Bool) :
    (s.captureAll x a b).ss = s.ss := rfl

@[simp] theorem State.captureAll_orders (s : State) (x : Half) (a b : Bool) :
    (s.captureAll x a b).orders = s.orders := rfl

@[simp] theorem State.captureAll_pc (s : State) (x : Half) (a b : Bool) :
    (s.captureAll x a b).pc = s.pc := rfl

@[simp] theorem State.captureAll_fu (s : State) (x : Half) (a b : Bool) :
    (s.captureAll x a b).fu = s.fu := rfl

@[simp] theorem State.captureAll_lm (s : State) (x : Half) (a b : Bool) :
    (s.captureAll x a b).lm = s.lm := rfl

@[simp] theorem State.captureAll_lsv (s : State) (x : Half) (a b : Bool) :
    (s.captureAll x a b).lsv = s.lsv := rfl

@[simp] theorem State.clearFaultedDrives_pending (s : State) :
    (s.clearFaultedDrives).pending = s.pending := rfl

@[simp] theorem State.clearFaultedDrives_time (s : State) :
    (s.clearFaultedDrives).time = s.time := rfl

@[simp] theorem State.clearFaultedDrives_encoder (s : State) :
    (s.clearFaultedDrives).encoder = s.encoder := rfl

@[simp] theorem State.clearFaultedDrives_travelOwed (s : State) :
    (s.clearFaultedDrives).travelOwed = s.travelOwed := rfl

@[simp] theorem State.clearFaultedDrives_free (s : State) :
    (s.clearFaultedDrives).free = s.free := rfl

@[simp] theorem State.clearFaultedDrives_inputs (s : State) :
    (s.clearFaultedDrives).inputs = s.inputs := rfl

@[simp] theorem State.clearFaultedDrives_resetAsserted (s : State) :
    (s.clearFaultedDrives).resetAsserted = s.resetAsserted := rfl

@[simp] theorem State.clearFaultedDrives_lp (s : State) :
    (s.clearFaultedDrives).lp = s.lp := rfl

@[simp] theorem State.clearFaultedDrives_si (s : State) :
    (s.clearFaultedDrives).si = s.si := rfl

@[simp] theorem State.clearFaultedDrives_lb (s : State) :
    (s.clearFaultedDrives).lb = s.lb := rfl

@[simp] theorem State.clearFaultedDrives_ts (s : State) :
    (s.clearFaultedDrives).ts = s.ts := rfl

@[simp] theorem State.clearFaultedDrives_orders (s : State) :
    (s.clearFaultedDrives).orders = s.orders := rfl

@[simp] theorem State.clearFaultedDrives_pc (s : State) :
    (s.clearFaultedDrives).pc = s.pc := rfl

@[simp] theorem State.clearFaultedDrives_tcu (s : State) :
    (s.clearFaultedDrives).tcu = s.tcu := rfl

@[simp] theorem State.clearFaultedDrives_fu (s : State) :
    (s.clearFaultedDrives).fu = s.fu := rfl

@[simp] theorem State.clearFaultedDrives_lm (s : State) :
    (s.clearFaultedDrives).lm = s.lm := rfl

@[simp] theorem State.clearFaultedDrives_lsv (s : State) :
    (s.clearFaultedDrives).lsv = s.lsv := rfl

@[simp] theorem State.showOutputs_pending (s : State) :
    (s.showOutputs).pending = s.pending := rfl

@[simp] theorem State.showOutputs_time (s : State) :
    (s.showOutputs).time = s.time := rfl

@[simp] theorem State.showOutputs_encoder (s : State) :
    (s.showOutputs).encoder = s.encoder := rfl

@[simp] theorem State.showOutputs_travelOwed (s : State) :
    (s.showOutputs).travelOwed = s.travelOwed := rfl

@[simp] theorem State.showOutputs_free (s : State) :
    (s.showOutputs).free = s.free := rfl

@[simp] theorem State.showOutputs_inputs (s : State) :
    (s.showOutputs).inputs = s.inputs := rfl

@[simp] theorem State.showOutputs_resetAsserted (s : State) :
    (s.showOutputs).resetAsserted = s.resetAsserted := rfl

@[simp] theorem State.showOutputs_lp (s : State) :
    (s.showOutputs).lp = s.lp := rfl

@[simp] theorem State.showOutputs_si (s : State) :
    (s.showOutputs).si = s.si := rfl

@[simp] theorem State.showOutputs_lb (s : State) :
    (s.showOutputs).lb = s.lb := rfl

@[simp] theorem State.showOutputs_ts (s : State) :
    (s.showOutputs).ts = s.ts := rfl

@[simp] theorem State.showOutputs_ss (s : State) :
    (s.showOutputs).ss = s.ss := rfl

@[simp] theorem State.showOutputs_orders (s : State) :
    (s.showOutputs).orders = s.orders := rfl

@[simp] theorem State.showOutputs_pc (s : State) :
    (s.showOutputs).pc = s.pc := rfl

@[simp] theorem State.showOutputs_fu (s : State) :
    (s.showOutputs).fu = s.fu := rfl

@[simp] theorem State.showOutputs_lm (s : State) :
    (s.showOutputs).lm = s.lm := rfl

@[simp] theorem State.showOutputs_lsv (s : State) :
    (s.showOutputs).lsv = s.lsv := rfl

@[simp] theorem State.setRecord_pending (s : State) (r : RecoveryRecord) :
    (s.setRecord r).pending = s.pending := rfl

@[simp] theorem State.setRecord_time (s : State) (r : RecoveryRecord) :
    (s.setRecord r).time = s.time := rfl

@[simp] theorem State.setRecord_encoder (s : State) (r : RecoveryRecord) :
    (s.setRecord r).encoder = s.encoder := rfl

@[simp] theorem State.setRecord_travelOwed (s : State) (r : RecoveryRecord) :
    (s.setRecord r).travelOwed = s.travelOwed := rfl

@[simp] theorem State.setRecord_free (s : State) (r : RecoveryRecord) :
    (s.setRecord r).free = s.free := rfl

@[simp] theorem State.setRecord_inputs (s : State) (r : RecoveryRecord) :
    (s.setRecord r).inputs = s.inputs := rfl

@[simp] theorem State.setRecord_resetAsserted (s : State) (r : RecoveryRecord) :
    (s.setRecord r).resetAsserted = s.resetAsserted := rfl

@[simp] theorem State.setRecord_lp (s : State) (r : RecoveryRecord) :
    (s.setRecord r).lp = s.lp := rfl

@[simp] theorem State.setRecord_si (s : State) (r : RecoveryRecord) :
    (s.setRecord r).si = s.si := rfl

@[simp] theorem State.setRecord_lb (s : State) (r : RecoveryRecord) :
    (s.setRecord r).lb = s.lb := rfl

@[simp] theorem State.setRecord_ts (s : State) (r : RecoveryRecord) :
    (s.setRecord r).ts = s.ts := rfl

@[simp] theorem State.setRecord_ss (s : State) (r : RecoveryRecord) :
    (s.setRecord r).ss = s.ss := rfl

@[simp] theorem State.setRecord_orders (s : State) (r : RecoveryRecord) :
    (s.setRecord r).orders = s.orders := rfl

@[simp] theorem State.setRecord_pc (s : State) (r : RecoveryRecord) :
    (s.setRecord r).pc = s.pc := rfl

@[simp] theorem State.setRecord_tcu (s : State) (r : RecoveryRecord) :
    (s.setRecord r).tcu = s.tcu := rfl

@[simp] theorem State.setRecord_fu (s : State) (r : RecoveryRecord) :
    (s.setRecord r).fu = s.fu := rfl

@[simp] theorem State.setRecord_lm (s : State) (r : RecoveryRecord) :
    (s.setRecord r).lm = s.lm := rfl

@[simp] theorem State.setInputs_pending (s : State) (x : Inputs) :
    (s.setInputs x).pending = s.pending := rfl

@[simp] theorem State.setInputs_time (s : State) (x : Inputs) :
    (s.setInputs x).time = s.time := rfl

@[simp] theorem State.setInputs_encoder (s : State) (x : Inputs) :
    (s.setInputs x).encoder = s.encoder := rfl

@[simp] theorem State.setInputs_travelOwed (s : State) (x : Inputs) :
    (s.setInputs x).travelOwed = s.travelOwed := rfl

@[simp] theorem State.setInputs_free (s : State) (x : Inputs) :
    (s.setInputs x).free = s.free := rfl

@[simp] theorem State.setInputs_resetAsserted (s : State) (x : Inputs) :
    (s.setInputs x).resetAsserted = s.resetAsserted := rfl

@[simp] theorem State.setInputs_lp (s : State) (x : Inputs) :
    (s.setInputs x).lp = s.lp := rfl

@[simp] theorem State.setInputs_si (s : State) (x : Inputs) :
    (s.setInputs x).si = s.si := rfl

@[simp] theorem State.setInputs_lb (s : State) (x : Inputs) :
    (s.setInputs x).lb = s.lb := rfl

@[simp] theorem State.setInputs_ts (s : State) (x : Inputs) :
    (s.setInputs x).ts = s.ts := rfl

@[simp] theorem State.setInputs_ss (s : State) (x : Inputs) :
    (s.setInputs x).ss = s.ss := rfl

@[simp] theorem State.setInputs_orders (s : State) (x : Inputs) :
    (s.setInputs x).orders = s.orders := rfl

@[simp] theorem State.setInputs_pc (s : State) (x : Inputs) :
    (s.setInputs x).pc = s.pc := rfl

@[simp] theorem State.setInputs_tcu (s : State) (x : Inputs) :
    (s.setInputs x).tcu = s.tcu := rfl

@[simp] theorem State.setInputs_fu (s : State) (x : Inputs) :
    (s.setInputs x).fu = s.fu := rfl

@[simp] theorem State.setInputs_lm (s : State) (x : Inputs) :
    (s.setInputs x).lm = s.lm := rfl

@[simp] theorem State.setInputs_lsv (s : State) (x : Inputs) :
    (s.setInputs x).lsv = s.lsv := rfl

@[simp] theorem State.setBitLife_pending (s : State) (n : Nat) :
    (s.setBitLife n).pending = s.pending := rfl

@[simp] theorem State.setBitLife_time (s : State) (n : Nat) :
    (s.setBitLife n).time = s.time := rfl

@[simp] theorem State.setBitLife_encoder (s : State) (n : Nat) :
    (s.setBitLife n).encoder = s.encoder := rfl

@[simp] theorem State.setBitLife_travelOwed (s : State) (n : Nat) :
    (s.setBitLife n).travelOwed = s.travelOwed := rfl

@[simp] theorem State.setBitLife_free (s : State) (n : Nat) :
    (s.setBitLife n).free = s.free := rfl

@[simp] theorem State.setBitLife_inputs (s : State) (n : Nat) :
    (s.setBitLife n).inputs = s.inputs := rfl

@[simp] theorem State.setBitLife_resetAsserted (s : State) (n : Nat) :
    (s.setBitLife n).resetAsserted = s.resetAsserted := rfl

@[simp] theorem State.setBitLife_lp (s : State) (n : Nat) :
    (s.setBitLife n).lp = s.lp := rfl

@[simp] theorem State.setBitLife_si (s : State) (n : Nat) :
    (s.setBitLife n).si = s.si := rfl

@[simp] theorem State.setBitLife_lb (s : State) (n : Nat) :
    (s.setBitLife n).lb = s.lb := rfl

@[simp] theorem State.setBitLife_ts (s : State) (n : Nat) :
    (s.setBitLife n).ts = s.ts := rfl

@[simp] theorem State.setBitLife_ss (s : State) (n : Nat) :
    (s.setBitLife n).ss = s.ss := rfl

@[simp] theorem State.setBitLife_orders (s : State) (n : Nat) :
    (s.setBitLife n).orders = s.orders := rfl

@[simp] theorem State.setBitLife_pc (s : State) (n : Nat) :
    (s.setBitLife n).pc = s.pc := rfl

@[simp] theorem State.setBitLife_tcu (s : State) (n : Nat) :
    (s.setBitLife n).tcu = s.tcu := rfl

@[simp] theorem State.setBitLife_lm (s : State) (n : Nat) :
    (s.setBitLife n).lm = s.lm := rfl

@[simp] theorem State.setBitLife_lsv (s : State) (n : Nat) :
    (s.setBitLife n).lsv = s.lsv := rfl

@[simp] theorem State.resetBlocks_pending (s : State) :
    (s.resetBlocks).pending = s.pending := rfl

@[simp] theorem State.resetBlocks_time (s : State) :
    (s.resetBlocks).time = s.time := rfl

@[simp] theorem State.resetBlocks_encoder (s : State) :
    (s.resetBlocks).encoder = s.encoder := rfl

@[simp] theorem State.resetBlocks_travelOwed (s : State) :
    (s.resetBlocks).travelOwed = s.travelOwed := rfl

@[simp] theorem State.resetBlocks_free (s : State) :
    (s.resetBlocks).free = s.free := rfl

@[simp] theorem State.resetBlocks_inputs (s : State) :
    (s.resetBlocks).inputs = s.inputs := rfl

@[simp] theorem State.resetBlocks_resetAsserted (s : State) :
    (s.resetBlocks).resetAsserted = s.resetAsserted := rfl

@[simp] theorem State.resetBlocks_lp (s : State) :
    (s.resetBlocks).lp = s.lp := rfl

@[simp] theorem State.resetBlocks_pc (s : State) :
    (s.resetBlocks).pc = s.pc.lineReset := rfl

@[simp] theorem State.resetBlocks_lm (s : State) :
    (s.resetBlocks).lm = s.lm := rfl

@[simp] theorem State.afterLineRead_pending (s : State) :
    (s.afterLineRead).pending = s.pending := rfl

@[simp] theorem State.afterLineRead_time (s : State) :
    (s.afterLineRead).time = s.time := rfl

@[simp] theorem State.afterLineRead_encoder (s : State) :
    (s.afterLineRead).encoder = s.encoder := rfl

@[simp] theorem State.afterLineRead_travelOwed (s : State) :
    (s.afterLineRead).travelOwed = s.travelOwed := rfl

@[simp] theorem State.afterLineRead_inputs (s : State) :
    (s.afterLineRead).inputs = s.inputs := rfl

@[simp] theorem State.afterLineRead_resetAsserted (s : State) :
    (s.afterLineRead).resetAsserted = s.resetAsserted := rfl

@[simp] theorem State.afterLineRead_ts (s : State) :
    (s.afterLineRead).ts = s.ts := rfl

@[simp] theorem State.afterLineRead_ss (s : State) :
    (s.afterLineRead).ss = s.ss := rfl

@[simp] theorem State.afterLineRead_orders (s : State) :
    (s.afterLineRead).orders = s.orders := rfl

@[simp] theorem State.afterLineRead_pc (s : State) :
    (s.afterLineRead).pc = s.pc := rfl

@[simp] theorem State.afterLineRead_tcu (s : State) :
    (s.afterLineRead).tcu = s.tcu := rfl

@[simp] theorem State.afterLineRead_fu (s : State) :
    (s.afterLineRead).fu = s.fu := rfl

@[simp] theorem State.afterLineRead_lm (s : State) :
    (s.afterLineRead).lm = s.lm := rfl

@[simp] theorem State.afterLineRead_lsv (s : State) :
    (s.afterLineRead).lsv = s.lsv := rfl

@[simp] theorem State.countUnit_pending (s : State) (x : Source) :
    (s.countUnit x).pending = s.pending := rfl

@[simp] theorem State.countUnit_time (s : State) (x : Source) :
    (s.countUnit x).time = s.time := rfl

@[simp] theorem State.countUnit_encoder (s : State) (x : Source) :
    (s.countUnit x).encoder = s.encoder := rfl

@[simp] theorem State.countUnit_travelOwed (s : State) (x : Source) :
    (s.countUnit x).travelOwed = s.travelOwed := rfl

@[simp] theorem State.countUnit_free (s : State) (x : Source) :
    (s.countUnit x).free = s.free := rfl

@[simp] theorem State.countUnit_inputs (s : State) (x : Source) :
    (s.countUnit x).inputs = s.inputs := rfl

@[simp] theorem State.countUnit_resetAsserted (s : State) (x : Source) :
    (s.countUnit x).resetAsserted = s.resetAsserted := rfl

@[simp] theorem State.countUnit_lp (s : State) (x : Source) :
    (s.countUnit x).lp = s.lp := rfl

@[simp] theorem State.countUnit_si (s : State) (x : Source) :
    (s.countUnit x).si = s.si := rfl

@[simp] theorem State.countUnit_lb (s : State) (x : Source) :
    (s.countUnit x).lb = s.lb := rfl

@[simp] theorem State.countUnit_ts (s : State) (x : Source) :
    (s.countUnit x).ts = s.ts := rfl

@[simp] theorem State.countUnit_ss (s : State) (x : Source) :
    (s.countUnit x).ss = s.ss := rfl

@[simp] theorem State.countUnit_orders (s : State) (x : Source) :
    (s.countUnit x).orders = s.orders := rfl

@[simp] theorem State.countUnit_pc (s : State) (x : Source) :
    (s.countUnit x).pc = s.pc := rfl

@[simp] theorem State.countUnit_fu (s : State) (x : Source) :
    (s.countUnit x).fu = s.fu := rfl

@[simp] theorem State.countUnit_lm (s : State) (x : Source) :
    (s.countUnit x).lm = s.lm := rfl

@[simp] theorem State.countUnit_lsv (s : State) (x : Source) :
    (s.countUnit x).lsv = s.lsv := rfl

@[simp] theorem State.markLastLift_pending (s : State) (i : Slot) :
    (s.markLastLift i).pending = s.pending := rfl

@[simp] theorem State.markLastLift_time (s : State) (i : Slot) :
    (s.markLastLift i).time = s.time := rfl

@[simp] theorem State.markLastLift_encoder (s : State) (i : Slot) :
    (s.markLastLift i).encoder = s.encoder := rfl

@[simp] theorem State.markLastLift_travelOwed (s : State) (i : Slot) :
    (s.markLastLift i).travelOwed = s.travelOwed := rfl

@[simp] theorem State.markLastLift_free (s : State) (i : Slot) :
    (s.markLastLift i).free = s.free := rfl

@[simp] theorem State.markLastLift_inputs (s : State) (i : Slot) :
    (s.markLastLift i).inputs = s.inputs := rfl

@[simp] theorem State.markLastLift_resetAsserted (s : State) (i : Slot) :
    (s.markLastLift i).resetAsserted = s.resetAsserted := rfl

@[simp] theorem State.markLastLift_lp (s : State) (i : Slot) :
    (s.markLastLift i).lp = s.lp := rfl

@[simp] theorem State.markLastLift_si (s : State) (i : Slot) :
    (s.markLastLift i).si = s.si := rfl

@[simp] theorem State.markLastLift_ts (s : State) (i : Slot) :
    (s.markLastLift i).ts = s.ts := rfl

@[simp] theorem State.markLastLift_orders (s : State) (i : Slot) :
    (s.markLastLift i).orders = s.orders := rfl

@[simp] theorem State.markLastLift_pc (s : State) (i : Slot) :
    (s.markLastLift i).pc = s.pc := rfl

@[simp] theorem State.markLastLift_tcu (s : State) (i : Slot) :
    (s.markLastLift i).tcu = s.tcu := rfl

@[simp] theorem State.markLastLift_lm (s : State) (i : Slot) :
    (s.markLastLift i).lm = s.lm := rfl

@[simp] theorem State.markLastLift_lsv (s : State) (i : Slot) :
    (s.markLastLift i).lsv = s.lsv := rfl

@[simp] theorem Lift.markLast_slot (i : Slot) (n : Nat) (l : Lift) :
    (l.markLast i n).slot = l.slot := by
  unfold Lift.markLast; split <;> rfl

@[simp] theorem State.markLastLift_openLift (s : State) (i : Slot) :
    (s.markLastLift i).lb.openLift = s.lb.openLift := rfl

@[simp] theorem State.markLastLift_queueLength (s : State) (i : Slot) :
    (s.markLastLift i).lb.queue.length = s.lb.queue.length := by
  simp [State.markLastLift]

@[simp] theorem State.markLastLift_finish (s : State) (i : Slot) :
    (s.markLastLift i).fu.finish = s.fu.finish := rfl

@[simp] theorem State.markLastLift_bitLife (s : State) (i : Slot) :
    (s.markLastLift i).fu.bitLife = s.fu.bitLife := rfl

@[simp] theorem State.markLastLift_drives (s : State) (i : Slot) :
    (s.markLastLift i).ss.drives = s.ss.drives := rfl

@[simp] theorem State.markLastLift_history (s : State) (i : Slot) :
    (s.markLastLift i).ss.history = s.ss.history := rfl

end Sys2Proof.Machine
end

