-- ==== Sys2Proof/Laws/Ops.lean ====
section
/-! SUPPORT. What each shared operation leaves unchanged: one lemma per field. -/

namespace Sys2Proof.Machine

open Sys2Proof

set_option Elab.async false
set_option linter.unusedTactic false
set_option linter.unreachableTactic false
set_option linter.unusedSimpArgs false

/-- What one round of a fold keeps, the fold keeps. -/
theorem foldl_keeps {α β γ : Type} (g : β → γ) (f : β → α → β) (h : ∀ s a, g (f s a) = g s)
    (l : List α) (s : β) : g (l.foldl f s) = g s := by
  induction l generalizing s with
  | nil => rfl
  | cons a l ih => rw [List.foldl_cons, ih, h]

@[simp] theorem State.syncPause_pending (s : State) :
    (s.syncPause).pending = s.pending := by
  simp only [State.syncPause]; repeat' split
  all_goals simp

@[simp] theorem State.syncPause_time (s : State) :
    (s.syncPause).time = s.time := by
  simp only [State.syncPause]; repeat' split
  all_goals simp

@[simp] theorem State.syncPause_encoder (s : State) :
    (s.syncPause).encoder = s.encoder := by
  simp only [State.syncPause]; repeat' split
  all_goals simp

@[simp] theorem State.syncPause_travelOwed (s : State) :
    (s.syncPause).travelOwed = s.travelOwed := by
  simp only [State.syncPause]; repeat' split
  all_goals simp

@[simp] theorem State.syncPause_free (s : State) :
    (s.syncPause).free = s.free := by
  simp only [State.syncPause]; repeat' split
  all_goals simp

@[simp] theorem State.syncPause_inputs (s : State) :
    (s.syncPause).inputs = s.inputs := by
  simp only [State.syncPause]; repeat' split
  all_goals simp

@[simp] theorem State.syncPause_resetAsserted (s : State) :
    (s.syncPause).resetAsserted = s.resetAsserted := by
  simp only [State.syncPause]; repeat' split
  all_goals simp

@[simp] theorem State.syncPause_si (s : State) :
    (s.syncPause).si = s.si := by
  simp only [State.syncPause]; repeat' split
  all_goals simp

@[simp] theorem State.syncPause_lb (s : State) :
    (s.syncPause).lb = s.lb := by
  simp only [State.syncPause]; repeat' split
  all_goals simp

@[simp] theorem State.syncPause_ts (s : State) :
    (s.syncPause).ts = s.ts := by
  simp only [State.syncPause]; repeat' split
  all_goals simp

@[simp] theorem State.syncPause_ss (s : State) :
    (s.syncPause).ss = s.ss := by
  simp only [State.syncPause]; repeat' split
  all_goals simp

@[simp] theorem State.syncPause_orders (s : State) :
    (s.syncPause).orders = s.orders := by
  simp only [State.syncPause]; repeat' split
  all_goals simp

@[simp] theorem State.syncPause_pc (s : State) :
    (s.syncPause).pc = s.pc := by
  simp only [State.syncPause]; repeat' split
  all_goals simp

@[simp] theorem State.syncPause_tcu (s : State) :
    (s.syncPause).tcu = s.tcu := by
  simp only [State.syncPause]; repeat' split
  all_goals simp

@[simp] theorem State.syncPause_fu (s : State) :
    (s.syncPause).fu = s.fu := by
  simp only [State.syncPause]; repeat' split
  all_goals simp

@[simp] theorem State.syncPause_lsv (s : State) :
    (s.syncPause).lsv = s.lsv := by
  simp only [State.syncPause]; repeat' split
  all_goals simp

@[simp] theorem State.moveLine_pending (s : State) (l : LineState) :
    (s.moveLine l).pending = s.pending := by
  simp only [State.moveLine]; repeat' split
  all_goals simp

@[simp] theorem State.moveLine_time (s : State) (l : LineState) :
    (s.moveLine l).time = s.time := by
  simp only [State.moveLine]; repeat' split
  all_goals simp

@[simp] theorem State.moveLine_encoder (s : State) (l : LineState) :
    (s.moveLine l).encoder = s.encoder := by
  simp only [State.moveLine]; repeat' split
  all_goals simp

@[simp] theorem State.moveLine_travelOwed (s : State) (l : LineState) :
    (s.moveLine l).travelOwed = s.travelOwed := by
  simp only [State.moveLine]; repeat' split
  all_goals simp

@[simp] theorem State.moveLine_free (s : State) (l : LineState) :
    (s.moveLine l).free = s.free := by
  simp only [State.moveLine]; repeat' split
  all_goals simp

@[simp] theorem State.moveLine_inputs (s : State) (l : LineState) :
    (s.moveLine l).inputs = s.inputs := by
  simp only [State.moveLine]; repeat' split
  all_goals simp

@[simp] theorem State.moveLine_resetAsserted (s : State) (l : LineState) :
    (s.moveLine l).resetAsserted = s.resetAsserted := by
  simp only [State.moveLine]; repeat' split
  all_goals simp

@[simp] theorem State.moveLine_si (s : State) (l : LineState) :
    (s.moveLine l).si = s.si := by
  simp only [State.moveLine]; repeat' split
  all_goals simp

@[simp] theorem State.moveLine_lb (s : State) (l : LineState) :
    (s.moveLine l).lb = s.lb := by
  simp only [State.moveLine]; repeat' split
  all_goals simp

@[simp] theorem State.moveLine_ts (s : State) (l : LineState) :
    (s.moveLine l).ts = s.ts := by
  simp only [State.moveLine]; repeat' split
  all_goals simp

@[simp] theorem State.moveLine_ss (s : State) (l : LineState) :
    (s.moveLine l).ss = s.ss := by
  simp only [State.moveLine]; repeat' split
  all_goals simp

@[simp] theorem State.moveLine_orders (s : State) (l : LineState) :
    (s.moveLine l).orders = s.orders := by
  simp only [State.moveLine]; repeat' split
  all_goals simp

@[simp] theorem State.moveLine_pc (s : State) (l : LineState) :
    (s.moveLine l).pc = s.pc := by
  simp only [State.moveLine]; repeat' split
  all_goals simp

@[simp] theorem State.moveLine_tcu (s : State) (l : LineState) :
    (s.moveLine l).tcu = s.tcu := by
  simp only [State.moveLine]; repeat' split
  all_goals simp

@[simp] theorem State.moveLine_fu (s : State) (l : LineState) :
    (s.moveLine l).fu = s.fu := by
  simp only [State.moveLine]; repeat' split
  all_goals simp

@[simp] theorem State.updateRegistration_pending (s : State) (e : StreakEvent) :
    (s.updateRegistration e).pending = s.pending := by
  simp only [State.updateRegistration]; repeat' split
  all_goals simp

@[simp] theorem State.updateRegistration_time (s : State) (e : StreakEvent) :
    (s.updateRegistration e).time = s.time := by
  simp only [State.updateRegistration]; repeat' split
  all_goals simp

@[simp] theorem State.updateRegistration_encoder (s : State) (e : StreakEvent) :
    (s.updateRegistration e).encoder = s.encoder := by
  simp only [State.updateRegistration]; repeat' split
  all_goals simp

@[simp] theorem State.updateRegistration_travelOwed (s : State) (e : StreakEvent) :
    (s.updateRegistration e).travelOwed = s.travelOwed := by
  simp only [State.updateRegistration]; repeat' split
  all_goals simp

@[simp] theorem State.updateRegistration_free (s : State) (e : StreakEvent) :
    (s.updateRegistration e).free = s.free := by
  simp only [State.updateRegistration]; repeat' split
  all_goals simp

@[simp] theorem State.updateRegistration_inputs (s : State) (e : StreakEvent) :
    (s.updateRegistration e).inputs = s.inputs := by
  simp only [State.updateRegistration]; repeat' split
  all_goals simp

@[simp] theorem State.updateRegistration_resetAsserted (s : State) (e : StreakEvent) :
    (s.updateRegistration e).resetAsserted = s.resetAsserted := by
  simp only [State.updateRegistration]; repeat' split
  all_goals simp

@[simp] theorem State.updateRegistration_lb (s : State) (e : StreakEvent) :
    (s.updateRegistration e).lb = s.lb := by
  simp only [State.updateRegistration]; repeat' split
  all_goals simp

@[simp] theorem State.updateRegistration_ts (s : State) (e : StreakEvent) :
    (s.updateRegistration e).ts = s.ts := by
  simp only [State.updateRegistration]; repeat' split
  all_goals simp

@[simp] theorem State.updateRegistration_ss (s : State) (e : StreakEvent) :
    (s.updateRegistration e).ss = s.ss := by
  simp only [State.updateRegistration]; repeat' split
  all_goals simp

@[simp] theorem State.updateRegistration_orders (s : State) (e : StreakEvent) :
    (s.updateRegistration e).orders = s.orders := by
  simp only [State.updateRegistration]; repeat' split
  all_goals simp

@[simp] theorem State.updateRegistration_pc (s : State) (e : StreakEvent) :
    (s.updateRegistration e).pc = s.pc := by
  simp only [State.updateRegistration]; repeat' split
  all_goals simp

@[simp] theorem State.updateRegistration_tcu (s : State) (e : StreakEvent) :
    (s.updateRegistration e).tcu = s.tcu := by
  simp only [State.updateRegistration]; repeat' split
  all_goals simp

@[simp] theorem State.updateRegistration_fu (s : State) (e : StreakEvent) :
    (s.updateRegistration e).fu = s.fu := by
  simp only [State.updateRegistration]; repeat' split
  all_goals simp

@[simp] theorem State.updateRegistration_lsv (s : State) (e : StreakEvent) :
    (s.updateRegistration e).lsv = s.lsv := by
  simp only [State.updateRegistration]; repeat' split
  all_goals simp

@[simp] theorem State.modifyBook_pending (s : State) (i : Slot) (f : Book → Book) :
    (s.modifyBook i f).pending = s.pending := by
  simp only [State.modifyBook]; repeat' split
  all_goals simp

@[simp] theorem State.modifyBook_time (s : State) (i : Slot) (f : Book → Book) :
    (s.modifyBook i f).time = s.time := by
  simp only [State.modifyBook]; repeat' split
  all_goals simp

@[simp] theorem State.modifyBook_encoder (s : State) (i : Slot) (f : Book → Book) :
    (s.modifyBook i f).encoder = s.encoder := by
  simp only [State.modifyBook]; repeat' split
  all_goals simp

@[simp] theorem State.modifyBook_travelOwed (s : State) (i : Slot) (f : Book → Book) :
    (s.modifyBook i f).travelOwed = s.travelOwed := by
  simp only [State.modifyBook]; repeat' split
  all_goals simp

@[simp] theorem State.modifyBook_free (s : State) (i : Slot) (f : Book → Book) :
    (s.modifyBook i f).free = s.free := by
  simp only [State.modifyBook]; repeat' split
  all_goals simp

@[simp] theorem State.modifyBook_inputs (s : State) (i : Slot) (f : Book → Book) :
    (s.modifyBook i f).inputs = s.inputs := by
  simp only [State.modifyBook]; repeat' split
  all_goals simp

@[simp] theorem State.modifyBook_resetAsserted (s : State) (i : Slot) (f : Book → Book) :
    (s.modifyBook i f).resetAsserted = s.resetAsserted := by
  simp only [State.modifyBook]; repeat' split
  all_goals simp

@[simp] theorem State.modifyBook_lp (s : State) (i : Slot) (f : Book → Book) :
    (s.modifyBook i f).lp = s.lp := by
  simp only [State.modifyBook]; repeat' split
  all_goals simp

@[simp] theorem State.modifyBook_lb (s : State) (i : Slot) (f : Book → Book) :
    (s.modifyBook i f).lb = s.lb := by
  simp only [State.modifyBook]; repeat' split
  all_goals simp

@[simp] theorem State.modifyBook_ts (s : State) (i : Slot) (f : Book → Book) :
    (s.modifyBook i f).ts = s.ts := by
  simp only [State.modifyBook]; repeat' split
  all_goals simp

@[simp] theorem State.modifyBook_ss (s : State) (i : Slot) (f : Book → Book) :
    (s.modifyBook i f).ss = s.ss := by
  simp only [State.modifyBook]; repeat' split
  all_goals simp

@[simp] theorem State.modifyBook_orders (s : State) (i : Slot) (f : Book → Book) :
    (s.modifyBook i f).orders = s.orders := by
  simp only [State.modifyBook]; repeat' split
  all_goals simp

@[simp] theorem State.modifyBook_pc (s : State) (i : Slot) (f : Book → Book) :
    (s.modifyBook i f).pc = s.pc := by
  simp only [State.modifyBook]; repeat' split
  all_goals simp

@[simp] theorem State.modifyBook_tcu (s : State) (i : Slot) (f : Book → Book) :
    (s.modifyBook i f).tcu = s.tcu := by
  simp only [State.modifyBook]; repeat' split
  all_goals simp

@[simp] theorem State.modifyBook_fu (s : State) (i : Slot) (f : Book → Book) :
    (s.modifyBook i f).fu = s.fu := by
  simp only [State.modifyBook]; repeat' split
  all_goals simp

@[simp] theorem State.modifyBook_lm (s : State) (i : Slot) (f : Book → Book) :
    (s.modifyBook i f).lm = s.lm := by
  simp only [State.modifyBook]; repeat' split
  all_goals simp

@[simp] theorem State.makeOrder_pending (s : State) (j : Job) :
    (s.makeOrder j).pending = s.pending := by
  simp only [State.makeOrder]; repeat' split
  all_goals simp

@[simp] theorem State.makeOrder_time (s : State) (j : Job) :
    (s.makeOrder j).time = s.time := by
  simp only [State.makeOrder]; repeat' split
  all_goals simp

@[simp] theorem State.makeOrder_encoder (s : State) (j : Job) :
    (s.makeOrder j).encoder = s.encoder := by
  simp only [State.makeOrder]; repeat' split
  all_goals simp

@[simp] theorem State.makeOrder_travelOwed (s : State) (j : Job) :
    (s.makeOrder j).travelOwed = s.travelOwed := by
  simp only [State.makeOrder]; repeat' split
  all_goals simp

@[simp] theorem State.makeOrder_free (s : State) (j : Job) :
    (s.makeOrder j).free = s.free := by
  simp only [State.makeOrder]; repeat' split
  all_goals simp

@[simp] theorem State.makeOrder_inputs (s : State) (j : Job) :
    (s.makeOrder j).inputs = s.inputs := by
  simp only [State.makeOrder]; repeat' split
  all_goals simp

@[simp] theorem State.makeOrder_resetAsserted (s : State) (j : Job) :
    (s.makeOrder j).resetAsserted = s.resetAsserted := by
  simp only [State.makeOrder]; repeat' split
  all_goals simp

@[simp] theorem State.makeOrder_lp (s : State) (j : Job) :
    (s.makeOrder j).lp = s.lp := by
  simp only [State.makeOrder]; repeat' split
  all_goals simp

@[simp] theorem State.makeOrder_si (s : State) (j : Job) :
    (s.makeOrder j).si = s.si := by
  simp only [State.makeOrder]; repeat' split
  all_goals simp

@[simp] theorem State.makeOrder_lb (s : State) (j : Job) :
    (s.makeOrder j).lb = s.lb := by
  simp only [State.makeOrder]; repeat' split
  all_goals simp

@[simp] theorem State.makeOrder_ts (s : State) (j : Job) :
    (s.makeOrder j).ts = s.ts := by
  simp only [State.makeOrder]; repeat' split
  all_goals simp

@[simp] theorem State.makeOrder_ss (s : State) (j : Job) :
    (s.makeOrder j).ss = s.ss := by
  simp only [State.makeOrder]; repeat' split
  all_goals simp

@[simp] theorem State.makeOrder_pc (s : State) (j : Job) :
    (s.makeOrder j).pc = s.pc := by
  simp only [State.makeOrder]; repeat' split
  all_goals simp

@[simp] theorem State.makeOrder_tcu (s : State) (j : Job) :
    (s.makeOrder j).tcu = s.tcu := by
  simp only [State.makeOrder]; repeat' split
  all_goals simp

@[simp] theorem State.makeOrder_fu (s : State) (j : Job) :
    (s.makeOrder j).fu = s.fu := by
  simp only [State.makeOrder]; repeat' split
  all_goals simp

@[simp] theorem State.makeOrder_lm (s : State) (j : Job) :
    (s.makeOrder j).lm = s.lm := by
  simp only [State.makeOrder]; repeat' split
  all_goals simp

@[simp] theorem State.makeOrder_lsv (s : State) (j : Job) :
    (s.makeOrder j).lsv = s.lsv := by
  simp only [State.makeOrder]; repeat' split
  all_goals simp

@[simp] theorem State.startExit_pending (s : State) (f : Finish) :
    (s.startExit f).pending = s.pending := by
  simp only [State.startExit]; repeat' split
  all_goals simp

@[simp] theorem State.startExit_time (s : State) (f : Finish) :
    (s.startExit f).time = s.time := by
  simp only [State.startExit]; repeat' split
  all_goals simp

@[simp] theorem State.startExit_encoder (s : State) (f : Finish) :
    (s.startExit f).encoder = s.encoder := by
  simp only [State.startExit]; repeat' split
  all_goals simp

@[simp] theorem State.startExit_travelOwed (s : State) (f : Finish) :
    (s.startExit f).travelOwed = s.travelOwed := by
  simp only [State.startExit]; repeat' split
  all_goals simp

@[simp] theorem State.startExit_free (s : State) (f : Finish) :
    (s.startExit f).free = s.free := by
  simp only [State.startExit]; repeat' split
  all_goals simp

@[simp] theorem State.startExit_inputs (s : State) (f : Finish) :
    (s.startExit f).inputs = s.inputs := by
  simp only [State.startExit]; repeat' split
  all_goals simp

@[simp] theorem State.startExit_resetAsserted (s : State) (f : Finish) :
    (s.startExit f).resetAsserted = s.resetAsserted := by
  simp only [State.startExit]; repeat' split
  all_goals simp

@[simp] theorem State.startExit_lp (s : State) (f : Finish) :
    (s.startExit f).lp = s.lp := by
  simp only [State.startExit]; repeat' split
  all_goals simp

@[simp] theorem State.startExit_lb (s : State) (f : Finish) :
    (s.startExit f).lb = s.lb := by
  simp only [State.startExit]; repeat' split
  all_goals simp

@[simp] theorem State.startExit_ts (s : State) (f : Finish) :
    (s.startExit f).ts = s.ts := by
  simp only [State.startExit]; repeat' split
  all_goals simp

@[simp] theorem State.startExit_ss (s : State) (f : Finish) :
    (s.startExit f).ss = s.ss := by
  simp only [State.startExit]; repeat' split
  all_goals simp

@[simp] theorem State.startExit_pc (s : State) (f : Finish) :
    (s.startExit f).pc = s.pc := by
  simp only [State.startExit]; repeat' split
  all_goals simp

@[simp] theorem State.startExit_tcu (s : State) (f : Finish) :
    (s.startExit f).tcu = s.tcu := by
  simp only [State.startExit]; repeat' split
  all_goals simp

@[simp] theorem State.startExit_lm (s : State) (f : Finish) :
    (s.startExit f).lm = s.lm := by
  simp only [State.startExit]; repeat' split
  all_goals simp

@[simp] theorem State.liftJoined_pending (s : State) :
    (s.liftJoined).pending = s.pending := by
  simp only [State.liftJoined]; repeat' split
  all_goals simp

@[simp] theorem State.liftJoined_time (s : State) :
    (s.liftJoined).time = s.time := by
  simp only [State.liftJoined]; repeat' split
  all_goals simp

@[simp] theorem State.liftJoined_encoder (s : State) :
    (s.liftJoined).encoder = s.encoder := by
  simp only [State.liftJoined]; repeat' split
  all_goals simp

@[simp] theorem State.liftJoined_travelOwed (s : State) :
    (s.liftJoined).travelOwed = s.travelOwed := by
  simp only [State.liftJoined]; repeat' split
  all_goals simp

@[simp] theorem State.liftJoined_free (s : State) :
    (s.liftJoined).free = s.free := by
  simp only [State.liftJoined]; repeat' split
  all_goals simp

@[simp] theorem State.liftJoined_inputs (s : State) :
    (s.liftJoined).inputs = s.inputs := by
  simp only [State.liftJoined]; repeat' split
  all_goals simp

@[simp] theorem State.liftJoined_resetAsserted (s : State) :
    (s.liftJoined).resetAsserted = s.resetAsserted := by
  simp only [State.liftJoined]; repeat' split
  all_goals simp

@[simp] theorem State.liftJoined_si (s : State) :
    (s.liftJoined).si = s.si := by
  simp only [State.liftJoined]; repeat' split
  all_goals simp

@[simp] theorem State.liftJoined_ts (s : State) :
    (s.liftJoined).ts = s.ts := by
  simp only [State.liftJoined]; repeat' split
  all_goals simp

@[simp] theorem State.liftJoined_ss (s : State) :
    (s.liftJoined).ss = s.ss := by
  simp only [State.liftJoined]; repeat' split
  all_goals simp

@[simp] theorem State.liftJoined_orders (s : State) :
    (s.liftJoined).orders = s.orders := by
  simp only [State.liftJoined]; repeat' split
  all_goals simp

@[simp] theorem State.liftJoined_pc (s : State) :
    (s.liftJoined).pc = s.pc := by
  simp only [State.liftJoined]; repeat' split
  all_goals simp

@[simp] theorem State.liftJoined_tcu (s : State) :
    (s.liftJoined).tcu = s.tcu := by
  simp only [State.liftJoined]; repeat' split
  all_goals simp

@[simp] theorem State.liftJoined_fu (s : State) :
    (s.liftJoined).fu = s.fu := by
  simp only [State.liftJoined]; repeat' split
  all_goals simp

@[simp] theorem State.liftJoined_lsv (s : State) :
    (s.liftJoined).lsv = s.lsv := by
  simp only [State.liftJoined]; repeat' split
  all_goals simp

@[simp] theorem State.liftLeft_pending (s : State) :
    (s.liftLeft).pending = s.pending := by
  simp only [State.liftLeft]; repeat' split
  all_goals simp

@[simp] theorem State.liftLeft_time (s : State) :
    (s.liftLeft).time = s.time := by
  simp only [State.liftLeft]; repeat' split
  all_goals simp

@[simp] theorem State.liftLeft_encoder (s : State) :
    (s.liftLeft).encoder = s.encoder := by
  simp only [State.liftLeft]; repeat' split
  all_goals simp

@[simp] theorem State.liftLeft_travelOwed (s : State) :
    (s.liftLeft).travelOwed = s.travelOwed := by
  simp only [State.liftLeft]; repeat' split
  all_goals simp

@[simp] theorem State.liftLeft_free (s : State) :
    (s.liftLeft).free = s.free := by
  simp only [State.liftLeft]; repeat' split
  all_goals simp

@[simp] theorem State.liftLeft_inputs (s : State) :
    (s.liftLeft).inputs = s.inputs := by
  simp only [State.liftLeft]; repeat' split
  all_goals simp

@[simp] theorem State.liftLeft_resetAsserted (s : State) :
    (s.liftLeft).resetAsserted = s.resetAsserted := by
  simp only [State.liftLeft]; repeat' split
  all_goals simp

@[simp] theorem State.liftLeft_si (s : State) :
    (s.liftLeft).si = s.si := by
  simp only [State.liftLeft]; repeat' split
  all_goals simp

@[simp] theorem State.liftLeft_ts (s : State) :
    (s.liftLeft).ts = s.ts := by
  simp only [State.liftLeft]; repeat' split
  all_goals simp

@[simp] theorem State.liftLeft_ss (s : State) :
    (s.liftLeft).ss = s.ss := by
  simp only [State.liftLeft]; repeat' split
  all_goals simp

@[simp] theorem State.liftLeft_orders (s : State) :
    (s.liftLeft).orders = s.orders := by
  simp only [State.liftLeft]; repeat' split
  all_goals simp

@[simp] theorem State.liftLeft_pc (s : State) :
    (s.liftLeft).pc = s.pc := by
  simp only [State.liftLeft]; repeat' split
  all_goals simp

@[simp] theorem State.liftLeft_tcu (s : State) :
    (s.liftLeft).tcu = s.tcu := by
  simp only [State.liftLeft]; repeat' split
  all_goals simp

@[simp] theorem State.liftLeft_fu (s : State) :
    (s.liftLeft).fu = s.fu := by
  simp only [State.liftLeft]; repeat' split
  all_goals simp

@[simp] theorem State.liftLeft_lsv (s : State) :
    (s.liftLeft).lsv = s.lsv := by
  simp only [State.liftLeft]; repeat' split
  all_goals simp

@[simp] theorem State.openGate_pending (s : State) :
    (s.openGate).pending = s.pending := by
  simp only [State.openGate]; repeat' split
  all_goals simp

@[simp] theorem State.openGate_time (s : State) :
    (s.openGate).time = s.time := by
  simp only [State.openGate]; repeat' split
  all_goals simp

@[simp] theorem State.openGate_encoder (s : State) :
    (s.openGate).encoder = s.encoder := by
  simp only [State.openGate]; repeat' split
  all_goals simp

@[simp] theorem State.openGate_travelOwed (s : State) :
    (s.openGate).travelOwed = s.travelOwed := by
  simp only [State.openGate]; repeat' split
  all_goals simp

@[simp] theorem State.openGate_free (s : State) :
    (s.openGate).free = s.free := by
  simp only [State.openGate]; repeat' split
  all_goals simp

@[simp] theorem State.openGate_inputs (s : State) :
    (s.openGate).inputs = s.inputs := by
  simp only [State.openGate]; repeat' split
  all_goals simp

@[simp] theorem State.openGate_resetAsserted (s : State) :
    (s.openGate).resetAsserted = s.resetAsserted := by
  simp only [State.openGate]; repeat' split
  all_goals simp

@[simp] theorem State.openGate_lp (s : State) :
    (s.openGate).lp = s.lp := by
  simp only [State.openGate]; repeat' split
  all_goals simp

@[simp] theorem State.openGate_si (s : State) :
    (s.openGate).si = s.si := by
  simp only [State.openGate]; repeat' split
  all_goals simp

@[simp] theorem State.openGate_lb (s : State) :
    (s.openGate).lb = s.lb := by
  simp only [State.openGate]; repeat' split
  all_goals simp

@[simp] theorem State.openGate_ts (s : State) :
    (s.openGate).ts = s.ts := by
  simp only [State.openGate]; repeat' split
  all_goals simp

@[simp] theorem State.openGate_ss (s : State) :
    (s.openGate).ss = s.ss := by
  simp only [State.openGate]; repeat' split
  all_goals simp

@[simp] theorem State.openGate_orders (s : State) :
    (s.openGate).orders = s.orders := by
  simp only [State.openGate]; repeat' split
  all_goals simp

@[simp] theorem State.openGate_pc (s : State) :
    (s.openGate).pc = s.pc := by
  simp only [State.openGate]; repeat' split
  all_goals simp

@[simp] theorem State.openGate_fu (s : State) :
    (s.openGate).fu = s.fu := by
  simp only [State.openGate]; repeat' split
  all_goals simp

@[simp] theorem State.openGate_lm (s : State) :
    (s.openGate).lm = s.lm := by
  simp only [State.openGate]; repeat' split
  all_goals simp

@[simp] theorem State.openGate_lsv (s : State) :
    (s.openGate).lsv = s.lsv := by
  simp only [State.openGate]; repeat' split
  all_goals simp

@[simp] theorem State.syncForced_pending (s : State) :
    (s.syncForced).pending = s.pending := by
  simp only [State.syncForced]; repeat' split
  all_goals simp

@[simp] theorem State.syncForced_time (s : State) :
    (s.syncForced).time = s.time := by
  simp only [State.syncForced]; repeat' split
  all_goals simp

@[simp] theorem State.syncForced_encoder (s : State) :
    (s.syncForced).encoder = s.encoder := by
  simp only [State.syncForced]; repeat' split
  all_goals simp

@[simp] theorem State.syncForced_travelOwed (s : State) :
    (s.syncForced).travelOwed = s.travelOwed := by
  simp only [State.syncForced]; repeat' split
  all_goals simp

@[simp] theorem State.syncForced_free (s : State) :
    (s.syncForced).free = s.free := by
  simp only [State.syncForced]; repeat' split
  all_goals simp

@[simp] theorem State.syncForced_inputs (s : State) :
    (s.syncForced).inputs = s.inputs := by
  simp only [State.syncForced]; repeat' split
  all_goals simp

@[simp] theorem State.syncForced_resetAsserted (s : State) :
    (s.syncForced).resetAsserted = s.resetAsserted := by
  simp only [State.syncForced]; repeat' split
  all_goals simp

@[simp] theorem State.syncForced_si (s : State) :
    (s.syncForced).si = s.si := by
  simp only [State.syncForced]; repeat' split
  all_goals simp

@[simp] theorem State.syncForced_lb (s : State) :
    (s.syncForced).lb = s.lb := by
  simp only [State.syncForced]; repeat' split
  all_goals simp

@[simp] theorem State.syncForced_ts (s : State) :
    (s.syncForced).ts = s.ts := by
  simp only [State.syncForced]; repeat' split
  all_goals simp

@[simp] theorem State.syncForced_ss (s : State) :
    (s.syncForced).ss = s.ss := by
  simp only [State.syncForced]; repeat' split
  all_goals simp

@[simp] theorem State.syncForced_orders (s : State) :
    (s.syncForced).orders = s.orders := by
  simp only [State.syncForced]; repeat' split
  all_goals simp

@[simp] theorem State.syncForced_pc (s : State) :
    (s.syncForced).pc = s.pc := by
  simp only [State.syncForced]; repeat' split
  all_goals simp

@[simp] theorem State.syncForced_tcu (s : State) :
    (s.syncForced).tcu = s.tcu := by
  simp only [State.syncForced]; repeat' split
  all_goals simp

@[simp] theorem State.syncForced_fu (s : State) :
    (s.syncForced).fu = s.fu := by
  simp only [State.syncForced]; repeat' split
  all_goals simp

@[simp] theorem State.syncForced_lsv (s : State) :
    (s.syncForced).lsv = s.lsv := by
  simp only [State.syncForced]; repeat' split
  all_goals simp

@[simp] theorem State.linkError_pending (s : State) :
    (s.linkError).pending = s.pending := by
  simp only [State.linkError]; repeat' split
  all_goals simp

@[simp] theorem State.linkError_time (s : State) :
    (s.linkError).time = s.time := by
  simp only [State.linkError]; repeat' split
  all_goals simp

@[simp] theorem State.linkError_encoder (s : State) :
    (s.linkError).encoder = s.encoder := by
  simp only [State.linkError]; repeat' split
  all_goals simp

@[simp] theorem State.linkError_travelOwed (s : State) :
    (s.linkError).travelOwed = s.travelOwed := by
  simp only [State.linkError]; repeat' split
  all_goals simp

@[simp] theorem State.linkError_free (s : State) :
    (s.linkError).free = s.free := by
  simp only [State.linkError]; repeat' split
  all_goals simp

@[simp] theorem State.linkError_inputs (s : State) :
    (s.linkError).inputs = s.inputs := by
  simp only [State.linkError]; repeat' split
  all_goals simp

@[simp] theorem State.linkError_resetAsserted (s : State) :
    (s.linkError).resetAsserted = s.resetAsserted := by
  simp only [State.linkError]; repeat' split
  all_goals simp

@[simp] theorem State.linkError_si (s : State) :
    (s.linkError).si = s.si := by
  simp only [State.linkError]; repeat' split
  all_goals simp

@[simp] theorem State.linkError_lb (s : State) :
    (s.linkError).lb = s.lb := by
  simp only [State.linkError]; repeat' split
  all_goals simp

@[simp] theorem State.linkError_ts (s : State) :
    (s.linkError).ts = s.ts := by
  simp only [State.linkError]; repeat' split
  all_goals simp

@[simp] theorem State.linkError_ss (s : State) :
    (s.linkError).ss = s.ss := by
  simp only [State.linkError]; repeat' split
  all_goals simp

@[simp] theorem State.linkError_orders (s : State) :
    (s.linkError).orders = s.orders := by
  simp only [State.linkError]; repeat' split
  all_goals simp

@[simp] theorem State.linkError_pc (s : State) :
    (s.linkError).pc = s.pc := by
  simp only [State.linkError]; repeat' split
  all_goals simp

@[simp] theorem State.linkError_tcu (s : State) :
    (s.linkError).tcu = s.tcu := by
  simp only [State.linkError]; repeat' split
  all_goals simp

@[simp] theorem State.linkError_fu (s : State) :
    (s.linkError).fu = s.fu := by
  simp only [State.linkError]; repeat' split
  all_goals simp

@[simp] theorem State.linkError_lsv (s : State) :
    (s.linkError).lsv = s.lsv := by
  simp only [State.linkError]; repeat' split
  all_goals simp

@[simp] theorem State.joinNotice_pending (s : State) (n : Notice) :
    (s.joinNotice n).pending = s.pending := by
  simp only [State.joinNotice]; repeat' split
  all_goals simp

@[simp] theorem State.joinNotice_time (s : State) (n : Notice) :
    (s.joinNotice n).time = s.time := by
  simp only [State.joinNotice]; repeat' split
  all_goals simp

@[simp] theorem State.joinNotice_encoder (s : State) (n : Notice) :
    (s.joinNotice n).encoder = s.encoder := by
  simp only [State.joinNotice]; repeat' split
  all_goals simp

@[simp] theorem State.joinNotice_travelOwed (s : State) (n : Notice) :
    (s.joinNotice n).travelOwed = s.travelOwed := by
  simp only [State.joinNotice]; repeat' split
  all_goals simp

@[simp] theorem State.joinNotice_free (s : State) (n : Notice) :
    (s.joinNotice n).free = s.free := by
  simp only [State.joinNotice]; repeat' split
  all_goals simp

@[simp] theorem State.joinNotice_inputs (s : State) (n : Notice) :
    (s.joinNotice n).inputs = s.inputs := by
  simp only [State.joinNotice]; repeat' split
  all_goals simp

@[simp] theorem State.joinNotice_resetAsserted (s : State) (n : Notice) :
    (s.joinNotice n).resetAsserted = s.resetAsserted := by
  simp only [State.joinNotice]; repeat' split
  all_goals simp

@[simp] theorem State.joinNotice_lb (s : State) (n : Notice) :
    (s.joinNotice n).lb = s.lb := by
  simp only [State.joinNotice]; repeat' split
  all_goals simp

@[simp] theorem State.joinNotice_ts (s : State) (n : Notice) :
    (s.joinNotice n).ts = s.ts := by
  simp only [State.joinNotice]; repeat' split
  all_goals simp

@[simp] theorem State.joinNotice_ss (s : State) (n : Notice) :
    (s.joinNotice n).ss = s.ss := by
  simp only [State.joinNotice]; repeat' split
  all_goals simp

@[simp] theorem State.joinNotice_orders (s : State) (n : Notice) :
    (s.joinNotice n).orders = s.orders := by
  simp only [State.joinNotice]; repeat' split
  all_goals simp

@[simp] theorem State.joinNotice_pc (s : State) (n : Notice) :
    (s.joinNotice n).pc = s.pc := by
  simp only [State.joinNotice]; repeat' split
  all_goals simp

@[simp] theorem State.joinNotice_tcu (s : State) (n : Notice) :
    (s.joinNotice n).tcu = s.tcu := by
  simp only [State.joinNotice]; repeat' split
  all_goals simp

@[simp] theorem State.joinNotice_fu (s : State) (n : Notice) :
    (s.joinNotice n).fu = s.fu := by
  simp only [State.joinNotice]; repeat' split
  all_goals simp

@[simp] theorem State.joinNotice_lsv (s : State) (n : Notice) :
    (s.joinNotice n).lsv = s.lsv := by
  simp only [State.joinNotice]; repeat' split
  all_goals simp

@[simp] theorem State.leaveNotice_pending (s : State) (rest : List Notice) :
    (s.leaveNotice rest).pending = s.pending := by
  simp only [State.leaveNotice]; repeat' split
  all_goals simp

@[simp] theorem State.leaveNotice_time (s : State) (rest : List Notice) :
    (s.leaveNotice rest).time = s.time := by
  simp only [State.leaveNotice]; repeat' split
  all_goals simp

@[simp] theorem State.leaveNotice_encoder (s : State) (rest : List Notice) :
    (s.leaveNotice rest).encoder = s.encoder := by
  simp only [State.leaveNotice]; repeat' split
  all_goals simp

@[simp] theorem State.leaveNotice_travelOwed (s : State) (rest : List Notice) :
    (s.leaveNotice rest).travelOwed = s.travelOwed := by
  simp only [State.leaveNotice]; repeat' split
  all_goals simp

@[simp] theorem State.leaveNotice_free (s : State) (rest : List Notice) :
    (s.leaveNotice rest).free = s.free := by
  simp only [State.leaveNotice]; repeat' split
  all_goals simp

@[simp] theorem State.leaveNotice_inputs (s : State) (rest : List Notice) :
    (s.leaveNotice rest).inputs = s.inputs := by
  simp only [State.leaveNotice]; repeat' split
  all_goals simp

@[simp] theorem State.leaveNotice_resetAsserted (s : State) (rest : List Notice) :
    (s.leaveNotice rest).resetAsserted = s.resetAsserted := by
  simp only [State.leaveNotice]; repeat' split
  all_goals simp

@[simp] theorem State.leaveNotice_lb (s : State) (rest : List Notice) :
    (s.leaveNotice rest).lb = s.lb := by
  simp only [State.leaveNotice]; repeat' split
  all_goals simp

@[simp] theorem State.leaveNotice_ts (s : State) (rest : List Notice) :
    (s.leaveNotice rest).ts = s.ts := by
  simp only [State.leaveNotice]; repeat' split
  all_goals simp

@[simp] theorem State.leaveNotice_ss (s : State) (rest : List Notice) :
    (s.leaveNotice rest).ss = s.ss := by
  simp only [State.leaveNotice]; repeat' split
  all_goals simp

@[simp] theorem State.leaveNotice_orders (s : State) (rest : List Notice) :
    (s.leaveNotice rest).orders = s.orders := by
  simp only [State.leaveNotice]; repeat' split
  all_goals simp

@[simp] theorem State.leaveNotice_pc (s : State) (rest : List Notice) :
    (s.leaveNotice rest).pc = s.pc := by
  simp only [State.leaveNotice]; repeat' split
  all_goals simp

@[simp] theorem State.leaveNotice_tcu (s : State) (rest : List Notice) :
    (s.leaveNotice rest).tcu = s.tcu := by
  simp only [State.leaveNotice]; repeat' split
  all_goals simp

@[simp] theorem State.leaveNotice_fu (s : State) (rest : List Notice) :
    (s.leaveNotice rest).fu = s.fu := by
  simp only [State.leaveNotice]; repeat' split
  all_goals simp

@[simp] theorem State.leaveNotice_lsv (s : State) (rest : List Notice) :
    (s.leaveNotice rest).lsv = s.lsv := by
  simp only [State.leaveNotice]; repeat' split
  all_goals simp

@[simp] theorem State.openBook_pending (s : State) (i : Slot) (b : Book) :
    (s.openBook i b).pending = s.pending := by
  simp only [State.openBook]; repeat' split
  all_goals simp

@[simp] theorem State.openBook_time (s : State) (i : Slot) (b : Book) :
    (s.openBook i b).time = s.time := by
  simp only [State.openBook]; repeat' split
  all_goals simp

@[simp] theorem State.openBook_encoder (s : State) (i : Slot) (b : Book) :
    (s.openBook i b).encoder = s.encoder := by
  simp only [State.openBook]; repeat' split
  all_goals simp

@[simp] theorem State.openBook_travelOwed (s : State) (i : Slot) (b : Book) :
    (s.openBook i b).travelOwed = s.travelOwed := by
  simp only [State.openBook]; repeat' split
  all_goals simp

@[simp] theorem State.openBook_free (s : State) (i : Slot) (b : Book) :
    (s.openBook i b).free = s.free := by
  simp only [State.openBook]; repeat' split
  all_goals simp

@[simp] theorem State.openBook_inputs (s : State) (i : Slot) (b : Book) :
    (s.openBook i b).inputs = s.inputs := by
  simp only [State.openBook]; repeat' split
  all_goals simp

@[simp] theorem State.openBook_resetAsserted (s : State) (i : Slot) (b : Book) :
    (s.openBook i b).resetAsserted = s.resetAsserted := by
  simp only [State.openBook]; repeat' split
  all_goals simp

@[simp] theorem State.openBook_lp (s : State) (i : Slot) (b : Book) :
    (s.openBook i b).lp = s.lp := by
  simp only [State.openBook]; repeat' split
  all_goals simp

@[simp] theorem State.openBook_lb (s : State) (i : Slot) (b : Book) :
    (s.openBook i b).lb = s.lb := by
  simp only [State.openBook]; repeat' split
  all_goals simp

@[simp] theorem State.openBook_ss (s : State) (i : Slot) (b : Book) :
    (s.openBook i b).ss = s.ss := by
  simp only [State.openBook]; repeat' split
  all_goals simp

@[simp] theorem State.openBook_orders (s : State) (i : Slot) (b : Book) :
    (s.openBook i b).orders = s.orders := by
  simp only [State.openBook]; repeat' split
  all_goals simp

@[simp] theorem State.openBook_pc (s : State) (i : Slot) (b : Book) :
    (s.openBook i b).pc = s.pc := by
  simp only [State.openBook]; repeat' split
  all_goals simp

@[simp] theorem State.openBook_tcu (s : State) (i : Slot) (b : Book) :
    (s.openBook i b).tcu = s.tcu := by
  simp only [State.openBook]; repeat' split
  all_goals simp

@[simp] theorem State.openBook_fu (s : State) (i : Slot) (b : Book) :
    (s.openBook i b).fu = s.fu := by
  simp only [State.openBook]; repeat' split
  all_goals simp

@[simp] theorem State.openBook_lm (s : State) (i : Slot) (b : Book) :
    (s.openBook i b).lm = s.lm := by
  simp only [State.openBook]; repeat' split
  all_goals simp

@[simp] theorem State.changeMode_pending (s : State) (m : LineMode) :
    (s.changeMode m).pending = s.pending := by
  simp only [State.changeMode]; repeat' split
  all_goals simp

@[simp] theorem State.changeMode_time (s : State) (m : LineMode) :
    (s.changeMode m).time = s.time := by
  simp only [State.changeMode]; repeat' split
  all_goals simp

@[simp] theorem State.changeMode_encoder (s : State) (m : LineMode) :
    (s.changeMode m).encoder = s.encoder := by
  simp only [State.changeMode]; repeat' split
  all_goals simp

@[simp] theorem State.changeMode_travelOwed (s : State) (m : LineMode) :
    (s.changeMode m).travelOwed = s.travelOwed := by
  simp only [State.changeMode]; repeat' split
  all_goals simp

@[simp] theorem State.changeMode_free (s : State) (m : LineMode) :
    (s.changeMode m).free = s.free := by
  simp only [State.changeMode]; repeat' split
  all_goals simp

@[simp] theorem State.changeMode_inputs (s : State) (m : LineMode) :
    (s.changeMode m).inputs = s.inputs := by
  simp only [State.changeMode]; repeat' split
  all_goals simp

@[simp] theorem State.changeMode_resetAsserted (s : State) (m : LineMode) :
    (s.changeMode m).resetAsserted = s.resetAsserted := by
  simp only [State.changeMode]; repeat' split
  all_goals simp

@[simp] theorem State.changeMode_lp (s : State) (m : LineMode) :
    (s.changeMode m).lp = s.lp := by
  simp only [State.changeMode]; repeat' split
  all_goals simp

@[simp] theorem State.changeMode_si (s : State) (m : LineMode) :
    (s.changeMode m).si = s.si := by
  simp only [State.changeMode]; repeat' split
  all_goals simp

@[simp] theorem State.changeMode_lb (s : State) (m : LineMode) :
    (s.changeMode m).lb = s.lb := by
  simp only [State.changeMode]; repeat' split
  all_goals simp

@[simp] theorem State.changeMode_ts (s : State) (m : LineMode) :
    (s.changeMode m).ts = s.ts := by
  simp only [State.changeMode]; repeat' split
  all_goals simp

@[simp] theorem State.changeMode_ss (s : State) (m : LineMode) :
    (s.changeMode m).ss = s.ss := by
  simp only [State.changeMode]; repeat' split
  all_goals simp

@[simp] theorem State.changeMode_orders (s : State) (m : LineMode) :
    (s.changeMode m).orders = s.orders := by
  simp only [State.changeMode]; repeat' split
  all_goals simp

@[simp] theorem State.changeMode_fu (s : State) (m : LineMode) :
    (s.changeMode m).fu = s.fu := by
  simp only [State.changeMode]; repeat' split
  all_goals simp

@[simp] theorem State.changeMode_lm (s : State) (m : LineMode) :
    (s.changeMode m).lm = s.lm := by
  simp only [State.changeMode]; repeat' split
  all_goals simp

@[simp] theorem State.freeze_pending (s : State) (y : FreezeReason) :
    (s.freeze y).pending = s.pending := by
  simp only [State.freeze]; repeat' split
  all_goals simp

@[simp] theorem State.freeze_time (s : State) (y : FreezeReason) :
    (s.freeze y).time = s.time := by
  simp only [State.freeze]; repeat' split
  all_goals simp

@[simp] theorem State.freeze_encoder (s : State) (y : FreezeReason) :
    (s.freeze y).encoder = s.encoder := by
  simp only [State.freeze]; repeat' split
  all_goals simp

@[simp] theorem State.freeze_travelOwed (s : State) (y : FreezeReason) :
    (s.freeze y).travelOwed = s.travelOwed := by
  simp only [State.freeze]; repeat' split
  all_goals simp

@[simp] theorem State.freeze_free (s : State) (y : FreezeReason) :
    (s.freeze y).free = s.free := by
  simp only [State.freeze]; repeat' split
  all_goals simp

@[simp] theorem State.freeze_inputs (s : State) (y : FreezeReason) :
    (s.freeze y).inputs = s.inputs := by
  simp only [State.freeze]; repeat' split
  all_goals simp

@[simp] theorem State.freeze_resetAsserted (s : State) (y : FreezeReason) :
    (s.freeze y).resetAsserted = s.resetAsserted := by
  simp only [State.freeze]; repeat' split
  all_goals simp

@[simp] theorem State.freeze_lp (s : State) (y : FreezeReason) :
    (s.freeze y).lp = s.lp := by
  simp only [State.freeze]; repeat' split
  all_goals simp

@[simp] theorem State.freeze_si (s : State) (y : FreezeReason) :
    (s.freeze y).si = s.si := by
  simp only [State.freeze]; repeat' split
  all_goals simp

@[simp] theorem State.freeze_lb (s : State) (y : FreezeReason) :
    (s.freeze y).lb = s.lb := by
  simp only [State.freeze]; repeat' split
  all_goals simp

@[simp] theorem State.freeze_ts (s : State) (y : FreezeReason) :
    (s.freeze y).ts = s.ts := by
  simp only [State.freeze]; repeat' split
  all_goals simp

@[simp] theorem State.freeze_ss (s : State) (y : FreezeReason) :
    (s.freeze y).ss = s.ss := by
  simp only [State.freeze]; repeat' split
  all_goals simp

@[simp] theorem State.freeze_orders (s : State) (y : FreezeReason) :
    (s.freeze y).orders = s.orders := by
  simp only [State.freeze]; repeat' split
  all_goals simp

@[simp] theorem State.freeze_pc (s : State) (y : FreezeReason) :
    (s.freeze y).pc = s.pc := by
  simp only [State.freeze]; repeat' split
  all_goals simp

@[simp] theorem State.freeze_tcu (s : State) (y : FreezeReason) :
    (s.freeze y).tcu = s.tcu := by
  simp only [State.freeze]; repeat' split
  all_goals simp

@[simp] theorem State.freeze_fu (s : State) (y : FreezeReason) :
    (s.freeze y).fu = s.fu := by
  simp only [State.freeze]; repeat' split
  all_goals simp

@[simp] theorem State.freeze_lm (s : State) (y : FreezeReason) :
    (s.freeze y).lm = s.lm := by
  simp only [State.freeze]; repeat' split
  all_goals simp

@[simp] theorem State.reportAfterReset_pending (s : State) :
    (s.reportAfterReset).pending = s.pending := by
  simp only [State.reportAfterReset]; repeat' split
  all_goals simp

@[simp] theorem State.reportAfterReset_time (s : State) :
    (s.reportAfterReset).time = s.time := by
  simp only [State.reportAfterReset]; repeat' split
  all_goals simp

@[simp] theorem State.reportAfterReset_encoder (s : State) :
    (s.reportAfterReset).encoder = s.encoder := by
  simp only [State.reportAfterReset]; repeat' split
  all_goals simp

@[simp] theorem State.reportAfterReset_travelOwed (s : State) :
    (s.reportAfterReset).travelOwed = s.travelOwed := by
  simp only [State.reportAfterReset]; repeat' split
  all_goals simp

@[simp] theorem State.reportAfterReset_free (s : State) :
    (s.reportAfterReset).free = s.free := by
  simp only [State.reportAfterReset]; repeat' split
  all_goals simp

@[simp] theorem State.reportAfterReset_inputs (s : State) :
    (s.reportAfterReset).inputs = s.inputs := by
  simp only [State.reportAfterReset]; repeat' split
  all_goals simp

@[simp] theorem State.reportAfterReset_resetAsserted (s : State) :
    (s.reportAfterReset).resetAsserted = s.resetAsserted := by
  simp only [State.reportAfterReset]; repeat' split
  all_goals simp

@[simp] theorem State.reportAfterReset_si (s : State) :
    (s.reportAfterReset).si = s.si := by
  simp only [State.reportAfterReset]; repeat' split
  all_goals simp

@[simp] theorem State.reportAfterReset_lb (s : State) :
    (s.reportAfterReset).lb = s.lb := by
  simp only [State.reportAfterReset]; repeat' split
  all_goals simp

@[simp] theorem State.reportAfterReset_ts (s : State) :
    (s.reportAfterReset).ts = s.ts := by
  simp only [State.reportAfterReset]; repeat' split
  all_goals simp

@[simp] theorem State.reportAfterReset_ss (s : State) :
    (s.reportAfterReset).ss = s.ss := by
  simp only [State.reportAfterReset]; repeat' split
  all_goals simp

@[simp] theorem State.reportAfterReset_orders (s : State) :
    (s.reportAfterReset).orders = s.orders := by
  simp only [State.reportAfterReset]; repeat' split
  all_goals simp

@[simp] theorem State.reportAfterReset_pc (s : State) :
    (s.reportAfterReset).pc = s.pc := by
  simp only [State.reportAfterReset]; repeat' split
  all_goals simp

@[simp] theorem State.reportAfterReset_tcu (s : State) :
    (s.reportAfterReset).tcu = s.tcu := by
  simp only [State.reportAfterReset]; repeat' split
  all_goals simp

@[simp] theorem State.reportAfterReset_fu (s : State) :
    (s.reportAfterReset).fu = s.fu := by
  simp only [State.reportAfterReset]; repeat' split
  all_goals simp

@[simp] theorem State.reportAfterReset_lsv (s : State) :
    (s.reportAfterReset).lsv = s.lsv := by
  simp only [State.reportAfterReset]; repeat' split
  all_goals simp

@[simp] theorem State.setReceiver_pending (s : State) (r : Receiver) :
    (s.setReceiver r).pending = s.pending := by
  simp only [State.setReceiver]; repeat' split
  all_goals simp

@[simp] theorem State.setReceiver_time (s : State) (r : Receiver) :
    (s.setReceiver r).time = s.time := by
  simp only [State.setReceiver]; repeat' split
  all_goals simp

@[simp] theorem State.setReceiver_encoder (s : State) (r : Receiver) :
    (s.setReceiver r).encoder = s.encoder := by
  simp only [State.setReceiver]; repeat' split
  all_goals simp

@[simp] theorem State.setReceiver_travelOwed (s : State) (r : Receiver) :
    (s.setReceiver r).travelOwed = s.travelOwed := by
  simp only [State.setReceiver]; repeat' split
  all_goals simp

@[simp] theorem State.setReceiver_free (s : State) (r : Receiver) :
    (s.setReceiver r).free = s.free := by
  simp only [State.setReceiver]; repeat' split
  all_goals simp

@[simp] theorem State.setReceiver_inputs (s : State) (r : Receiver) :
    (s.setReceiver r).inputs = s.inputs := by
  simp only [State.setReceiver]; repeat' split
  all_goals simp

@[simp] theorem State.setReceiver_resetAsserted (s : State) (r : Receiver) :
    (s.setReceiver r).resetAsserted = s.resetAsserted := by
  simp only [State.setReceiver]; repeat' split
  all_goals simp

@[simp] theorem State.setReceiver_si (s : State) (r : Receiver) :
    (s.setReceiver r).si = s.si := by
  simp only [State.setReceiver]; repeat' split
  all_goals simp

@[simp] theorem State.setReceiver_lb (s : State) (r : Receiver) :
    (s.setReceiver r).lb = s.lb := by
  simp only [State.setReceiver]; repeat' split
  all_goals simp

@[simp] theorem State.setReceiver_ts (s : State) (r : Receiver) :
    (s.setReceiver r).ts = s.ts := by
  simp only [State.setReceiver]; repeat' split
  all_goals simp

@[simp] theorem State.setReceiver_ss (s : State) (r : Receiver) :
    (s.setReceiver r).ss = s.ss := by
  simp only [State.setReceiver]; repeat' split
  all_goals simp

@[simp] theorem State.setReceiver_orders (s : State) (r : Receiver) :
    (s.setReceiver r).orders = s.orders := by
  simp only [State.setReceiver]; repeat' split
  all_goals simp

@[simp] theorem State.setReceiver_pc (s : State) (r : Receiver) :
    (s.setReceiver r).pc = s.pc := by
  simp only [State.setReceiver]; repeat' split
  all_goals simp

@[simp] theorem State.setReceiver_tcu (s : State) (r : Receiver) :
    (s.setReceiver r).tcu = s.tcu := by
  simp only [State.setReceiver]; repeat' split
  all_goals simp

@[simp] theorem State.setReceiver_fu (s : State) (r : Receiver) :
    (s.setReceiver r).fu = s.fu := by
  simp only [State.setReceiver]; repeat' split
  all_goals simp

@[simp] theorem State.setReceiver_lm (s : State) (r : Receiver) :
    (s.setReceiver r).lm = s.lm := by
  simp only [State.setReceiver]; repeat' split
  all_goals simp

@[simp] theorem State.setReceiver_lsv (s : State) (r : Receiver) :
    (s.setReceiver r).lsv = s.lsv := by
  simp only [State.setReceiver]; repeat' split
  all_goals simp

@[simp] theorem State.addHold_pending (s : State) (x : HoldSource) :
    (s.addHold x).pending = s.pending := by
  simp only [State.addHold]; repeat' split
  all_goals simp

@[simp] theorem State.addHold_time (s : State) (x : HoldSource) :
    (s.addHold x).time = s.time := by
  simp only [State.addHold]; repeat' split
  all_goals simp

@[simp] theorem State.addHold_encoder (s : State) (x : HoldSource) :
    (s.addHold x).encoder = s.encoder := by
  simp only [State.addHold]; repeat' split
  all_goals simp

@[simp] theorem State.addHold_travelOwed (s : State) (x : HoldSource) :
    (s.addHold x).travelOwed = s.travelOwed := by
  simp only [State.addHold]; repeat' split
  all_goals simp

@[simp] theorem State.addHold_free (s : State) (x : HoldSource) :
    (s.addHold x).free = s.free := by
  simp only [State.addHold]; repeat' split
  all_goals simp

@[simp] theorem State.addHold_inputs (s : State) (x : HoldSource) :
    (s.addHold x).inputs = s.inputs := by
  simp only [State.addHold]; repeat' split
  all_goals simp

@[simp] theorem State.addHold_resetAsserted (s : State) (x : HoldSource) :
    (s.addHold x).resetAsserted = s.resetAsserted := by
  simp only [State.addHold]; repeat' split
  all_goals simp

@[simp] theorem State.addHold_si (s : State) (x : HoldSource) :
    (s.addHold x).si = s.si := by
  simp only [State.addHold]; repeat' split
  all_goals simp

@[simp] theorem State.addHold_lb (s : State) (x : HoldSource) :
    (s.addHold x).lb = s.lb := by
  simp only [State.addHold]; repeat' split
  all_goals simp

@[simp] theorem State.addHold_ts (s : State) (x : HoldSource) :
    (s.addHold x).ts = s.ts := by
  simp only [State.addHold]; repeat' split
  all_goals simp

@[simp] theorem State.addHold_ss (s : State) (x : HoldSource) :
    (s.addHold x).ss = s.ss := by
  simp only [State.addHold]; repeat' split
  all_goals simp

@[simp] theorem State.addHold_orders (s : State) (x : HoldSource) :
    (s.addHold x).orders = s.orders := by
  simp only [State.addHold]; repeat' split
  all_goals simp

@[simp] theorem State.addHold_pc (s : State) (x : HoldSource) :
    (s.addHold x).pc = s.pc := by
  simp only [State.addHold]; repeat' split
  all_goals simp

@[simp] theorem State.addHold_tcu (s : State) (x : HoldSource) :
    (s.addHold x).tcu = s.tcu := by
  simp only [State.addHold]; repeat' split
  all_goals simp

@[simp] theorem State.addHold_fu (s : State) (x : HoldSource) :
    (s.addHold x).fu = s.fu := by
  simp only [State.addHold]; repeat' split
  all_goals simp

@[simp] theorem State.releaseIfFree_pending (s : State) :
    (s.releaseIfFree).pending = s.pending := by
  simp only [State.releaseIfFree]; repeat' split
  all_goals simp

@[simp] theorem State.releaseIfFree_time (s : State) :
    (s.releaseIfFree).time = s.time := by
  simp only [State.releaseIfFree]; repeat' split
  all_goals simp

@[simp] theorem State.releaseIfFree_encoder (s : State) :
    (s.releaseIfFree).encoder = s.encoder := by
  simp only [State.releaseIfFree]; repeat' split
  all_goals simp

@[simp] theorem State.releaseIfFree_travelOwed (s : State) :
    (s.releaseIfFree).travelOwed = s.travelOwed := by
  simp only [State.releaseIfFree]; repeat' split
  all_goals simp

@[simp] theorem State.releaseIfFree_free (s : State) :
    (s.releaseIfFree).free = s.free := by
  simp only [State.releaseIfFree]; repeat' split
  all_goals simp

@[simp] theorem State.releaseIfFree_inputs (s : State) :
    (s.releaseIfFree).inputs = s.inputs := by
  simp only [State.releaseIfFree]; repeat' split
  all_goals simp

@[simp] theorem State.releaseIfFree_resetAsserted (s : State) :
    (s.releaseIfFree).resetAsserted = s.resetAsserted := by
  simp only [State.releaseIfFree]; repeat' split
  all_goals simp

@[simp] theorem State.releaseIfFree_si (s : State) :
    (s.releaseIfFree).si = s.si := by
  simp only [State.releaseIfFree]; repeat' split
  all_goals simp

@[simp] theorem State.releaseIfFree_lb (s : State) :
    (s.releaseIfFree).lb = s.lb := by
  simp only [State.releaseIfFree]; repeat' split
  all_goals simp

@[simp] theorem State.releaseIfFree_ts (s : State) :
    (s.releaseIfFree).ts = s.ts := by
  simp only [State.releaseIfFree]; repeat' split
  all_goals simp

@[simp] theorem State.releaseIfFree_ss (s : State) :
    (s.releaseIfFree).ss = s.ss := by
  simp only [State.releaseIfFree]; repeat' split
  all_goals simp

@[simp] theorem State.releaseIfFree_orders (s : State) :
    (s.releaseIfFree).orders = s.orders := by
  simp only [State.releaseIfFree]; repeat' split
  all_goals simp

@[simp] theorem State.releaseIfFree_pc (s : State) :
    (s.releaseIfFree).pc = s.pc := by
  simp only [State.releaseIfFree]; repeat' split
  all_goals simp

@[simp] theorem State.releaseIfFree_tcu (s : State) :
    (s.releaseIfFree).tcu = s.tcu := by
  simp only [State.releaseIfFree]; repeat' split
  all_goals simp

@[simp] theorem State.releaseIfFree_fu (s : State) :
    (s.releaseIfFree).fu = s.fu := by
  simp only [State.releaseIfFree]; repeat' split
  all_goals simp

@[simp] theorem State.dropHold_pending (s : State) (x : HoldSource) :
    (s.dropHold x).pending = s.pending := by
  simp only [State.dropHold]; repeat' split
  all_goals simp

@[simp] theorem State.dropHold_time (s : State) (x : HoldSource) :
    (s.dropHold x).time = s.time := by
  simp only [State.dropHold]; repeat' split
  all_goals simp

@[simp] theorem State.dropHold_encoder (s : State) (x : HoldSource) :
    (s.dropHold x).encoder = s.encoder := by
  simp only [State.dropHold]; repeat' split
  all_goals simp

@[simp] theorem State.dropHold_travelOwed (s : State) (x : HoldSource) :
    (s.dropHold x).travelOwed = s.travelOwed := by
  simp only [State.dropHold]; repeat' split
  all_goals simp

@[simp] theorem State.dropHold_free (s : State) (x : HoldSource) :
    (s.dropHold x).free = s.free := by
  simp only [State.dropHold]; repeat' split
  all_goals simp

@[simp] theorem State.dropHold_inputs (s : State) (x : HoldSource) :
    (s.dropHold x).inputs = s.inputs := by
  simp only [State.dropHold]; repeat' split
  all_goals simp

@[simp] theorem State.dropHold_resetAsserted (s : State) (x : HoldSource) :
    (s.dropHold x).resetAsserted = s.resetAsserted := by
  simp only [State.dropHold]; repeat' split
  all_goals simp

@[simp] theorem State.dropHold_si (s : State) (x : HoldSource) :
    (s.dropHold x).si = s.si := by
  simp only [State.dropHold]; repeat' split
  all_goals simp

@[simp] theorem State.dropHold_lb (s : State) (x : HoldSource) :
    (s.dropHold x).lb = s.lb := by
  simp only [State.dropHold]; repeat' split
  all_goals simp

@[simp] theorem State.dropHold_ts (s : State) (x : HoldSource) :
    (s.dropHold x).ts = s.ts := by
  simp only [State.dropHold]; repeat' split
  all_goals simp

@[simp] theorem State.dropHold_ss (s : State) (x : HoldSource) :
    (s.dropHold x).ss = s.ss := by
  simp only [State.dropHold]; repeat' split
  all_goals simp

@[simp] theorem State.dropHold_orders (s : State) (x : HoldSource) :
    (s.dropHold x).orders = s.orders := by
  simp only [State.dropHold]; repeat' split
  all_goals simp

@[simp] theorem State.dropHold_pc (s : State) (x : HoldSource) :
    (s.dropHold x).pc = s.pc := by
  simp only [State.dropHold]; repeat' split
  all_goals simp

@[simp] theorem State.dropHold_tcu (s : State) (x : HoldSource) :
    (s.dropHold x).tcu = s.tcu := by
  simp only [State.dropHold]; repeat' split
  all_goals simp

@[simp] theorem State.dropHold_fu (s : State) (x : HoldSource) :
    (s.dropHold x).fu = s.fu := by
  simp only [State.dropHold]; repeat' split
  all_goals simp

@[simp] theorem State.presentHold_pending (s : State) (x : HoldSource) (on : Bool) :
    (s.presentHold x on).pending = s.pending := by
  simp only [State.presentHold]; repeat' split
  all_goals simp

@[simp] theorem State.presentHold_time (s : State) (x : HoldSource) (on : Bool) :
    (s.presentHold x on).time = s.time := by
  simp only [State.presentHold]; repeat' split
  all_goals simp

@[simp] theorem State.presentHold_encoder (s : State) (x : HoldSource) (on : Bool) :
    (s.presentHold x on).encoder = s.encoder := by
  simp only [State.presentHold]; repeat' split
  all_goals simp

@[simp] theorem State.presentHold_travelOwed (s : State) (x : HoldSource) (on : Bool) :
    (s.presentHold x on).travelOwed = s.travelOwed := by
  simp only [State.presentHold]; repeat' split
  all_goals simp

@[simp] theorem State.presentHold_free (s : State) (x : HoldSource) (on : Bool) :
    (s.presentHold x on).free = s.free := by
  simp only [State.presentHold]; repeat' split
  all_goals simp

@[simp] theorem State.presentHold_inputs (s : State) (x : HoldSource) (on : Bool) :
    (s.presentHold x on).inputs = s.inputs := by
  simp only [State.presentHold]; repeat' split
  all_goals simp

@[simp] theorem State.presentHold_resetAsserted (s : State) (x : HoldSource) (on : Bool) :
    (s.presentHold x on).resetAsserted = s.resetAsserted := by
  simp only [State.presentHold]; repeat' split
  all_goals simp

@[simp] theorem State.presentHold_si (s : State) (x : HoldSource) (on : Bool) :
    (s.presentHold x on).si = s.si := by
  simp only [State.presentHold]; repeat' split
  all_goals simp

@[simp] theorem State.presentHold_lb (s : State) (x : HoldSource) (on : Bool) :
    (s.presentHold x on).lb = s.lb := by
  simp only [State.presentHold]; repeat' split
  all_goals simp

@[simp] theorem State.presentHold_ts (s : State) (x : HoldSource) (on : Bool) :
    (s.presentHold x on).ts = s.ts := by
  simp only [State.presentHold]; repeat' split
  all_goals simp

@[simp] theorem State.presentHold_ss (s : State) (x : HoldSource) (on : Bool) :
    (s.presentHold x on).ss = s.ss := by
  simp only [State.presentHold]; repeat' split
  all_goals simp

@[simp] theorem State.presentHold_orders (s : State) (x : HoldSource) (on : Bool) :
    (s.presentHold x on).orders = s.orders := by
  simp only [State.presentHold]; repeat' split
  all_goals simp

@[simp] theorem State.presentHold_pc (s : State) (x : HoldSource) (on : Bool) :
    (s.presentHold x on).pc = s.pc := by
  simp only [State.presentHold]; repeat' split
  all_goals simp

@[simp] theorem State.presentHold_tcu (s : State) (x : HoldSource) (on : Bool) :
    (s.presentHold x on).tcu = s.tcu := by
  simp only [State.presentHold]; repeat' split
  all_goals simp

@[simp] theorem State.presentHold_fu (s : State) (x : HoldSource) (on : Bool) :
    (s.presentHold x on).fu = s.fu := by
  simp only [State.presentHold]; repeat' split
  all_goals simp

@[simp] theorem State.follow_pending (s : State) (c : Condition) (x : HoldSource) (on : Bool) :
    (s.follow c x on).pending = s.pending := by
  simp only [State.follow]; repeat' split
  all_goals simp

@[simp] theorem State.follow_time (s : State) (c : Condition) (x : HoldSource) (on : Bool) :
    (s.follow c x on).time = s.time := by
  simp only [State.follow]; repeat' split
  all_goals simp

@[simp] theorem State.follow_encoder (s : State) (c : Condition) (x : HoldSource) (on : Bool) :
    (s.follow c x on).encoder = s.encoder := by
  simp only [State.follow]; repeat' split
  all_goals simp

@[simp] theorem State.follow_travelOwed (s : State) (c : Condition) (x : HoldSource) (on : Bool) :
    (s.follow c x on).travelOwed = s.travelOwed := by
  simp only [State.follow]; repeat' split
  all_goals simp

@[simp] theorem State.follow_free (s : State) (c : Condition) (x : HoldSource) (on : Bool) :
    (s.follow c x on).free = s.free := by
  simp only [State.follow]; repeat' split
  all_goals simp

@[simp] theorem State.follow_inputs (s : State) (c : Condition) (x : HoldSource) (on : Bool) :
    (s.follow c x on).inputs = s.inputs := by
  simp only [State.follow]; repeat' split
  all_goals simp

@[simp] theorem State.follow_resetAsserted (s : State) (c : Condition) (x : HoldSource) (on : Bool) :
    (s.follow c x on).resetAsserted = s.resetAsserted := by
  simp only [State.follow]; repeat' split
  all_goals simp

@[simp] theorem State.follow_si (s : State) (c : Condition) (x : HoldSource) (on : Bool) :
    (s.follow c x on).si = s.si := by
  simp only [State.follow]; repeat' split
  all_goals simp

@[simp] theorem State.follow_lb (s : State) (c : Condition) (x : HoldSource) (on : Bool) :
    (s.follow c x on).lb = s.lb := by
  simp only [State.follow]; repeat' split
  all_goals simp

@[simp] theorem State.follow_ts (s : State) (c : Condition) (x : HoldSource) (on : Bool) :
    (s.follow c x on).ts = s.ts := by
  simp only [State.follow]; repeat' split
  all_goals simp

@[simp] theorem State.follow_ss (s : State) (c : Condition) (x : HoldSource) (on : Bool) :
    (s.follow c x on).ss = s.ss := by
  simp only [State.follow]; repeat' split
  all_goals simp

@[simp] theorem State.follow_orders (s : State) (c : Condition) (x : HoldSource) (on : Bool) :
    (s.follow c x on).orders = s.orders := by
  simp only [State.follow]; repeat' split
  all_goals simp

@[simp] theorem State.follow_pc (s : State) (c : Condition) (x : HoldSource) (on : Bool) :
    (s.follow c x on).pc = s.pc := by
  simp only [State.follow]; repeat' split
  all_goals simp

@[simp] theorem State.follow_tcu (s : State) (c : Condition) (x : HoldSource) (on : Bool) :
    (s.follow c x on).tcu = s.tcu := by
  simp only [State.follow]; repeat' split
  all_goals simp

@[simp] theorem State.follow_fu (s : State) (c : Condition) (x : HoldSource) (on : Bool) :
    (s.follow c x on).fu = s.fu := by
  simp only [State.follow]; repeat' split
  all_goals simp

@[simp] theorem State.syncStationWait_pending (s : State) :
    (s.syncStationWait).pending = s.pending := by
  simp only [State.syncStationWait]; repeat' split
  all_goals simp

@[simp] theorem State.syncStationWait_time (s : State) :
    (s.syncStationWait).time = s.time := by
  simp only [State.syncStationWait]; repeat' split
  all_goals simp

@[simp] theorem State.syncStationWait_encoder (s : State) :
    (s.syncStationWait).encoder = s.encoder := by
  simp only [State.syncStationWait]; repeat' split
  all_goals simp

@[simp] theorem State.syncStationWait_travelOwed (s : State) :
    (s.syncStationWait).travelOwed = s.travelOwed := by
  simp only [State.syncStationWait]; repeat' split
  all_goals simp

@[simp] theorem State.syncStationWait_free (s : State) :
    (s.syncStationWait).free = s.free := by
  simp only [State.syncStationWait]; repeat' split
  all_goals simp

@[simp] theorem State.syncStationWait_inputs (s : State) :
    (s.syncStationWait).inputs = s.inputs := by
  simp only [State.syncStationWait]; repeat' split
  all_goals simp

@[simp] theorem State.syncStationWait_resetAsserted (s : State) :
    (s.syncStationWait).resetAsserted = s.resetAsserted := by
  simp only [State.syncStationWait]; repeat' split
  all_goals simp

@[simp] theorem State.syncStationWait_si (s : State) :
    (s.syncStationWait).si = s.si := by
  simp only [State.syncStationWait]; repeat' split
  all_goals simp

@[simp] theorem State.syncStationWait_lb (s : State) :
    (s.syncStationWait).lb = s.lb := by
  simp only [State.syncStationWait]; repeat' split
  all_goals simp

@[simp] theorem State.syncStationWait_ts (s : State) :
    (s.syncStationWait).ts = s.ts := by
  simp only [State.syncStationWait]; repeat' split
  all_goals simp

@[simp] theorem State.syncStationWait_ss (s : State) :
    (s.syncStationWait).ss = s.ss := by
  simp only [State.syncStationWait]; repeat' split
  all_goals simp

@[simp] theorem State.syncStationWait_orders (s : State) :
    (s.syncStationWait).orders = s.orders := by
  simp only [State.syncStationWait]; repeat' split
  all_goals simp

@[simp] theorem State.syncStationWait_pc (s : State) :
    (s.syncStationWait).pc = s.pc := by
  simp only [State.syncStationWait]; repeat' split
  all_goals simp

@[simp] theorem State.syncStationWait_tcu (s : State) :
    (s.syncStationWait).tcu = s.tcu := by
  simp only [State.syncStationWait]; repeat' split
  all_goals simp

@[simp] theorem State.syncStationWait_fu (s : State) :
    (s.syncStationWait).fu = s.fu := by
  simp only [State.syncStationWait]; repeat' split
  all_goals simp

@[simp] theorem State.endOrder_pending (s : State) (st : Station) :
    (s.endOrder st).pending = s.pending := by
  simp only [State.endOrder]; repeat' split
  all_goals simp

@[simp] theorem State.endOrder_time (s : State) (st : Station) :
    (s.endOrder st).time = s.time := by
  simp only [State.endOrder]; repeat' split
  all_goals simp

@[simp] theorem State.endOrder_encoder (s : State) (st : Station) :
    (s.endOrder st).encoder = s.encoder := by
  simp only [State.endOrder]; repeat' split
  all_goals simp

@[simp] theorem State.endOrder_travelOwed (s : State) (st : Station) :
    (s.endOrder st).travelOwed = s.travelOwed := by
  simp only [State.endOrder]; repeat' split
  all_goals simp

@[simp] theorem State.endOrder_free (s : State) (st : Station) :
    (s.endOrder st).free = s.free := by
  simp only [State.endOrder]; repeat' split
  all_goals simp

@[simp] theorem State.endOrder_inputs (s : State) (st : Station) :
    (s.endOrder st).inputs = s.inputs := by
  simp only [State.endOrder]; repeat' split
  all_goals simp

@[simp] theorem State.endOrder_resetAsserted (s : State) (st : Station) :
    (s.endOrder st).resetAsserted = s.resetAsserted := by
  simp only [State.endOrder]; repeat' split
  all_goals simp

@[simp] theorem State.endOrder_si (s : State) (st : Station) :
    (s.endOrder st).si = s.si := by
  simp only [State.endOrder]; repeat' split
  all_goals simp

@[simp] theorem State.endOrder_lb (s : State) (st : Station) :
    (s.endOrder st).lb = s.lb := by
  simp only [State.endOrder]; repeat' split
  all_goals simp

@[simp] theorem State.endOrder_ts (s : State) (st : Station) :
    (s.endOrder st).ts = s.ts := by
  simp only [State.endOrder]; repeat' split
  all_goals simp

@[simp] theorem State.endOrder_ss (s : State) (st : Station) :
    (s.endOrder st).ss = s.ss := by
  simp only [State.endOrder]; repeat' split
  all_goals simp

@[simp] theorem State.endOrder_pc (s : State) (st : Station) :
    (s.endOrder st).pc = s.pc := by
  simp only [State.endOrder]; repeat' split
  all_goals simp

@[simp] theorem State.endOrder_tcu (s : State) (st : Station) :
    (s.endOrder st).tcu = s.tcu := by
  simp only [State.endOrder]; repeat' split
  all_goals simp

@[simp] theorem State.endOrder_fu (s : State) (st : Station) :
    (s.endOrder st).fu = s.fu := by
  simp only [State.endOrder]; repeat' split
  all_goals simp

@[simp] theorem State.testRest_pending (s : State) :
    (s.testRest).pending = s.pending := by
  simp only [State.testRest]; repeat' split
  all_goals simp

@[simp] theorem State.testRest_time (s : State) :
    (s.testRest).time = s.time := by
  simp only [State.testRest]; repeat' split
  all_goals simp

@[simp] theorem State.testRest_encoder (s : State) :
    (s.testRest).encoder = s.encoder := by
  simp only [State.testRest]; repeat' split
  all_goals simp

@[simp] theorem State.testRest_travelOwed (s : State) :
    (s.testRest).travelOwed = s.travelOwed := by
  simp only [State.testRest]; repeat' split
  all_goals simp

@[simp] theorem State.testRest_free (s : State) :
    (s.testRest).free = s.free := by
  simp only [State.testRest]; repeat' split
  all_goals simp

@[simp] theorem State.testRest_inputs (s : State) :
    (s.testRest).inputs = s.inputs := by
  simp only [State.testRest]; repeat' split
  all_goals simp

@[simp] theorem State.testRest_resetAsserted (s : State) :
    (s.testRest).resetAsserted = s.resetAsserted := by
  simp only [State.testRest]; repeat' split
  all_goals simp

@[simp] theorem State.testRest_si (s : State) :
    (s.testRest).si = s.si := by
  simp only [State.testRest]; repeat' split
  all_goals simp

@[simp] theorem State.testRest_lb (s : State) :
    (s.testRest).lb = s.lb := by
  simp only [State.testRest]; repeat' split
  all_goals simp

@[simp] theorem State.testRest_ts (s : State) :
    (s.testRest).ts = s.ts := by
  simp only [State.testRest]; repeat' split
  all_goals simp

@[simp] theorem State.testRest_ss (s : State) :
    (s.testRest).ss = s.ss := by
  simp only [State.testRest]; repeat' split
  all_goals simp

@[simp] theorem State.testRest_orders (s : State) :
    (s.testRest).orders = s.orders := by
  simp only [State.testRest]; repeat' split
  all_goals simp

@[simp] theorem State.testRest_pc (s : State) :
    (s.testRest).pc = s.pc := by
  simp only [State.testRest]; repeat' split
  all_goals simp

@[simp] theorem State.testRest_tcu (s : State) :
    (s.testRest).tcu = s.tcu := by
  simp only [State.testRest]; repeat' split
  all_goals simp

@[simp] theorem State.testRest_fu (s : State) :
    (s.testRest).fu = s.fu := by
  simp only [State.testRest]; repeat' split
  all_goals simp

@[simp] theorem State.sendOutcome_pending (s : State) (o : BookOutcome) (b : Book) :
    (s.sendOutcome o b).pending = s.pending := by
  simp only [State.sendOutcome]; repeat' split
  all_goals simp

@[simp] theorem State.sendOutcome_time (s : State) (o : BookOutcome) (b : Book) :
    (s.sendOutcome o b).time = s.time := by
  simp only [State.sendOutcome]; repeat' split
  all_goals simp

@[simp] theorem State.sendOutcome_encoder (s : State) (o : BookOutcome) (b : Book) :
    (s.sendOutcome o b).encoder = s.encoder := by
  simp only [State.sendOutcome]; repeat' split
  all_goals simp

@[simp] theorem State.sendOutcome_travelOwed (s : State) (o : BookOutcome) (b : Book) :
    (s.sendOutcome o b).travelOwed = s.travelOwed := by
  simp only [State.sendOutcome]; repeat' split
  all_goals simp

@[simp] theorem State.sendOutcome_free (s : State) (o : BookOutcome) (b : Book) :
    (s.sendOutcome o b).free = s.free := by
  simp only [State.sendOutcome]; repeat' split
  all_goals simp

@[simp] theorem State.sendOutcome_inputs (s : State) (o : BookOutcome) (b : Book) :
    (s.sendOutcome o b).inputs = s.inputs := by
  simp only [State.sendOutcome]; repeat' split
  all_goals simp

@[simp] theorem State.sendOutcome_resetAsserted (s : State) (o : BookOutcome) (b : Book) :
    (s.sendOutcome o b).resetAsserted = s.resetAsserted := by
  simp only [State.sendOutcome]; repeat' split
  all_goals simp

@[simp] theorem State.sendOutcome_si (s : State) (o : BookOutcome) (b : Book) :
    (s.sendOutcome o b).si = s.si := by
  simp only [State.sendOutcome]; repeat' split
  all_goals simp

@[simp] theorem State.sendOutcome_lb (s : State) (o : BookOutcome) (b : Book) :
    (s.sendOutcome o b).lb = s.lb := by
  simp only [State.sendOutcome]; repeat' split
  all_goals simp

@[simp] theorem State.sendOutcome_ts (s : State) (o : BookOutcome) (b : Book) :
    (s.sendOutcome o b).ts = s.ts := by
  simp only [State.sendOutcome]; repeat' split
  all_goals simp

@[simp] theorem State.sendOutcome_ss (s : State) (o : BookOutcome) (b : Book) :
    (s.sendOutcome o b).ss = s.ss := by
  simp only [State.sendOutcome]; repeat' split
  all_goals simp

@[simp] theorem State.sendOutcome_orders (s : State) (o : BookOutcome) (b : Book) :
    (s.sendOutcome o b).orders = s.orders := by
  simp only [State.sendOutcome]; repeat' split
  all_goals simp

@[simp] theorem State.sendOutcome_pc (s : State) (o : BookOutcome) (b : Book) :
    (s.sendOutcome o b).pc = s.pc := by
  simp only [State.sendOutcome]; repeat' split
  all_goals simp

@[simp] theorem State.sendOutcome_tcu (s : State) (o : BookOutcome) (b : Book) :
    (s.sendOutcome o b).tcu = s.tcu := by
  simp only [State.sendOutcome]; repeat' split
  all_goals simp

@[simp] theorem State.sendOutcome_fu (s : State) (o : BookOutcome) (b : Book) :
    (s.sendOutcome o b).fu = s.fu := by
  simp only [State.sendOutcome]; repeat' split
  all_goals simp

@[simp] theorem State.sendOutcome_lm (s : State) (o : BookOutcome) (b : Book) :
    (s.sendOutcome o b).lm = s.lm := by
  simp only [State.sendOutcome]; repeat' split
  all_goals simp

@[simp] theorem State.sendOutcome_lsv (s : State) (o : BookOutcome) (b : Book) :
    (s.sendOutcome o b).lsv = s.lsv := by
  simp only [State.sendOutcome]; repeat' split
  all_goals simp

@[simp] theorem State.removeBook_pending (s : State) (i : Slot) :
    (s.removeBook i).pending = s.pending := by
  simp only [State.removeBook]; repeat' split
  all_goals simp

@[simp] theorem State.removeBook_time (s : State) (i : Slot) :
    (s.removeBook i).time = s.time := by
  simp only [State.removeBook]; repeat' split
  all_goals simp

@[simp] theorem State.removeBook_encoder (s : State) (i : Slot) :
    (s.removeBook i).encoder = s.encoder := by
  simp only [State.removeBook]; repeat' split
  all_goals simp

@[simp] theorem State.removeBook_travelOwed (s : State) (i : Slot) :
    (s.removeBook i).travelOwed = s.travelOwed := by
  simp only [State.removeBook]; repeat' split
  all_goals simp

@[simp] theorem State.removeBook_free (s : State) (i : Slot) :
    (s.removeBook i).free = s.free := by
  simp only [State.removeBook]; repeat' split
  all_goals simp

@[simp] theorem State.removeBook_inputs (s : State) (i : Slot) :
    (s.removeBook i).inputs = s.inputs := by
  simp only [State.removeBook]; repeat' split
  all_goals simp

@[simp] theorem State.removeBook_resetAsserted (s : State) (i : Slot) :
    (s.removeBook i).resetAsserted = s.resetAsserted := by
  simp only [State.removeBook]; repeat' split
  all_goals simp

@[simp] theorem State.removeBook_lp (s : State) (i : Slot) :
    (s.removeBook i).lp = s.lp := by
  simp only [State.removeBook]; repeat' split
  all_goals simp

@[simp] theorem State.removeBook_lb (s : State) (i : Slot) :
    (s.removeBook i).lb = s.lb := by
  simp only [State.removeBook]; repeat' split
  all_goals simp

@[simp] theorem State.removeBook_ss (s : State) (i : Slot) :
    (s.removeBook i).ss = s.ss := by
  simp only [State.removeBook]; repeat' split
  all_goals simp

@[simp] theorem State.removeBook_orders (s : State) (i : Slot) :
    (s.removeBook i).orders = s.orders := by
  simp only [State.removeBook]; repeat' split
  all_goals simp

@[simp] theorem State.removeBook_pc (s : State) (i : Slot) :
    (s.removeBook i).pc = s.pc := by
  simp only [State.removeBook]; repeat' split
  all_goals simp

@[simp] theorem State.removeBook_tcu (s : State) (i : Slot) :
    (s.removeBook i).tcu = s.tcu := by
  simp only [State.removeBook]; repeat' split
  all_goals simp

@[simp] theorem State.removeBook_fu (s : State) (i : Slot) :
    (s.removeBook i).fu = s.fu := by
  simp only [State.removeBook]; repeat' split
  all_goals simp

@[simp] theorem State.removeBook_lm (s : State) (i : Slot) :
    (s.removeBook i).lm = s.lm := by
  simp only [State.removeBook]; repeat' split
  all_goals simp

@[simp] theorem State.removeEmpty_pending (s : State) (i : Slot) :
    (s.removeEmpty i).pending = s.pending := by
  simp only [State.removeEmpty]; repeat' split
  all_goals simp

@[simp] theorem State.removeEmpty_time (s : State) (i : Slot) :
    (s.removeEmpty i).time = s.time := by
  simp only [State.removeEmpty]; repeat' split
  all_goals simp

@[simp] theorem State.removeEmpty_encoder (s : State) (i : Slot) :
    (s.removeEmpty i).encoder = s.encoder := by
  simp only [State.removeEmpty]; repeat' split
  all_goals simp

@[simp] theorem State.removeEmpty_travelOwed (s : State) (i : Slot) :
    (s.removeEmpty i).travelOwed = s.travelOwed := by
  simp only [State.removeEmpty]; repeat' split
  all_goals simp

@[simp] theorem State.removeEmpty_free (s : State) (i : Slot) :
    (s.removeEmpty i).free = s.free := by
  simp only [State.removeEmpty]; repeat' split
  all_goals simp

@[simp] theorem State.removeEmpty_inputs (s : State) (i : Slot) :
    (s.removeEmpty i).inputs = s.inputs := by
  simp only [State.removeEmpty]; repeat' split
  all_goals simp

@[simp] theorem State.removeEmpty_resetAsserted (s : State) (i : Slot) :
    (s.removeEmpty i).resetAsserted = s.resetAsserted := by
  simp only [State.removeEmpty]; repeat' split
  all_goals simp

@[simp] theorem State.removeEmpty_lb (s : State) (i : Slot) :
    (s.removeEmpty i).lb = s.lb := by
  simp only [State.removeEmpty]; repeat' split
  all_goals simp

@[simp] theorem State.removeEmpty_ss (s : State) (i : Slot) :
    (s.removeEmpty i).ss = s.ss := by
  simp only [State.removeEmpty]; repeat' split
  all_goals simp

@[simp] theorem State.removeEmpty_orders (s : State) (i : Slot) :
    (s.removeEmpty i).orders = s.orders := by
  simp only [State.removeEmpty]; repeat' split
  all_goals simp

@[simp] theorem State.removeEmpty_pc (s : State) (i : Slot) :
    (s.removeEmpty i).pc = s.pc := by
  simp only [State.removeEmpty]; repeat' split
  all_goals simp

@[simp] theorem State.removeEmpty_tcu (s : State) (i : Slot) :
    (s.removeEmpty i).tcu = s.tcu := by
  simp only [State.removeEmpty]; repeat' split
  all_goals simp

@[simp] theorem State.removeEmpty_fu (s : State) (i : Slot) :
    (s.removeEmpty i).fu = s.fu := by
  simp only [State.removeEmpty]; repeat' split
  all_goals simp

@[simp] theorem State.triggerStrobe_pending (s : State) (i : ChannelId) :
    (s.triggerStrobe i).pending = s.pending := by
  simp only [State.triggerStrobe]; repeat' split
  all_goals simp

@[simp] theorem State.triggerStrobe_time (s : State) (i : ChannelId) :
    (s.triggerStrobe i).time = s.time := by
  simp only [State.triggerStrobe]; repeat' split
  all_goals simp

@[simp] theorem State.triggerStrobe_encoder (s : State) (i : ChannelId) :
    (s.triggerStrobe i).encoder = s.encoder := by
  simp only [State.triggerStrobe]; repeat' split
  all_goals simp

@[simp] theorem State.triggerStrobe_travelOwed (s : State) (i : ChannelId) :
    (s.triggerStrobe i).travelOwed = s.travelOwed := by
  simp only [State.triggerStrobe]; repeat' split
  all_goals simp

@[simp] theorem State.triggerStrobe_free (s : State) (i : ChannelId) :
    (s.triggerStrobe i).free = s.free := by
  simp only [State.triggerStrobe]; repeat' split
  all_goals simp

@[simp] theorem State.triggerStrobe_inputs (s : State) (i : ChannelId) :
    (s.triggerStrobe i).inputs = s.inputs := by
  simp only [State.triggerStrobe]; repeat' split
  all_goals simp

@[simp] theorem State.triggerStrobe_resetAsserted (s : State) (i : ChannelId) :
    (s.triggerStrobe i).resetAsserted = s.resetAsserted := by
  simp only [State.triggerStrobe]; repeat' split
  all_goals simp

@[simp] theorem State.triggerStrobe_si (s : State) (i : ChannelId) :
    (s.triggerStrobe i).si = s.si := by
  simp only [State.triggerStrobe]; repeat' split
  all_goals simp

@[simp] theorem State.triggerStrobe_lb (s : State) (i : ChannelId) :
    (s.triggerStrobe i).lb = s.lb := by
  simp only [State.triggerStrobe]; repeat' split
  all_goals simp

@[simp] theorem State.triggerStrobe_ts (s : State) (i : ChannelId) :
    (s.triggerStrobe i).ts = s.ts := by
  simp only [State.triggerStrobe]; repeat' split
  all_goals simp

@[simp] theorem State.triggerStrobe_ss (s : State) (i : ChannelId) :
    (s.triggerStrobe i).ss = s.ss := by
  simp only [State.triggerStrobe]; repeat' split
  all_goals simp

@[simp] theorem State.triggerStrobe_orders (s : State) (i : ChannelId) :
    (s.triggerStrobe i).orders = s.orders := by
  simp only [State.triggerStrobe]; repeat' split
  all_goals simp

@[simp] theorem State.triggerStrobe_pc (s : State) (i : ChannelId) :
    (s.triggerStrobe i).pc = s.pc := by
  simp only [State.triggerStrobe]; repeat' split
  all_goals simp

@[simp] theorem State.triggerStrobe_fu (s : State) (i : ChannelId) :
    (s.triggerStrobe i).fu = s.fu := by
  simp only [State.triggerStrobe]; repeat' split
  all_goals simp

@[simp] theorem State.triggerStrobe_lsv (s : State) (i : ChannelId) :
    (s.triggerStrobe i).lsv = s.lsv := by
  simp only [State.triggerStrobe]; repeat' split
  all_goals simp

@[simp] theorem State.triggerClamp_pending (s : State) :
    (s.triggerClamp).pending = s.pending := by
  simp only [State.triggerClamp]; repeat' split
  all_goals simp

@[simp] theorem State.triggerClamp_time (s : State) :
    (s.triggerClamp).time = s.time := by
  simp only [State.triggerClamp]; repeat' split
  all_goals simp

@[simp] theorem State.triggerClamp_encoder (s : State) :
    (s.triggerClamp).encoder = s.encoder := by
  simp only [State.triggerClamp]; repeat' split
  all_goals simp

@[simp] theorem State.triggerClamp_travelOwed (s : State) :
    (s.triggerClamp).travelOwed = s.travelOwed := by
  simp only [State.triggerClamp]; repeat' split
  all_goals simp

@[simp] theorem State.triggerClamp_free (s : State) :
    (s.triggerClamp).free = s.free := by
  simp only [State.triggerClamp]; repeat' split
  all_goals simp

@[simp] theorem State.triggerClamp_inputs (s : State) :
    (s.triggerClamp).inputs = s.inputs := by
  simp only [State.triggerClamp]; repeat' split
  all_goals simp

@[simp] theorem State.triggerClamp_resetAsserted (s : State) :
    (s.triggerClamp).resetAsserted = s.resetAsserted := by
  simp only [State.triggerClamp]; repeat' split
  all_goals simp

@[simp] theorem State.triggerClamp_lp (s : State) :
    (s.triggerClamp).lp = s.lp := by
  simp only [State.triggerClamp]; repeat' split
  all_goals simp

@[simp] theorem State.triggerClamp_si (s : State) :
    (s.triggerClamp).si = s.si := by
  simp only [State.triggerClamp]; repeat' split
  all_goals simp

@[simp] theorem State.triggerClamp_lb (s : State) :
    (s.triggerClamp).lb = s.lb := by
  simp only [State.triggerClamp]; repeat' split
  all_goals simp

@[simp] theorem State.triggerClamp_ts (s : State) :
    (s.triggerClamp).ts = s.ts := by
  simp only [State.triggerClamp]; repeat' split
  all_goals simp

@[simp] theorem State.triggerClamp_ss (s : State) :
    (s.triggerClamp).ss = s.ss := by
  simp only [State.triggerClamp]; repeat' split
  all_goals simp

@[simp] theorem State.triggerClamp_orders (s : State) :
    (s.triggerClamp).orders = s.orders := by
  simp only [State.triggerClamp]; repeat' split
  all_goals simp

@[simp] theorem State.triggerClamp_pc (s : State) :
    (s.triggerClamp).pc = s.pc := by
  simp only [State.triggerClamp]; repeat' split
  all_goals simp

@[simp] theorem State.triggerClamp_fu (s : State) :
    (s.triggerClamp).fu = s.fu := by
  simp only [State.triggerClamp]; repeat' split
  all_goals simp

@[simp] theorem State.triggerClamp_lm (s : State) :
    (s.triggerClamp).lm = s.lm := by
  simp only [State.triggerClamp]; repeat' split
  all_goals simp

@[simp] theorem State.triggerClamp_lsv (s : State) :
    (s.triggerClamp).lsv = s.lsv := by
  simp only [State.triggerClamp]; repeat' split
  all_goals simp

@[simp] theorem State.startFeed_pending (s : State) (n : Nat) :
    (s.startFeed n).pending = s.pending := by
  simp only [State.startFeed]; repeat' split
  all_goals simp

@[simp] theorem State.startFeed_time (s : State) (n : Nat) :
    (s.startFeed n).time = s.time := by
  simp only [State.startFeed]; repeat' split
  all_goals simp

@[simp] theorem State.startFeed_encoder (s : State) (n : Nat) :
    (s.startFeed n).encoder = s.encoder := by
  simp only [State.startFeed]; repeat' split
  all_goals simp

@[simp] theorem State.startFeed_travelOwed (s : State) (n : Nat) :
    (s.startFeed n).travelOwed = s.travelOwed := by
  simp only [State.startFeed]; repeat' split
  all_goals simp

@[simp] theorem State.startFeed_free (s : State) (n : Nat) :
    (s.startFeed n).free = s.free := by
  simp only [State.startFeed]; repeat' split
  all_goals simp

@[simp] theorem State.startFeed_inputs (s : State) (n : Nat) :
    (s.startFeed n).inputs = s.inputs := by
  simp only [State.startFeed]; repeat' split
  all_goals simp

@[simp] theorem State.startFeed_resetAsserted (s : State) (n : Nat) :
    (s.startFeed n).resetAsserted = s.resetAsserted := by
  simp only [State.startFeed]; repeat' split
  all_goals simp

@[simp] theorem State.startFeed_si (s : State) (n : Nat) :
    (s.startFeed n).si = s.si := by
  simp only [State.startFeed]; repeat' split
  all_goals simp

@[simp] theorem State.startFeed_lb (s : State) (n : Nat) :
    (s.startFeed n).lb = s.lb := by
  simp only [State.startFeed]; repeat' split
  all_goals simp

@[simp] theorem State.startFeed_ts (s : State) (n : Nat) :
    (s.startFeed n).ts = s.ts := by
  simp only [State.startFeed]; repeat' split
  all_goals simp

@[simp] theorem State.startFeed_ss (s : State) (n : Nat) :
    (s.startFeed n).ss = s.ss := by
  simp only [State.startFeed]; repeat' split
  all_goals simp

@[simp] theorem State.startFeed_orders (s : State) (n : Nat) :
    (s.startFeed n).orders = s.orders := by
  simp only [State.startFeed]; repeat' split
  all_goals simp

@[simp] theorem State.startFeed_pc (s : State) (n : Nat) :
    (s.startFeed n).pc = s.pc := by
  simp only [State.startFeed]; repeat' split
  all_goals simp

@[simp] theorem State.startFeed_fu (s : State) (n : Nat) :
    (s.startFeed n).fu = s.fu := by
  simp only [State.startFeed]; repeat' split
  all_goals simp

@[simp] theorem State.startFeed_lsv (s : State) (n : Nat) :
    (s.startFeed n).lsv = s.lsv := by
  simp only [State.startFeed]; repeat' split
  all_goals simp

@[simp] theorem State.unblock_pending (s : State) (f : Finish) :
    (s.unblock f).pending = s.pending := by
  simp only [State.unblock]; repeat' split
  all_goals simp

@[simp] theorem State.unblock_time (s : State) (f : Finish) :
    (s.unblock f).time = s.time := by
  simp only [State.unblock]; repeat' split
  all_goals simp

@[simp] theorem State.unblock_encoder (s : State) (f : Finish) :
    (s.unblock f).encoder = s.encoder := by
  simp only [State.unblock]; repeat' split
  all_goals simp

@[simp] theorem State.unblock_travelOwed (s : State) (f : Finish) :
    (s.unblock f).travelOwed = s.travelOwed := by
  simp only [State.unblock]; repeat' split
  all_goals simp

@[simp] theorem State.unblock_free (s : State) (f : Finish) :
    (s.unblock f).free = s.free := by
  simp only [State.unblock]; repeat' split
  all_goals simp

@[simp] theorem State.unblock_inputs (s : State) (f : Finish) :
    (s.unblock f).inputs = s.inputs := by
  simp only [State.unblock]; repeat' split
  all_goals simp

@[simp] theorem State.unblock_resetAsserted (s : State) (f : Finish) :
    (s.unblock f).resetAsserted = s.resetAsserted := by
  simp only [State.unblock]; repeat' split
  all_goals simp

@[simp] theorem State.unblock_si (s : State) (f : Finish) :
    (s.unblock f).si = s.si := by
  simp only [State.unblock]; repeat' split
  all_goals simp

@[simp] theorem State.unblock_lb (s : State) (f : Finish) :
    (s.unblock f).lb = s.lb := by
  simp only [State.unblock]; repeat' split
  all_goals simp

@[simp] theorem State.unblock_ts (s : State) (f : Finish) :
    (s.unblock f).ts = s.ts := by
  simp only [State.unblock]; repeat' split
  all_goals simp

@[simp] theorem State.unblock_ss (s : State) (f : Finish) :
    (s.unblock f).ss = s.ss := by
  simp only [State.unblock]; repeat' split
  all_goals simp

@[simp] theorem State.unblock_orders (s : State) (f : Finish) :
    (s.unblock f).orders = s.orders := by
  simp only [State.unblock]; repeat' split
  all_goals simp

@[simp] theorem State.unblock_pc (s : State) (f : Finish) :
    (s.unblock f).pc = s.pc := by
  simp only [State.unblock]; repeat' split
  all_goals simp

@[simp] theorem State.unblock_tcu (s : State) (f : Finish) :
    (s.unblock f).tcu = s.tcu := by
  simp only [State.unblock]; repeat' split
  all_goals simp

@[simp] theorem State.withdrawForExit_pending (s : State) (st : Station) (f : Finish) :
    (s.withdrawForExit st f).pending = s.pending := by
  simp only [State.withdrawForExit]; repeat' split
  all_goals simp

@[simp] theorem State.withdrawForExit_time (s : State) (st : Station) (f : Finish) :
    (s.withdrawForExit st f).time = s.time := by
  simp only [State.withdrawForExit]; repeat' split
  all_goals simp

@[simp] theorem State.withdrawForExit_encoder (s : State) (st : Station) (f : Finish) :
    (s.withdrawForExit st f).encoder = s.encoder := by
  simp only [State.withdrawForExit]; repeat' split
  all_goals simp

@[simp] theorem State.withdrawForExit_travelOwed (s : State) (st : Station) (f : Finish) :
    (s.withdrawForExit st f).travelOwed = s.travelOwed := by
  simp only [State.withdrawForExit]; repeat' split
  all_goals simp

@[simp] theorem State.withdrawForExit_free (s : State) (st : Station) (f : Finish) :
    (s.withdrawForExit st f).free = s.free := by
  simp only [State.withdrawForExit]; repeat' split
  all_goals simp

@[simp] theorem State.withdrawForExit_inputs (s : State) (st : Station) (f : Finish) :
    (s.withdrawForExit st f).inputs = s.inputs := by
  simp only [State.withdrawForExit]; repeat' split
  all_goals simp

@[simp] theorem State.withdrawForExit_resetAsserted (s : State) (st : Station) (f : Finish) :
    (s.withdrawForExit st f).resetAsserted = s.resetAsserted := by
  simp only [State.withdrawForExit]; repeat' split
  all_goals simp

@[simp] theorem State.withdrawForExit_lb (s : State) (st : Station) (f : Finish) :
    (s.withdrawForExit st f).lb = s.lb := by
  simp only [State.withdrawForExit]; repeat' split
  all_goals simp

@[simp] theorem State.withdrawForExit_ts (s : State) (st : Station) (f : Finish) :
    (s.withdrawForExit st f).ts = s.ts := by
  simp only [State.withdrawForExit]; repeat' split
  all_goals simp

@[simp] theorem State.withdrawForExit_ss (s : State) (st : Station) (f : Finish) :
    (s.withdrawForExit st f).ss = s.ss := by
  simp only [State.withdrawForExit]; repeat' split
  all_goals simp

@[simp] theorem State.withdrawForExit_pc (s : State) (st : Station) (f : Finish) :
    (s.withdrawForExit st f).pc = s.pc := by
  simp only [State.withdrawForExit]; repeat' split
  all_goals simp

@[simp] theorem State.withdrawForExit_tcu (s : State) (st : Station) (f : Finish) :
    (s.withdrawForExit st f).tcu = s.tcu := by
  simp only [State.withdrawForExit]; repeat' split
  all_goals simp

@[simp] theorem State.reactToFault_pending (s : State) (f : Finish) :
    (s.reactToFault f).pending = s.pending := by
  simp only [State.reactToFault]; repeat' split
  all_goals simp

@[simp] theorem State.reactToFault_time (s : State) (f : Finish) :
    (s.reactToFault f).time = s.time := by
  simp only [State.reactToFault]; repeat' split
  all_goals simp

@[simp] theorem State.reactToFault_encoder (s : State) (f : Finish) :
    (s.reactToFault f).encoder = s.encoder := by
  simp only [State.reactToFault]; repeat' split
  all_goals simp

@[simp] theorem State.reactToFault_travelOwed (s : State) (f : Finish) :
    (s.reactToFault f).travelOwed = s.travelOwed := by
  simp only [State.reactToFault]; repeat' split
  all_goals simp

@[simp] theorem State.reactToFault_free (s : State) (f : Finish) :
    (s.reactToFault f).free = s.free := by
  simp only [State.reactToFault]; repeat' split
  all_goals simp

@[simp] theorem State.reactToFault_inputs (s : State) (f : Finish) :
    (s.reactToFault f).inputs = s.inputs := by
  simp only [State.reactToFault]; repeat' split
  all_goals simp

@[simp] theorem State.reactToFault_resetAsserted (s : State) (f : Finish) :
    (s.reactToFault f).resetAsserted = s.resetAsserted := by
  simp only [State.reactToFault]; repeat' split
  all_goals simp

@[simp] theorem State.reactToFault_lb (s : State) (f : Finish) :
    (s.reactToFault f).lb = s.lb := by
  simp only [State.reactToFault]; repeat' split
  all_goals simp

@[simp] theorem State.reactToFault_ts (s : State) (f : Finish) :
    (s.reactToFault f).ts = s.ts := by
  simp only [State.reactToFault]; repeat' split
  all_goals simp

@[simp] theorem State.reactToFault_ss (s : State) (f : Finish) :
    (s.reactToFault f).ss = s.ss := by
  simp only [State.reactToFault]; repeat' split
  all_goals simp

@[simp] theorem State.reactToFault_pc (s : State) (f : Finish) :
    (s.reactToFault f).pc = s.pc := by
  simp only [State.reactToFault]; repeat' split
  all_goals simp

@[simp] theorem State.reactToFault_tcu (s : State) (f : Finish) :
    (s.reactToFault f).tcu = s.tcu := by
  simp only [State.reactToFault]; repeat' split
  all_goals simp

@[simp] theorem State.tellFinish_pending (s : State) (i : Slot) :
    (s.tellFinish i).pending = s.pending := by
  simp only [State.tellFinish]; repeat' split
  all_goals simp

@[simp] theorem State.tellFinish_time (s : State) (i : Slot) :
    (s.tellFinish i).time = s.time := by
  simp only [State.tellFinish]; repeat' split
  all_goals simp

@[simp] theorem State.tellFinish_encoder (s : State) (i : Slot) :
    (s.tellFinish i).encoder = s.encoder := by
  simp only [State.tellFinish]; repeat' split
  all_goals simp

@[simp] theorem State.tellFinish_travelOwed (s : State) (i : Slot) :
    (s.tellFinish i).travelOwed = s.travelOwed := by
  simp only [State.tellFinish]; repeat' split
  all_goals simp

@[simp] theorem State.tellFinish_free (s : State) (i : Slot) :
    (s.tellFinish i).free = s.free := by
  simp only [State.tellFinish]; repeat' split
  all_goals simp

@[simp] theorem State.tellFinish_inputs (s : State) (i : Slot) :
    (s.tellFinish i).inputs = s.inputs := by
  simp only [State.tellFinish]; repeat' split
  all_goals simp

@[simp] theorem State.tellFinish_resetAsserted (s : State) (i : Slot) :
    (s.tellFinish i).resetAsserted = s.resetAsserted := by
  simp only [State.tellFinish]; repeat' split
  all_goals simp

@[simp] theorem State.tellFinish_lb (s : State) (i : Slot) :
    (s.tellFinish i).lb = s.lb := by
  simp only [State.tellFinish]; repeat' split
  all_goals simp

@[simp] theorem State.tellFinish_ts (s : State) (i : Slot) :
    (s.tellFinish i).ts = s.ts := by
  simp only [State.tellFinish]; repeat' split
  all_goals simp

@[simp] theorem State.tellFinish_ss (s : State) (i : Slot) :
    (s.tellFinish i).ss = s.ss := by
  simp only [State.tellFinish]; repeat' split
  all_goals simp

@[simp] theorem State.tellFinish_pc (s : State) (i : Slot) :
    (s.tellFinish i).pc = s.pc := by
  simp only [State.tellFinish]; repeat' split
  all_goals simp

@[simp] theorem State.tellFinish_tcu (s : State) (i : Slot) :
    (s.tellFinish i).tcu = s.tcu := by
  simp only [State.tellFinish]; repeat' split
  all_goals simp

@[simp] theorem State.raiseFault_pending (s : State) (i : Slot) (c : FaultCause) :
    (s.raiseFault i c).pending = s.pending := by
  simp only [State.raiseFault]; repeat' split
  all_goals simp

@[simp] theorem State.raiseFault_time (s : State) (i : Slot) (c : FaultCause) :
    (s.raiseFault i c).time = s.time := by
  simp only [State.raiseFault]; repeat' split
  all_goals simp

@[simp] theorem State.raiseFault_encoder (s : State) (i : Slot) (c : FaultCause) :
    (s.raiseFault i c).encoder = s.encoder := by
  simp only [State.raiseFault]; repeat' split
  all_goals simp

@[simp] theorem State.raiseFault_travelOwed (s : State) (i : Slot) (c : FaultCause) :
    (s.raiseFault i c).travelOwed = s.travelOwed := by
  simp only [State.raiseFault]; repeat' split
  all_goals simp

@[simp] theorem State.raiseFault_free (s : State) (i : Slot) (c : FaultCause) :
    (s.raiseFault i c).free = s.free := by
  simp only [State.raiseFault]; repeat' split
  all_goals simp

@[simp] theorem State.raiseFault_inputs (s : State) (i : Slot) (c : FaultCause) :
    (s.raiseFault i c).inputs = s.inputs := by
  simp only [State.raiseFault]; repeat' split
  all_goals simp

@[simp] theorem State.raiseFault_resetAsserted (s : State) (i : Slot) (c : FaultCause) :
    (s.raiseFault i c).resetAsserted = s.resetAsserted := by
  simp only [State.raiseFault]; repeat' split
  all_goals simp

@[simp] theorem State.raiseFault_lb (s : State) (i : Slot) (c : FaultCause) :
    (s.raiseFault i c).lb = s.lb := by
  simp only [State.raiseFault]; repeat' split
  all_goals simp

@[simp] theorem State.raiseFault_ts (s : State) (i : Slot) (c : FaultCause) :
    (s.raiseFault i c).ts = s.ts := by
  simp only [State.raiseFault]; repeat' split
  all_goals simp

@[simp] theorem State.raiseFault_ss (s : State) (i : Slot) (c : FaultCause) :
    (s.raiseFault i c).ss = s.ss := by
  simp only [State.raiseFault]; repeat' split
  all_goals simp

@[simp] theorem State.raiseFault_pc (s : State) (i : Slot) (c : FaultCause) :
    (s.raiseFault i c).pc = s.pc := by
  simp only [State.raiseFault]; repeat' split
  all_goals simp

@[simp] theorem State.raiseFault_tcu (s : State) (i : Slot) (c : FaultCause) :
    (s.raiseFault i c).tcu = s.tcu := by
  simp only [State.raiseFault]; repeat' split
  all_goals simp

@[simp] theorem State.testComplete_pending (s : State) (i : Slot) :
    (s.testComplete i).pending = s.pending := by
  simp only [State.testComplete]; repeat' split
  all_goals simp

@[simp] theorem State.testComplete_time (s : State) (i : Slot) :
    (s.testComplete i).time = s.time := by
  simp only [State.testComplete]; repeat' split
  all_goals simp

@[simp] theorem State.testComplete_encoder (s : State) (i : Slot) :
    (s.testComplete i).encoder = s.encoder := by
  simp only [State.testComplete]; repeat' split
  all_goals simp

@[simp] theorem State.testComplete_travelOwed (s : State) (i : Slot) :
    (s.testComplete i).travelOwed = s.travelOwed := by
  simp only [State.testComplete]; repeat' split
  all_goals simp

@[simp] theorem State.testComplete_free (s : State) (i : Slot) :
    (s.testComplete i).free = s.free := by
  simp only [State.testComplete]; repeat' split
  all_goals simp

@[simp] theorem State.testComplete_inputs (s : State) (i : Slot) :
    (s.testComplete i).inputs = s.inputs := by
  simp only [State.testComplete]; repeat' split
  all_goals simp

@[simp] theorem State.testComplete_resetAsserted (s : State) (i : Slot) :
    (s.testComplete i).resetAsserted = s.resetAsserted := by
  simp only [State.testComplete]; repeat' split
  all_goals simp

@[simp] theorem State.testComplete_lp (s : State) (i : Slot) :
    (s.testComplete i).lp = s.lp := by
  simp only [State.testComplete]; repeat' split
  all_goals simp

@[simp] theorem State.testComplete_lb (s : State) (i : Slot) :
    (s.testComplete i).lb = s.lb := by
  simp only [State.testComplete]; repeat' split
  all_goals simp

@[simp] theorem State.testComplete_ts (s : State) (i : Slot) :
    (s.testComplete i).ts = s.ts := by
  simp only [State.testComplete]; repeat' split
  all_goals simp

@[simp] theorem State.testComplete_ss (s : State) (i : Slot) :
    (s.testComplete i).ss = s.ss := by
  simp only [State.testComplete]; repeat' split
  all_goals simp

@[simp] theorem State.testComplete_orders (s : State) (i : Slot) :
    (s.testComplete i).orders = s.orders := by
  simp only [State.testComplete]; repeat' split
  all_goals simp

@[simp] theorem State.testComplete_pc (s : State) (i : Slot) :
    (s.testComplete i).pc = s.pc := by
  simp only [State.testComplete]; repeat' split
  all_goals simp

@[simp] theorem State.testComplete_tcu (s : State) (i : Slot) :
    (s.testComplete i).tcu = s.tcu := by
  simp only [State.testComplete]; repeat' split
  all_goals simp

@[simp] theorem State.testComplete_fu (s : State) (i : Slot) :
    (s.testComplete i).fu = s.fu := by
  simp only [State.testComplete]; repeat' split
  all_goals simp

@[simp] theorem State.testComplete_lm (s : State) (i : Slot) :
    (s.testComplete i).lm = s.lm := by
  simp only [State.testComplete]; repeat' split
  all_goals simp

@[simp] theorem State.collectionEnded_pending (s : State) (i : Slot) :
    (s.collectionEnded i).pending = s.pending := by
  simp only [State.collectionEnded]; repeat' split
  all_goals simp

@[simp] theorem State.collectionEnded_time (s : State) (i : Slot) :
    (s.collectionEnded i).time = s.time := by
  simp only [State.collectionEnded]; repeat' split
  all_goals simp

@[simp] theorem State.collectionEnded_encoder (s : State) (i : Slot) :
    (s.collectionEnded i).encoder = s.encoder := by
  simp only [State.collectionEnded]; repeat' split
  all_goals simp

@[simp] theorem State.collectionEnded_travelOwed (s : State) (i : Slot) :
    (s.collectionEnded i).travelOwed = s.travelOwed := by
  simp only [State.collectionEnded]; repeat' split
  all_goals simp

@[simp] theorem State.collectionEnded_free (s : State) (i : Slot) :
    (s.collectionEnded i).free = s.free := by
  simp only [State.collectionEnded]; repeat' split
  all_goals simp

@[simp] theorem State.collectionEnded_inputs (s : State) (i : Slot) :
    (s.collectionEnded i).inputs = s.inputs := by
  simp only [State.collectionEnded]; repeat' split
  all_goals simp

@[simp] theorem State.collectionEnded_resetAsserted (s : State) (i : Slot) :
    (s.collectionEnded i).resetAsserted = s.resetAsserted := by
  simp only [State.collectionEnded]; repeat' split
  all_goals simp

@[simp] theorem State.collectionEnded_lb (s : State) (i : Slot) :
    (s.collectionEnded i).lb = s.lb := by
  simp only [State.collectionEnded]; repeat' split
  all_goals simp

@[simp] theorem State.collectionEnded_ss (s : State) (i : Slot) :
    (s.collectionEnded i).ss = s.ss := by
  simp only [State.collectionEnded]; repeat' split
  all_goals simp

@[simp] theorem State.collectionEnded_orders (s : State) (i : Slot) :
    (s.collectionEnded i).orders = s.orders := by
  simp only [State.collectionEnded]; repeat' split
  all_goals simp

@[simp] theorem State.collectionEnded_pc (s : State) (i : Slot) :
    (s.collectionEnded i).pc = s.pc := by
  simp only [State.collectionEnded]; repeat' split
  all_goals simp

@[simp] theorem State.collectionEnded_tcu (s : State) (i : Slot) :
    (s.collectionEnded i).tcu = s.tcu := by
  simp only [State.collectionEnded]; repeat' split
  all_goals simp

@[simp] theorem State.collectionEnded_fu (s : State) (i : Slot) :
    (s.collectionEnded i).fu = s.fu := by
  simp only [State.collectionEnded]; repeat' split
  all_goals simp

@[simp] theorem State.closeInto_pending (s : State) (l : Lift) (b : Book) :
    (s.closeInto l b).pending = s.pending := by
  simp only [State.closeInto]; repeat' split
  all_goals simp

@[simp] theorem State.closeInto_time (s : State) (l : Lift) (b : Book) :
    (s.closeInto l b).time = s.time := by
  simp only [State.closeInto]; repeat' split
  all_goals simp

@[simp] theorem State.closeInto_encoder (s : State) (l : Lift) (b : Book) :
    (s.closeInto l b).encoder = s.encoder := by
  simp only [State.closeInto]; repeat' split
  all_goals simp

@[simp] theorem State.closeInto_travelOwed (s : State) (l : Lift) (b : Book) :
    (s.closeInto l b).travelOwed = s.travelOwed := by
  simp only [State.closeInto]; repeat' split
  all_goals simp

@[simp] theorem State.closeInto_free (s : State) (l : Lift) (b : Book) :
    (s.closeInto l b).free = s.free := by
  simp only [State.closeInto]; repeat' split
  all_goals simp

@[simp] theorem State.closeInto_inputs (s : State) (l : Lift) (b : Book) :
    (s.closeInto l b).inputs = s.inputs := by
  simp only [State.closeInto]; repeat' split
  all_goals simp

@[simp] theorem State.closeInto_resetAsserted (s : State) (l : Lift) (b : Book) :
    (s.closeInto l b).resetAsserted = s.resetAsserted := by
  simp only [State.closeInto]; repeat' split
  all_goals simp

@[simp] theorem State.closeInto_ss (s : State) (l : Lift) (b : Book) :
    (s.closeInto l b).ss = s.ss := by
  simp only [State.closeInto]; repeat' split
  all_goals simp

@[simp] theorem State.closeInto_pc (s : State) (l : Lift) (b : Book) :
    (s.closeInto l b).pc = s.pc := by
  simp only [State.closeInto]; repeat' split
  all_goals simp

@[simp] theorem State.closeInto_tcu (s : State) (l : Lift) (b : Book) :
    (s.closeInto l b).tcu = s.tcu := by
  simp only [State.closeInto]; repeat' split
  all_goals simp

@[simp] theorem State.overrun_pending (s : State) (l : Lift) :
    (s.overrun l).pending = s.pending := by
  simp only [State.overrun]; repeat' split
  all_goals simp

@[simp] theorem State.overrun_time (s : State) (l : Lift) :
    (s.overrun l).time = s.time := by
  simp only [State.overrun]; repeat' split
  all_goals simp

@[simp] theorem State.overrun_encoder (s : State) (l : Lift) :
    (s.overrun l).encoder = s.encoder := by
  simp only [State.overrun]; repeat' split
  all_goals simp

@[simp] theorem State.overrun_travelOwed (s : State) (l : Lift) :
    (s.overrun l).travelOwed = s.travelOwed := by
  simp only [State.overrun]; repeat' split
  all_goals simp

@[simp] theorem State.overrun_free (s : State) (l : Lift) :
    (s.overrun l).free = s.free := by
  simp only [State.overrun]; repeat' split
  all_goals simp

@[simp] theorem State.overrun_inputs (s : State) (l : Lift) :
    (s.overrun l).inputs = s.inputs := by
  simp only [State.overrun]; repeat' split
  all_goals simp

@[simp] theorem State.overrun_resetAsserted (s : State) (l : Lift) :
    (s.overrun l).resetAsserted = s.resetAsserted := by
  simp only [State.overrun]; repeat' split
  all_goals simp

@[simp] theorem State.overrun_ts (s : State) (l : Lift) :
    (s.overrun l).ts = s.ts := by
  simp only [State.overrun]; repeat' split
  all_goals simp

@[simp] theorem State.overrun_ss (s : State) (l : Lift) :
    (s.overrun l).ss = s.ss := by
  simp only [State.overrun]; repeat' split
  all_goals simp

@[simp] theorem State.overrun_pc (s : State) (l : Lift) :
    (s.overrun l).pc = s.pc := by
  simp only [State.overrun]; repeat' split
  all_goals simp

@[simp] theorem State.overrun_tcu (s : State) (l : Lift) :
    (s.overrun l).tcu = s.tcu := by
  simp only [State.overrun]; repeat' split
  all_goals simp

@[simp] theorem State.closeLift_pending (s : State) :
    (s.closeLift).pending = s.pending := by
  simp only [State.closeLift]; repeat' split
  all_goals simp

@[simp] theorem State.closeLift_time (s : State) :
    (s.closeLift).time = s.time := by
  simp only [State.closeLift]; repeat' split
  all_goals simp

@[simp] theorem State.closeLift_encoder (s : State) :
    (s.closeLift).encoder = s.encoder := by
  simp only [State.closeLift]; repeat' split
  all_goals simp

@[simp] theorem State.closeLift_travelOwed (s : State) :
    (s.closeLift).travelOwed = s.travelOwed := by
  simp only [State.closeLift]; repeat' split
  all_goals simp

@[simp] theorem State.closeLift_free (s : State) :
    (s.closeLift).free = s.free := by
  simp only [State.closeLift]; repeat' split
  all_goals simp

@[simp] theorem State.closeLift_inputs (s : State) :
    (s.closeLift).inputs = s.inputs := by
  simp only [State.closeLift]; repeat' split
  all_goals simp

@[simp] theorem State.closeLift_resetAsserted (s : State) :
    (s.closeLift).resetAsserted = s.resetAsserted := by
  simp only [State.closeLift]; repeat' split
  all_goals simp

@[simp] theorem State.closeLift_ss (s : State) :
    (s.closeLift).ss = s.ss := by
  simp only [State.closeLift]; repeat' split
  all_goals simp

@[simp] theorem State.closeLift_pc (s : State) :
    (s.closeLift).pc = s.pc := by
  simp only [State.closeLift]; repeat' split
  all_goals simp

@[simp] theorem State.closeLift_tcu (s : State) :
    (s.closeLift).tcu = s.tcu := by
  simp only [State.closeLift]; repeat' split
  all_goals simp

@[simp] theorem State.endCollection_pending (s : State) (i : Slot) :
    (s.endCollection i).pending = s.pending := by
  simp only [State.endCollection]; repeat' split
  all_goals simp

@[simp] theorem State.endCollection_time (s : State) (i : Slot) :
    (s.endCollection i).time = s.time := by
  simp only [State.endCollection]; repeat' split
  all_goals simp

@[simp] theorem State.endCollection_encoder (s : State) (i : Slot) :
    (s.endCollection i).encoder = s.encoder := by
  simp only [State.endCollection]; repeat' split
  all_goals simp

@[simp] theorem State.endCollection_travelOwed (s : State) (i : Slot) :
    (s.endCollection i).travelOwed = s.travelOwed := by
  simp only [State.endCollection]; repeat' split
  all_goals simp

@[simp] theorem State.endCollection_free (s : State) (i : Slot) :
    (s.endCollection i).free = s.free := by
  simp only [State.endCollection]; repeat' split
  all_goals simp

@[simp] theorem State.endCollection_inputs (s : State) (i : Slot) :
    (s.endCollection i).inputs = s.inputs := by
  simp only [State.endCollection]; repeat' split
  all_goals simp

@[simp] theorem State.endCollection_resetAsserted (s : State) (i : Slot) :
    (s.endCollection i).resetAsserted = s.resetAsserted := by
  simp only [State.endCollection]; repeat' split
  all_goals simp

@[simp] theorem State.endCollection_pc (s : State) (i : Slot) :
    (s.endCollection i).pc = s.pc := by
  simp only [State.endCollection]; repeat' split
  all_goals simp

@[simp] theorem State.endCollection_tcu (s : State) (i : Slot) :
    (s.endCollection i).tcu = s.tcu := by
  simp only [State.endCollection]; repeat' split
  all_goals simp

@[simp] theorem State.decline_pending (s : State) (x : Sheet) :
    (s.decline x).pending = s.pending := by
  simp only [State.decline]; repeat' split
  all_goals simp

@[simp] theorem State.decline_time (s : State) (x : Sheet) :
    (s.decline x).time = s.time := by
  simp only [State.decline]; repeat' split
  all_goals simp

@[simp] theorem State.decline_encoder (s : State) (x : Sheet) :
    (s.decline x).encoder = s.encoder := by
  simp only [State.decline]; repeat' split
  all_goals simp

@[simp] theorem State.decline_travelOwed (s : State) (x : Sheet) :
    (s.decline x).travelOwed = s.travelOwed := by
  simp only [State.decline]; repeat' split
  all_goals simp

@[simp] theorem State.decline_free (s : State) (x : Sheet) :
    (s.decline x).free = s.free := by
  simp only [State.decline]; repeat' split
  all_goals simp

@[simp] theorem State.decline_inputs (s : State) (x : Sheet) :
    (s.decline x).inputs = s.inputs := by
  simp only [State.decline]; repeat' split
  all_goals simp

@[simp] theorem State.decline_resetAsserted (s : State) (x : Sheet) :
    (s.decline x).resetAsserted = s.resetAsserted := by
  simp only [State.decline]; repeat' split
  all_goals simp

@[simp] theorem State.decline_pc (s : State) (x : Sheet) :
    (s.decline x).pc = s.pc := by
  simp only [State.decline]; repeat' split
  all_goals simp

@[simp] theorem State.decline_tcu (s : State) (x : Sheet) :
    (s.decline x).tcu = s.tcu := by
  simp only [State.decline]; repeat' split
  all_goals simp

@[simp] theorem State.joinSheet_pending (s : State) (x : Sheet) (f : Format) :
    (s.joinSheet x f).pending = s.pending := by
  simp only [State.joinSheet]; repeat' split
  all_goals simp

@[simp] theorem State.joinSheet_time (s : State) (x : Sheet) (f : Format) :
    (s.joinSheet x f).time = s.time := by
  simp only [State.joinSheet]; repeat' split
  all_goals simp

@[simp] theorem State.joinSheet_encoder (s : State) (x : Sheet) (f : Format) :
    (s.joinSheet x f).encoder = s.encoder := by
  simp only [State.joinSheet]; repeat' split
  all_goals simp

@[simp] theorem State.joinSheet_travelOwed (s : State) (x : Sheet) (f : Format) :
    (s.joinSheet x f).travelOwed = s.travelOwed := by
  simp only [State.joinSheet]; repeat' split
  all_goals simp

@[simp] theorem State.joinSheet_free (s : State) (x : Sheet) (f : Format) :
    (s.joinSheet x f).free = s.free := by
  simp only [State.joinSheet]; repeat' split
  all_goals simp

@[simp] theorem State.joinSheet_inputs (s : State) (x : Sheet) (f : Format) :
    (s.joinSheet x f).inputs = s.inputs := by
  simp only [State.joinSheet]; repeat' split
  all_goals simp

@[simp] theorem State.joinSheet_resetAsserted (s : State) (x : Sheet) (f : Format) :
    (s.joinSheet x f).resetAsserted = s.resetAsserted := by
  simp only [State.joinSheet]; repeat' split
  all_goals simp

@[simp] theorem State.joinSheet_ts (s : State) (x : Sheet) (f : Format) :
    (s.joinSheet x f).ts = s.ts := by
  simp only [State.joinSheet]; repeat' split
  all_goals simp

@[simp] theorem State.joinSheet_ss (s : State) (x : Sheet) (f : Format) :
    (s.joinSheet x f).ss = s.ss := by
  simp only [State.joinSheet]; repeat' split
  all_goals simp

@[simp] theorem State.joinSheet_orders (s : State) (x : Sheet) (f : Format) :
    (s.joinSheet x f).orders = s.orders := by
  simp only [State.joinSheet]; repeat' split
  all_goals simp

@[simp] theorem State.joinSheet_pc (s : State) (x : Sheet) (f : Format) :
    (s.joinSheet x f).pc = s.pc := by
  simp only [State.joinSheet]; repeat' split
  all_goals simp

@[simp] theorem State.joinSheet_tcu (s : State) (x : Sheet) (f : Format) :
    (s.joinSheet x f).tcu = s.tcu := by
  simp only [State.joinSheet]; repeat' split
  all_goals simp

@[simp] theorem State.joinSheet_fu (s : State) (x : Sheet) (f : Format) :
    (s.joinSheet x f).fu = s.fu := by
  simp only [State.joinSheet]; repeat' split
  all_goals simp

@[simp] theorem State.testClamp_pending (s : State) :
    (s.testClamp).pending = s.pending := by
  simp only [State.testClamp]; repeat' split
  all_goals simp

@[simp] theorem State.testClamp_time (s : State) :
    (s.testClamp).time = s.time := by
  simp only [State.testClamp]; repeat' split
  all_goals simp

@[simp] theorem State.testClamp_encoder (s : State) :
    (s.testClamp).encoder = s.encoder := by
  simp only [State.testClamp]; repeat' split
  all_goals simp

@[simp] theorem State.testClamp_travelOwed (s : State) :
    (s.testClamp).travelOwed = s.travelOwed := by
  simp only [State.testClamp]; repeat' split
  all_goals simp

@[simp] theorem State.testClamp_free (s : State) :
    (s.testClamp).free = s.free := by
  simp only [State.testClamp]; repeat' split
  all_goals simp

@[simp] theorem State.testClamp_inputs (s : State) :
    (s.testClamp).inputs = s.inputs := by
  simp only [State.testClamp]; repeat' split
  all_goals simp

@[simp] theorem State.testClamp_resetAsserted (s : State) :
    (s.testClamp).resetAsserted = s.resetAsserted := by
  simp only [State.testClamp]; repeat' split
  all_goals simp

@[simp] theorem State.testClamp_lp (s : State) :
    (s.testClamp).lp = s.lp := by
  simp only [State.testClamp]; repeat' split
  all_goals simp

@[simp] theorem State.testClamp_si (s : State) :
    (s.testClamp).si = s.si := by
  simp only [State.testClamp]; repeat' split
  all_goals simp

@[simp] theorem State.testClamp_lb (s : State) :
    (s.testClamp).lb = s.lb := by
  simp only [State.testClamp]; repeat' split
  all_goals simp

@[simp] theorem State.testClamp_ts (s : State) :
    (s.testClamp).ts = s.ts := by
  simp only [State.testClamp]; repeat' split
  all_goals simp

@[simp] theorem State.testClamp_ss (s : State) :
    (s.testClamp).ss = s.ss := by
  simp only [State.testClamp]; repeat' split
  all_goals simp

@[simp] theorem State.testClamp_orders (s : State) :
    (s.testClamp).orders = s.orders := by
  simp only [State.testClamp]; repeat' split
  all_goals simp

@[simp] theorem State.testClamp_pc (s : State) :
    (s.testClamp).pc = s.pc := by
  simp only [State.testClamp]; repeat' split
  all_goals simp

@[simp] theorem State.testClamp_fu (s : State) :
    (s.testClamp).fu = s.fu := by
  simp only [State.testClamp]; repeat' split
  all_goals simp

@[simp] theorem State.testClamp_lm (s : State) :
    (s.testClamp).lm = s.lm := by
  simp only [State.testClamp]; repeat' split
  all_goals simp

@[simp] theorem State.testClamp_lsv (s : State) :
    (s.testClamp).lsv = s.lsv := by
  simp only [State.testClamp]; repeat' split
  all_goals simp

@[simp] theorem State.releaseLift_pending (s : State) :
    (s.releaseLift).pending = s.pending := by
  simp only [State.releaseLift]; repeat' split
  all_goals simp

@[simp] theorem State.releaseLift_time (s : State) :
    (s.releaseLift).time = s.time := by
  simp only [State.releaseLift]; repeat' split
  all_goals simp

@[simp] theorem State.releaseLift_encoder (s : State) :
    (s.releaseLift).encoder = s.encoder := by
  simp only [State.releaseLift]; repeat' split
  all_goals simp

@[simp] theorem State.releaseLift_travelOwed (s : State) :
    (s.releaseLift).travelOwed = s.travelOwed := by
  simp only [State.releaseLift]; repeat' split
  all_goals simp

@[simp] theorem State.releaseLift_free (s : State) :
    (s.releaseLift).free = s.free := by
  simp only [State.releaseLift]; repeat' split
  all_goals simp

@[simp] theorem State.releaseLift_inputs (s : State) :
    (s.releaseLift).inputs = s.inputs := by
  simp only [State.releaseLift]; repeat' split
  all_goals simp

@[simp] theorem State.releaseLift_resetAsserted (s : State) :
    (s.releaseLift).resetAsserted = s.resetAsserted := by
  simp only [State.releaseLift]; repeat' split
  all_goals simp

@[simp] theorem State.releaseLift_lp (s : State) :
    (s.releaseLift).lp = s.lp := by
  simp only [State.releaseLift]; repeat' split
  all_goals simp

@[simp] theorem State.releaseLift_si (s : State) :
    (s.releaseLift).si = s.si := by
  simp only [State.releaseLift]; repeat' split
  all_goals simp

@[simp] theorem State.releaseLift_lb (s : State) :
    (s.releaseLift).lb = s.lb := by
  simp only [State.releaseLift]; repeat' split
  all_goals simp

@[simp] theorem State.releaseLift_ts (s : State) :
    (s.releaseLift).ts = s.ts := by
  simp only [State.releaseLift]; repeat' split
  all_goals simp

@[simp] theorem State.releaseLift_orders (s : State) :
    (s.releaseLift).orders = s.orders := by
  simp only [State.releaseLift]; repeat' split
  all_goals simp

@[simp] theorem State.releaseLift_pc (s : State) :
    (s.releaseLift).pc = s.pc := by
  simp only [State.releaseLift]; repeat' split
  all_goals simp

@[simp] theorem State.releaseLift_fu (s : State) :
    (s.releaseLift).fu = s.fu := by
  simp only [State.releaseLift]; repeat' split
  all_goals simp

@[simp] theorem State.releaseLift_lm (s : State) :
    (s.releaseLift).lm = s.lm := by
  simp only [State.releaseLift]; repeat' split
  all_goals simp

@[simp] theorem State.releaseLift_lsv (s : State) :
    (s.releaseLift).lsv = s.lsv := by
  simp only [State.releaseLift]; repeat' split
  all_goals simp

@[simp] theorem State.clampOpened_pending (s : State) :
    (s.clampOpened).pending = s.pending := by
  simp only [State.clampOpened]; repeat' split
  all_goals simp

@[simp] theorem State.clampOpened_time (s : State) :
    (s.clampOpened).time = s.time := by
  simp only [State.clampOpened]; repeat' split
  all_goals simp

@[simp] theorem State.clampOpened_encoder (s : State) :
    (s.clampOpened).encoder = s.encoder := by
  simp only [State.clampOpened]; repeat' split
  all_goals simp

@[simp] theorem State.clampOpened_travelOwed (s : State) :
    (s.clampOpened).travelOwed = s.travelOwed := by
  simp only [State.clampOpened]; repeat' split
  all_goals simp

@[simp] theorem State.clampOpened_free (s : State) :
    (s.clampOpened).free = s.free := by
  simp only [State.clampOpened]; repeat' split
  all_goals simp

@[simp] theorem State.clampOpened_inputs (s : State) :
    (s.clampOpened).inputs = s.inputs := by
  simp only [State.clampOpened]; repeat' split
  all_goals simp

@[simp] theorem State.clampOpened_resetAsserted (s : State) :
    (s.clampOpened).resetAsserted = s.resetAsserted := by
  simp only [State.clampOpened]; repeat' split
  all_goals simp

@[simp] theorem State.clampOpened_lp (s : State) :
    (s.clampOpened).lp = s.lp := by
  simp only [State.clampOpened]; repeat' split
  all_goals simp

@[simp] theorem State.clampOpened_si (s : State) :
    (s.clampOpened).si = s.si := by
  simp only [State.clampOpened]; repeat' split
  all_goals simp

@[simp] theorem State.clampOpened_lb (s : State) :
    (s.clampOpened).lb = s.lb := by
  simp only [State.clampOpened]; repeat' split
  all_goals simp

@[simp] theorem State.clampOpened_ts (s : State) :
    (s.clampOpened).ts = s.ts := by
  simp only [State.clampOpened]; repeat' split
  all_goals simp

@[simp] theorem State.clampOpened_orders (s : State) :
    (s.clampOpened).orders = s.orders := by
  simp only [State.clampOpened]; repeat' split
  all_goals simp

@[simp] theorem State.clampOpened_pc (s : State) :
    (s.clampOpened).pc = s.pc := by
  simp only [State.clampOpened]; repeat' split
  all_goals simp

@[simp] theorem State.clampOpened_tcu (s : State) :
    (s.clampOpened).tcu = s.tcu := by
  simp only [State.clampOpened]; repeat' split
  all_goals simp

@[simp] theorem State.clampOpened_fu (s : State) :
    (s.clampOpened).fu = s.fu := by
  simp only [State.clampOpened]; repeat' split
  all_goals simp

@[simp] theorem State.clampOpened_lm (s : State) :
    (s.clampOpened).lm = s.lm := by
  simp only [State.clampOpened]; repeat' split
  all_goals simp

@[simp] theorem State.clampOpened_lsv (s : State) :
    (s.clampOpened).lsv = s.lsv := by
  simp only [State.clampOpened]; repeat' split
  all_goals simp

@[simp] theorem State.planLift_pending (s : State) (b : Bed) :
    (s.planLift b).pending = s.pending := by
  simp only [State.planLift]; repeat' split
  all_goals simp

@[simp] theorem State.planLift_time (s : State) (b : Bed) :
    (s.planLift b).time = s.time := by
  simp only [State.planLift]; repeat' split
  all_goals simp

@[simp] theorem State.planLift_encoder (s : State) (b : Bed) :
    (s.planLift b).encoder = s.encoder := by
  simp only [State.planLift]; repeat' split
  all_goals simp

@[simp] theorem State.planLift_travelOwed (s : State) (b : Bed) :
    (s.planLift b).travelOwed = s.travelOwed := by
  simp only [State.planLift]; repeat' split
  all_goals simp

@[simp] theorem State.planLift_free (s : State) (b : Bed) :
    (s.planLift b).free = s.free := by
  simp only [State.planLift]; repeat' split
  all_goals simp

@[simp] theorem State.planLift_inputs (s : State) (b : Bed) :
    (s.planLift b).inputs = s.inputs := by
  simp only [State.planLift]; repeat' split
  all_goals simp

@[simp] theorem State.planLift_resetAsserted (s : State) (b : Bed) :
    (s.planLift b).resetAsserted = s.resetAsserted := by
  simp only [State.planLift]; repeat' split
  all_goals simp

@[simp] theorem State.planLift_lb (s : State) (b : Bed) :
    (s.planLift b).lb = s.lb := by
  simp only [State.planLift]; repeat' split
  all_goals simp

@[simp] theorem State.planLift_ts (s : State) (b : Bed) :
    (s.planLift b).ts = s.ts := by
  simp only [State.planLift]; repeat' split
  all_goals simp

@[simp] theorem State.planLift_pc (s : State) (b : Bed) :
    (s.planLift b).pc = s.pc := by
  simp only [State.planLift]; repeat' split
  all_goals simp

@[simp] theorem State.planLift_tcu (s : State) (b : Bed) :
    (s.planLift b).tcu = s.tcu := by
  simp only [State.planLift]; repeat' split
  all_goals simp

@[simp] theorem State.cutDisabled_pending (s : State) :
    (s.cutDisabled).pending = s.pending := by
  simp only [State.cutDisabled]; repeat' split
  all_goals simp

@[simp] theorem State.cutDisabled_time (s : State) :
    (s.cutDisabled).time = s.time := by
  simp only [State.cutDisabled]; repeat' split
  all_goals simp

@[simp] theorem State.cutDisabled_encoder (s : State) :
    (s.cutDisabled).encoder = s.encoder := by
  simp only [State.cutDisabled]; repeat' split
  all_goals simp

@[simp] theorem State.cutDisabled_travelOwed (s : State) :
    (s.cutDisabled).travelOwed = s.travelOwed := by
  simp only [State.cutDisabled]; repeat' split
  all_goals simp

@[simp] theorem State.cutDisabled_free (s : State) :
    (s.cutDisabled).free = s.free := by
  simp only [State.cutDisabled]; repeat' split
  all_goals simp

@[simp] theorem State.cutDisabled_inputs (s : State) :
    (s.cutDisabled).inputs = s.inputs := by
  simp only [State.cutDisabled]; repeat' split
  all_goals simp

@[simp] theorem State.cutDisabled_resetAsserted (s : State) :
    (s.cutDisabled).resetAsserted = s.resetAsserted := by
  simp only [State.cutDisabled]; repeat' split
  all_goals simp

@[simp] theorem State.cutDisabled_lb (s : State) :
    (s.cutDisabled).lb = s.lb := by
  simp only [State.cutDisabled]; repeat' split
  all_goals simp

@[simp] theorem State.cutDisabled_ts (s : State) :
    (s.cutDisabled).ts = s.ts := by
  simp only [State.cutDisabled]; repeat' split
  all_goals simp

@[simp] theorem State.cutDisabled_pc (s : State) :
    (s.cutDisabled).pc = s.pc := by
  simp only [State.cutDisabled]; repeat' split
  all_goals simp

@[simp] theorem State.stopPurges_pending (s : State) :
    (s.stopPurges).pending = s.pending := by
  simp only [State.stopPurges]; repeat' split
  all_goals simp

@[simp] theorem State.stopPurges_time (s : State) :
    (s.stopPurges).time = s.time := by
  simp only [State.stopPurges]; repeat' split
  all_goals simp

@[simp] theorem State.stopPurges_encoder (s : State) :
    (s.stopPurges).encoder = s.encoder := by
  simp only [State.stopPurges]; repeat' split
  all_goals simp

@[simp] theorem State.stopPurges_travelOwed (s : State) :
    (s.stopPurges).travelOwed = s.travelOwed := by
  simp only [State.stopPurges]; repeat' split
  all_goals simp

@[simp] theorem State.stopPurges_free (s : State) :
    (s.stopPurges).free = s.free := by
  simp only [State.stopPurges]; repeat' split
  all_goals simp

@[simp] theorem State.stopPurges_inputs (s : State) :
    (s.stopPurges).inputs = s.inputs := by
  simp only [State.stopPurges]; repeat' split
  all_goals simp

@[simp] theorem State.stopPurges_resetAsserted (s : State) :
    (s.stopPurges).resetAsserted = s.resetAsserted := by
  simp only [State.stopPurges]; repeat' split
  all_goals simp

@[simp] theorem State.stopPurges_lb (s : State) :
    (s.stopPurges).lb = s.lb := by
  simp only [State.stopPurges]; repeat' split
  all_goals simp

@[simp] theorem State.stopPurges_ts (s : State) :
    (s.stopPurges).ts = s.ts := by
  simp only [State.stopPurges]; repeat' split
  all_goals simp

@[simp] theorem State.beginStrike_pending (s : State) (d : DriveId) :
    (s.beginStrike d).pending = s.pending := by
  simp only [State.beginStrike]; repeat' split
  all_goals simp

@[simp] theorem State.beginStrike_time (s : State) (d : DriveId) :
    (s.beginStrike d).time = s.time := by
  simp only [State.beginStrike]; repeat' split
  all_goals simp

@[simp] theorem State.beginStrike_encoder (s : State) (d : DriveId) :
    (s.beginStrike d).encoder = s.encoder := by
  simp only [State.beginStrike]; repeat' split
  all_goals simp

@[simp] theorem State.beginStrike_travelOwed (s : State) (d : DriveId) :
    (s.beginStrike d).travelOwed = s.travelOwed := by
  simp only [State.beginStrike]; repeat' split
  all_goals simp

@[simp] theorem State.beginStrike_free (s : State) (d : DriveId) :
    (s.beginStrike d).free = s.free := by
  simp only [State.beginStrike]; repeat' split
  all_goals simp

@[simp] theorem State.beginStrike_inputs (s : State) (d : DriveId) :
    (s.beginStrike d).inputs = s.inputs := by
  simp only [State.beginStrike]; repeat' split
  all_goals simp

@[simp] theorem State.beginStrike_resetAsserted (s : State) (d : DriveId) :
    (s.beginStrike d).resetAsserted = s.resetAsserted := by
  simp only [State.beginStrike]; repeat' split
  all_goals simp

@[simp] theorem State.beginStrike_si (s : State) (d : DriveId) :
    (s.beginStrike d).si = s.si := by
  simp only [State.beginStrike]; repeat' split
  all_goals simp

@[simp] theorem State.beginStrike_lb (s : State) (d : DriveId) :
    (s.beginStrike d).lb = s.lb := by
  simp only [State.beginStrike]; repeat' split
  all_goals simp

@[simp] theorem State.beginStrike_ts (s : State) (d : DriveId) :
    (s.beginStrike d).ts = s.ts := by
  simp only [State.beginStrike]; repeat' split
  all_goals simp

@[simp] theorem State.beginStrike_orders (s : State) (d : DriveId) :
    (s.beginStrike d).orders = s.orders := by
  simp only [State.beginStrike]; repeat' split
  all_goals simp

@[simp] theorem State.beginStrike_pc (s : State) (d : DriveId) :
    (s.beginStrike d).pc = s.pc := by
  simp only [State.beginStrike]; repeat' split
  all_goals simp

@[simp] theorem State.beginStrike_fu (s : State) (d : DriveId) :
    (s.beginStrike d).fu = s.fu := by
  simp only [State.beginStrike]; repeat' split
  all_goals simp

@[simp] theorem State.beginStrike_lsv (s : State) (d : DriveId) :
    (s.beginStrike d).lsv = s.lsv := by
  simp only [State.beginStrike]; repeat' split
  all_goals simp

@[simp] theorem State.completeStrike_pending (s : State) (d : DriveId) :
    (s.completeStrike d).pending = s.pending := by
  simp only [State.completeStrike]; repeat' split
  all_goals simp

@[simp] theorem State.completeStrike_time (s : State) (d : DriveId) :
    (s.completeStrike d).time = s.time := by
  simp only [State.completeStrike]; repeat' split
  all_goals simp

@[simp] theorem State.completeStrike_encoder (s : State) (d : DriveId) :
    (s.completeStrike d).encoder = s.encoder := by
  simp only [State.completeStrike]; repeat' split
  all_goals simp

@[simp] theorem State.completeStrike_travelOwed (s : State) (d : DriveId) :
    (s.completeStrike d).travelOwed = s.travelOwed := by
  simp only [State.completeStrike]; repeat' split
  all_goals simp

@[simp] theorem State.completeStrike_free (s : State) (d : DriveId) :
    (s.completeStrike d).free = s.free := by
  simp only [State.completeStrike]; repeat' split
  all_goals simp

@[simp] theorem State.completeStrike_inputs (s : State) (d : DriveId) :
    (s.completeStrike d).inputs = s.inputs := by
  simp only [State.completeStrike]; repeat' split
  all_goals simp

@[simp] theorem State.completeStrike_resetAsserted (s : State) (d : DriveId) :
    (s.completeStrike d).resetAsserted = s.resetAsserted := by
  simp only [State.completeStrike]; repeat' split
  all_goals simp

@[simp] theorem State.completeStrike_si (s : State) (d : DriveId) :
    (s.completeStrike d).si = s.si := by
  simp only [State.completeStrike]; repeat' split
  all_goals simp

@[simp] theorem State.completeStrike_lb (s : State) (d : DriveId) :
    (s.completeStrike d).lb = s.lb := by
  simp only [State.completeStrike]; repeat' split
  all_goals simp

@[simp] theorem State.completeStrike_ts (s : State) (d : DriveId) :
    (s.completeStrike d).ts = s.ts := by
  simp only [State.completeStrike]; repeat' split
  all_goals simp

@[simp] theorem State.completeStrike_orders (s : State) (d : DriveId) :
    (s.completeStrike d).orders = s.orders := by
  simp only [State.completeStrike]; repeat' split
  all_goals simp

@[simp] theorem State.completeStrike_pc (s : State) (d : DriveId) :
    (s.completeStrike d).pc = s.pc := by
  simp only [State.completeStrike]; repeat' split
  all_goals simp

@[simp] theorem State.completeStrike_fu (s : State) (d : DriveId) :
    (s.completeStrike d).fu = s.fu := by
  simp only [State.completeStrike]; repeat' split
  all_goals simp

@[simp] theorem State.completeStrike_lsv (s : State) (d : DriveId) :
    (s.completeStrike d).lsv = s.lsv := by
  simp only [State.completeStrike]; repeat' split
  all_goals simp

@[simp] theorem State.strobeEnded_pending (s : State) (d : DriveId) :
    (s.strobeEnded d).pending = s.pending := by
  simp only [State.strobeEnded]; repeat' split
  all_goals simp

@[simp] theorem State.strobeEnded_time (s : State) (d : DriveId) :
    (s.strobeEnded d).time = s.time := by
  simp only [State.strobeEnded]; repeat' split
  all_goals simp

@[simp] theorem State.strobeEnded_encoder (s : State) (d : DriveId) :
    (s.strobeEnded d).encoder = s.encoder := by
  simp only [State.strobeEnded]; repeat' split
  all_goals simp

@[simp] theorem State.strobeEnded_travelOwed (s : State) (d : DriveId) :
    (s.strobeEnded d).travelOwed = s.travelOwed := by
  simp only [State.strobeEnded]; repeat' split
  all_goals simp

@[simp] theorem State.strobeEnded_free (s : State) (d : DriveId) :
    (s.strobeEnded d).free = s.free := by
  simp only [State.strobeEnded]; repeat' split
  all_goals simp

@[simp] theorem State.strobeEnded_inputs (s : State) (d : DriveId) :
    (s.strobeEnded d).inputs = s.inputs := by
  simp only [State.strobeEnded]; repeat' split
  all_goals simp

@[simp] theorem State.strobeEnded_resetAsserted (s : State) (d : DriveId) :
    (s.strobeEnded d).resetAsserted = s.resetAsserted := by
  simp only [State.strobeEnded]; repeat' split
  all_goals simp

@[simp] theorem State.strobeEnded_si (s : State) (d : DriveId) :
    (s.strobeEnded d).si = s.si := by
  simp only [State.strobeEnded]; repeat' split
  all_goals simp

@[simp] theorem State.strobeEnded_lb (s : State) (d : DriveId) :
    (s.strobeEnded d).lb = s.lb := by
  simp only [State.strobeEnded]; repeat' split
  all_goals simp

@[simp] theorem State.strobeEnded_ts (s : State) (d : DriveId) :
    (s.strobeEnded d).ts = s.ts := by
  simp only [State.strobeEnded]; repeat' split
  all_goals simp

@[simp] theorem State.strobeEnded_orders (s : State) (d : DriveId) :
    (s.strobeEnded d).orders = s.orders := by
  simp only [State.strobeEnded]; repeat' split
  all_goals simp

@[simp] theorem State.strobeEnded_pc (s : State) (d : DriveId) :
    (s.strobeEnded d).pc = s.pc := by
  simp only [State.strobeEnded]; repeat' split
  all_goals simp

@[simp] theorem State.strobeEnded_fu (s : State) (d : DriveId) :
    (s.strobeEnded d).fu = s.fu := by
  simp only [State.strobeEnded]; repeat' split
  all_goals simp

@[simp] theorem State.strobeEnded_lsv (s : State) (d : DriveId) :
    (s.strobeEnded d).lsv = s.lsv := by
  simp only [State.strobeEnded]; repeat' split
  all_goals simp

@[simp] theorem State.strokeDone_pending (s : State) (d : DriveId) :
    (s.strokeDone d).pending = s.pending := by
  simp only [State.strokeDone]; repeat' split
  all_goals simp

@[simp] theorem State.strokeDone_time (s : State) (d : DriveId) :
    (s.strokeDone d).time = s.time := by
  simp only [State.strokeDone]; repeat' split
  all_goals simp

@[simp] theorem State.strokeDone_encoder (s : State) (d : DriveId) :
    (s.strokeDone d).encoder = s.encoder := by
  simp only [State.strokeDone]; repeat' split
  all_goals simp

@[simp] theorem State.strokeDone_travelOwed (s : State) (d : DriveId) :
    (s.strokeDone d).travelOwed = s.travelOwed := by
  simp only [State.strokeDone]; repeat' split
  all_goals simp

@[simp] theorem State.strokeDone_free (s : State) (d : DriveId) :
    (s.strokeDone d).free = s.free := by
  simp only [State.strokeDone]; repeat' split
  all_goals simp

@[simp] theorem State.strokeDone_inputs (s : State) (d : DriveId) :
    (s.strokeDone d).inputs = s.inputs := by
  simp only [State.strokeDone]; repeat' split
  all_goals simp

@[simp] theorem State.strokeDone_resetAsserted (s : State) (d : DriveId) :
    (s.strokeDone d).resetAsserted = s.resetAsserted := by
  simp only [State.strokeDone]; repeat' split
  all_goals simp

@[simp] theorem State.strokeDone_si (s : State) (d : DriveId) :
    (s.strokeDone d).si = s.si := by
  simp only [State.strokeDone]; repeat' split
  all_goals simp

@[simp] theorem State.strokeDone_lb (s : State) (d : DriveId) :
    (s.strokeDone d).lb = s.lb := by
  simp only [State.strokeDone]; repeat' split
  all_goals simp

@[simp] theorem State.strokeDone_ts (s : State) (d : DriveId) :
    (s.strokeDone d).ts = s.ts := by
  simp only [State.strokeDone]; repeat' split
  all_goals simp

@[simp] theorem State.strokeDone_orders (s : State) (d : DriveId) :
    (s.strokeDone d).orders = s.orders := by
  simp only [State.strokeDone]; repeat' split
  all_goals simp

@[simp] theorem State.strokeDone_pc (s : State) (d : DriveId) :
    (s.strokeDone d).pc = s.pc := by
  simp only [State.strokeDone]; repeat' split
  all_goals simp

@[simp] theorem State.strokeDone_fu (s : State) (d : DriveId) :
    (s.strokeDone d).fu = s.fu := by
  simp only [State.strokeDone]; repeat' split
  all_goals simp

@[simp] theorem State.strokeDone_lsv (s : State) (d : DriveId) :
    (s.strokeDone d).lsv = s.lsv := by
  simp only [State.strokeDone]; repeat' split
  all_goals simp

@[simp] theorem State.takeOldestLift_pending (s : State) :
    (s.takeOldestLift).pending = s.pending := by
  simp only [State.takeOldestLift]; repeat' split
  all_goals simp

@[simp] theorem State.takeOldestLift_time (s : State) :
    (s.takeOldestLift).time = s.time := by
  simp only [State.takeOldestLift]; repeat' split
  all_goals simp

@[simp] theorem State.takeOldestLift_encoder (s : State) :
    (s.takeOldestLift).encoder = s.encoder := by
  simp only [State.takeOldestLift]; repeat' split
  all_goals simp

@[simp] theorem State.takeOldestLift_travelOwed (s : State) :
    (s.takeOldestLift).travelOwed = s.travelOwed := by
  simp only [State.takeOldestLift]; repeat' split
  all_goals simp

@[simp] theorem State.takeOldestLift_free (s : State) :
    (s.takeOldestLift).free = s.free := by
  simp only [State.takeOldestLift]; repeat' split
  all_goals simp

@[simp] theorem State.takeOldestLift_inputs (s : State) :
    (s.takeOldestLift).inputs = s.inputs := by
  simp only [State.takeOldestLift]; repeat' split
  all_goals simp

@[simp] theorem State.takeOldestLift_resetAsserted (s : State) :
    (s.takeOldestLift).resetAsserted = s.resetAsserted := by
  simp only [State.takeOldestLift]; repeat' split
  all_goals simp

@[simp] theorem State.takeOldestLift_pc (s : State) :
    (s.takeOldestLift).pc = s.pc := by
  simp only [State.takeOldestLift]; repeat' split
  all_goals simp

@[simp] theorem State.takeOldestLift_tcu (s : State) :
    (s.takeOldestLift).tcu = s.tcu := by
  simp only [State.takeOldestLift]; repeat' split
  all_goals simp

@[simp] theorem State.arriveOnBed_pending (s : State) (b : Bed) :
    (s.arriveOnBed b).pending = s.pending := by
  simp only [State.arriveOnBed]; repeat' split
  all_goals simp

@[simp] theorem State.arriveOnBed_time (s : State) (b : Bed) :
    (s.arriveOnBed b).time = s.time := by
  simp only [State.arriveOnBed]; repeat' split
  all_goals simp

@[simp] theorem State.arriveOnBed_encoder (s : State) (b : Bed) :
    (s.arriveOnBed b).encoder = s.encoder := by
  simp only [State.arriveOnBed]; repeat' split
  all_goals simp

@[simp] theorem State.arriveOnBed_travelOwed (s : State) (b : Bed) :
    (s.arriveOnBed b).travelOwed = s.travelOwed := by
  simp only [State.arriveOnBed]; repeat' split
  all_goals simp

@[simp] theorem State.arriveOnBed_free (s : State) (b : Bed) :
    (s.arriveOnBed b).free = s.free := by
  simp only [State.arriveOnBed]; repeat' split
  all_goals simp

@[simp] theorem State.arriveOnBed_inputs (s : State) (b : Bed) :
    (s.arriveOnBed b).inputs = s.inputs := by
  simp only [State.arriveOnBed]; repeat' split
  all_goals simp

@[simp] theorem State.arriveOnBed_resetAsserted (s : State) (b : Bed) :
    (s.arriveOnBed b).resetAsserted = s.resetAsserted := by
  simp only [State.arriveOnBed]; repeat' split
  all_goals simp

@[simp] theorem State.arriveOnBed_lb (s : State) (b : Bed) :
    (s.arriveOnBed b).lb = s.lb := by
  simp only [State.arriveOnBed]; repeat' split
  all_goals simp

@[simp] theorem State.arriveOnBed_ts (s : State) (b : Bed) :
    (s.arriveOnBed b).ts = s.ts := by
  simp only [State.arriveOnBed]; repeat' split
  all_goals simp

@[simp] theorem State.arriveOnBed_pc (s : State) (b : Bed) :
    (s.arriveOnBed b).pc = s.pc := by
  simp only [State.arriveOnBed]; repeat' split
  all_goals simp

@[simp] theorem State.countLift_pending (s : State) (b : Bed) :
    (s.countLift b).pending = s.pending := by
  simp only [State.countLift]; repeat' split
  all_goals simp

@[simp] theorem State.countLift_time (s : State) (b : Bed) :
    (s.countLift b).time = s.time := by
  simp only [State.countLift]; repeat' split
  all_goals simp

@[simp] theorem State.countLift_encoder (s : State) (b : Bed) :
    (s.countLift b).encoder = s.encoder := by
  simp only [State.countLift]; repeat' split
  all_goals simp

@[simp] theorem State.countLift_travelOwed (s : State) (b : Bed) :
    (s.countLift b).travelOwed = s.travelOwed := by
  simp only [State.countLift]; repeat' split
  all_goals simp

@[simp] theorem State.countLift_free (s : State) (b : Bed) :
    (s.countLift b).free = s.free := by
  simp only [State.countLift]; repeat' split
  all_goals simp

@[simp] theorem State.countLift_inputs (s : State) (b : Bed) :
    (s.countLift b).inputs = s.inputs := by
  simp only [State.countLift]; repeat' split
  all_goals simp

@[simp] theorem State.countLift_resetAsserted (s : State) (b : Bed) :
    (s.countLift b).resetAsserted = s.resetAsserted := by
  simp only [State.countLift]; repeat' split
  all_goals simp

@[simp] theorem State.countLift_lb (s : State) (b : Bed) :
    (s.countLift b).lb = s.lb := by
  simp only [State.countLift]; repeat' split
  all_goals simp

@[simp] theorem State.countLift_ts (s : State) (b : Bed) :
    (s.countLift b).ts = s.ts := by
  simp only [State.countLift]; repeat' split
  all_goals simp

@[simp] theorem State.countLift_ss (s : State) (b : Bed) :
    (s.countLift b).ss = s.ss := by
  simp only [State.countLift]; repeat' split
  all_goals simp

@[simp] theorem State.countLift_orders (s : State) (b : Bed) :
    (s.countLift b).orders = s.orders := by
  simp only [State.countLift]; repeat' split
  all_goals simp

@[simp] theorem State.countLift_pc (s : State) (b : Bed) :
    (s.countLift b).pc = s.pc := by
  simp only [State.countLift]; repeat' split
  all_goals simp

@[simp] theorem State.countLift_tcu (s : State) (b : Bed) :
    (s.countLift b).tcu = s.tcu := by
  simp only [State.countLift]; repeat' split
  all_goals simp

@[simp] theorem State.countLift_fu (s : State) (b : Bed) :
    (s.countLift b).fu = s.fu := by
  simp only [State.countLift]; repeat' split
  all_goals simp

@[simp] theorem State.handOver_pending (s : State) (b : Bed) :
    (s.handOver b).pending = s.pending := by
  simp only [State.handOver]; repeat' split
  all_goals simp

@[simp] theorem State.handOver_time (s : State) (b : Bed) :
    (s.handOver b).time = s.time := by
  simp only [State.handOver]; repeat' split
  all_goals simp

@[simp] theorem State.handOver_encoder (s : State) (b : Bed) :
    (s.handOver b).encoder = s.encoder := by
  simp only [State.handOver]; repeat' split
  all_goals simp

@[simp] theorem State.handOver_travelOwed (s : State) (b : Bed) :
    (s.handOver b).travelOwed = s.travelOwed := by
  simp only [State.handOver]; repeat' split
  all_goals simp

@[simp] theorem State.handOver_free (s : State) (b : Bed) :
    (s.handOver b).free = s.free := by
  simp only [State.handOver]; repeat' split
  all_goals simp

@[simp] theorem State.handOver_inputs (s : State) (b : Bed) :
    (s.handOver b).inputs = s.inputs := by
  simp only [State.handOver]; repeat' split
  all_goals simp

@[simp] theorem State.handOver_resetAsserted (s : State) (b : Bed) :
    (s.handOver b).resetAsserted = s.resetAsserted := by
  simp only [State.handOver]; repeat' split
  all_goals simp

@[simp] theorem State.handOver_lb (s : State) (b : Bed) :
    (s.handOver b).lb = s.lb := by
  simp only [State.handOver]; repeat' split
  all_goals simp

@[simp] theorem State.handOver_ts (s : State) (b : Bed) :
    (s.handOver b).ts = s.ts := by
  simp only [State.handOver]; repeat' split
  all_goals simp

@[simp] theorem State.handOver_orders (s : State) (b : Bed) :
    (s.handOver b).orders = s.orders := by
  simp only [State.handOver]; repeat' split
  all_goals simp

@[simp] theorem State.handOver_pc (s : State) (b : Bed) :
    (s.handOver b).pc = s.pc := by
  simp only [State.handOver]; repeat' split
  all_goals simp

@[simp] theorem State.handOver_tcu (s : State) (b : Bed) :
    (s.handOver b).tcu = s.tcu := by
  simp only [State.handOver]; repeat' split
  all_goals simp

@[simp] theorem State.findIncomplete_pending (s : State) (g : Gather) :
    (s.findIncomplete g).pending = s.pending := by
  simp only [State.findIncomplete]; repeat' split
  all_goals simp

@[simp] theorem State.findIncomplete_time (s : State) (g : Gather) :
    (s.findIncomplete g).time = s.time := by
  simp only [State.findIncomplete]; repeat' split
  all_goals simp

@[simp] theorem State.findIncomplete_encoder (s : State) (g : Gather) :
    (s.findIncomplete g).encoder = s.encoder := by
  simp only [State.findIncomplete]; repeat' split
  all_goals simp

@[simp] theorem State.findIncomplete_travelOwed (s : State) (g : Gather) :
    (s.findIncomplete g).travelOwed = s.travelOwed := by
  simp only [State.findIncomplete]; repeat' split
  all_goals simp

@[simp] theorem State.findIncomplete_free (s : State) (g : Gather) :
    (s.findIncomplete g).free = s.free := by
  simp only [State.findIncomplete]; repeat' split
  all_goals simp

@[simp] theorem State.findIncomplete_inputs (s : State) (g : Gather) :
    (s.findIncomplete g).inputs = s.inputs := by
  simp only [State.findIncomplete]; repeat' split
  all_goals simp

@[simp] theorem State.findIncomplete_resetAsserted (s : State) (g : Gather) :
    (s.findIncomplete g).resetAsserted = s.resetAsserted := by
  simp only [State.findIncomplete]; repeat' split
  all_goals simp

@[simp] theorem State.findIncomplete_pc (s : State) (g : Gather) :
    (s.findIncomplete g).pc = s.pc := by
  simp only [State.findIncomplete]; repeat' split
  all_goals simp

@[simp] theorem State.findIncomplete_tcu (s : State) (g : Gather) :
    (s.findIncomplete g).tcu = s.tcu := by
  simp only [State.findIncomplete]; repeat' split
  all_goals simp

@[simp] theorem State.answerOutRequest_pending (s : State) (b : Bed) :
    (s.answerOutRequest b).pending = s.pending := by
  simp only [State.answerOutRequest]; repeat' split
  all_goals simp

@[simp] theorem State.answerOutRequest_time (s : State) (b : Bed) :
    (s.answerOutRequest b).time = s.time := by
  simp only [State.answerOutRequest]; repeat' split
  all_goals simp

@[simp] theorem State.answerOutRequest_encoder (s : State) (b : Bed) :
    (s.answerOutRequest b).encoder = s.encoder := by
  simp only [State.answerOutRequest]; repeat' split
  all_goals simp

@[simp] theorem State.answerOutRequest_travelOwed (s : State) (b : Bed) :
    (s.answerOutRequest b).travelOwed = s.travelOwed := by
  simp only [State.answerOutRequest]; repeat' split
  all_goals simp

@[simp] theorem State.answerOutRequest_free (s : State) (b : Bed) :
    (s.answerOutRequest b).free = s.free := by
  simp only [State.answerOutRequest]; repeat' split
  all_goals simp

@[simp] theorem State.answerOutRequest_inputs (s : State) (b : Bed) :
    (s.answerOutRequest b).inputs = s.inputs := by
  simp only [State.answerOutRequest]; repeat' split
  all_goals simp

@[simp] theorem State.answerOutRequest_resetAsserted (s : State) (b : Bed) :
    (s.answerOutRequest b).resetAsserted = s.resetAsserted := by
  simp only [State.answerOutRequest]; repeat' split
  all_goals simp

@[simp] theorem State.answerOutRequest_pc (s : State) (b : Bed) :
    (s.answerOutRequest b).pc = s.pc := by
  simp only [State.answerOutRequest]; repeat' split
  all_goals simp

@[simp] theorem State.answerOutRequest_tcu (s : State) (b : Bed) :
    (s.answerOutRequest b).tcu = s.tcu := by
  simp only [State.answerOutRequest]; repeat' split
  all_goals simp

@[simp] theorem State.testDwell_pending (s : State) :
    (s.testDwell).pending = s.pending := by
  simp only [State.testDwell]; repeat' split
  all_goals simp

@[simp] theorem State.testDwell_time (s : State) :
    (s.testDwell).time = s.time := by
  simp only [State.testDwell]; repeat' split
  all_goals simp

@[simp] theorem State.testDwell_encoder (s : State) :
    (s.testDwell).encoder = s.encoder := by
  simp only [State.testDwell]; repeat' split
  all_goals simp

@[simp] theorem State.testDwell_travelOwed (s : State) :
    (s.testDwell).travelOwed = s.travelOwed := by
  simp only [State.testDwell]; repeat' split
  all_goals simp

@[simp] theorem State.testDwell_free (s : State) :
    (s.testDwell).free = s.free := by
  simp only [State.testDwell]; repeat' split
  all_goals simp

@[simp] theorem State.testDwell_inputs (s : State) :
    (s.testDwell).inputs = s.inputs := by
  simp only [State.testDwell]; repeat' split
  all_goals simp

@[simp] theorem State.testDwell_resetAsserted (s : State) :
    (s.testDwell).resetAsserted = s.resetAsserted := by
  simp only [State.testDwell]; repeat' split
  all_goals simp

@[simp] theorem State.testDwell_si (s : State) :
    (s.testDwell).si = s.si := by
  simp only [State.testDwell]; repeat' split
  all_goals simp

@[simp] theorem State.testDwell_lb (s : State) :
    (s.testDwell).lb = s.lb := by
  simp only [State.testDwell]; repeat' split
  all_goals simp

@[simp] theorem State.testDwell_ts (s : State) :
    (s.testDwell).ts = s.ts := by
  simp only [State.testDwell]; repeat' split
  all_goals simp

@[simp] theorem State.testDwell_orders (s : State) :
    (s.testDwell).orders = s.orders := by
  simp only [State.testDwell]; repeat' split
  all_goals simp

@[simp] theorem State.testDwell_pc (s : State) :
    (s.testDwell).pc = s.pc := by
  simp only [State.testDwell]; repeat' split
  all_goals simp

@[simp] theorem State.testDwell_tcu (s : State) :
    (s.testDwell).tcu = s.tcu := by
  simp only [State.testDwell]; repeat' split
  all_goals simp

@[simp] theorem State.testDwell_fu (s : State) :
    (s.testDwell).fu = s.fu := by
  simp only [State.testDwell]; repeat' split
  all_goals simp

@[simp] theorem State.testDwell_lsv (s : State) :
    (s.testDwell).lsv = s.lsv := by
  simp only [State.testDwell]; repeat' split
  all_goals simp

@[simp] theorem State.tryGrant_pending (s : State) (d : DriveId) :
    (s.tryGrant d).pending = s.pending := by
  simp only [State.tryGrant]; repeat' split
  all_goals simp

@[simp] theorem State.tryGrant_time (s : State) (d : DriveId) :
    (s.tryGrant d).time = s.time := by
  simp only [State.tryGrant]; repeat' split
  all_goals simp

@[simp] theorem State.tryGrant_encoder (s : State) (d : DriveId) :
    (s.tryGrant d).encoder = s.encoder := by
  simp only [State.tryGrant]; repeat' split
  all_goals simp

@[simp] theorem State.tryGrant_travelOwed (s : State) (d : DriveId) :
    (s.tryGrant d).travelOwed = s.travelOwed := by
  simp only [State.tryGrant]; repeat' split
  all_goals simp

@[simp] theorem State.tryGrant_free (s : State) (d : DriveId) :
    (s.tryGrant d).free = s.free := by
  simp only [State.tryGrant]; repeat' split
  all_goals simp

@[simp] theorem State.tryGrant_inputs (s : State) (d : DriveId) :
    (s.tryGrant d).inputs = s.inputs := by
  simp only [State.tryGrant]; repeat' split
  all_goals simp

@[simp] theorem State.tryGrant_resetAsserted (s : State) (d : DriveId) :
    (s.tryGrant d).resetAsserted = s.resetAsserted := by
  simp only [State.tryGrant]; repeat' split
  all_goals simp

@[simp] theorem State.tryGrant_lp (s : State) (d : DriveId) :
    (s.tryGrant d).lp = s.lp := by
  simp only [State.tryGrant]; repeat' split
  all_goals simp

@[simp] theorem State.tryGrant_si (s : State) (d : DriveId) :
    (s.tryGrant d).si = s.si := by
  simp only [State.tryGrant]; repeat' split
  all_goals simp

@[simp] theorem State.tryGrant_lb (s : State) (d : DriveId) :
    (s.tryGrant d).lb = s.lb := by
  simp only [State.tryGrant]; repeat' split
  all_goals simp

@[simp] theorem State.tryGrant_ts (s : State) (d : DriveId) :
    (s.tryGrant d).ts = s.ts := by
  simp only [State.tryGrant]; repeat' split
  all_goals simp

@[simp] theorem State.tryGrant_ss (s : State) (d : DriveId) :
    (s.tryGrant d).ss = s.ss := by
  simp only [State.tryGrant]; repeat' split
  all_goals simp

@[simp] theorem State.tryGrant_orders (s : State) (d : DriveId) :
    (s.tryGrant d).orders = s.orders := by
  simp only [State.tryGrant]; repeat' split
  all_goals simp

@[simp] theorem State.tryGrant_tcu (s : State) (d : DriveId) :
    (s.tryGrant d).tcu = s.tcu := by
  simp only [State.tryGrant]; repeat' split
  all_goals simp

@[simp] theorem State.tryGrant_fu (s : State) (d : DriveId) :
    (s.tryGrant d).fu = s.fu := by
  simp only [State.tryGrant]; repeat' split
  all_goals simp

@[simp] theorem State.tryGrant_lm (s : State) (d : DriveId) :
    (s.tryGrant d).lm = s.lm := by
  simp only [State.tryGrant]; repeat' split
  all_goals simp

@[simp] theorem State.tryGrant_lsv (s : State) (d : DriveId) :
    (s.tryGrant d).lsv = s.lsv := by
  simp only [State.tryGrant]; repeat' split
  all_goals simp

@[simp] theorem State.grantAll_pending (s : State) :
    (s.grantAll).pending = s.pending := by
  exact foldl_keeps (fun s : State => s.pending) _ (fun s d => by simp) _ s

@[simp] theorem State.grantAll_time (s : State) :
    (s.grantAll).time = s.time := by
  exact foldl_keeps (fun s : State => s.time) _ (fun s d => by simp) _ s

@[simp] theorem State.grantAll_encoder (s : State) :
    (s.grantAll).encoder = s.encoder := by
  exact foldl_keeps (fun s : State => s.encoder) _ (fun s d => by simp) _ s

@[simp] theorem State.grantAll_travelOwed (s : State) :
    (s.grantAll).travelOwed = s.travelOwed := by
  exact foldl_keeps (fun s : State => s.travelOwed) _ (fun s d => by simp) _ s

@[simp] theorem State.grantAll_free (s : State) :
    (s.grantAll).free = s.free := by
  exact foldl_keeps (fun s : State => s.free) _ (fun s d => by simp) _ s

@[simp] theorem State.grantAll_inputs (s : State) :
    (s.grantAll).inputs = s.inputs := by
  exact foldl_keeps (fun s : State => s.inputs) _ (fun s d => by simp) _ s

@[simp] theorem State.grantAll_resetAsserted (s : State) :
    (s.grantAll).resetAsserted = s.resetAsserted := by
  exact foldl_keeps (fun s : State => s.resetAsserted) _ (fun s d => by simp) _ s

@[simp] theorem State.grantAll_lp (s : State) :
    (s.grantAll).lp = s.lp := by
  exact foldl_keeps (fun s : State => s.lp) _ (fun s d => by simp) _ s

@[simp] theorem State.grantAll_si (s : State) :
    (s.grantAll).si = s.si := by
  exact foldl_keeps (fun s : State => s.si) _ (fun s d => by simp) _ s

@[simp] theorem State.grantAll_lb (s : State) :
    (s.grantAll).lb = s.lb := by
  exact foldl_keeps (fun s : State => s.lb) _ (fun s d => by simp) _ s

@[simp] theorem State.grantAll_ts (s : State) :
    (s.grantAll).ts = s.ts := by
  exact foldl_keeps (fun s : State => s.ts) _ (fun s d => by simp) _ s

@[simp] theorem State.grantAll_ss (s : State) :
    (s.grantAll).ss = s.ss := by
  exact foldl_keeps (fun s : State => s.ss) _ (fun s d => by simp) _ s

@[simp] theorem State.grantAll_orders (s : State) :
    (s.grantAll).orders = s.orders := by
  exact foldl_keeps (fun s : State => s.orders) _ (fun s d => by simp) _ s

@[simp] theorem State.grantAll_tcu (s : State) :
    (s.grantAll).tcu = s.tcu := by
  exact foldl_keeps (fun s : State => s.tcu) _ (fun s d => by simp) _ s

@[simp] theorem State.grantAll_fu (s : State) :
    (s.grantAll).fu = s.fu := by
  exact foldl_keeps (fun s : State => s.fu) _ (fun s d => by simp) _ s

@[simp] theorem State.grantAll_lm (s : State) :
    (s.grantAll).lm = s.lm := by
  exact foldl_keeps (fun s : State => s.lm) _ (fun s d => by simp) _ s

@[simp] theorem State.grantAll_lsv (s : State) :
    (s.grantAll).lsv = s.lsv := by
  exact foldl_keeps (fun s : State => s.lsv) _ (fun s d => by simp) _ s

@[simp] theorem State.syncHot_pending (s : State) :
    (s.syncHot).pending = s.pending := by
  simp only [State.syncHot]; repeat' split
  all_goals simp

@[simp] theorem State.syncHot_time (s : State) :
    (s.syncHot).time = s.time := by
  simp only [State.syncHot]; repeat' split
  all_goals simp

@[simp] theorem State.syncHot_encoder (s : State) :
    (s.syncHot).encoder = s.encoder := by
  simp only [State.syncHot]; repeat' split
  all_goals simp

@[simp] theorem State.syncHot_travelOwed (s : State) :
    (s.syncHot).travelOwed = s.travelOwed := by
  simp only [State.syncHot]; repeat' split
  all_goals simp

@[simp] theorem State.syncHot_free (s : State) :
    (s.syncHot).free = s.free := by
  simp only [State.syncHot]; repeat' split
  all_goals simp

@[simp] theorem State.syncHot_inputs (s : State) :
    (s.syncHot).inputs = s.inputs := by
  simp only [State.syncHot]; repeat' split
  all_goals simp

@[simp] theorem State.syncHot_resetAsserted (s : State) :
    (s.syncHot).resetAsserted = s.resetAsserted := by
  simp only [State.syncHot]; repeat' split
  all_goals simp

@[simp] theorem State.syncHot_si (s : State) :
    (s.syncHot).si = s.si := by
  simp only [State.syncHot]; repeat' split
  all_goals simp

@[simp] theorem State.syncHot_lb (s : State) :
    (s.syncHot).lb = s.lb := by
  simp only [State.syncHot]; repeat' split
  all_goals simp

@[simp] theorem State.syncHot_ts (s : State) :
    (s.syncHot).ts = s.ts := by
  simp only [State.syncHot]; repeat' split
  all_goals simp

@[simp] theorem State.syncHot_ss (s : State) :
    (s.syncHot).ss = s.ss := by
  simp only [State.syncHot]; repeat' split
  all_goals simp

@[simp] theorem State.syncHot_orders (s : State) :
    (s.syncHot).orders = s.orders := by
  simp only [State.syncHot]; repeat' split
  all_goals simp

@[simp] theorem State.syncHot_pc (s : State) :
    (s.syncHot).pc = s.pc := by
  simp only [State.syncHot]; repeat' split
  all_goals simp

@[simp] theorem State.syncHot_tcu (s : State) :
    (s.syncHot).tcu = s.tcu := by
  simp only [State.syncHot]; repeat' split
  all_goals simp

@[simp] theorem State.syncHot_fu (s : State) :
    (s.syncHot).fu = s.fu := by
  simp only [State.syncHot]; repeat' split
  all_goals simp

@[simp] theorem State.startDrill_pending (s : State) (f : Finish) :
    (s.startDrill f).pending = s.pending := by
  simp only [State.startDrill]; repeat' split
  all_goals simp

@[simp] theorem State.startDrill_time (s : State) (f : Finish) :
    (s.startDrill f).time = s.time := by
  simp only [State.startDrill]; repeat' split
  all_goals simp

@[simp] theorem State.startDrill_encoder (s : State) (f : Finish) :
    (s.startDrill f).encoder = s.encoder := by
  simp only [State.startDrill]; repeat' split
  all_goals simp

@[simp] theorem State.startDrill_travelOwed (s : State) (f : Finish) :
    (s.startDrill f).travelOwed = s.travelOwed := by
  simp only [State.startDrill]; repeat' split
  all_goals simp

@[simp] theorem State.startDrill_free (s : State) (f : Finish) :
    (s.startDrill f).free = s.free := by
  simp only [State.startDrill]; repeat' split
  all_goals simp

@[simp] theorem State.startDrill_inputs (s : State) (f : Finish) :
    (s.startDrill f).inputs = s.inputs := by
  simp only [State.startDrill]; repeat' split
  all_goals simp

@[simp] theorem State.startDrill_resetAsserted (s : State) (f : Finish) :
    (s.startDrill f).resetAsserted = s.resetAsserted := by
  simp only [State.startDrill]; repeat' split
  all_goals simp

@[simp] theorem State.startDrill_si (s : State) (f : Finish) :
    (s.startDrill f).si = s.si := by
  simp only [State.startDrill]; repeat' split
  all_goals simp

@[simp] theorem State.startDrill_lb (s : State) (f : Finish) :
    (s.startDrill f).lb = s.lb := by
  simp only [State.startDrill]; repeat' split
  all_goals simp

@[simp] theorem State.startDrill_ts (s : State) (f : Finish) :
    (s.startDrill f).ts = s.ts := by
  simp only [State.startDrill]; repeat' split
  all_goals simp

@[simp] theorem State.startDrill_ss (s : State) (f : Finish) :
    (s.startDrill f).ss = s.ss := by
  simp only [State.startDrill]; repeat' split
  all_goals simp

@[simp] theorem State.startDrill_pc (s : State) (f : Finish) :
    (s.startDrill f).pc = s.pc := by
  simp only [State.startDrill]; repeat' split
  all_goals simp

@[simp] theorem State.startDrill_tcu (s : State) (f : Finish) :
    (s.startDrill f).tcu = s.tcu := by
  simp only [State.startDrill]; repeat' split
  all_goals simp

@[simp] theorem State.runFeed_pending (s : State) (n : Nat) :
    (s.runFeed n).pending = s.pending := by
  simp only [State.runFeed]; repeat' split
  all_goals simp

@[simp] theorem State.runFeed_time (s : State) (n : Nat) :
    (s.runFeed n).time = s.time := by
  simp only [State.runFeed]; repeat' split
  all_goals simp

@[simp] theorem State.runFeed_encoder (s : State) (n : Nat) :
    (s.runFeed n).encoder = s.encoder := by
  simp only [State.runFeed]; repeat' split
  all_goals simp

@[simp] theorem State.runFeed_travelOwed (s : State) (n : Nat) :
    (s.runFeed n).travelOwed = s.travelOwed := by
  simp only [State.runFeed]; repeat' split
  all_goals simp

@[simp] theorem State.runFeed_free (s : State) (n : Nat) :
    (s.runFeed n).free = s.free := by
  simp only [State.runFeed]; repeat' split
  all_goals simp

@[simp] theorem State.runFeed_inputs (s : State) (n : Nat) :
    (s.runFeed n).inputs = s.inputs := by
  simp only [State.runFeed]; repeat' split
  all_goals simp

@[simp] theorem State.runFeed_resetAsserted (s : State) (n : Nat) :
    (s.runFeed n).resetAsserted = s.resetAsserted := by
  simp only [State.runFeed]; repeat' split
  all_goals simp

@[simp] theorem State.runFeed_si (s : State) (n : Nat) :
    (s.runFeed n).si = s.si := by
  simp only [State.runFeed]; repeat' split
  all_goals simp

@[simp] theorem State.runFeed_lb (s : State) (n : Nat) :
    (s.runFeed n).lb = s.lb := by
  simp only [State.runFeed]; repeat' split
  all_goals simp

@[simp] theorem State.runFeed_ts (s : State) (n : Nat) :
    (s.runFeed n).ts = s.ts := by
  simp only [State.runFeed]; repeat' split
  all_goals simp

@[simp] theorem State.runFeed_ss (s : State) (n : Nat) :
    (s.runFeed n).ss = s.ss := by
  simp only [State.runFeed]; repeat' split
  all_goals simp

@[simp] theorem State.runFeed_orders (s : State) (n : Nat) :
    (s.runFeed n).orders = s.orders := by
  simp only [State.runFeed]; repeat' split
  all_goals simp

@[simp] theorem State.runFeed_pc (s : State) (n : Nat) :
    (s.runFeed n).pc = s.pc := by
  simp only [State.runFeed]; repeat' split
  all_goals simp

@[simp] theorem State.runFeed_fu (s : State) (n : Nat) :
    (s.runFeed n).fu = s.fu := by
  simp only [State.runFeed]; repeat' split
  all_goals simp

@[simp] theorem State.runFeed_lsv (s : State) (n : Nat) :
    (s.runFeed n).lsv = s.lsv := by
  simp only [State.runFeed]; repeat' split
  all_goals simp

@[simp] theorem State.startFeedStep_pending (s : State) (f : Finish) :
    (s.startFeedStep f).pending = s.pending := by
  simp only [State.startFeedStep]; repeat' split
  all_goals simp

@[simp] theorem State.startFeedStep_time (s : State) (f : Finish) :
    (s.startFeedStep f).time = s.time := by
  simp only [State.startFeedStep]; repeat' split
  all_goals simp

@[simp] theorem State.startFeedStep_encoder (s : State) (f : Finish) :
    (s.startFeedStep f).encoder = s.encoder := by
  simp only [State.startFeedStep]; repeat' split
  all_goals simp

@[simp] theorem State.startFeedStep_travelOwed (s : State) (f : Finish) :
    (s.startFeedStep f).travelOwed = s.travelOwed := by
  simp only [State.startFeedStep]; repeat' split
  all_goals simp

@[simp] theorem State.startFeedStep_free (s : State) (f : Finish) :
    (s.startFeedStep f).free = s.free := by
  simp only [State.startFeedStep]; repeat' split
  all_goals simp

@[simp] theorem State.startFeedStep_inputs (s : State) (f : Finish) :
    (s.startFeedStep f).inputs = s.inputs := by
  simp only [State.startFeedStep]; repeat' split
  all_goals simp

@[simp] theorem State.startFeedStep_resetAsserted (s : State) (f : Finish) :
    (s.startFeedStep f).resetAsserted = s.resetAsserted := by
  simp only [State.startFeedStep]; repeat' split
  all_goals simp

@[simp] theorem State.startFeedStep_si (s : State) (f : Finish) :
    (s.startFeedStep f).si = s.si := by
  simp only [State.startFeedStep]; repeat' split
  all_goals simp

@[simp] theorem State.startFeedStep_lb (s : State) (f : Finish) :
    (s.startFeedStep f).lb = s.lb := by
  simp only [State.startFeedStep]; repeat' split
  all_goals simp

@[simp] theorem State.startFeedStep_ts (s : State) (f : Finish) :
    (s.startFeedStep f).ts = s.ts := by
  simp only [State.startFeedStep]; repeat' split
  all_goals simp

@[simp] theorem State.startFeedStep_ss (s : State) (f : Finish) :
    (s.startFeedStep f).ss = s.ss := by
  simp only [State.startFeedStep]; repeat' split
  all_goals simp

@[simp] theorem State.startFeedStep_orders (s : State) (f : Finish) :
    (s.startFeedStep f).orders = s.orders := by
  simp only [State.startFeedStep]; repeat' split
  all_goals simp

@[simp] theorem State.startFeedStep_pc (s : State) (f : Finish) :
    (s.startFeedStep f).pc = s.pc := by
  simp only [State.startFeedStep]; repeat' split
  all_goals simp

@[simp] theorem State.startFeedStep_lsv (s : State) (f : Finish) :
    (s.startFeedStep f).lsv = s.lsv := by
  simp only [State.startFeedStep]; repeat' split
  all_goals simp

@[simp] theorem State.startHanger_pending (s : State) (f : Finish) :
    (s.startHanger f).pending = s.pending := by
  simp only [State.startHanger]; repeat' split
  all_goals simp

@[simp] theorem State.startHanger_time (s : State) (f : Finish) :
    (s.startHanger f).time = s.time := by
  simp only [State.startHanger]; repeat' split
  all_goals simp

@[simp] theorem State.startHanger_encoder (s : State) (f : Finish) :
    (s.startHanger f).encoder = s.encoder := by
  simp only [State.startHanger]; repeat' split
  all_goals simp

@[simp] theorem State.startHanger_travelOwed (s : State) (f : Finish) :
    (s.startHanger f).travelOwed = s.travelOwed := by
  simp only [State.startHanger]; repeat' split
  all_goals simp

@[simp] theorem State.startHanger_free (s : State) (f : Finish) :
    (s.startHanger f).free = s.free := by
  simp only [State.startHanger]; repeat' split
  all_goals simp

@[simp] theorem State.startHanger_inputs (s : State) (f : Finish) :
    (s.startHanger f).inputs = s.inputs := by
  simp only [State.startHanger]; repeat' split
  all_goals simp

@[simp] theorem State.startHanger_resetAsserted (s : State) (f : Finish) :
    (s.startHanger f).resetAsserted = s.resetAsserted := by
  simp only [State.startHanger]; repeat' split
  all_goals simp

@[simp] theorem State.startHanger_lp (s : State) (f : Finish) :
    (s.startHanger f).lp = s.lp := by
  simp only [State.startHanger]; repeat' split
  all_goals simp

@[simp] theorem State.startHanger_si (s : State) (f : Finish) :
    (s.startHanger f).si = s.si := by
  simp only [State.startHanger]; repeat' split
  all_goals simp

@[simp] theorem State.startHanger_lb (s : State) (f : Finish) :
    (s.startHanger f).lb = s.lb := by
  simp only [State.startHanger]; repeat' split
  all_goals simp

@[simp] theorem State.startHanger_ts (s : State) (f : Finish) :
    (s.startHanger f).ts = s.ts := by
  simp only [State.startHanger]; repeat' split
  all_goals simp

@[simp] theorem State.startHanger_ss (s : State) (f : Finish) :
    (s.startHanger f).ss = s.ss := by
  simp only [State.startHanger]; repeat' split
  all_goals simp

@[simp] theorem State.startHanger_pc (s : State) (f : Finish) :
    (s.startHanger f).pc = s.pc := by
  simp only [State.startHanger]; repeat' split
  all_goals simp

@[simp] theorem State.startHanger_tcu (s : State) (f : Finish) :
    (s.startHanger f).tcu = s.tcu := by
  simp only [State.startHanger]; repeat' split
  all_goals simp

@[simp] theorem State.startHanger_lm (s : State) (f : Finish) :
    (s.startHanger f).lm = s.lm := by
  simp only [State.startHanger]; repeat' split
  all_goals simp

@[simp] theorem State.startHanger_lsv (s : State) (f : Finish) :
    (s.startHanger f).lsv = s.lsv := by
  simp only [State.startHanger]; repeat' split
  all_goals simp

@[simp] theorem State.startClose_pending (s : State) (f : Finish) :
    (s.startClose f).pending = s.pending := by
  simp only [State.startClose]; repeat' split
  all_goals simp

@[simp] theorem State.startClose_time (s : State) (f : Finish) :
    (s.startClose f).time = s.time := by
  simp only [State.startClose]; repeat' split
  all_goals simp

@[simp] theorem State.startClose_encoder (s : State) (f : Finish) :
    (s.startClose f).encoder = s.encoder := by
  simp only [State.startClose]; repeat' split
  all_goals simp

@[simp] theorem State.startClose_travelOwed (s : State) (f : Finish) :
    (s.startClose f).travelOwed = s.travelOwed := by
  simp only [State.startClose]; repeat' split
  all_goals simp

@[simp] theorem State.startClose_free (s : State) (f : Finish) :
    (s.startClose f).free = s.free := by
  simp only [State.startClose]; repeat' split
  all_goals simp

@[simp] theorem State.startClose_inputs (s : State) (f : Finish) :
    (s.startClose f).inputs = s.inputs := by
  simp only [State.startClose]; repeat' split
  all_goals simp

@[simp] theorem State.startClose_resetAsserted (s : State) (f : Finish) :
    (s.startClose f).resetAsserted = s.resetAsserted := by
  simp only [State.startClose]; repeat' split
  all_goals simp

@[simp] theorem State.startClose_lp (s : State) (f : Finish) :
    (s.startClose f).lp = s.lp := by
  simp only [State.startClose]; repeat' split
  all_goals simp

@[simp] theorem State.startClose_si (s : State) (f : Finish) :
    (s.startClose f).si = s.si := by
  simp only [State.startClose]; repeat' split
  all_goals simp

@[simp] theorem State.startClose_lb (s : State) (f : Finish) :
    (s.startClose f).lb = s.lb := by
  simp only [State.startClose]; repeat' split
  all_goals simp

@[simp] theorem State.startClose_ts (s : State) (f : Finish) :
    (s.startClose f).ts = s.ts := by
  simp only [State.startClose]; repeat' split
  all_goals simp

@[simp] theorem State.startClose_ss (s : State) (f : Finish) :
    (s.startClose f).ss = s.ss := by
  simp only [State.startClose]; repeat' split
  all_goals simp

@[simp] theorem State.startClose_pc (s : State) (f : Finish) :
    (s.startClose f).pc = s.pc := by
  simp only [State.startClose]; repeat' split
  all_goals simp

@[simp] theorem State.startClose_tcu (s : State) (f : Finish) :
    (s.startClose f).tcu = s.tcu := by
  simp only [State.startClose]; repeat' split
  all_goals simp

@[simp] theorem State.startClose_lm (s : State) (f : Finish) :
    (s.startClose f).lm = s.lm := by
  simp only [State.startClose]; repeat' split
  all_goals simp

@[simp] theorem State.startClose_lsv (s : State) (f : Finish) :
    (s.startClose f).lsv = s.lsv := by
  simp only [State.startClose]; repeat' split
  all_goals simp

@[simp] theorem State.startBinding_pending (s : State) (f : Finish) :
    (s.startBinding f).pending = s.pending := by
  simp only [State.startBinding]; repeat' split
  all_goals simp

@[simp] theorem State.startBinding_time (s : State) (f : Finish) :
    (s.startBinding f).time = s.time := by
  simp only [State.startBinding]; repeat' split
  all_goals simp

@[simp] theorem State.startBinding_encoder (s : State) (f : Finish) :
    (s.startBinding f).encoder = s.encoder := by
  simp only [State.startBinding]; repeat' split
  all_goals simp

@[simp] theorem State.startBinding_travelOwed (s : State) (f : Finish) :
    (s.startBinding f).travelOwed = s.travelOwed := by
  simp only [State.startBinding]; repeat' split
  all_goals simp

@[simp] theorem State.startBinding_free (s : State) (f : Finish) :
    (s.startBinding f).free = s.free := by
  simp only [State.startBinding]; repeat' split
  all_goals simp

@[simp] theorem State.startBinding_inputs (s : State) (f : Finish) :
    (s.startBinding f).inputs = s.inputs := by
  simp only [State.startBinding]; repeat' split
  all_goals simp

@[simp] theorem State.startBinding_resetAsserted (s : State) (f : Finish) :
    (s.startBinding f).resetAsserted = s.resetAsserted := by
  simp only [State.startBinding]; repeat' split
  all_goals simp

@[simp] theorem State.startBinding_si (s : State) (f : Finish) :
    (s.startBinding f).si = s.si := by
  simp only [State.startBinding]; repeat' split
  all_goals simp

@[simp] theorem State.startBinding_lb (s : State) (f : Finish) :
    (s.startBinding f).lb = s.lb := by
  simp only [State.startBinding]; repeat' split
  all_goals simp

@[simp] theorem State.startBinding_ts (s : State) (f : Finish) :
    (s.startBinding f).ts = s.ts := by
  simp only [State.startBinding]; repeat' split
  all_goals simp

@[simp] theorem State.startBinding_ss (s : State) (f : Finish) :
    (s.startBinding f).ss = s.ss := by
  simp only [State.startBinding]; repeat' split
  all_goals simp

@[simp] theorem State.startBinding_pc (s : State) (f : Finish) :
    (s.startBinding f).pc = s.pc := by
  simp only [State.startBinding]; repeat' split
  all_goals simp

@[simp] theorem State.afterFeed_pending (s : State) (f : Finish) :
    (s.afterFeed f).pending = s.pending := by
  simp only [State.afterFeed]; repeat' split
  all_goals simp

@[simp] theorem State.afterFeed_time (s : State) (f : Finish) :
    (s.afterFeed f).time = s.time := by
  simp only [State.afterFeed]; repeat' split
  all_goals simp

@[simp] theorem State.afterFeed_encoder (s : State) (f : Finish) :
    (s.afterFeed f).encoder = s.encoder := by
  simp only [State.afterFeed]; repeat' split
  all_goals simp

@[simp] theorem State.afterFeed_travelOwed (s : State) (f : Finish) :
    (s.afterFeed f).travelOwed = s.travelOwed := by
  simp only [State.afterFeed]; repeat' split
  all_goals simp

@[simp] theorem State.afterFeed_free (s : State) (f : Finish) :
    (s.afterFeed f).free = s.free := by
  simp only [State.afterFeed]; repeat' split
  all_goals simp

@[simp] theorem State.afterFeed_inputs (s : State) (f : Finish) :
    (s.afterFeed f).inputs = s.inputs := by
  simp only [State.afterFeed]; repeat' split
  all_goals simp

@[simp] theorem State.afterFeed_resetAsserted (s : State) (f : Finish) :
    (s.afterFeed f).resetAsserted = s.resetAsserted := by
  simp only [State.afterFeed]; repeat' split
  all_goals simp

@[simp] theorem State.afterFeed_lp (s : State) (f : Finish) :
    (s.afterFeed f).lp = s.lp := by
  simp only [State.afterFeed]; repeat' split
  all_goals simp

@[simp] theorem State.afterFeed_si (s : State) (f : Finish) :
    (s.afterFeed f).si = s.si := by
  simp only [State.afterFeed]; repeat' split
  all_goals simp

@[simp] theorem State.afterFeed_lb (s : State) (f : Finish) :
    (s.afterFeed f).lb = s.lb := by
  simp only [State.afterFeed]; repeat' split
  all_goals simp

@[simp] theorem State.afterFeed_ts (s : State) (f : Finish) :
    (s.afterFeed f).ts = s.ts := by
  simp only [State.afterFeed]; repeat' split
  all_goals simp

@[simp] theorem State.afterFeed_ss (s : State) (f : Finish) :
    (s.afterFeed f).ss = s.ss := by
  simp only [State.afterFeed]; repeat' split
  all_goals simp

@[simp] theorem State.afterFeed_pc (s : State) (f : Finish) :
    (s.afterFeed f).pc = s.pc := by
  simp only [State.afterFeed]; repeat' split
  all_goals simp

@[simp] theorem State.afterFeed_tcu (s : State) (f : Finish) :
    (s.afterFeed f).tcu = s.tcu := by
  simp only [State.afterFeed]; repeat' split
  all_goals simp

@[simp] theorem State.afterFeed_lm (s : State) (f : Finish) :
    (s.afterFeed f).lm = s.lm := by
  simp only [State.afterFeed]; repeat' split
  all_goals simp

@[simp] theorem State.afterFeed_lsv (s : State) (f : Finish) :
    (s.afterFeed f).lsv = s.lsv := by
  simp only [State.afterFeed]; repeat' split
  all_goals simp

@[simp] theorem State.enterFinish_pending (s : State) (f : Finish) :
    (s.enterFinish f).pending = s.pending := by
  simp only [State.enterFinish]; repeat' split
  all_goals simp

@[simp] theorem State.enterFinish_time (s : State) (f : Finish) :
    (s.enterFinish f).time = s.time := by
  simp only [State.enterFinish]; repeat' split
  all_goals simp

@[simp] theorem State.enterFinish_encoder (s : State) (f : Finish) :
    (s.enterFinish f).encoder = s.encoder := by
  simp only [State.enterFinish]; repeat' split
  all_goals simp

@[simp] theorem State.enterFinish_travelOwed (s : State) (f : Finish) :
    (s.enterFinish f).travelOwed = s.travelOwed := by
  simp only [State.enterFinish]; repeat' split
  all_goals simp

@[simp] theorem State.enterFinish_free (s : State) (f : Finish) :
    (s.enterFinish f).free = s.free := by
  simp only [State.enterFinish]; repeat' split
  all_goals simp

@[simp] theorem State.enterFinish_inputs (s : State) (f : Finish) :
    (s.enterFinish f).inputs = s.inputs := by
  simp only [State.enterFinish]; repeat' split
  all_goals simp

@[simp] theorem State.enterFinish_resetAsserted (s : State) (f : Finish) :
    (s.enterFinish f).resetAsserted = s.resetAsserted := by
  simp only [State.enterFinish]; repeat' split
  all_goals simp

@[simp] theorem State.enterFinish_lb (s : State) (f : Finish) :
    (s.enterFinish f).lb = s.lb := by
  simp only [State.enterFinish]; repeat' split
  all_goals simp

@[simp] theorem State.enterFinish_ts (s : State) (f : Finish) :
    (s.enterFinish f).ts = s.ts := by
  simp only [State.enterFinish]; repeat' split
  all_goals simp

@[simp] theorem State.enterFinish_ss (s : State) (f : Finish) :
    (s.enterFinish f).ss = s.ss := by
  simp only [State.enterFinish]; repeat' split
  all_goals simp

@[simp] theorem State.enterFinish_pc (s : State) (f : Finish) :
    (s.enterFinish f).pc = s.pc := by
  simp only [State.enterFinish]; repeat' split
  all_goals simp

@[simp] theorem State.holeDrilled_pending (s : State) (f : Finish) :
    (s.holeDrilled f).pending = s.pending := by
  simp only [State.holeDrilled]; repeat' split
  all_goals simp

@[simp] theorem State.holeDrilled_time (s : State) (f : Finish) :
    (s.holeDrilled f).time = s.time := by
  simp only [State.holeDrilled]; repeat' split
  all_goals simp

@[simp] theorem State.holeDrilled_encoder (s : State) (f : Finish) :
    (s.holeDrilled f).encoder = s.encoder := by
  simp only [State.holeDrilled]; repeat' split
  all_goals simp

@[simp] theorem State.holeDrilled_travelOwed (s : State) (f : Finish) :
    (s.holeDrilled f).travelOwed = s.travelOwed := by
  simp only [State.holeDrilled]; repeat' split
  all_goals simp

@[simp] theorem State.holeDrilled_free (s : State) (f : Finish) :
    (s.holeDrilled f).free = s.free := by
  simp only [State.holeDrilled]; repeat' split
  all_goals simp

@[simp] theorem State.holeDrilled_inputs (s : State) (f : Finish) :
    (s.holeDrilled f).inputs = s.inputs := by
  simp only [State.holeDrilled]; repeat' split
  all_goals simp

@[simp] theorem State.holeDrilled_resetAsserted (s : State) (f : Finish) :
    (s.holeDrilled f).resetAsserted = s.resetAsserted := by
  simp only [State.holeDrilled]; repeat' split
  all_goals simp

@[simp] theorem State.holeDrilled_lb (s : State) (f : Finish) :
    (s.holeDrilled f).lb = s.lb := by
  simp only [State.holeDrilled]; repeat' split
  all_goals simp

@[simp] theorem State.holeDrilled_ts (s : State) (f : Finish) :
    (s.holeDrilled f).ts = s.ts := by
  simp only [State.holeDrilled]; repeat' split
  all_goals simp

@[simp] theorem State.holeDrilled_ss (s : State) (f : Finish) :
    (s.holeDrilled f).ss = s.ss := by
  simp only [State.holeDrilled]; repeat' split
  all_goals simp

@[simp] theorem State.holeDrilled_pc (s : State) (f : Finish) :
    (s.holeDrilled f).pc = s.pc := by
  simp only [State.holeDrilled]; repeat' split
  all_goals simp

@[simp] theorem State.feedEnded_pending (s : State) :
    (s.feedEnded).pending = s.pending := by
  simp only [State.feedEnded]; repeat' split
  all_goals simp

@[simp] theorem State.feedEnded_time (s : State) :
    (s.feedEnded).time = s.time := by
  simp only [State.feedEnded]; repeat' split
  all_goals simp

@[simp] theorem State.feedEnded_encoder (s : State) :
    (s.feedEnded).encoder = s.encoder := by
  simp only [State.feedEnded]; repeat' split
  all_goals simp

@[simp] theorem State.feedEnded_travelOwed (s : State) :
    (s.feedEnded).travelOwed = s.travelOwed := by
  simp only [State.feedEnded]; repeat' split
  all_goals simp

@[simp] theorem State.feedEnded_free (s : State) :
    (s.feedEnded).free = s.free := by
  simp only [State.feedEnded]; repeat' split
  all_goals simp

@[simp] theorem State.feedEnded_inputs (s : State) :
    (s.feedEnded).inputs = s.inputs := by
  simp only [State.feedEnded]; repeat' split
  all_goals simp

@[simp] theorem State.feedEnded_resetAsserted (s : State) :
    (s.feedEnded).resetAsserted = s.resetAsserted := by
  simp only [State.feedEnded]; repeat' split
  all_goals simp

@[simp] theorem State.feedEnded_lp (s : State) :
    (s.feedEnded).lp = s.lp := by
  simp only [State.feedEnded]; repeat' split
  all_goals simp

@[simp] theorem State.feedEnded_lb (s : State) :
    (s.feedEnded).lb = s.lb := by
  simp only [State.feedEnded]; repeat' split
  all_goals simp

@[simp] theorem State.feedEnded_ts (s : State) :
    (s.feedEnded).ts = s.ts := by
  simp only [State.feedEnded]; repeat' split
  all_goals simp

@[simp] theorem State.feedEnded_ss (s : State) :
    (s.feedEnded).ss = s.ss := by
  simp only [State.feedEnded]; repeat' split
  all_goals simp

@[simp] theorem State.feedEnded_pc (s : State) :
    (s.feedEnded).pc = s.pc := by
  simp only [State.feedEnded]; repeat' split
  all_goals simp

@[simp] theorem State.feedEnded_tcu (s : State) :
    (s.feedEnded).tcu = s.tcu := by
  simp only [State.feedEnded]; repeat' split
  all_goals simp

@[simp] theorem State.feedEnded_lm (s : State) :
    (s.feedEnded).lm = s.lm := by
  simp only [State.feedEnded]; repeat' split
  all_goals simp

@[simp] theorem State.feedCut_pending (s : State) (n : Nat) :
    (s.feedCut n).pending = s.pending := by
  simp only [State.feedCut]; repeat' split
  all_goals simp

@[simp] theorem State.feedCut_time (s : State) (n : Nat) :
    (s.feedCut n).time = s.time := by
  simp only [State.feedCut]; repeat' split
  all_goals simp

@[simp] theorem State.feedCut_encoder (s : State) (n : Nat) :
    (s.feedCut n).encoder = s.encoder := by
  simp only [State.feedCut]; repeat' split
  all_goals simp

@[simp] theorem State.feedCut_travelOwed (s : State) (n : Nat) :
    (s.feedCut n).travelOwed = s.travelOwed := by
  simp only [State.feedCut]; repeat' split
  all_goals simp

@[simp] theorem State.feedCut_free (s : State) (n : Nat) :
    (s.feedCut n).free = s.free := by
  simp only [State.feedCut]; repeat' split
  all_goals simp

@[simp] theorem State.feedCut_inputs (s : State) (n : Nat) :
    (s.feedCut n).inputs = s.inputs := by
  simp only [State.feedCut]; repeat' split
  all_goals simp

@[simp] theorem State.feedCut_resetAsserted (s : State) (n : Nat) :
    (s.feedCut n).resetAsserted = s.resetAsserted := by
  simp only [State.feedCut]; repeat' split
  all_goals simp

@[simp] theorem State.feedCut_lp (s : State) (n : Nat) :
    (s.feedCut n).lp = s.lp := by
  simp only [State.feedCut]; repeat' split
  all_goals simp

@[simp] theorem State.feedCut_si (s : State) (n : Nat) :
    (s.feedCut n).si = s.si := by
  simp only [State.feedCut]; repeat' split
  all_goals simp

@[simp] theorem State.feedCut_lb (s : State) (n : Nat) :
    (s.feedCut n).lb = s.lb := by
  simp only [State.feedCut]; repeat' split
  all_goals simp

@[simp] theorem State.feedCut_ts (s : State) (n : Nat) :
    (s.feedCut n).ts = s.ts := by
  simp only [State.feedCut]; repeat' split
  all_goals simp

@[simp] theorem State.feedCut_ss (s : State) (n : Nat) :
    (s.feedCut n).ss = s.ss := by
  simp only [State.feedCut]; repeat' split
  all_goals simp

@[simp] theorem State.feedCut_orders (s : State) (n : Nat) :
    (s.feedCut n).orders = s.orders := by
  simp only [State.feedCut]; repeat' split
  all_goals simp

@[simp] theorem State.feedCut_pc (s : State) (n : Nat) :
    (s.feedCut n).pc = s.pc := by
  simp only [State.feedCut]; repeat' split
  all_goals simp

@[simp] theorem State.feedCut_tcu (s : State) (n : Nat) :
    (s.feedCut n).tcu = s.tcu := by
  simp only [State.feedCut]; repeat' split
  all_goals simp

@[simp] theorem State.feedCut_lm (s : State) (n : Nat) :
    (s.feedCut n).lm = s.lm := by
  simp only [State.feedCut]; repeat' split
  all_goals simp

@[simp] theorem State.feedCut_lsv (s : State) (n : Nat) :
    (s.feedCut n).lsv = s.lsv := by
  simp only [State.feedCut]; repeat' split
  all_goals simp

@[simp] theorem State.feedAfterSet_pending (s : State) :
    (s.feedAfterSet).pending = s.pending := by
  simp only [State.feedAfterSet]; repeat' split
  all_goals simp

@[simp] theorem State.feedAfterSet_time (s : State) :
    (s.feedAfterSet).time = s.time := by
  simp only [State.feedAfterSet]; repeat' split
  all_goals simp

@[simp] theorem State.feedAfterSet_encoder (s : State) :
    (s.feedAfterSet).encoder = s.encoder := by
  simp only [State.feedAfterSet]; repeat' split
  all_goals simp

@[simp] theorem State.feedAfterSet_travelOwed (s : State) :
    (s.feedAfterSet).travelOwed = s.travelOwed := by
  simp only [State.feedAfterSet]; repeat' split
  all_goals simp

@[simp] theorem State.feedAfterSet_free (s : State) :
    (s.feedAfterSet).free = s.free := by
  simp only [State.feedAfterSet]; repeat' split
  all_goals simp

@[simp] theorem State.feedAfterSet_inputs (s : State) :
    (s.feedAfterSet).inputs = s.inputs := by
  simp only [State.feedAfterSet]; repeat' split
  all_goals simp

@[simp] theorem State.feedAfterSet_resetAsserted (s : State) :
    (s.feedAfterSet).resetAsserted = s.resetAsserted := by
  simp only [State.feedAfterSet]; repeat' split
  all_goals simp

@[simp] theorem State.feedAfterSet_lb (s : State) :
    (s.feedAfterSet).lb = s.lb := by
  simp only [State.feedAfterSet]; repeat' split
  all_goals simp

@[simp] theorem State.feedAfterSet_ts (s : State) :
    (s.feedAfterSet).ts = s.ts := by
  simp only [State.feedAfterSet]; repeat' split
  all_goals simp

@[simp] theorem State.feedAfterSet_ss (s : State) :
    (s.feedAfterSet).ss = s.ss := by
  simp only [State.feedAfterSet]; repeat' split
  all_goals simp

@[simp] theorem State.feedAfterSet_pc (s : State) :
    (s.feedAfterSet).pc = s.pc := by
  simp only [State.feedAfterSet]; repeat' split
  all_goals simp

@[simp] theorem State.countOutcome_pending (s : State) (o : BookOutcome) :
    (s.countOutcome o).pending = s.pending := by
  simp only [State.countOutcome]; repeat' split
  all_goals simp

@[simp] theorem State.countOutcome_time (s : State) (o : BookOutcome) :
    (s.countOutcome o).time = s.time := by
  simp only [State.countOutcome]; repeat' split
  all_goals simp

@[simp] theorem State.countOutcome_encoder (s : State) (o : BookOutcome) :
    (s.countOutcome o).encoder = s.encoder := by
  simp only [State.countOutcome]; repeat' split
  all_goals simp

@[simp] theorem State.countOutcome_travelOwed (s : State) (o : BookOutcome) :
    (s.countOutcome o).travelOwed = s.travelOwed := by
  simp only [State.countOutcome]; repeat' split
  all_goals simp

@[simp] theorem State.countOutcome_free (s : State) (o : BookOutcome) :
    (s.countOutcome o).free = s.free := by
  simp only [State.countOutcome]; repeat' split
  all_goals simp

@[simp] theorem State.countOutcome_inputs (s : State) (o : BookOutcome) :
    (s.countOutcome o).inputs = s.inputs := by
  simp only [State.countOutcome]; repeat' split
  all_goals simp

@[simp] theorem State.countOutcome_resetAsserted (s : State) (o : BookOutcome) :
    (s.countOutcome o).resetAsserted = s.resetAsserted := by
  simp only [State.countOutcome]; repeat' split
  all_goals simp

@[simp] theorem State.countOutcome_si (s : State) (o : BookOutcome) :
    (s.countOutcome o).si = s.si := by
  simp only [State.countOutcome]; repeat' split
  all_goals simp

@[simp] theorem State.countOutcome_lb (s : State) (o : BookOutcome) :
    (s.countOutcome o).lb = s.lb := by
  simp only [State.countOutcome]; repeat' split
  all_goals simp

@[simp] theorem State.countOutcome_ts (s : State) (o : BookOutcome) :
    (s.countOutcome o).ts = s.ts := by
  simp only [State.countOutcome]; repeat' split
  all_goals simp

@[simp] theorem State.countOutcome_ss (s : State) (o : BookOutcome) :
    (s.countOutcome o).ss = s.ss := by
  simp only [State.countOutcome]; repeat' split
  all_goals simp

@[simp] theorem State.countOutcome_orders (s : State) (o : BookOutcome) :
    (s.countOutcome o).orders = s.orders := by
  simp only [State.countOutcome]; repeat' split
  all_goals simp

@[simp] theorem State.countOutcome_pc (s : State) (o : BookOutcome) :
    (s.countOutcome o).pc = s.pc := by
  simp only [State.countOutcome]; repeat' split
  all_goals simp

@[simp] theorem State.countOutcome_tcu (s : State) (o : BookOutcome) :
    (s.countOutcome o).tcu = s.tcu := by
  simp only [State.countOutcome]; repeat' split
  all_goals simp

@[simp] theorem State.countOutcome_fu (s : State) (o : BookOutcome) :
    (s.countOutcome o).fu = s.fu := by
  simp only [State.countOutcome]; repeat' split
  all_goals simp

@[simp] theorem State.countOutcome_lsv (s : State) (o : BookOutcome) :
    (s.countOutcome o).lsv = s.lsv := by
  simp only [State.countOutcome]; repeat' split
  all_goals simp

@[simp] theorem State.passOutcome_pending (s : State) (i : Slot) (b : Book) (o : BookOutcome) :
    (s.passOutcome i b o).pending = s.pending := by
  simp only [State.passOutcome]; repeat' split
  all_goals simp

@[simp] theorem State.passOutcome_time (s : State) (i : Slot) (b : Book) (o : BookOutcome) :
    (s.passOutcome i b o).time = s.time := by
  simp only [State.passOutcome]; repeat' split
  all_goals simp

@[simp] theorem State.passOutcome_encoder (s : State) (i : Slot) (b : Book) (o : BookOutcome) :
    (s.passOutcome i b o).encoder = s.encoder := by
  simp only [State.passOutcome]; repeat' split
  all_goals simp

@[simp] theorem State.passOutcome_travelOwed (s : State) (i : Slot) (b : Book) (o : BookOutcome) :
    (s.passOutcome i b o).travelOwed = s.travelOwed := by
  simp only [State.passOutcome]; repeat' split
  all_goals simp

@[simp] theorem State.passOutcome_free (s : State) (i : Slot) (b : Book) (o : BookOutcome) :
    (s.passOutcome i b o).free = s.free := by
  simp only [State.passOutcome]; repeat' split
  all_goals simp

@[simp] theorem State.passOutcome_inputs (s : State) (i : Slot) (b : Book) (o : BookOutcome) :
    (s.passOutcome i b o).inputs = s.inputs := by
  simp only [State.passOutcome]; repeat' split
  all_goals simp

@[simp] theorem State.passOutcome_resetAsserted (s : State) (i : Slot) (b : Book) (o : BookOutcome) :
    (s.passOutcome i b o).resetAsserted = s.resetAsserted := by
  simp only [State.passOutcome]; repeat' split
  all_goals simp

@[simp] theorem State.passOutcome_lb (s : State) (i : Slot) (b : Book) (o : BookOutcome) :
    (s.passOutcome i b o).lb = s.lb := by
  simp only [State.passOutcome]; repeat' split
  all_goals simp

@[simp] theorem State.passOutcome_ss (s : State) (i : Slot) (b : Book) (o : BookOutcome) :
    (s.passOutcome i b o).ss = s.ss := by
  simp only [State.passOutcome]; repeat' split
  all_goals simp

@[simp] theorem State.passOutcome_orders (s : State) (i : Slot) (b : Book) (o : BookOutcome) :
    (s.passOutcome i b o).orders = s.orders := by
  simp only [State.passOutcome]; repeat' split
  all_goals simp

@[simp] theorem State.passOutcome_pc (s : State) (i : Slot) (b : Book) (o : BookOutcome) :
    (s.passOutcome i b o).pc = s.pc := by
  simp only [State.passOutcome]; repeat' split
  all_goals simp

@[simp] theorem State.passBook_pending (s : State) (f : Finish) :
    (s.passBook f).pending = s.pending := by
  simp only [State.passBook]; repeat' split
  all_goals simp

@[simp] theorem State.passBook_time (s : State) (f : Finish) :
    (s.passBook f).time = s.time := by
  simp only [State.passBook]; repeat' split
  all_goals simp

@[simp] theorem State.passBook_encoder (s : State) (f : Finish) :
    (s.passBook f).encoder = s.encoder := by
  simp only [State.passBook]; repeat' split
  all_goals simp

@[simp] theorem State.passBook_travelOwed (s : State) (f : Finish) :
    (s.passBook f).travelOwed = s.travelOwed := by
  simp only [State.passBook]; repeat' split
  all_goals simp

@[simp] theorem State.passBook_free (s : State) (f : Finish) :
    (s.passBook f).free = s.free := by
  simp only [State.passBook]; repeat' split
  all_goals simp

@[simp] theorem State.passBook_inputs (s : State) (f : Finish) :
    (s.passBook f).inputs = s.inputs := by
  simp only [State.passBook]; repeat' split
  all_goals simp

@[simp] theorem State.passBook_resetAsserted (s : State) (f : Finish) :
    (s.passBook f).resetAsserted = s.resetAsserted := by
  simp only [State.passBook]; repeat' split
  all_goals simp

@[simp] theorem State.passBook_lb (s : State) (f : Finish) :
    (s.passBook f).lb = s.lb := by
  simp only [State.passBook]; repeat' split
  all_goals simp

@[simp] theorem State.passBook_ss (s : State) (f : Finish) :
    (s.passBook f).ss = s.ss := by
  simp only [State.passBook]; repeat' split
  all_goals simp

@[simp] theorem State.passBook_orders (s : State) (f : Finish) :
    (s.passBook f).orders = s.orders := by
  simp only [State.passBook]; repeat' split
  all_goals simp

@[simp] theorem State.passBook_pc (s : State) (f : Finish) :
    (s.passBook f).pc = s.pc := by
  simp only [State.passBook]; repeat' split
  all_goals simp

@[simp] theorem State.resumeFinish_pending (s : State) :
    (s.resumeFinish).pending = s.pending := by
  simp only [State.resumeFinish]; repeat' split
  all_goals simp

@[simp] theorem State.resumeFinish_time (s : State) :
    (s.resumeFinish).time = s.time := by
  simp only [State.resumeFinish]; repeat' split
  all_goals simp

@[simp] theorem State.resumeFinish_encoder (s : State) :
    (s.resumeFinish).encoder = s.encoder := by
  simp only [State.resumeFinish]; repeat' split
  all_goals simp

@[simp] theorem State.resumeFinish_travelOwed (s : State) :
    (s.resumeFinish).travelOwed = s.travelOwed := by
  simp only [State.resumeFinish]; repeat' split
  all_goals simp

@[simp] theorem State.resumeFinish_free (s : State) :
    (s.resumeFinish).free = s.free := by
  simp only [State.resumeFinish]; repeat' split
  all_goals simp

@[simp] theorem State.resumeFinish_inputs (s : State) :
    (s.resumeFinish).inputs = s.inputs := by
  simp only [State.resumeFinish]; repeat' split
  all_goals simp

@[simp] theorem State.resumeFinish_resetAsserted (s : State) :
    (s.resumeFinish).resetAsserted = s.resetAsserted := by
  simp only [State.resumeFinish]; repeat' split
  all_goals simp

@[simp] theorem State.resumeFinish_lb (s : State) :
    (s.resumeFinish).lb = s.lb := by
  simp only [State.resumeFinish]; repeat' split
  all_goals simp

@[simp] theorem State.resumeFinish_ts (s : State) :
    (s.resumeFinish).ts = s.ts := by
  simp only [State.resumeFinish]; repeat' split
  all_goals simp

@[simp] theorem State.resumeFinish_ss (s : State) :
    (s.resumeFinish).ss = s.ss := by
  simp only [State.resumeFinish]; repeat' split
  all_goals simp

@[simp] theorem State.resumeFinish_pc (s : State) :
    (s.resumeFinish).pc = s.pc := by
  simp only [State.resumeFinish]; repeat' split
  all_goals simp

@[simp] theorem State.resumeFinish_tcu (s : State) :
    (s.resumeFinish).tcu = s.tcu := by
  simp only [State.resumeFinish]; repeat' split
  all_goals simp

@[simp] theorem State.stopOnBed_pending (s : State) (b : Bed) :
    (s.stopOnBed b).pending = s.pending := by
  simp only [State.stopOnBed]; repeat' split
  all_goals simp

@[simp] theorem State.stopOnBed_time (s : State) (b : Bed) :
    (s.stopOnBed b).time = s.time := by
  simp only [State.stopOnBed]; repeat' split
  all_goals simp

@[simp] theorem State.stopOnBed_encoder (s : State) (b : Bed) :
    (s.stopOnBed b).encoder = s.encoder := by
  simp only [State.stopOnBed]; repeat' split
  all_goals simp

@[simp] theorem State.stopOnBed_travelOwed (s : State) (b : Bed) :
    (s.stopOnBed b).travelOwed = s.travelOwed := by
  simp only [State.stopOnBed]; repeat' split
  all_goals simp

@[simp] theorem State.stopOnBed_free (s : State) (b : Bed) :
    (s.stopOnBed b).free = s.free := by
  simp only [State.stopOnBed]; repeat' split
  all_goals simp

@[simp] theorem State.stopOnBed_inputs (s : State) (b : Bed) :
    (s.stopOnBed b).inputs = s.inputs := by
  simp only [State.stopOnBed]; repeat' split
  all_goals simp

@[simp] theorem State.stopOnBed_resetAsserted (s : State) (b : Bed) :
    (s.stopOnBed b).resetAsserted = s.resetAsserted := by
  simp only [State.stopOnBed]; repeat' split
  all_goals simp

@[simp] theorem State.stopOnBed_lb (s : State) (b : Bed) :
    (s.stopOnBed b).lb = s.lb := by
  simp only [State.stopOnBed]; repeat' split
  all_goals simp

@[simp] theorem State.stopOnBed_ts (s : State) (b : Bed) :
    (s.stopOnBed b).ts = s.ts := by
  simp only [State.stopOnBed]; repeat' split
  all_goals simp

@[simp] theorem State.stopOnBed_pc (s : State) (b : Bed) :
    (s.stopOnBed b).pc = s.pc := by
  simp only [State.stopOnBed]; repeat' split
  all_goals simp

@[simp] theorem State.stopOnBed_tcu (s : State) (b : Bed) :
    (s.stopOnBed b).tcu = s.tcu := by
  simp only [State.stopOnBed]; repeat' split
  all_goals simp

@[simp] theorem State.stopBed_pending (s : State) (b : Bed) :
    (s.stopBed b).pending = s.pending := by
  simp only [State.stopBed]; repeat' split
  all_goals simp

@[simp] theorem State.stopBed_time (s : State) (b : Bed) :
    (s.stopBed b).time = s.time := by
  simp only [State.stopBed]; repeat' split
  all_goals simp

@[simp] theorem State.stopBed_encoder (s : State) (b : Bed) :
    (s.stopBed b).encoder = s.encoder := by
  simp only [State.stopBed]; repeat' split
  all_goals simp

@[simp] theorem State.stopBed_travelOwed (s : State) (b : Bed) :
    (s.stopBed b).travelOwed = s.travelOwed := by
  simp only [State.stopBed]; repeat' split
  all_goals simp

@[simp] theorem State.stopBed_free (s : State) (b : Bed) :
    (s.stopBed b).free = s.free := by
  simp only [State.stopBed]; repeat' split
  all_goals simp

@[simp] theorem State.stopBed_inputs (s : State) (b : Bed) :
    (s.stopBed b).inputs = s.inputs := by
  simp only [State.stopBed]; repeat' split
  all_goals simp

@[simp] theorem State.stopBed_resetAsserted (s : State) (b : Bed) :
    (s.stopBed b).resetAsserted = s.resetAsserted := by
  simp only [State.stopBed]; repeat' split
  all_goals simp

@[simp] theorem State.stopBed_lb (s : State) (b : Bed) :
    (s.stopBed b).lb = s.lb := by
  simp only [State.stopBed]; repeat' split
  all_goals simp

@[simp] theorem State.stopBed_ts (s : State) (b : Bed) :
    (s.stopBed b).ts = s.ts := by
  simp only [State.stopBed]; repeat' split
  all_goals simp

@[simp] theorem State.stopBed_pc (s : State) (b : Bed) :
    (s.stopBed b).pc = s.pc := by
  simp only [State.stopBed]; repeat' split
  all_goals simp

@[simp] theorem State.stopBed_tcu (s : State) (b : Bed) :
    (s.stopBed b).tcu = s.tcu := by
  simp only [State.stopBed]; repeat' split
  all_goals simp

@[simp] theorem State.stopScheduler_pending (s : State) :
    (s.stopScheduler).pending = s.pending := by
  simp only [State.stopScheduler]; repeat' split
  all_goals simp

@[simp] theorem State.stopScheduler_time (s : State) :
    (s.stopScheduler).time = s.time := by
  simp only [State.stopScheduler]; repeat' split
  all_goals simp

@[simp] theorem State.stopScheduler_encoder (s : State) :
    (s.stopScheduler).encoder = s.encoder := by
  simp only [State.stopScheduler]; repeat' split
  all_goals simp

@[simp] theorem State.stopScheduler_travelOwed (s : State) :
    (s.stopScheduler).travelOwed = s.travelOwed := by
  simp only [State.stopScheduler]; repeat' split
  all_goals simp

@[simp] theorem State.stopScheduler_free (s : State) :
    (s.stopScheduler).free = s.free := by
  simp only [State.stopScheduler]; repeat' split
  all_goals simp

@[simp] theorem State.stopScheduler_inputs (s : State) :
    (s.stopScheduler).inputs = s.inputs := by
  simp only [State.stopScheduler]; repeat' split
  all_goals simp

@[simp] theorem State.stopScheduler_resetAsserted (s : State) :
    (s.stopScheduler).resetAsserted = s.resetAsserted := by
  simp only [State.stopScheduler]; repeat' split
  all_goals simp

@[simp] theorem State.stopScheduler_lb (s : State) :
    (s.stopScheduler).lb = s.lb := by
  simp only [State.stopScheduler]; repeat' split
  all_goals simp

@[simp] theorem State.stopScheduler_ts (s : State) :
    (s.stopScheduler).ts = s.ts := by
  simp only [State.stopScheduler]; repeat' split
  all_goals simp

@[simp] theorem State.stopScheduler_pc (s : State) :
    (s.stopScheduler).pc = s.pc := by
  simp only [State.stopScheduler]; repeat' split
  all_goals simp

@[simp] theorem State.stopScheduler_tcu (s : State) :
    (s.stopScheduler).tcu = s.tcu := by
  simp only [State.stopScheduler]; repeat' split
  all_goals simp

@[simp] theorem State.interruptFinish_pending (s : State) (f : Finish) :
    (s.interruptFinish f).pending = s.pending := by
  simp only [State.interruptFinish]; repeat' split
  all_goals simp

@[simp] theorem State.interruptFinish_time (s : State) (f : Finish) :
    (s.interruptFinish f).time = s.time := by
  simp only [State.interruptFinish]; repeat' split
  all_goals simp

@[simp] theorem State.interruptFinish_encoder (s : State) (f : Finish) :
    (s.interruptFinish f).encoder = s.encoder := by
  simp only [State.interruptFinish]; repeat' split
  all_goals simp

@[simp] theorem State.interruptFinish_travelOwed (s : State) (f : Finish) :
    (s.interruptFinish f).travelOwed = s.travelOwed := by
  simp only [State.interruptFinish]; repeat' split
  all_goals simp

@[simp] theorem State.interruptFinish_free (s : State) (f : Finish) :
    (s.interruptFinish f).free = s.free := by
  simp only [State.interruptFinish]; repeat' split
  all_goals simp

@[simp] theorem State.interruptFinish_inputs (s : State) (f : Finish) :
    (s.interruptFinish f).inputs = s.inputs := by
  simp only [State.interruptFinish]; repeat' split
  all_goals simp

@[simp] theorem State.interruptFinish_resetAsserted (s : State) (f : Finish) :
    (s.interruptFinish f).resetAsserted = s.resetAsserted := by
  simp only [State.interruptFinish]; repeat' split
  all_goals simp

@[simp] theorem State.interruptFinish_lb (s : State) (f : Finish) :
    (s.interruptFinish f).lb = s.lb := by
  simp only [State.interruptFinish]; repeat' split
  all_goals simp

@[simp] theorem State.interruptFinish_ts (s : State) (f : Finish) :
    (s.interruptFinish f).ts = s.ts := by
  simp only [State.interruptFinish]; repeat' split
  all_goals simp

@[simp] theorem State.interruptFinish_ss (s : State) (f : Finish) :
    (s.interruptFinish f).ss = s.ss := by
  simp only [State.interruptFinish]; repeat' split
  all_goals simp

@[simp] theorem State.interruptFinish_pc (s : State) (f : Finish) :
    (s.interruptFinish f).pc = s.pc := by
  simp only [State.interruptFinish]; repeat' split
  all_goals simp

@[simp] theorem State.interruptFinish_tcu (s : State) (f : Finish) :
    (s.interruptFinish f).tcu = s.tcu := by
  simp only [State.interruptFinish]; repeat' split
  all_goals simp

@[simp] theorem State.stopStep_pending (s : State) (f : Finish) :
    (s.stopStep f).pending = s.pending := by
  simp only [State.stopStep]; repeat' split
  all_goals simp

@[simp] theorem State.stopStep_time (s : State) (f : Finish) :
    (s.stopStep f).time = s.time := by
  simp only [State.stopStep]; repeat' split
  all_goals simp

@[simp] theorem State.stopStep_encoder (s : State) (f : Finish) :
    (s.stopStep f).encoder = s.encoder := by
  simp only [State.stopStep]; repeat' split
  all_goals simp

@[simp] theorem State.stopStep_travelOwed (s : State) (f : Finish) :
    (s.stopStep f).travelOwed = s.travelOwed := by
  simp only [State.stopStep]; repeat' split
  all_goals simp

@[simp] theorem State.stopStep_free (s : State) (f : Finish) :
    (s.stopStep f).free = s.free := by
  simp only [State.stopStep]; repeat' split
  all_goals simp

@[simp] theorem State.stopStep_inputs (s : State) (f : Finish) :
    (s.stopStep f).inputs = s.inputs := by
  simp only [State.stopStep]; repeat' split
  all_goals simp

@[simp] theorem State.stopStep_resetAsserted (s : State) (f : Finish) :
    (s.stopStep f).resetAsserted = s.resetAsserted := by
  simp only [State.stopStep]; repeat' split
  all_goals simp

@[simp] theorem State.stopStep_lb (s : State) (f : Finish) :
    (s.stopStep f).lb = s.lb := by
  simp only [State.stopStep]; repeat' split
  all_goals simp

@[simp] theorem State.stopStep_pc (s : State) (f : Finish) :
    (s.stopStep f).pc = s.pc := by
  simp only [State.stopStep]; repeat' split
  all_goals simp

@[simp] theorem State.stopFinish_pending (s : State) :
    (s.stopFinish).pending = s.pending := by
  simp only [State.stopFinish]; repeat' split
  all_goals simp

@[simp] theorem State.stopFinish_time (s : State) :
    (s.stopFinish).time = s.time := by
  simp only [State.stopFinish]; repeat' split
  all_goals simp

@[simp] theorem State.stopFinish_encoder (s : State) :
    (s.stopFinish).encoder = s.encoder := by
  simp only [State.stopFinish]; repeat' split
  all_goals simp

@[simp] theorem State.stopFinish_travelOwed (s : State) :
    (s.stopFinish).travelOwed = s.travelOwed := by
  simp only [State.stopFinish]; repeat' split
  all_goals simp

@[simp] theorem State.stopFinish_free (s : State) :
    (s.stopFinish).free = s.free := by
  simp only [State.stopFinish]; repeat' split
  all_goals simp

@[simp] theorem State.stopFinish_inputs (s : State) :
    (s.stopFinish).inputs = s.inputs := by
  simp only [State.stopFinish]; repeat' split
  all_goals simp

@[simp] theorem State.stopFinish_resetAsserted (s : State) :
    (s.stopFinish).resetAsserted = s.resetAsserted := by
  simp only [State.stopFinish]; repeat' split
  all_goals simp

@[simp] theorem State.stopFinish_lb (s : State) :
    (s.stopFinish).lb = s.lb := by
  simp only [State.stopFinish]; repeat' split
  all_goals simp

@[simp] theorem State.stopFinish_pc (s : State) :
    (s.stopFinish).pc = s.pc := by
  simp only [State.stopFinish]; repeat' split
  all_goals simp

@[simp] theorem State.enterSafeStop_pending (s : State) :
    (s.enterSafeStop).pending = s.pending := by
  simp only [State.enterSafeStop]; repeat' split
  all_goals simp

@[simp] theorem State.enterSafeStop_time (s : State) :
    (s.enterSafeStop).time = s.time := by
  simp only [State.enterSafeStop]; repeat' split
  all_goals simp

@[simp] theorem State.enterSafeStop_encoder (s : State) :
    (s.enterSafeStop).encoder = s.encoder := by
  simp only [State.enterSafeStop]; repeat' split
  all_goals simp

@[simp] theorem State.enterSafeStop_travelOwed (s : State) :
    (s.enterSafeStop).travelOwed = s.travelOwed := by
  simp only [State.enterSafeStop]; repeat' split
  all_goals simp

@[simp] theorem State.enterSafeStop_free (s : State) :
    (s.enterSafeStop).free = s.free := by
  simp only [State.enterSafeStop]; repeat' split
  all_goals simp

@[simp] theorem State.enterSafeStop_inputs (s : State) :
    (s.enterSafeStop).inputs = s.inputs := by
  simp only [State.enterSafeStop]; repeat' split
  all_goals simp

@[simp] theorem State.enterSafeStop_resetAsserted (s : State) :
    (s.enterSafeStop).resetAsserted = s.resetAsserted := by
  simp only [State.enterSafeStop]; repeat' split
  all_goals simp

@[simp] theorem State.enterSafeStop_lb (s : State) :
    (s.enterSafeStop).lb = s.lb := by
  simp only [State.enterSafeStop]; repeat' split
  all_goals simp

@[simp] theorem State.addCause_pending (s : State) (x : StopCause) :
    (s.addCause x).pending = s.pending := by
  simp only [State.addCause]; repeat' split
  all_goals simp

@[simp] theorem State.addCause_time (s : State) (x : StopCause) :
    (s.addCause x).time = s.time := by
  simp only [State.addCause]; repeat' split
  all_goals simp

@[simp] theorem State.addCause_encoder (s : State) (x : StopCause) :
    (s.addCause x).encoder = s.encoder := by
  simp only [State.addCause]; repeat' split
  all_goals simp

@[simp] theorem State.addCause_travelOwed (s : State) (x : StopCause) :
    (s.addCause x).travelOwed = s.travelOwed := by
  simp only [State.addCause]; repeat' split
  all_goals simp

@[simp] theorem State.addCause_free (s : State) (x : StopCause) :
    (s.addCause x).free = s.free := by
  simp only [State.addCause]; repeat' split
  all_goals simp

@[simp] theorem State.addCause_inputs (s : State) (x : StopCause) :
    (s.addCause x).inputs = s.inputs := by
  simp only [State.addCause]; repeat' split
  all_goals simp

@[simp] theorem State.addCause_resetAsserted (s : State) (x : StopCause) :
    (s.addCause x).resetAsserted = s.resetAsserted := by
  simp only [State.addCause]; repeat' split
  all_goals simp

@[simp] theorem State.addCause_lb (s : State) (x : StopCause) :
    (s.addCause x).lb = s.lb := by
  simp only [State.addCause]; repeat' split
  all_goals simp

@[simp] theorem State.noticeFaults_pending (s : State) (i : Slot) (b : Book) (w : SheetWords) :
    (s.noticeFaults i b w).pending = s.pending := by
  simp only [State.noticeFaults]; repeat' split
  all_goals simp

@[simp] theorem State.noticeFaults_time (s : State) (i : Slot) (b : Book) (w : SheetWords) :
    (s.noticeFaults i b w).time = s.time := by
  simp only [State.noticeFaults]; repeat' split
  all_goals simp

@[simp] theorem State.noticeFaults_encoder (s : State) (i : Slot) (b : Book) (w : SheetWords) :
    (s.noticeFaults i b w).encoder = s.encoder := by
  simp only [State.noticeFaults]; repeat' split
  all_goals simp

@[simp] theorem State.noticeFaults_travelOwed (s : State) (i : Slot) (b : Book) (w : SheetWords) :
    (s.noticeFaults i b w).travelOwed = s.travelOwed := by
  simp only [State.noticeFaults]; repeat' split
  all_goals simp

@[simp] theorem State.noticeFaults_free (s : State) (i : Slot) (b : Book) (w : SheetWords) :
    (s.noticeFaults i b w).free = s.free := by
  simp only [State.noticeFaults]; repeat' split
  all_goals simp

@[simp] theorem State.noticeFaults_inputs (s : State) (i : Slot) (b : Book) (w : SheetWords) :
    (s.noticeFaults i b w).inputs = s.inputs := by
  simp only [State.noticeFaults]; repeat' split
  all_goals simp

@[simp] theorem State.noticeFaults_resetAsserted (s : State) (i : Slot) (b : Book) (w : SheetWords) :
    (s.noticeFaults i b w).resetAsserted = s.resetAsserted := by
  simp only [State.noticeFaults]; repeat' split
  all_goals simp

@[simp] theorem State.noticeFaults_lb (s : State) (i : Slot) (b : Book) (w : SheetWords) :
    (s.noticeFaults i b w).lb = s.lb := by
  simp only [State.noticeFaults]; repeat' split
  all_goals simp

@[simp] theorem State.noticeFaults_ts (s : State) (i : Slot) (b : Book) (w : SheetWords) :
    (s.noticeFaults i b w).ts = s.ts := by
  simp only [State.noticeFaults]; repeat' split
  all_goals simp

@[simp] theorem State.noticeFaults_ss (s : State) (i : Slot) (b : Book) (w : SheetWords) :
    (s.noticeFaults i b w).ss = s.ss := by
  simp only [State.noticeFaults]; repeat' split
  all_goals simp

@[simp] theorem State.noticeFaults_pc (s : State) (i : Slot) (b : Book) (w : SheetWords) :
    (s.noticeFaults i b w).pc = s.pc := by
  simp only [State.noticeFaults]; repeat' split
  all_goals simp

@[simp] theorem State.noticeFaults_tcu (s : State) (i : Slot) (b : Book) (w : SheetWords) :
    (s.noticeFaults i b w).tcu = s.tcu := by
  simp only [State.noticeFaults]; repeat' split
  all_goals simp

@[simp] theorem State.noticeTaken_pending (s : State) (i : Slot) (b : Book) (w : SheetWords) :
    (s.noticeTaken i b w).pending = s.pending := by
  simp only [State.noticeTaken]; repeat' split
  all_goals simp

@[simp] theorem State.noticeTaken_time (s : State) (i : Slot) (b : Book) (w : SheetWords) :
    (s.noticeTaken i b w).time = s.time := by
  simp only [State.noticeTaken]; repeat' split
  all_goals simp

@[simp] theorem State.noticeTaken_encoder (s : State) (i : Slot) (b : Book) (w : SheetWords) :
    (s.noticeTaken i b w).encoder = s.encoder := by
  simp only [State.noticeTaken]; repeat' split
  all_goals simp

@[simp] theorem State.noticeTaken_travelOwed (s : State) (i : Slot) (b : Book) (w : SheetWords) :
    (s.noticeTaken i b w).travelOwed = s.travelOwed := by
  simp only [State.noticeTaken]; repeat' split
  all_goals simp

@[simp] theorem State.noticeTaken_free (s : State) (i : Slot) (b : Book) (w : SheetWords) :
    (s.noticeTaken i b w).free = s.free := by
  simp only [State.noticeTaken]; repeat' split
  all_goals simp

@[simp] theorem State.noticeTaken_inputs (s : State) (i : Slot) (b : Book) (w : SheetWords) :
    (s.noticeTaken i b w).inputs = s.inputs := by
  simp only [State.noticeTaken]; repeat' split
  all_goals simp

@[simp] theorem State.noticeTaken_resetAsserted (s : State) (i : Slot) (b : Book) (w : SheetWords) :
    (s.noticeTaken i b w).resetAsserted = s.resetAsserted := by
  simp only [State.noticeTaken]; repeat' split
  all_goals simp

@[simp] theorem State.noticeTaken_lb (s : State) (i : Slot) (b : Book) (w : SheetWords) :
    (s.noticeTaken i b w).lb = s.lb := by
  simp only [State.noticeTaken]; repeat' split
  all_goals simp

@[simp] theorem State.noticeTaken_ts (s : State) (i : Slot) (b : Book) (w : SheetWords) :
    (s.noticeTaken i b w).ts = s.ts := by
  simp only [State.noticeTaken]; repeat' split
  all_goals simp

@[simp] theorem State.noticeTaken_ss (s : State) (i : Slot) (b : Book) (w : SheetWords) :
    (s.noticeTaken i b w).ss = s.ss := by
  simp only [State.noticeTaken]; repeat' split
  all_goals simp

@[simp] theorem State.noticeTaken_pc (s : State) (i : Slot) (b : Book) (w : SheetWords) :
    (s.noticeTaken i b w).pc = s.pc := by
  simp only [State.noticeTaken]; repeat' split
  all_goals simp

@[simp] theorem State.noticeTaken_tcu (s : State) (i : Slot) (b : Book) (w : SheetWords) :
    (s.noticeTaken i b w).tcu = s.tcu := by
  simp only [State.noticeTaken]; repeat' split
  all_goals simp

@[simp] theorem State.noticeDiverted_pending (s : State) (r : DivertReason) (w : SheetWords) :
    (s.noticeDiverted r w).pending = s.pending := by
  simp only [State.noticeDiverted]; repeat' split
  all_goals simp

@[simp] theorem State.noticeDiverted_time (s : State) (r : DivertReason) (w : SheetWords) :
    (s.noticeDiverted r w).time = s.time := by
  simp only [State.noticeDiverted]; repeat' split
  all_goals simp

@[simp] theorem State.noticeDiverted_encoder (s : State) (r : DivertReason) (w : SheetWords) :
    (s.noticeDiverted r w).encoder = s.encoder := by
  simp only [State.noticeDiverted]; repeat' split
  all_goals simp

@[simp] theorem State.noticeDiverted_travelOwed (s : State) (r : DivertReason) (w : SheetWords) :
    (s.noticeDiverted r w).travelOwed = s.travelOwed := by
  simp only [State.noticeDiverted]; repeat' split
  all_goals simp

@[simp] theorem State.noticeDiverted_free (s : State) (r : DivertReason) (w : SheetWords) :
    (s.noticeDiverted r w).free = s.free := by
  simp only [State.noticeDiverted]; repeat' split
  all_goals simp

@[simp] theorem State.noticeDiverted_inputs (s : State) (r : DivertReason) (w : SheetWords) :
    (s.noticeDiverted r w).inputs = s.inputs := by
  simp only [State.noticeDiverted]; repeat' split
  all_goals simp

@[simp] theorem State.noticeDiverted_resetAsserted (s : State) (r : DivertReason) (w : SheetWords) :
    (s.noticeDiverted r w).resetAsserted = s.resetAsserted := by
  simp only [State.noticeDiverted]; repeat' split
  all_goals simp

@[simp] theorem State.noticeDiverted_lb (s : State) (r : DivertReason) (w : SheetWords) :
    (s.noticeDiverted r w).lb = s.lb := by
  simp only [State.noticeDiverted]; repeat' split
  all_goals simp

@[simp] theorem State.noticeDiverted_ts (s : State) (r : DivertReason) (w : SheetWords) :
    (s.noticeDiverted r w).ts = s.ts := by
  simp only [State.noticeDiverted]; repeat' split
  all_goals simp

@[simp] theorem State.noticeDiverted_ss (s : State) (r : DivertReason) (w : SheetWords) :
    (s.noticeDiverted r w).ss = s.ss := by
  simp only [State.noticeDiverted]; repeat' split
  all_goals simp

@[simp] theorem State.noticeDiverted_orders (s : State) (r : DivertReason) (w : SheetWords) :
    (s.noticeDiverted r w).orders = s.orders := by
  simp only [State.noticeDiverted]; repeat' split
  all_goals simp

@[simp] theorem State.noticeDiverted_pc (s : State) (r : DivertReason) (w : SheetWords) :
    (s.noticeDiverted r w).pc = s.pc := by
  simp only [State.noticeDiverted]; repeat' split
  all_goals simp

@[simp] theorem State.noticeDiverted_tcu (s : State) (r : DivertReason) (w : SheetWords) :
    (s.noticeDiverted r w).tcu = s.tcu := by
  simp only [State.noticeDiverted]; repeat' split
  all_goals simp

@[simp] theorem State.noticeDiverted_fu (s : State) (r : DivertReason) (w : SheetWords) :
    (s.noticeDiverted r w).fu = s.fu := by
  simp only [State.noticeDiverted]; repeat' split
  all_goals simp

@[simp] theorem State.noticeDiverted_lsv (s : State) (r : DivertReason) (w : SheetWords) :
    (s.noticeDiverted r w).lsv = s.lsv := by
  simp only [State.noticeDiverted]; repeat' split
  all_goals simp

@[simp] theorem State.noticeFor_pending (s : State) (i : Slot) (b : Book) (w : SheetWords) :
    (s.noticeFor i b w).pending = s.pending := by
  simp only [State.noticeFor]; repeat' split
  all_goals simp

@[simp] theorem State.noticeFor_time (s : State) (i : Slot) (b : Book) (w : SheetWords) :
    (s.noticeFor i b w).time = s.time := by
  simp only [State.noticeFor]; repeat' split
  all_goals simp

@[simp] theorem State.noticeFor_encoder (s : State) (i : Slot) (b : Book) (w : SheetWords) :
    (s.noticeFor i b w).encoder = s.encoder := by
  simp only [State.noticeFor]; repeat' split
  all_goals simp

@[simp] theorem State.noticeFor_travelOwed (s : State) (i : Slot) (b : Book) (w : SheetWords) :
    (s.noticeFor i b w).travelOwed = s.travelOwed := by
  simp only [State.noticeFor]; repeat' split
  all_goals simp

@[simp] theorem State.noticeFor_free (s : State) (i : Slot) (b : Book) (w : SheetWords) :
    (s.noticeFor i b w).free = s.free := by
  simp only [State.noticeFor]; repeat' split
  all_goals simp

@[simp] theorem State.noticeFor_inputs (s : State) (i : Slot) (b : Book) (w : SheetWords) :
    (s.noticeFor i b w).inputs = s.inputs := by
  simp only [State.noticeFor]; repeat' split
  all_goals simp

@[simp] theorem State.noticeFor_resetAsserted (s : State) (i : Slot) (b : Book) (w : SheetWords) :
    (s.noticeFor i b w).resetAsserted = s.resetAsserted := by
  simp only [State.noticeFor]; repeat' split
  all_goals simp

@[simp] theorem State.noticeFor_lb (s : State) (i : Slot) (b : Book) (w : SheetWords) :
    (s.noticeFor i b w).lb = s.lb := by
  simp only [State.noticeFor]; repeat' split
  all_goals simp

@[simp] theorem State.noticeFor_ts (s : State) (i : Slot) (b : Book) (w : SheetWords) :
    (s.noticeFor i b w).ts = s.ts := by
  simp only [State.noticeFor]; repeat' split
  all_goals simp

@[simp] theorem State.noticeFor_ss (s : State) (i : Slot) (b : Book) (w : SheetWords) :
    (s.noticeFor i b w).ss = s.ss := by
  simp only [State.noticeFor]; repeat' split
  all_goals simp

@[simp] theorem State.noticeFor_pc (s : State) (i : Slot) (b : Book) (w : SheetWords) :
    (s.noticeFor i b w).pc = s.pc := by
  simp only [State.noticeFor]; repeat' split
  all_goals simp

@[simp] theorem State.noticeFor_tcu (s : State) (i : Slot) (b : Book) (w : SheetWords) :
    (s.noticeFor i b w).tcu = s.tcu := by
  simp only [State.noticeFor]; repeat' split
  all_goals simp

@[simp] theorem State.sheetNotice_pending (s : State) (w : SheetWords) :
    (s.sheetNotice w).pending = s.pending := by
  simp only [State.sheetNotice]; repeat' split
  all_goals simp

@[simp] theorem State.sheetNotice_time (s : State) (w : SheetWords) :
    (s.sheetNotice w).time = s.time := by
  simp only [State.sheetNotice]; repeat' split
  all_goals simp

@[simp] theorem State.sheetNotice_encoder (s : State) (w : SheetWords) :
    (s.sheetNotice w).encoder = s.encoder := by
  simp only [State.sheetNotice]; repeat' split
  all_goals simp

@[simp] theorem State.sheetNotice_travelOwed (s : State) (w : SheetWords) :
    (s.sheetNotice w).travelOwed = s.travelOwed := by
  simp only [State.sheetNotice]; repeat' split
  all_goals simp

@[simp] theorem State.sheetNotice_free (s : State) (w : SheetWords) :
    (s.sheetNotice w).free = s.free := by
  simp only [State.sheetNotice]; repeat' split
  all_goals simp

@[simp] theorem State.sheetNotice_inputs (s : State) (w : SheetWords) :
    (s.sheetNotice w).inputs = s.inputs := by
  simp only [State.sheetNotice]; repeat' split
  all_goals simp

@[simp] theorem State.sheetNotice_resetAsserted (s : State) (w : SheetWords) :
    (s.sheetNotice w).resetAsserted = s.resetAsserted := by
  simp only [State.sheetNotice]; repeat' split
  all_goals simp

@[simp] theorem State.sheetNotice_lb (s : State) (w : SheetWords) :
    (s.sheetNotice w).lb = s.lb := by
  simp only [State.sheetNotice]; repeat' split
  all_goals simp

@[simp] theorem State.sheetNotice_ts (s : State) (w : SheetWords) :
    (s.sheetNotice w).ts = s.ts := by
  simp only [State.sheetNotice]; repeat' split
  all_goals simp

@[simp] theorem State.sheetNotice_ss (s : State) (w : SheetWords) :
    (s.sheetNotice w).ss = s.ss := by
  simp only [State.sheetNotice]; repeat' split
  all_goals simp

@[simp] theorem State.sheetNotice_pc (s : State) (w : SheetWords) :
    (s.sheetNotice w).pc = s.pc := by
  simp only [State.sheetNotice]; repeat' split
  all_goals simp

@[simp] theorem State.sheetNotice_tcu (s : State) (w : SheetWords) :
    (s.sheetNotice w).tcu = s.tcu := by
  simp only [State.sheetNotice]; repeat' split
  all_goals simp

@[simp] theorem State.cancelBook_pending (s : State) (i : Slot) (b : Book) :
    (s.cancelBook i b).pending = s.pending := by
  simp only [State.cancelBook]; repeat' split
  all_goals simp

@[simp] theorem State.cancelBook_time (s : State) (i : Slot) (b : Book) :
    (s.cancelBook i b).time = s.time := by
  simp only [State.cancelBook]; repeat' split
  all_goals simp

@[simp] theorem State.cancelBook_encoder (s : State) (i : Slot) (b : Book) :
    (s.cancelBook i b).encoder = s.encoder := by
  simp only [State.cancelBook]; repeat' split
  all_goals simp

@[simp] theorem State.cancelBook_travelOwed (s : State) (i : Slot) (b : Book) :
    (s.cancelBook i b).travelOwed = s.travelOwed := by
  simp only [State.cancelBook]; repeat' split
  all_goals simp

@[simp] theorem State.cancelBook_free (s : State) (i : Slot) (b : Book) :
    (s.cancelBook i b).free = s.free := by
  simp only [State.cancelBook]; repeat' split
  all_goals simp

@[simp] theorem State.cancelBook_inputs (s : State) (i : Slot) (b : Book) :
    (s.cancelBook i b).inputs = s.inputs := by
  simp only [State.cancelBook]; repeat' split
  all_goals simp

@[simp] theorem State.cancelBook_resetAsserted (s : State) (i : Slot) (b : Book) :
    (s.cancelBook i b).resetAsserted = s.resetAsserted := by
  simp only [State.cancelBook]; repeat' split
  all_goals simp

@[simp] theorem State.cancelBook_pc (s : State) (i : Slot) (b : Book) :
    (s.cancelBook i b).pc = s.pc := by
  simp only [State.cancelBook]; repeat' split
  all_goals simp

@[simp] theorem State.cancelBook_tcu (s : State) (i : Slot) (b : Book) :
    (s.cancelBook i b).tcu = s.tcu := by
  simp only [State.cancelBook]; repeat' split
  all_goals simp

@[simp] theorem State.divertSheet_pending (s : State) :
    (s.divertSheet).pending = s.pending := by
  simp only [State.divertSheet]; repeat' split
  all_goals simp

@[simp] theorem State.divertSheet_time (s : State) :
    (s.divertSheet).time = s.time := by
  simp only [State.divertSheet]; repeat' split
  all_goals simp

@[simp] theorem State.divertSheet_encoder (s : State) :
    (s.divertSheet).encoder = s.encoder := by
  simp only [State.divertSheet]; repeat' split
  all_goals simp

@[simp] theorem State.divertSheet_travelOwed (s : State) :
    (s.divertSheet).travelOwed = s.travelOwed := by
  simp only [State.divertSheet]; repeat' split
  all_goals simp

@[simp] theorem State.divertSheet_free (s : State) :
    (s.divertSheet).free = s.free := by
  simp only [State.divertSheet]; repeat' split
  all_goals simp

@[simp] theorem State.divertSheet_inputs (s : State) :
    (s.divertSheet).inputs = s.inputs := by
  simp only [State.divertSheet]; repeat' split
  all_goals simp

@[simp] theorem State.divertSheet_resetAsserted (s : State) :
    (s.divertSheet).resetAsserted = s.resetAsserted := by
  simp only [State.divertSheet]; repeat' split
  all_goals simp

@[simp] theorem State.divertSheet_si (s : State) :
    (s.divertSheet).si = s.si := by
  simp only [State.divertSheet]; repeat' split
  all_goals simp

@[simp] theorem State.divertSheet_lb (s : State) :
    (s.divertSheet).lb = s.lb := by
  simp only [State.divertSheet]; repeat' split
  all_goals simp

@[simp] theorem State.divertSheet_ts (s : State) :
    (s.divertSheet).ts = s.ts := by
  simp only [State.divertSheet]; repeat' split
  all_goals simp

@[simp] theorem State.divertSheet_ss (s : State) :
    (s.divertSheet).ss = s.ss := by
  simp only [State.divertSheet]; repeat' split
  all_goals simp

@[simp] theorem State.divertSheet_orders (s : State) :
    (s.divertSheet).orders = s.orders := by
  simp only [State.divertSheet]; repeat' split
  all_goals simp

@[simp] theorem State.divertSheet_pc (s : State) :
    (s.divertSheet).pc = s.pc := by
  simp only [State.divertSheet]; repeat' split
  all_goals simp

@[simp] theorem State.divertSheet_fu (s : State) :
    (s.divertSheet).fu = s.fu := by
  simp only [State.divertSheet]; repeat' split
  all_goals simp

@[simp] theorem State.divertSheet_lsv (s : State) :
    (s.divertSheet).lsv = s.lsv := by
  simp only [State.divertSheet]; repeat' split
  all_goals simp

@[simp] theorem State.unannounced_pending (s : State) :
    (s.unannounced).pending = s.pending := by
  simp only [State.unannounced]; repeat' split
  all_goals simp

@[simp] theorem State.unannounced_time (s : State) :
    (s.unannounced).time = s.time := by
  simp only [State.unannounced]; repeat' split
  all_goals simp

@[simp] theorem State.unannounced_encoder (s : State) :
    (s.unannounced).encoder = s.encoder := by
  simp only [State.unannounced]; repeat' split
  all_goals simp

@[simp] theorem State.unannounced_travelOwed (s : State) :
    (s.unannounced).travelOwed = s.travelOwed := by
  simp only [State.unannounced]; repeat' split
  all_goals simp

@[simp] theorem State.unannounced_free (s : State) :
    (s.unannounced).free = s.free := by
  simp only [State.unannounced]; repeat' split
  all_goals simp

@[simp] theorem State.unannounced_inputs (s : State) :
    (s.unannounced).inputs = s.inputs := by
  simp only [State.unannounced]; repeat' split
  all_goals simp

@[simp] theorem State.unannounced_resetAsserted (s : State) :
    (s.unannounced).resetAsserted = s.resetAsserted := by
  simp only [State.unannounced]; repeat' split
  all_goals simp

@[simp] theorem State.unannounced_lb (s : State) :
    (s.unannounced).lb = s.lb := by
  simp only [State.unannounced]; repeat' split
  all_goals simp

@[simp] theorem State.unannounced_ts (s : State) :
    (s.unannounced).ts = s.ts := by
  simp only [State.unannounced]; repeat' split
  all_goals simp

@[simp] theorem State.unannounced_ss (s : State) :
    (s.unannounced).ss = s.ss := by
  simp only [State.unannounced]; repeat' split
  all_goals simp

@[simp] theorem State.unannounced_orders (s : State) :
    (s.unannounced).orders = s.orders := by
  simp only [State.unannounced]; repeat' split
  all_goals simp

@[simp] theorem State.unannounced_pc (s : State) :
    (s.unannounced).pc = s.pc := by
  simp only [State.unannounced]; repeat' split
  all_goals simp

@[simp] theorem State.unannounced_fu (s : State) :
    (s.unannounced).fu = s.fu := by
  simp only [State.unannounced]; repeat' split
  all_goals simp

@[simp] theorem State.unannounced_lsv (s : State) :
    (s.unannounced).lsv = s.lsv := by
  simp only [State.unannounced]; repeat' split
  all_goals simp

@[simp] theorem State.registrationDivert_pending (s : State) (i : Slot) (last : Bool) :
    (s.registrationDivert i last).pending = s.pending := by
  simp only [State.registrationDivert]; repeat' split
  all_goals simp

@[simp] theorem State.registrationDivert_time (s : State) (i : Slot) (last : Bool) :
    (s.registrationDivert i last).time = s.time := by
  simp only [State.registrationDivert]; repeat' split
  all_goals simp

@[simp] theorem State.registrationDivert_encoder (s : State) (i : Slot) (last : Bool) :
    (s.registrationDivert i last).encoder = s.encoder := by
  simp only [State.registrationDivert]; repeat' split
  all_goals simp

@[simp] theorem State.registrationDivert_travelOwed (s : State) (i : Slot) (last : Bool) :
    (s.registrationDivert i last).travelOwed = s.travelOwed := by
  simp only [State.registrationDivert]; repeat' split
  all_goals simp

@[simp] theorem State.registrationDivert_free (s : State) (i : Slot) (last : Bool) :
    (s.registrationDivert i last).free = s.free := by
  simp only [State.registrationDivert]; repeat' split
  all_goals simp

@[simp] theorem State.registrationDivert_inputs (s : State) (i : Slot) (last : Bool) :
    (s.registrationDivert i last).inputs = s.inputs := by
  simp only [State.registrationDivert]; repeat' split
  all_goals simp

@[simp] theorem State.registrationDivert_resetAsserted (s : State) (i : Slot) (last : Bool) :
    (s.registrationDivert i last).resetAsserted = s.resetAsserted := by
  simp only [State.registrationDivert]; repeat' split
  all_goals simp

@[simp] theorem State.registrationDivert_pc (s : State) (i : Slot) (last : Bool) :
    (s.registrationDivert i last).pc = s.pc := by
  simp only [State.registrationDivert]; repeat' split
  all_goals simp

@[simp] theorem State.placeThick_pending (s : State) (x : Sheet) (f : Format) :
    (s.placeThick x f).1.pending = s.pending := by
  simp only [State.placeThick]; repeat' split
  all_goals simp

@[simp] theorem State.placeThick_time (s : State) (x : Sheet) (f : Format) :
    (s.placeThick x f).1.time = s.time := by
  simp only [State.placeThick]; repeat' split
  all_goals simp

@[simp] theorem State.placeThick_encoder (s : State) (x : Sheet) (f : Format) :
    (s.placeThick x f).1.encoder = s.encoder := by
  simp only [State.placeThick]; repeat' split
  all_goals simp

@[simp] theorem State.placeThick_travelOwed (s : State) (x : Sheet) (f : Format) :
    (s.placeThick x f).1.travelOwed = s.travelOwed := by
  simp only [State.placeThick]; repeat' split
  all_goals simp

@[simp] theorem State.placeThick_free (s : State) (x : Sheet) (f : Format) :
    (s.placeThick x f).1.free = s.free := by
  simp only [State.placeThick]; repeat' split
  all_goals simp

@[simp] theorem State.placeThick_inputs (s : State) (x : Sheet) (f : Format) :
    (s.placeThick x f).1.inputs = s.inputs := by
  simp only [State.placeThick]; repeat' split
  all_goals simp

@[simp] theorem State.placeThick_resetAsserted (s : State) (x : Sheet) (f : Format) :
    (s.placeThick x f).1.resetAsserted = s.resetAsserted := by
  simp only [State.placeThick]; repeat' split
  all_goals simp

@[simp] theorem State.placeThick_pc (s : State) (x : Sheet) (f : Format) :
    (s.placeThick x f).1.pc = s.pc := by
  simp only [State.placeThick]; repeat' split
  all_goals simp

@[simp] theorem State.placeThick_tcu (s : State) (x : Sheet) (f : Format) :
    (s.placeThick x f).1.tcu = s.tcu := by
  simp only [State.placeThick]; repeat' split
  all_goals simp

@[simp] theorem State.placeThin_pending (s : State) (x : Sheet) (f : Format) :
    (s.placeThin x f).1.pending = s.pending := by
  simp only [State.placeThin]; repeat' split
  all_goals simp

@[simp] theorem State.placeThin_time (s : State) (x : Sheet) (f : Format) :
    (s.placeThin x f).1.time = s.time := by
  simp only [State.placeThin]; repeat' split
  all_goals simp

@[simp] theorem State.placeThin_encoder (s : State) (x : Sheet) (f : Format) :
    (s.placeThin x f).1.encoder = s.encoder := by
  simp only [State.placeThin]; repeat' split
  all_goals simp

@[simp] theorem State.placeThin_travelOwed (s : State) (x : Sheet) (f : Format) :
    (s.placeThin x f).1.travelOwed = s.travelOwed := by
  simp only [State.placeThin]; repeat' split
  all_goals simp

@[simp] theorem State.placeThin_free (s : State) (x : Sheet) (f : Format) :
    (s.placeThin x f).1.free = s.free := by
  simp only [State.placeThin]; repeat' split
  all_goals simp

@[simp] theorem State.placeThin_inputs (s : State) (x : Sheet) (f : Format) :
    (s.placeThin x f).1.inputs = s.inputs := by
  simp only [State.placeThin]; repeat' split
  all_goals simp

@[simp] theorem State.placeThin_resetAsserted (s : State) (x : Sheet) (f : Format) :
    (s.placeThin x f).1.resetAsserted = s.resetAsserted := by
  simp only [State.placeThin]; repeat' split
  all_goals simp

@[simp] theorem State.placeThin_pc (s : State) (x : Sheet) (f : Format) :
    (s.placeThin x f).1.pc = s.pc := by
  simp only [State.placeThin]; repeat' split
  all_goals simp

@[simp] theorem State.placeThin_tcu (s : State) (x : Sheet) (f : Format) :
    (s.placeThin x f).1.tcu = s.tcu := by
  simp only [State.placeThin]; repeat' split
  all_goals simp

@[simp] theorem State.placeSheet_pending (s : State) (x : Sheet) :
    (s.placeSheet x).1.pending = s.pending := by
  simp only [State.placeSheet]; repeat' split
  all_goals simp

@[simp] theorem State.placeSheet_time (s : State) (x : Sheet) :
    (s.placeSheet x).1.time = s.time := by
  simp only [State.placeSheet]; repeat' split
  all_goals simp

@[simp] theorem State.placeSheet_encoder (s : State) (x : Sheet) :
    (s.placeSheet x).1.encoder = s.encoder := by
  simp only [State.placeSheet]; repeat' split
  all_goals simp

@[simp] theorem State.placeSheet_travelOwed (s : State) (x : Sheet) :
    (s.placeSheet x).1.travelOwed = s.travelOwed := by
  simp only [State.placeSheet]; repeat' split
  all_goals simp

@[simp] theorem State.placeSheet_free (s : State) (x : Sheet) :
    (s.placeSheet x).1.free = s.free := by
  simp only [State.placeSheet]; repeat' split
  all_goals simp

@[simp] theorem State.placeSheet_inputs (s : State) (x : Sheet) :
    (s.placeSheet x).1.inputs = s.inputs := by
  simp only [State.placeSheet]; repeat' split
  all_goals simp

@[simp] theorem State.placeSheet_resetAsserted (s : State) (x : Sheet) :
    (s.placeSheet x).1.resetAsserted = s.resetAsserted := by
  simp only [State.placeSheet]; repeat' split
  all_goals simp

@[simp] theorem State.placeSheet_pc (s : State) (x : Sheet) :
    (s.placeSheet x).1.pc = s.pc := by
  simp only [State.placeSheet]; repeat' split
  all_goals simp

@[simp] theorem State.placeSheet_tcu (s : State) (x : Sheet) :
    (s.placeSheet x).1.tcu = s.tcu := by
  simp only [State.placeSheet]; repeat' split
  all_goals simp

@[simp] theorem State.handSheet_pending (s : State) (x : Sheet) :
    (s.handSheet x).pending = s.pending := by
  simp only [State.handSheet]; repeat' split
  all_goals simp

@[simp] theorem State.handSheet_time (s : State) (x : Sheet) :
    (s.handSheet x).time = s.time := by
  simp only [State.handSheet]; repeat' split
  all_goals simp

@[simp] theorem State.handSheet_encoder (s : State) (x : Sheet) :
    (s.handSheet x).encoder = s.encoder := by
  simp only [State.handSheet]; repeat' split
  all_goals simp

@[simp] theorem State.handSheet_travelOwed (s : State) (x : Sheet) :
    (s.handSheet x).travelOwed = s.travelOwed := by
  simp only [State.handSheet]; repeat' split
  all_goals simp

@[simp] theorem State.handSheet_free (s : State) (x : Sheet) :
    (s.handSheet x).free = s.free := by
  simp only [State.handSheet]; repeat' split
  all_goals simp

@[simp] theorem State.handSheet_inputs (s : State) (x : Sheet) :
    (s.handSheet x).inputs = s.inputs := by
  simp only [State.handSheet]; repeat' split
  all_goals simp

@[simp] theorem State.handSheet_resetAsserted (s : State) (x : Sheet) :
    (s.handSheet x).resetAsserted = s.resetAsserted := by
  simp only [State.handSheet]; repeat' split
  all_goals simp

@[simp] theorem State.handSheet_pc (s : State) (x : Sheet) :
    (s.handSheet x).pc = s.pc := by
  simp only [State.handSheet]; repeat' split
  all_goals simp

@[simp] theorem State.disposeSheet_pending (s : State) (i : Slot) (n : Notice) :
    (s.disposeSheet i n).pending = s.pending := by
  simp only [State.disposeSheet]; repeat' split
  all_goals simp

@[simp] theorem State.disposeSheet_time (s : State) (i : Slot) (n : Notice) :
    (s.disposeSheet i n).time = s.time := by
  simp only [State.disposeSheet]; repeat' split
  all_goals simp

@[simp] theorem State.disposeSheet_encoder (s : State) (i : Slot) (n : Notice) :
    (s.disposeSheet i n).encoder = s.encoder := by
  simp only [State.disposeSheet]; repeat' split
  all_goals simp

@[simp] theorem State.disposeSheet_travelOwed (s : State) (i : Slot) (n : Notice) :
    (s.disposeSheet i n).travelOwed = s.travelOwed := by
  simp only [State.disposeSheet]; repeat' split
  all_goals simp

@[simp] theorem State.disposeSheet_free (s : State) (i : Slot) (n : Notice) :
    (s.disposeSheet i n).free = s.free := by
  simp only [State.disposeSheet]; repeat' split
  all_goals simp

@[simp] theorem State.disposeSheet_inputs (s : State) (i : Slot) (n : Notice) :
    (s.disposeSheet i n).inputs = s.inputs := by
  simp only [State.disposeSheet]; repeat' split
  all_goals simp

@[simp] theorem State.disposeSheet_resetAsserted (s : State) (i : Slot) (n : Notice) :
    (s.disposeSheet i n).resetAsserted = s.resetAsserted := by
  simp only [State.disposeSheet]; repeat' split
  all_goals simp

@[simp] theorem State.disposeSheet_pc (s : State) (i : Slot) (n : Notice) :
    (s.disposeSheet i n).pc = s.pc := by
  simp only [State.disposeSheet]; repeat' split
  all_goals simp

@[simp] theorem State.matchNotice_pending (s : State) (n : Notice) (rest : List Notice) :
    (s.matchNotice n rest).pending = s.pending := by
  simp only [State.matchNotice]; repeat' split
  all_goals simp

@[simp] theorem State.matchNotice_time (s : State) (n : Notice) (rest : List Notice) :
    (s.matchNotice n rest).time = s.time := by
  simp only [State.matchNotice]; repeat' split
  all_goals simp

@[simp] theorem State.matchNotice_encoder (s : State) (n : Notice) (rest : List Notice) :
    (s.matchNotice n rest).encoder = s.encoder := by
  simp only [State.matchNotice]; repeat' split
  all_goals simp

@[simp] theorem State.matchNotice_travelOwed (s : State) (n : Notice) (rest : List Notice) :
    (s.matchNotice n rest).travelOwed = s.travelOwed := by
  simp only [State.matchNotice]; repeat' split
  all_goals simp

@[simp] theorem State.matchNotice_free (s : State) (n : Notice) (rest : List Notice) :
    (s.matchNotice n rest).free = s.free := by
  simp only [State.matchNotice]; repeat' split
  all_goals simp

@[simp] theorem State.matchNotice_inputs (s : State) (n : Notice) (rest : List Notice) :
    (s.matchNotice n rest).inputs = s.inputs := by
  simp only [State.matchNotice]; repeat' split
  all_goals simp

@[simp] theorem State.matchNotice_resetAsserted (s : State) (n : Notice) (rest : List Notice) :
    (s.matchNotice n rest).resetAsserted = s.resetAsserted := by
  simp only [State.matchNotice]; repeat' split
  all_goals simp

@[simp] theorem State.matchNotice_pc (s : State) (n : Notice) (rest : List Notice) :
    (s.matchNotice n rest).pc = s.pc := by
  simp only [State.matchNotice]; repeat' split
  all_goals simp

@[simp] theorem State.expireBook_pending (s : State) (i : Slot) (n : Notice) :
    (s.expireBook i n).pending = s.pending := by
  simp only [State.expireBook]; repeat' split
  all_goals simp

@[simp] theorem State.expireBook_time (s : State) (i : Slot) (n : Notice) :
    (s.expireBook i n).time = s.time := by
  simp only [State.expireBook]; repeat' split
  all_goals simp

@[simp] theorem State.expireBook_encoder (s : State) (i : Slot) (n : Notice) :
    (s.expireBook i n).encoder = s.encoder := by
  simp only [State.expireBook]; repeat' split
  all_goals simp

@[simp] theorem State.expireBook_travelOwed (s : State) (i : Slot) (n : Notice) :
    (s.expireBook i n).travelOwed = s.travelOwed := by
  simp only [State.expireBook]; repeat' split
  all_goals simp

@[simp] theorem State.expireBook_free (s : State) (i : Slot) (n : Notice) :
    (s.expireBook i n).free = s.free := by
  simp only [State.expireBook]; repeat' split
  all_goals simp

@[simp] theorem State.expireBook_inputs (s : State) (i : Slot) (n : Notice) :
    (s.expireBook i n).inputs = s.inputs := by
  simp only [State.expireBook]; repeat' split
  all_goals simp

@[simp] theorem State.expireBook_resetAsserted (s : State) (i : Slot) (n : Notice) :
    (s.expireBook i n).resetAsserted = s.resetAsserted := by
  simp only [State.expireBook]; repeat' split
  all_goals simp

@[simp] theorem State.expireBook_pc (s : State) (i : Slot) (n : Notice) :
    (s.expireBook i n).pc = s.pc := by
  simp only [State.expireBook]; repeat' split
  all_goals simp

@[simp] theorem State.expireBook_tcu (s : State) (i : Slot) (n : Notice) :
    (s.expireBook i n).tcu = s.tcu := by
  simp only [State.expireBook]; repeat' split
  all_goals simp

@[simp] theorem State.expireNotice_pending (s : State) (n : Notice) (rest : List Notice) :
    (s.expireNotice n rest).pending = s.pending := by
  simp only [State.expireNotice]; repeat' split
  all_goals simp

@[simp] theorem State.expireNotice_time (s : State) (n : Notice) (rest : List Notice) :
    (s.expireNotice n rest).time = s.time := by
  simp only [State.expireNotice]; repeat' split
  all_goals simp

@[simp] theorem State.expireNotice_encoder (s : State) (n : Notice) (rest : List Notice) :
    (s.expireNotice n rest).encoder = s.encoder := by
  simp only [State.expireNotice]; repeat' split
  all_goals simp

@[simp] theorem State.expireNotice_travelOwed (s : State) (n : Notice) (rest : List Notice) :
    (s.expireNotice n rest).travelOwed = s.travelOwed := by
  simp only [State.expireNotice]; repeat' split
  all_goals simp

@[simp] theorem State.expireNotice_free (s : State) (n : Notice) (rest : List Notice) :
    (s.expireNotice n rest).free = s.free := by
  simp only [State.expireNotice]; repeat' split
  all_goals simp

@[simp] theorem State.expireNotice_inputs (s : State) (n : Notice) (rest : List Notice) :
    (s.expireNotice n rest).inputs = s.inputs := by
  simp only [State.expireNotice]; repeat' split
  all_goals simp

@[simp] theorem State.expireNotice_resetAsserted (s : State) (n : Notice) (rest : List Notice) :
    (s.expireNotice n rest).resetAsserted = s.resetAsserted := by
  simp only [State.expireNotice]; repeat' split
  all_goals simp

@[simp] theorem State.expireNotice_pc (s : State) (n : Notice) (rest : List Notice) :
    (s.expireNotice n rest).pc = s.pc := by
  simp only [State.expireNotice]; repeat' split
  all_goals simp

@[simp] theorem State.expireNotice_tcu (s : State) (n : Notice) (rest : List Notice) :
    (s.expireNotice n rest).tcu = s.tcu := by
  simp only [State.expireNotice]; repeat' split
  all_goals simp

@[simp] theorem State.expireUpTo_pending (s : State) (k : Nat) :
    (s.expireUpTo k).pending = s.pending := by
  induction k generalizing s with
  | zero => rfl
  | succ k ih =>
    simp only [State.expireUpTo]; repeat' split
    all_goals simp [ih]

@[simp] theorem State.expireUpTo_time (s : State) (k : Nat) :
    (s.expireUpTo k).time = s.time := by
  induction k generalizing s with
  | zero => rfl
  | succ k ih =>
    simp only [State.expireUpTo]; repeat' split
    all_goals simp [ih]

@[simp] theorem State.expireUpTo_encoder (s : State) (k : Nat) :
    (s.expireUpTo k).encoder = s.encoder := by
  induction k generalizing s with
  | zero => rfl
  | succ k ih =>
    simp only [State.expireUpTo]; repeat' split
    all_goals simp [ih]

@[simp] theorem State.expireUpTo_travelOwed (s : State) (k : Nat) :
    (s.expireUpTo k).travelOwed = s.travelOwed := by
  induction k generalizing s with
  | zero => rfl
  | succ k ih =>
    simp only [State.expireUpTo]; repeat' split
    all_goals simp [ih]

@[simp] theorem State.expireUpTo_free (s : State) (k : Nat) :
    (s.expireUpTo k).free = s.free := by
  induction k generalizing s with
  | zero => rfl
  | succ k ih =>
    simp only [State.expireUpTo]; repeat' split
    all_goals simp [ih]

@[simp] theorem State.expireUpTo_inputs (s : State) (k : Nat) :
    (s.expireUpTo k).inputs = s.inputs := by
  induction k generalizing s with
  | zero => rfl
  | succ k ih =>
    simp only [State.expireUpTo]; repeat' split
    all_goals simp [ih]

@[simp] theorem State.expireUpTo_resetAsserted (s : State) (k : Nat) :
    (s.expireUpTo k).resetAsserted = s.resetAsserted := by
  induction k generalizing s with
  | zero => rfl
  | succ k ih =>
    simp only [State.expireUpTo]; repeat' split
    all_goals simp [ih]

@[simp] theorem State.expireUpTo_pc (s : State) (k : Nat) :
    (s.expireUpTo k).pc = s.pc := by
  induction k generalizing s with
  | zero => rfl
  | succ k ih =>
    simp only [State.expireUpTo]; repeat' split
    all_goals simp [ih]

@[simp] theorem State.expireUpTo_tcu (s : State) (k : Nat) :
    (s.expireUpTo k).tcu = s.tcu := by
  induction k generalizing s with
  | zero => rfl
  | succ k ih =>
    simp only [State.expireUpTo]; repeat' split
    all_goals simp [ih]

@[simp] theorem State.testExpiry_pending (s : State) :
    (s.testExpiry).pending = s.pending := by
  simp only [State.testExpiry]; repeat' split
  all_goals simp

@[simp] theorem State.testExpiry_time (s : State) :
    (s.testExpiry).time = s.time := by
  simp only [State.testExpiry]; repeat' split
  all_goals simp

@[simp] theorem State.testExpiry_encoder (s : State) :
    (s.testExpiry).encoder = s.encoder := by
  simp only [State.testExpiry]; repeat' split
  all_goals simp

@[simp] theorem State.testExpiry_travelOwed (s : State) :
    (s.testExpiry).travelOwed = s.travelOwed := by
  simp only [State.testExpiry]; repeat' split
  all_goals simp

@[simp] theorem State.testExpiry_free (s : State) :
    (s.testExpiry).free = s.free := by
  simp only [State.testExpiry]; repeat' split
  all_goals simp

@[simp] theorem State.testExpiry_inputs (s : State) :
    (s.testExpiry).inputs = s.inputs := by
  simp only [State.testExpiry]; repeat' split
  all_goals simp

@[simp] theorem State.testExpiry_resetAsserted (s : State) :
    (s.testExpiry).resetAsserted = s.resetAsserted := by
  simp only [State.testExpiry]; repeat' split
  all_goals simp

@[simp] theorem State.testExpiry_pc (s : State) :
    (s.testExpiry).pc = s.pc := by
  simp only [State.testExpiry]; repeat' split
  all_goals simp

@[simp] theorem State.testExpiry_tcu (s : State) :
    (s.testExpiry).tcu = s.tcu := by
  simp only [State.testExpiry]; repeat' split
  all_goals simp

@[simp] theorem State.noticeExpiry_pending (s : State) :
    (s.noticeExpiry).pending = s.pending := by
  simp only [State.noticeExpiry]; repeat' split
  all_goals simp

@[simp] theorem State.noticeExpiry_time (s : State) :
    (s.noticeExpiry).time = s.time := by
  simp only [State.noticeExpiry]; repeat' split
  all_goals simp

@[simp] theorem State.noticeExpiry_encoder (s : State) :
    (s.noticeExpiry).encoder = s.encoder := by
  simp only [State.noticeExpiry]; repeat' split
  all_goals simp

@[simp] theorem State.noticeExpiry_travelOwed (s : State) :
    (s.noticeExpiry).travelOwed = s.travelOwed := by
  simp only [State.noticeExpiry]; repeat' split
  all_goals simp

@[simp] theorem State.noticeExpiry_free (s : State) :
    (s.noticeExpiry).free = s.free := by
  simp only [State.noticeExpiry]; repeat' split
  all_goals simp

@[simp] theorem State.noticeExpiry_inputs (s : State) :
    (s.noticeExpiry).inputs = s.inputs := by
  simp only [State.noticeExpiry]; repeat' split
  all_goals simp

@[simp] theorem State.noticeExpiry_resetAsserted (s : State) :
    (s.noticeExpiry).resetAsserted = s.resetAsserted := by
  simp only [State.noticeExpiry]; repeat' split
  all_goals simp

@[simp] theorem State.noticeExpiry_pc (s : State) :
    (s.noticeExpiry).pc = s.pc := by
  simp only [State.noticeExpiry]; repeat' split
  all_goals simp

@[simp] theorem State.noticeExpiry_tcu (s : State) :
    (s.noticeExpiry).tcu = s.tcu := by
  simp only [State.noticeExpiry]; repeat' split
  all_goals simp

@[simp] theorem State.infeedEdge_pending (s : State) :
    (s.infeedEdge).pending = s.pending := by
  simp only [State.infeedEdge]; repeat' split
  all_goals simp

@[simp] theorem State.infeedEdge_time (s : State) :
    (s.infeedEdge).time = s.time := by
  simp only [State.infeedEdge]; repeat' split
  all_goals simp

@[simp] theorem State.infeedEdge_encoder (s : State) :
    (s.infeedEdge).encoder = s.encoder := by
  simp only [State.infeedEdge]; repeat' split
  all_goals simp

@[simp] theorem State.infeedEdge_travelOwed (s : State) :
    (s.infeedEdge).travelOwed = s.travelOwed := by
  simp only [State.infeedEdge]; repeat' split
  all_goals simp

@[simp] theorem State.infeedEdge_free (s : State) :
    (s.infeedEdge).free = s.free := by
  simp only [State.infeedEdge]; repeat' split
  all_goals simp

@[simp] theorem State.infeedEdge_inputs (s : State) :
    (s.infeedEdge).inputs = s.inputs := by
  simp only [State.infeedEdge]; repeat' split
  all_goals simp

@[simp] theorem State.infeedEdge_resetAsserted (s : State) :
    (s.infeedEdge).resetAsserted = s.resetAsserted := by
  simp only [State.infeedEdge]; repeat' split
  all_goals simp

@[simp] theorem State.infeedEdge_pc (s : State) :
    (s.infeedEdge).pc = s.pc := by
  simp only [State.infeedEdge]; repeat' split
  all_goals simp

@[simp] theorem State.testKind_pending (s : State) (d : DriveId) (k : PurgeKind) :
    (s.testKind d k).pending = s.pending := by
  simp only [State.testKind]; repeat' split
  all_goals simp

@[simp] theorem State.testKind_time (s : State) (d : DriveId) (k : PurgeKind) :
    (s.testKind d k).time = s.time := by
  simp only [State.testKind]; repeat' split
  all_goals simp

@[simp] theorem State.testKind_encoder (s : State) (d : DriveId) (k : PurgeKind) :
    (s.testKind d k).encoder = s.encoder := by
  simp only [State.testKind]; repeat' split
  all_goals simp

@[simp] theorem State.testKind_travelOwed (s : State) (d : DriveId) (k : PurgeKind) :
    (s.testKind d k).travelOwed = s.travelOwed := by
  simp only [State.testKind]; repeat' split
  all_goals simp

@[simp] theorem State.testKind_free (s : State) (d : DriveId) (k : PurgeKind) :
    (s.testKind d k).free = s.free := by
  simp only [State.testKind]; repeat' split
  all_goals simp

@[simp] theorem State.testKind_inputs (s : State) (d : DriveId) (k : PurgeKind) :
    (s.testKind d k).inputs = s.inputs := by
  simp only [State.testKind]; repeat' split
  all_goals simp

@[simp] theorem State.testKind_resetAsserted (s : State) (d : DriveId) (k : PurgeKind) :
    (s.testKind d k).resetAsserted = s.resetAsserted := by
  simp only [State.testKind]; repeat' split
  all_goals simp

@[simp] theorem State.testKind_lp (s : State) (d : DriveId) (k : PurgeKind) :
    (s.testKind d k).lp = s.lp := by
  simp only [State.testKind]; repeat' split
  all_goals simp

@[simp] theorem State.testKind_si (s : State) (d : DriveId) (k : PurgeKind) :
    (s.testKind d k).si = s.si := by
  simp only [State.testKind]; repeat' split
  all_goals simp

@[simp] theorem State.testKind_lb (s : State) (d : DriveId) (k : PurgeKind) :
    (s.testKind d k).lb = s.lb := by
  simp only [State.testKind]; repeat' split
  all_goals simp

@[simp] theorem State.testKind_ts (s : State) (d : DriveId) (k : PurgeKind) :
    (s.testKind d k).ts = s.ts := by
  simp only [State.testKind]; repeat' split
  all_goals simp

@[simp] theorem State.testKind_ss (s : State) (d : DriveId) (k : PurgeKind) :
    (s.testKind d k).ss = s.ss := by
  simp only [State.testKind]; repeat' split
  all_goals simp

@[simp] theorem State.testKind_orders (s : State) (d : DriveId) (k : PurgeKind) :
    (s.testKind d k).orders = s.orders := by
  simp only [State.testKind]; repeat' split
  all_goals simp

@[simp] theorem State.testKind_tcu (s : State) (d : DriveId) (k : PurgeKind) :
    (s.testKind d k).tcu = s.tcu := by
  simp only [State.testKind]; repeat' split
  all_goals simp

@[simp] theorem State.testKind_fu (s : State) (d : DriveId) (k : PurgeKind) :
    (s.testKind d k).fu = s.fu := by
  simp only [State.testKind]; repeat' split
  all_goals simp

@[simp] theorem State.testKind_lm (s : State) (d : DriveId) (k : PurgeKind) :
    (s.testKind d k).lm = s.lm := by
  simp only [State.testKind]; repeat' split
  all_goals simp

@[simp] theorem State.testKind_lsv (s : State) (d : DriveId) (k : PurgeKind) :
    (s.testKind d k).lsv = s.lsv := by
  simp only [State.testKind]; repeat' split
  all_goals simp

@[simp] theorem State.setDriveEntry_pending (s : State) (d : DriveId) (e : DriveEntry) :
    (s.setDriveEntry d e).pending = s.pending := by
  simp only [State.setDriveEntry]; repeat' split
  all_goals simp

@[simp] theorem State.setDriveEntry_time (s : State) (d : DriveId) (e : DriveEntry) :
    (s.setDriveEntry d e).time = s.time := by
  simp only [State.setDriveEntry]; repeat' split
  all_goals simp

@[simp] theorem State.setDriveEntry_encoder (s : State) (d : DriveId) (e : DriveEntry) :
    (s.setDriveEntry d e).encoder = s.encoder := by
  simp only [State.setDriveEntry]; repeat' split
  all_goals simp

@[simp] theorem State.setDriveEntry_travelOwed (s : State) (d : DriveId) (e : DriveEntry) :
    (s.setDriveEntry d e).travelOwed = s.travelOwed := by
  simp only [State.setDriveEntry]; repeat' split
  all_goals simp

@[simp] theorem State.setDriveEntry_free (s : State) (d : DriveId) (e : DriveEntry) :
    (s.setDriveEntry d e).free = s.free := by
  simp only [State.setDriveEntry]; repeat' split
  all_goals simp

@[simp] theorem State.setDriveEntry_inputs (s : State) (d : DriveId) (e : DriveEntry) :
    (s.setDriveEntry d e).inputs = s.inputs := by
  simp only [State.setDriveEntry]; repeat' split
  all_goals simp

@[simp] theorem State.setDriveEntry_resetAsserted (s : State) (d : DriveId) (e : DriveEntry) :
    (s.setDriveEntry d e).resetAsserted = s.resetAsserted := by
  simp only [State.setDriveEntry]; repeat' split
  all_goals simp

@[simp] theorem State.setDriveEntry_lb (s : State) (d : DriveId) (e : DriveEntry) :
    (s.setDriveEntry d e).lb = s.lb := by
  simp only [State.setDriveEntry]; repeat' split
  all_goals simp

@[simp] theorem State.setSettings_pending (s : State) (x : LineSettings) :
    (s.setSettings x).pending = s.pending := by
  simp only [State.setSettings]; repeat' split
  all_goals simp

@[simp] theorem State.setSettings_time (s : State) (x : LineSettings) :
    (s.setSettings x).time = s.time := by
  simp only [State.setSettings]; repeat' split
  all_goals simp

@[simp] theorem State.setSettings_encoder (s : State) (x : LineSettings) :
    (s.setSettings x).encoder = s.encoder := by
  simp only [State.setSettings]; repeat' split
  all_goals simp

@[simp] theorem State.setSettings_travelOwed (s : State) (x : LineSettings) :
    (s.setSettings x).travelOwed = s.travelOwed := by
  simp only [State.setSettings]; repeat' split
  all_goals simp

@[simp] theorem State.setSettings_free (s : State) (x : LineSettings) :
    (s.setSettings x).free = s.free := by
  simp only [State.setSettings]; repeat' split
  all_goals simp

@[simp] theorem State.setSettings_inputs (s : State) (x : LineSettings) :
    (s.setSettings x).inputs = s.inputs := by
  simp only [State.setSettings]; repeat' split
  all_goals simp

@[simp] theorem State.setSettings_resetAsserted (s : State) (x : LineSettings) :
    (s.setSettings x).resetAsserted = s.resetAsserted := by
  simp only [State.setSettings]; repeat' split
  all_goals simp

@[simp] theorem State.setSettings_si (s : State) (x : LineSettings) :
    (s.setSettings x).si = s.si := by
  simp only [State.setSettings]; repeat' split
  all_goals simp

@[simp] theorem State.setSettings_lb (s : State) (x : LineSettings) :
    (s.setSettings x).lb = s.lb := by
  simp only [State.setSettings]; repeat' split
  all_goals simp

@[simp] theorem State.setSettings_orders (s : State) (x : LineSettings) :
    (s.setSettings x).orders = s.orders := by
  simp only [State.setSettings]; repeat' split
  all_goals simp

@[simp] theorem State.setSettings_pc (s : State) (x : LineSettings) :
    (s.setSettings x).pc = s.pc := by
  simp only [State.setSettings]; repeat' split
  all_goals simp

@[simp] theorem State.setSettings_tcu (s : State) (x : LineSettings) :
    (s.setSettings x).tcu = s.tcu := by
  simp only [State.setSettings]; repeat' split
  all_goals simp

@[simp] theorem State.setSettings_fu (s : State) (x : LineSettings) :
    (s.setSettings x).fu = s.fu := by
  simp only [State.setSettings]; repeat' split
  all_goals simp

@[simp] theorem State.setSettings_lsv (s : State) (x : LineSettings) :
    (s.setSettings x).lsv = s.lsv := by
  simp only [State.setSettings]; repeat' split
  all_goals simp

@[simp] theorem State.cutStrobe_pending (s : State) (i : ChannelId) :
    (s.cutStrobe i).pending = s.pending := by
  simp only [State.cutStrobe]; repeat' split
  all_goals simp

@[simp] theorem State.cutStrobe_time (s : State) (i : ChannelId) :
    (s.cutStrobe i).time = s.time := by
  simp only [State.cutStrobe]; repeat' split
  all_goals simp

@[simp] theorem State.cutStrobe_encoder (s : State) (i : ChannelId) :
    (s.cutStrobe i).encoder = s.encoder := by
  simp only [State.cutStrobe]; repeat' split
  all_goals simp

@[simp] theorem State.cutStrobe_travelOwed (s : State) (i : ChannelId) :
    (s.cutStrobe i).travelOwed = s.travelOwed := by
  simp only [State.cutStrobe]; repeat' split
  all_goals simp

@[simp] theorem State.cutStrobe_free (s : State) (i : ChannelId) :
    (s.cutStrobe i).free = s.free := by
  simp only [State.cutStrobe]; repeat' split
  all_goals simp

@[simp] theorem State.cutStrobe_inputs (s : State) (i : ChannelId) :
    (s.cutStrobe i).inputs = s.inputs := by
  simp only [State.cutStrobe]; repeat' split
  all_goals simp

@[simp] theorem State.cutStrobe_resetAsserted (s : State) (i : ChannelId) :
    (s.cutStrobe i).resetAsserted = s.resetAsserted := by
  simp only [State.cutStrobe]; repeat' split
  all_goals simp

@[simp] theorem State.cutStrobe_si (s : State) (i : ChannelId) :
    (s.cutStrobe i).si = s.si := by
  simp only [State.cutStrobe]; repeat' split
  all_goals simp

@[simp] theorem State.cutStrobe_lb (s : State) (i : ChannelId) :
    (s.cutStrobe i).lb = s.lb := by
  simp only [State.cutStrobe]; repeat' split
  all_goals simp

@[simp] theorem State.cutStrobe_ts (s : State) (i : ChannelId) :
    (s.cutStrobe i).ts = s.ts := by
  simp only [State.cutStrobe]; repeat' split
  all_goals simp

@[simp] theorem State.cutStrobe_orders (s : State) (i : ChannelId) :
    (s.cutStrobe i).orders = s.orders := by
  simp only [State.cutStrobe]; repeat' split
  all_goals simp

@[simp] theorem State.cutStrobe_pc (s : State) (i : ChannelId) :
    (s.cutStrobe i).pc = s.pc := by
  simp only [State.cutStrobe]; repeat' split
  all_goals simp

@[simp] theorem State.cutStrobe_fu (s : State) (i : ChannelId) :
    (s.cutStrobe i).fu = s.fu := by
  simp only [State.cutStrobe]; repeat' split
  all_goals simp

@[simp] theorem State.cutStrobe_lsv (s : State) (i : ChannelId) :
    (s.cutStrobe i).lsv = s.lsv := by
  simp only [State.cutStrobe]; repeat' split
  all_goals simp

@[simp] theorem State.reportCut_pending (s : State) (i : ChannelId) :
    (s.reportCut i).pending = s.pending := by
  simp only [State.reportCut]; repeat' split
  all_goals simp

@[simp] theorem State.reportCut_time (s : State) (i : ChannelId) :
    (s.reportCut i).time = s.time := by
  simp only [State.reportCut]; repeat' split
  all_goals simp

@[simp] theorem State.reportCut_encoder (s : State) (i : ChannelId) :
    (s.reportCut i).encoder = s.encoder := by
  simp only [State.reportCut]; repeat' split
  all_goals simp

@[simp] theorem State.reportCut_travelOwed (s : State) (i : ChannelId) :
    (s.reportCut i).travelOwed = s.travelOwed := by
  simp only [State.reportCut]; repeat' split
  all_goals simp

@[simp] theorem State.reportCut_free (s : State) (i : ChannelId) :
    (s.reportCut i).free = s.free := by
  simp only [State.reportCut]; repeat' split
  all_goals simp

@[simp] theorem State.reportCut_inputs (s : State) (i : ChannelId) :
    (s.reportCut i).inputs = s.inputs := by
  simp only [State.reportCut]; repeat' split
  all_goals simp

@[simp] theorem State.reportCut_resetAsserted (s : State) (i : ChannelId) :
    (s.reportCut i).resetAsserted = s.resetAsserted := by
  simp only [State.reportCut]; repeat' split
  all_goals simp

@[simp] theorem State.reportCut_si (s : State) (i : ChannelId) :
    (s.reportCut i).si = s.si := by
  simp only [State.reportCut]; repeat' split
  all_goals simp

@[simp] theorem State.reportCut_lb (s : State) (i : ChannelId) :
    (s.reportCut i).lb = s.lb := by
  simp only [State.reportCut]; repeat' split
  all_goals simp

@[simp] theorem State.reportCut_ts (s : State) (i : ChannelId) :
    (s.reportCut i).ts = s.ts := by
  simp only [State.reportCut]; repeat' split
  all_goals simp

@[simp] theorem State.reportCut_orders (s : State) (i : ChannelId) :
    (s.reportCut i).orders = s.orders := by
  simp only [State.reportCut]; repeat' split
  all_goals simp

@[simp] theorem State.reportCut_pc (s : State) (i : ChannelId) :
    (s.reportCut i).pc = s.pc := by
  simp only [State.reportCut]; repeat' split
  all_goals simp

@[simp] theorem State.reportCut_lsv (s : State) (i : ChannelId) :
    (s.reportCut i).lsv = s.lsv := by
  simp only [State.reportCut]; repeat' split
  all_goals simp

@[simp] theorem State.holdForChannels_pending (s : State) :
    (s.holdForChannels).pending = s.pending := by
  simp only [State.holdForChannels]; repeat' split
  all_goals simp

@[simp] theorem State.holdForChannels_time (s : State) :
    (s.holdForChannels).time = s.time := by
  simp only [State.holdForChannels]; repeat' split
  all_goals simp

@[simp] theorem State.holdForChannels_encoder (s : State) :
    (s.holdForChannels).encoder = s.encoder := by
  simp only [State.holdForChannels]; repeat' split
  all_goals simp

@[simp] theorem State.holdForChannels_travelOwed (s : State) :
    (s.holdForChannels).travelOwed = s.travelOwed := by
  simp only [State.holdForChannels]; repeat' split
  all_goals simp

@[simp] theorem State.holdForChannels_free (s : State) :
    (s.holdForChannels).free = s.free := by
  simp only [State.holdForChannels]; repeat' split
  all_goals simp

@[simp] theorem State.holdForChannels_inputs (s : State) :
    (s.holdForChannels).inputs = s.inputs := by
  simp only [State.holdForChannels]; repeat' split
  all_goals simp

@[simp] theorem State.holdForChannels_resetAsserted (s : State) :
    (s.holdForChannels).resetAsserted = s.resetAsserted := by
  simp only [State.holdForChannels]; repeat' split
  all_goals simp

@[simp] theorem State.holdForChannels_si (s : State) :
    (s.holdForChannels).si = s.si := by
  simp only [State.holdForChannels]; repeat' split
  all_goals simp

@[simp] theorem State.holdForChannels_lb (s : State) :
    (s.holdForChannels).lb = s.lb := by
  simp only [State.holdForChannels]; repeat' split
  all_goals simp

@[simp] theorem State.holdForChannels_ts (s : State) :
    (s.holdForChannels).ts = s.ts := by
  simp only [State.holdForChannels]; repeat' split
  all_goals simp

@[simp] theorem State.holdForChannels_ss (s : State) :
    (s.holdForChannels).ss = s.ss := by
  simp only [State.holdForChannels]; repeat' split
  all_goals simp

@[simp] theorem State.holdForChannels_orders (s : State) :
    (s.holdForChannels).orders = s.orders := by
  simp only [State.holdForChannels]; repeat' split
  all_goals simp

@[simp] theorem State.holdForChannels_pc (s : State) :
    (s.holdForChannels).pc = s.pc := by
  simp only [State.holdForChannels]; repeat' split
  all_goals simp

@[simp] theorem State.holdForChannels_tcu (s : State) :
    (s.holdForChannels).tcu = s.tcu := by
  simp only [State.holdForChannels]; repeat' split
  all_goals simp

@[simp] theorem State.holdForChannels_fu (s : State) :
    (s.holdForChannels).fu = s.fu := by
  simp only [State.holdForChannels]; repeat' split
  all_goals simp

@[simp] theorem State.ownerAfterSet_pending (s : State) (i : ChannelId) :
    (s.ownerAfterSet i).pending = s.pending := by
  simp only [State.ownerAfterSet]; repeat' split
  all_goals simp

@[simp] theorem State.ownerAfterSet_time (s : State) (i : ChannelId) :
    (s.ownerAfterSet i).time = s.time := by
  simp only [State.ownerAfterSet]; repeat' split
  all_goals simp

@[simp] theorem State.ownerAfterSet_encoder (s : State) (i : ChannelId) :
    (s.ownerAfterSet i).encoder = s.encoder := by
  simp only [State.ownerAfterSet]; repeat' split
  all_goals simp

@[simp] theorem State.ownerAfterSet_travelOwed (s : State) (i : ChannelId) :
    (s.ownerAfterSet i).travelOwed = s.travelOwed := by
  simp only [State.ownerAfterSet]; repeat' split
  all_goals simp

@[simp] theorem State.ownerAfterSet_free (s : State) (i : ChannelId) :
    (s.ownerAfterSet i).free = s.free := by
  simp only [State.ownerAfterSet]; repeat' split
  all_goals simp

@[simp] theorem State.ownerAfterSet_inputs (s : State) (i : ChannelId) :
    (s.ownerAfterSet i).inputs = s.inputs := by
  simp only [State.ownerAfterSet]; repeat' split
  all_goals simp

@[simp] theorem State.ownerAfterSet_resetAsserted (s : State) (i : ChannelId) :
    (s.ownerAfterSet i).resetAsserted = s.resetAsserted := by
  simp only [State.ownerAfterSet]; repeat' split
  all_goals simp

@[simp] theorem State.ownerAfterSet_lb (s : State) (i : ChannelId) :
    (s.ownerAfterSet i).lb = s.lb := by
  simp only [State.ownerAfterSet]; repeat' split
  all_goals simp

@[simp] theorem State.ownerAfterSet_ts (s : State) (i : ChannelId) :
    (s.ownerAfterSet i).ts = s.ts := by
  simp only [State.ownerAfterSet]; repeat' split
  all_goals simp

@[simp] theorem State.ownerAfterSet_pc (s : State) (i : ChannelId) :
    (s.ownerAfterSet i).pc = s.pc := by
  simp only [State.ownerAfterSet]; repeat' split
  all_goals simp

@[simp] theorem State.setChannel_pending (s : State) (i : ChannelId) (m : ChannelMode) (x : Source) (k : Counts) :
    (s.setChannel i m x k).pending = s.pending := by
  simp only [State.setChannel]; repeat' split
  all_goals simp

@[simp] theorem State.setChannel_time (s : State) (i : ChannelId) (m : ChannelMode) (x : Source) (k : Counts) :
    (s.setChannel i m x k).time = s.time := by
  simp only [State.setChannel]; repeat' split
  all_goals simp

@[simp] theorem State.setChannel_encoder (s : State) (i : ChannelId) (m : ChannelMode) (x : Source) (k : Counts) :
    (s.setChannel i m x k).encoder = s.encoder := by
  simp only [State.setChannel]; repeat' split
  all_goals simp

@[simp] theorem State.setChannel_travelOwed (s : State) (i : ChannelId) (m : ChannelMode) (x : Source) (k : Counts) :
    (s.setChannel i m x k).travelOwed = s.travelOwed := by
  simp only [State.setChannel]; repeat' split
  all_goals simp

@[simp] theorem State.setChannel_free (s : State) (i : ChannelId) (m : ChannelMode) (x : Source) (k : Counts) :
    (s.setChannel i m x k).free = s.free := by
  simp only [State.setChannel]; repeat' split
  all_goals simp

@[simp] theorem State.setChannel_inputs (s : State) (i : ChannelId) (m : ChannelMode) (x : Source) (k : Counts) :
    (s.setChannel i m x k).inputs = s.inputs := by
  simp only [State.setChannel]; repeat' split
  all_goals simp

@[simp] theorem State.setChannel_resetAsserted (s : State) (i : ChannelId) (m : ChannelMode) (x : Source) (k : Counts) :
    (s.setChannel i m x k).resetAsserted = s.resetAsserted := by
  simp only [State.setChannel]; repeat' split
  all_goals simp

@[simp] theorem State.setChannel_lb (s : State) (i : ChannelId) (m : ChannelMode) (x : Source) (k : Counts) :
    (s.setChannel i m x k).lb = s.lb := by
  simp only [State.setChannel]; repeat' split
  all_goals simp

@[simp] theorem State.setChannel_ts (s : State) (i : ChannelId) (m : ChannelMode) (x : Source) (k : Counts) :
    (s.setChannel i m x k).ts = s.ts := by
  simp only [State.setChannel]; repeat' split
  all_goals simp

@[simp] theorem State.holdDwellEnd_pending (s : State) :
    (s.holdDwellEnd).pending = s.pending := by
  simp only [State.holdDwellEnd]; repeat' split
  all_goals simp

@[simp] theorem State.holdDwellEnd_time (s : State) :
    (s.holdDwellEnd).time = s.time := by
  simp only [State.holdDwellEnd]; repeat' split
  all_goals simp

@[simp] theorem State.holdDwellEnd_encoder (s : State) :
    (s.holdDwellEnd).encoder = s.encoder := by
  simp only [State.holdDwellEnd]; repeat' split
  all_goals simp

@[simp] theorem State.holdDwellEnd_travelOwed (s : State) :
    (s.holdDwellEnd).travelOwed = s.travelOwed := by
  simp only [State.holdDwellEnd]; repeat' split
  all_goals simp

@[simp] theorem State.holdDwellEnd_free (s : State) :
    (s.holdDwellEnd).free = s.free := by
  simp only [State.holdDwellEnd]; repeat' split
  all_goals simp

@[simp] theorem State.holdDwellEnd_inputs (s : State) :
    (s.holdDwellEnd).inputs = s.inputs := by
  simp only [State.holdDwellEnd]; repeat' split
  all_goals simp

@[simp] theorem State.holdDwellEnd_resetAsserted (s : State) :
    (s.holdDwellEnd).resetAsserted = s.resetAsserted := by
  simp only [State.holdDwellEnd]; repeat' split
  all_goals simp

@[simp] theorem State.holdDwellEnd_lp (s : State) :
    (s.holdDwellEnd).lp = s.lp := by
  simp only [State.holdDwellEnd]; repeat' split
  all_goals simp

@[simp] theorem State.holdDwellEnd_si (s : State) :
    (s.holdDwellEnd).si = s.si := by
  simp only [State.holdDwellEnd]; repeat' split
  all_goals simp

@[simp] theorem State.holdDwellEnd_lb (s : State) :
    (s.holdDwellEnd).lb = s.lb := by
  simp only [State.holdDwellEnd]; repeat' split
  all_goals simp

@[simp] theorem State.holdDwellEnd_ts (s : State) :
    (s.holdDwellEnd).ts = s.ts := by
  simp only [State.holdDwellEnd]; repeat' split
  all_goals simp

@[simp] theorem State.holdDwellEnd_orders (s : State) :
    (s.holdDwellEnd).orders = s.orders := by
  simp only [State.holdDwellEnd]; repeat' split
  all_goals simp

@[simp] theorem State.holdDwellEnd_pc (s : State) :
    (s.holdDwellEnd).pc = s.pc := by
  simp only [State.holdDwellEnd]; repeat' split
  all_goals simp

@[simp] theorem State.holdDwellEnd_fu (s : State) :
    (s.holdDwellEnd).fu = s.fu := by
  simp only [State.holdDwellEnd]; repeat' split
  all_goals simp

@[simp] theorem State.holdDwellEnd_lm (s : State) :
    (s.holdDwellEnd).lm = s.lm := by
  simp only [State.holdDwellEnd]; repeat' split
  all_goals simp

@[simp] theorem State.holdDwellEnd_lsv (s : State) :
    (s.holdDwellEnd).lsv = s.lsv := by
  simp only [State.holdDwellEnd]; repeat' split
  all_goals simp

@[simp] theorem State.strobeWaitEnd_pending (s : State) (i : ChannelId) :
    (s.strobeWaitEnd i).pending = s.pending := by
  simp only [State.strobeWaitEnd]; repeat' split
  all_goals simp

@[simp] theorem State.strobeWaitEnd_time (s : State) (i : ChannelId) :
    (s.strobeWaitEnd i).time = s.time := by
  simp only [State.strobeWaitEnd]; repeat' split
  all_goals simp

@[simp] theorem State.strobeWaitEnd_encoder (s : State) (i : ChannelId) :
    (s.strobeWaitEnd i).encoder = s.encoder := by
  simp only [State.strobeWaitEnd]; repeat' split
  all_goals simp

@[simp] theorem State.strobeWaitEnd_travelOwed (s : State) (i : ChannelId) :
    (s.strobeWaitEnd i).travelOwed = s.travelOwed := by
  simp only [State.strobeWaitEnd]; repeat' split
  all_goals simp

@[simp] theorem State.strobeWaitEnd_free (s : State) (i : ChannelId) :
    (s.strobeWaitEnd i).free = s.free := by
  simp only [State.strobeWaitEnd]; repeat' split
  all_goals simp

@[simp] theorem State.strobeWaitEnd_inputs (s : State) (i : ChannelId) :
    (s.strobeWaitEnd i).inputs = s.inputs := by
  simp only [State.strobeWaitEnd]; repeat' split
  all_goals simp

@[simp] theorem State.strobeWaitEnd_resetAsserted (s : State) (i : ChannelId) :
    (s.strobeWaitEnd i).resetAsserted = s.resetAsserted := by
  simp only [State.strobeWaitEnd]; repeat' split
  all_goals simp

@[simp] theorem State.strobeWaitEnd_lp (s : State) (i : ChannelId) :
    (s.strobeWaitEnd i).lp = s.lp := by
  simp only [State.strobeWaitEnd]; repeat' split
  all_goals simp

@[simp] theorem State.strobeWaitEnd_si (s : State) (i : ChannelId) :
    (s.strobeWaitEnd i).si = s.si := by
  simp only [State.strobeWaitEnd]; repeat' split
  all_goals simp

@[simp] theorem State.strobeWaitEnd_lb (s : State) (i : ChannelId) :
    (s.strobeWaitEnd i).lb = s.lb := by
  simp only [State.strobeWaitEnd]; repeat' split
  all_goals simp

@[simp] theorem State.strobeWaitEnd_ts (s : State) (i : ChannelId) :
    (s.strobeWaitEnd i).ts = s.ts := by
  simp only [State.strobeWaitEnd]; repeat' split
  all_goals simp

@[simp] theorem State.strobeWaitEnd_ss (s : State) (i : ChannelId) :
    (s.strobeWaitEnd i).ss = s.ss := by
  simp only [State.strobeWaitEnd]; repeat' split
  all_goals simp

@[simp] theorem State.strobeWaitEnd_orders (s : State) (i : ChannelId) :
    (s.strobeWaitEnd i).orders = s.orders := by
  simp only [State.strobeWaitEnd]; repeat' split
  all_goals simp

@[simp] theorem State.strobeWaitEnd_pc (s : State) (i : ChannelId) :
    (s.strobeWaitEnd i).pc = s.pc := by
  simp only [State.strobeWaitEnd]; repeat' split
  all_goals simp

@[simp] theorem State.strobeWaitEnd_fu (s : State) (i : ChannelId) :
    (s.strobeWaitEnd i).fu = s.fu := by
  simp only [State.strobeWaitEnd]; repeat' split
  all_goals simp

@[simp] theorem State.strobeWaitEnd_lm (s : State) (i : ChannelId) :
    (s.strobeWaitEnd i).lm = s.lm := by
  simp only [State.strobeWaitEnd]; repeat' split
  all_goals simp

@[simp] theorem State.strobeWaitEnd_lsv (s : State) (i : ChannelId) :
    (s.strobeWaitEnd i).lsv = s.lsv := by
  simp only [State.strobeWaitEnd]; repeat' split
  all_goals simp

@[simp] theorem State.strobePulseEnd_pending (s : State) (i : ChannelId) :
    (s.strobePulseEnd i).pending = s.pending := by
  simp only [State.strobePulseEnd]; repeat' split
  all_goals simp

@[simp] theorem State.strobePulseEnd_time (s : State) (i : ChannelId) :
    (s.strobePulseEnd i).time = s.time := by
  simp only [State.strobePulseEnd]; repeat' split
  all_goals simp

@[simp] theorem State.strobePulseEnd_encoder (s : State) (i : ChannelId) :
    (s.strobePulseEnd i).encoder = s.encoder := by
  simp only [State.strobePulseEnd]; repeat' split
  all_goals simp

@[simp] theorem State.strobePulseEnd_travelOwed (s : State) (i : ChannelId) :
    (s.strobePulseEnd i).travelOwed = s.travelOwed := by
  simp only [State.strobePulseEnd]; repeat' split
  all_goals simp

@[simp] theorem State.strobePulseEnd_free (s : State) (i : ChannelId) :
    (s.strobePulseEnd i).free = s.free := by
  simp only [State.strobePulseEnd]; repeat' split
  all_goals simp

@[simp] theorem State.strobePulseEnd_inputs (s : State) (i : ChannelId) :
    (s.strobePulseEnd i).inputs = s.inputs := by
  simp only [State.strobePulseEnd]; repeat' split
  all_goals simp

@[simp] theorem State.strobePulseEnd_resetAsserted (s : State) (i : ChannelId) :
    (s.strobePulseEnd i).resetAsserted = s.resetAsserted := by
  simp only [State.strobePulseEnd]; repeat' split
  all_goals simp

@[simp] theorem State.strobePulseEnd_si (s : State) (i : ChannelId) :
    (s.strobePulseEnd i).si = s.si := by
  simp only [State.strobePulseEnd]; repeat' split
  all_goals simp

@[simp] theorem State.strobePulseEnd_lb (s : State) (i : ChannelId) :
    (s.strobePulseEnd i).lb = s.lb := by
  simp only [State.strobePulseEnd]; repeat' split
  all_goals simp

@[simp] theorem State.strobePulseEnd_ts (s : State) (i : ChannelId) :
    (s.strobePulseEnd i).ts = s.ts := by
  simp only [State.strobePulseEnd]; repeat' split
  all_goals simp

@[simp] theorem State.strobePulseEnd_orders (s : State) (i : ChannelId) :
    (s.strobePulseEnd i).orders = s.orders := by
  simp only [State.strobePulseEnd]; repeat' split
  all_goals simp

@[simp] theorem State.strobePulseEnd_pc (s : State) (i : ChannelId) :
    (s.strobePulseEnd i).pc = s.pc := by
  simp only [State.strobePulseEnd]; repeat' split
  all_goals simp

@[simp] theorem State.strobePulseEnd_fu (s : State) (i : ChannelId) :
    (s.strobePulseEnd i).fu = s.fu := by
  simp only [State.strobePulseEnd]; repeat' split
  all_goals simp

@[simp] theorem State.pitchPulseEnd_pending (s : State) :
    (s.pitchPulseEnd).pending = s.pending := by
  simp only [State.pitchPulseEnd]; repeat' split
  all_goals simp

@[simp] theorem State.pitchPulseEnd_time (s : State) :
    (s.pitchPulseEnd).time = s.time := by
  simp only [State.pitchPulseEnd]; repeat' split
  all_goals simp

@[simp] theorem State.pitchPulseEnd_encoder (s : State) :
    (s.pitchPulseEnd).encoder = s.encoder := by
  simp only [State.pitchPulseEnd]; repeat' split
  all_goals simp

@[simp] theorem State.pitchPulseEnd_travelOwed (s : State) :
    (s.pitchPulseEnd).travelOwed = s.travelOwed := by
  simp only [State.pitchPulseEnd]; repeat' split
  all_goals simp

@[simp] theorem State.pitchPulseEnd_free (s : State) :
    (s.pitchPulseEnd).free = s.free := by
  simp only [State.pitchPulseEnd]; repeat' split
  all_goals simp

@[simp] theorem State.pitchPulseEnd_inputs (s : State) :
    (s.pitchPulseEnd).inputs = s.inputs := by
  simp only [State.pitchPulseEnd]; repeat' split
  all_goals simp

@[simp] theorem State.pitchPulseEnd_resetAsserted (s : State) :
    (s.pitchPulseEnd).resetAsserted = s.resetAsserted := by
  simp only [State.pitchPulseEnd]; repeat' split
  all_goals simp

@[simp] theorem State.pitchPulseEnd_lb (s : State) :
    (s.pitchPulseEnd).lb = s.lb := by
  simp only [State.pitchPulseEnd]; repeat' split
  all_goals simp

@[simp] theorem State.pitchPulseEnd_ts (s : State) :
    (s.pitchPulseEnd).ts = s.ts := by
  simp only [State.pitchPulseEnd]; repeat' split
  all_goals simp

@[simp] theorem State.pitchPulseEnd_ss (s : State) :
    (s.pitchPulseEnd).ss = s.ss := by
  simp only [State.pitchPulseEnd]; repeat' split
  all_goals simp

@[simp] theorem State.pitchPulseEnd_pc (s : State) :
    (s.pitchPulseEnd).pc = s.pc := by
  simp only [State.pitchPulseEnd]; repeat' split
  all_goals simp

@[simp] theorem State.pitchPeriodBoundary_pending (s : State) :
    (s.pitchPeriodBoundary).pending = s.pending := by
  simp only [State.pitchPeriodBoundary]; repeat' split
  all_goals simp

@[simp] theorem State.pitchPeriodBoundary_time (s : State) :
    (s.pitchPeriodBoundary).time = s.time := by
  simp only [State.pitchPeriodBoundary]; repeat' split
  all_goals simp

@[simp] theorem State.pitchPeriodBoundary_encoder (s : State) :
    (s.pitchPeriodBoundary).encoder = s.encoder := by
  simp only [State.pitchPeriodBoundary]; repeat' split
  all_goals simp

@[simp] theorem State.pitchPeriodBoundary_travelOwed (s : State) :
    (s.pitchPeriodBoundary).travelOwed = s.travelOwed := by
  simp only [State.pitchPeriodBoundary]; repeat' split
  all_goals simp

@[simp] theorem State.pitchPeriodBoundary_free (s : State) :
    (s.pitchPeriodBoundary).free = s.free := by
  simp only [State.pitchPeriodBoundary]; repeat' split
  all_goals simp

@[simp] theorem State.pitchPeriodBoundary_inputs (s : State) :
    (s.pitchPeriodBoundary).inputs = s.inputs := by
  simp only [State.pitchPeriodBoundary]; repeat' split
  all_goals simp

@[simp] theorem State.pitchPeriodBoundary_resetAsserted (s : State) :
    (s.pitchPeriodBoundary).resetAsserted = s.resetAsserted := by
  simp only [State.pitchPeriodBoundary]; repeat' split
  all_goals simp

@[simp] theorem State.pitchPeriodBoundary_lp (s : State) :
    (s.pitchPeriodBoundary).lp = s.lp := by
  simp only [State.pitchPeriodBoundary]; repeat' split
  all_goals simp

@[simp] theorem State.pitchPeriodBoundary_si (s : State) :
    (s.pitchPeriodBoundary).si = s.si := by
  simp only [State.pitchPeriodBoundary]; repeat' split
  all_goals simp

@[simp] theorem State.pitchPeriodBoundary_lb (s : State) :
    (s.pitchPeriodBoundary).lb = s.lb := by
  simp only [State.pitchPeriodBoundary]; repeat' split
  all_goals simp

@[simp] theorem State.pitchPeriodBoundary_ts (s : State) :
    (s.pitchPeriodBoundary).ts = s.ts := by
  simp only [State.pitchPeriodBoundary]; repeat' split
  all_goals simp

@[simp] theorem State.pitchPeriodBoundary_ss (s : State) :
    (s.pitchPeriodBoundary).ss = s.ss := by
  simp only [State.pitchPeriodBoundary]; repeat' split
  all_goals simp

@[simp] theorem State.pitchPeriodBoundary_orders (s : State) :
    (s.pitchPeriodBoundary).orders = s.orders := by
  simp only [State.pitchPeriodBoundary]; repeat' split
  all_goals simp

@[simp] theorem State.pitchPeriodBoundary_pc (s : State) :
    (s.pitchPeriodBoundary).pc = s.pc := by
  simp only [State.pitchPeriodBoundary]; repeat' split
  all_goals simp

@[simp] theorem State.pitchPeriodBoundary_fu (s : State) :
    (s.pitchPeriodBoundary).fu = s.fu := by
  simp only [State.pitchPeriodBoundary]; repeat' split
  all_goals simp

@[simp] theorem State.pitchPeriodBoundary_lm (s : State) :
    (s.pitchPeriodBoundary).lm = s.lm := by
  simp only [State.pitchPeriodBoundary]; repeat' split
  all_goals simp

@[simp] theorem State.pitchPeriodBoundary_lsv (s : State) :
    (s.pitchPeriodBoundary).lsv = s.lsv := by
  simp only [State.pitchPeriodBoundary]; repeat' split
  all_goals simp

@[simp] theorem State.softWaitEnd_pending (s : State) (i : ChannelId) :
    (s.softWaitEnd i).pending = s.pending := by
  simp only [State.softWaitEnd]; repeat' split
  all_goals simp

@[simp] theorem State.softWaitEnd_time (s : State) (i : ChannelId) :
    (s.softWaitEnd i).time = s.time := by
  simp only [State.softWaitEnd]; repeat' split
  all_goals simp

@[simp] theorem State.softWaitEnd_encoder (s : State) (i : ChannelId) :
    (s.softWaitEnd i).encoder = s.encoder := by
  simp only [State.softWaitEnd]; repeat' split
  all_goals simp

@[simp] theorem State.softWaitEnd_travelOwed (s : State) (i : ChannelId) :
    (s.softWaitEnd i).travelOwed = s.travelOwed := by
  simp only [State.softWaitEnd]; repeat' split
  all_goals simp

@[simp] theorem State.softWaitEnd_free (s : State) (i : ChannelId) :
    (s.softWaitEnd i).free = s.free := by
  simp only [State.softWaitEnd]; repeat' split
  all_goals simp

@[simp] theorem State.softWaitEnd_inputs (s : State) (i : ChannelId) :
    (s.softWaitEnd i).inputs = s.inputs := by
  simp only [State.softWaitEnd]; repeat' split
  all_goals simp

@[simp] theorem State.softWaitEnd_resetAsserted (s : State) (i : ChannelId) :
    (s.softWaitEnd i).resetAsserted = s.resetAsserted := by
  simp only [State.softWaitEnd]; repeat' split
  all_goals simp

@[simp] theorem State.softWaitEnd_lp (s : State) (i : ChannelId) :
    (s.softWaitEnd i).lp = s.lp := by
  simp only [State.softWaitEnd]; repeat' split
  all_goals simp

@[simp] theorem State.softWaitEnd_si (s : State) (i : ChannelId) :
    (s.softWaitEnd i).si = s.si := by
  simp only [State.softWaitEnd]; repeat' split
  all_goals simp

@[simp] theorem State.softWaitEnd_lb (s : State) (i : ChannelId) :
    (s.softWaitEnd i).lb = s.lb := by
  simp only [State.softWaitEnd]; repeat' split
  all_goals simp

@[simp] theorem State.softWaitEnd_ts (s : State) (i : ChannelId) :
    (s.softWaitEnd i).ts = s.ts := by
  simp only [State.softWaitEnd]; repeat' split
  all_goals simp

@[simp] theorem State.softWaitEnd_ss (s : State) (i : ChannelId) :
    (s.softWaitEnd i).ss = s.ss := by
  simp only [State.softWaitEnd]; repeat' split
  all_goals simp

@[simp] theorem State.softWaitEnd_orders (s : State) (i : ChannelId) :
    (s.softWaitEnd i).orders = s.orders := by
  simp only [State.softWaitEnd]; repeat' split
  all_goals simp

@[simp] theorem State.softWaitEnd_pc (s : State) (i : ChannelId) :
    (s.softWaitEnd i).pc = s.pc := by
  simp only [State.softWaitEnd]; repeat' split
  all_goals simp

@[simp] theorem State.softWaitEnd_fu (s : State) (i : ChannelId) :
    (s.softWaitEnd i).fu = s.fu := by
  simp only [State.softWaitEnd]; repeat' split
  all_goals simp

@[simp] theorem State.softWaitEnd_lm (s : State) (i : ChannelId) :
    (s.softWaitEnd i).lm = s.lm := by
  simp only [State.softWaitEnd]; repeat' split
  all_goals simp

@[simp] theorem State.softWaitEnd_lsv (s : State) (i : ChannelId) :
    (s.softWaitEnd i).lsv = s.lsv := by
  simp only [State.softWaitEnd]; repeat' split
  all_goals simp

@[simp] theorem State.softPulseEnd_pending (s : State) (i : ChannelId) :
    (s.softPulseEnd i).pending = s.pending := by
  simp only [State.softPulseEnd]; repeat' split
  all_goals simp

@[simp] theorem State.softPulseEnd_time (s : State) (i : ChannelId) :
    (s.softPulseEnd i).time = s.time := by
  simp only [State.softPulseEnd]; repeat' split
  all_goals simp

@[simp] theorem State.softPulseEnd_encoder (s : State) (i : ChannelId) :
    (s.softPulseEnd i).encoder = s.encoder := by
  simp only [State.softPulseEnd]; repeat' split
  all_goals simp

@[simp] theorem State.softPulseEnd_travelOwed (s : State) (i : ChannelId) :
    (s.softPulseEnd i).travelOwed = s.travelOwed := by
  simp only [State.softPulseEnd]; repeat' split
  all_goals simp

@[simp] theorem State.softPulseEnd_free (s : State) (i : ChannelId) :
    (s.softPulseEnd i).free = s.free := by
  simp only [State.softPulseEnd]; repeat' split
  all_goals simp

@[simp] theorem State.softPulseEnd_inputs (s : State) (i : ChannelId) :
    (s.softPulseEnd i).inputs = s.inputs := by
  simp only [State.softPulseEnd]; repeat' split
  all_goals simp

@[simp] theorem State.softPulseEnd_resetAsserted (s : State) (i : ChannelId) :
    (s.softPulseEnd i).resetAsserted = s.resetAsserted := by
  simp only [State.softPulseEnd]; repeat' split
  all_goals simp

@[simp] theorem State.softPulseEnd_si (s : State) (i : ChannelId) :
    (s.softPulseEnd i).si = s.si := by
  simp only [State.softPulseEnd]; repeat' split
  all_goals simp

@[simp] theorem State.softPulseEnd_lb (s : State) (i : ChannelId) :
    (s.softPulseEnd i).lb = s.lb := by
  simp only [State.softPulseEnd]; repeat' split
  all_goals simp

@[simp] theorem State.softPulseEnd_ts (s : State) (i : ChannelId) :
    (s.softPulseEnd i).ts = s.ts := by
  simp only [State.softPulseEnd]; repeat' split
  all_goals simp

@[simp] theorem State.softPulseEnd_ss (s : State) (i : ChannelId) :
    (s.softPulseEnd i).ss = s.ss := by
  simp only [State.softPulseEnd]; repeat' split
  all_goals simp

@[simp] theorem State.softPulseEnd_orders (s : State) (i : ChannelId) :
    (s.softPulseEnd i).orders = s.orders := by
  simp only [State.softPulseEnd]; repeat' split
  all_goals simp

@[simp] theorem State.softPulseEnd_pc (s : State) (i : ChannelId) :
    (s.softPulseEnd i).pc = s.pc := by
  simp only [State.softPulseEnd]; repeat' split
  all_goals simp

@[simp] theorem State.softPulseEnd_fu (s : State) (i : ChannelId) :
    (s.softPulseEnd i).fu = s.fu := by
  simp only [State.softPulseEnd]; repeat' split
  all_goals simp

@[simp] theorem State.reportPeriodExpiry_pending (s : State) :
    (s.reportPeriodExpiry).pending = s.pending := by
  simp only [State.reportPeriodExpiry]; repeat' split
  all_goals simp

@[simp] theorem State.reportPeriodExpiry_time (s : State) :
    (s.reportPeriodExpiry).time = s.time := by
  simp only [State.reportPeriodExpiry]; repeat' split
  all_goals simp

@[simp] theorem State.reportPeriodExpiry_encoder (s : State) :
    (s.reportPeriodExpiry).encoder = s.encoder := by
  simp only [State.reportPeriodExpiry]; repeat' split
  all_goals simp

@[simp] theorem State.reportPeriodExpiry_travelOwed (s : State) :
    (s.reportPeriodExpiry).travelOwed = s.travelOwed := by
  simp only [State.reportPeriodExpiry]; repeat' split
  all_goals simp

@[simp] theorem State.reportPeriodExpiry_free (s : State) :
    (s.reportPeriodExpiry).free = s.free := by
  simp only [State.reportPeriodExpiry]; repeat' split
  all_goals simp

@[simp] theorem State.reportPeriodExpiry_inputs (s : State) :
    (s.reportPeriodExpiry).inputs = s.inputs := by
  simp only [State.reportPeriodExpiry]; repeat' split
  all_goals simp

@[simp] theorem State.reportPeriodExpiry_resetAsserted (s : State) :
    (s.reportPeriodExpiry).resetAsserted = s.resetAsserted := by
  simp only [State.reportPeriodExpiry]; repeat' split
  all_goals simp

@[simp] theorem State.reportPeriodExpiry_si (s : State) :
    (s.reportPeriodExpiry).si = s.si := by
  simp only [State.reportPeriodExpiry]; repeat' split
  all_goals simp

@[simp] theorem State.reportPeriodExpiry_lb (s : State) :
    (s.reportPeriodExpiry).lb = s.lb := by
  simp only [State.reportPeriodExpiry]; repeat' split
  all_goals simp

@[simp] theorem State.reportPeriodExpiry_ts (s : State) :
    (s.reportPeriodExpiry).ts = s.ts := by
  simp only [State.reportPeriodExpiry]; repeat' split
  all_goals simp

@[simp] theorem State.reportPeriodExpiry_ss (s : State) :
    (s.reportPeriodExpiry).ss = s.ss := by
  simp only [State.reportPeriodExpiry]; repeat' split
  all_goals simp

@[simp] theorem State.reportPeriodExpiry_orders (s : State) :
    (s.reportPeriodExpiry).orders = s.orders := by
  simp only [State.reportPeriodExpiry]; repeat' split
  all_goals simp

@[simp] theorem State.reportPeriodExpiry_pc (s : State) :
    (s.reportPeriodExpiry).pc = s.pc := by
  simp only [State.reportPeriodExpiry]; repeat' split
  all_goals simp

@[simp] theorem State.reportPeriodExpiry_tcu (s : State) :
    (s.reportPeriodExpiry).tcu = s.tcu := by
  simp only [State.reportPeriodExpiry]; repeat' split
  all_goals simp

@[simp] theorem State.reportPeriodExpiry_fu (s : State) :
    (s.reportPeriodExpiry).fu = s.fu := by
  simp only [State.reportPeriodExpiry]; repeat' split
  all_goals simp

@[simp] theorem State.reportPeriodExpiry_lsv (s : State) :
    (s.reportPeriodExpiry).lsv = s.lsv := by
  simp only [State.reportPeriodExpiry]; repeat' split
  all_goals simp

@[simp] theorem State.holdLine_pending (s : State) :
    (s.holdLine).pending = s.pending := by
  simp only [State.holdLine]; repeat' split
  all_goals simp

@[simp] theorem State.holdLine_time (s : State) :
    (s.holdLine).time = s.time := by
  simp only [State.holdLine]; repeat' split
  all_goals simp

@[simp] theorem State.holdLine_encoder (s : State) :
    (s.holdLine).encoder = s.encoder := by
  simp only [State.holdLine]; repeat' split
  all_goals simp

@[simp] theorem State.holdLine_travelOwed (s : State) :
    (s.holdLine).travelOwed = s.travelOwed := by
  simp only [State.holdLine]; repeat' split
  all_goals simp

@[simp] theorem State.holdLine_free (s : State) :
    (s.holdLine).free = s.free := by
  simp only [State.holdLine]; repeat' split
  all_goals simp

@[simp] theorem State.holdLine_inputs (s : State) :
    (s.holdLine).inputs = s.inputs := by
  simp only [State.holdLine]; repeat' split
  all_goals simp

@[simp] theorem State.holdLine_resetAsserted (s : State) :
    (s.holdLine).resetAsserted = s.resetAsserted := by
  simp only [State.holdLine]; repeat' split
  all_goals simp

@[simp] theorem State.holdLine_si (s : State) :
    (s.holdLine).si = s.si := by
  simp only [State.holdLine]; repeat' split
  all_goals simp

@[simp] theorem State.holdLine_lb (s : State) :
    (s.holdLine).lb = s.lb := by
  simp only [State.holdLine]; repeat' split
  all_goals simp

@[simp] theorem State.holdLine_ts (s : State) :
    (s.holdLine).ts = s.ts := by
  simp only [State.holdLine]; repeat' split
  all_goals simp

@[simp] theorem State.holdLine_ss (s : State) :
    (s.holdLine).ss = s.ss := by
  simp only [State.holdLine]; repeat' split
  all_goals simp

@[simp] theorem State.holdLine_orders (s : State) :
    (s.holdLine).orders = s.orders := by
  simp only [State.holdLine]; repeat' split
  all_goals simp

@[simp] theorem State.holdLine_pc (s : State) :
    (s.holdLine).pc = s.pc := by
  simp only [State.holdLine]; repeat' split
  all_goals simp

@[simp] theorem State.holdLine_tcu (s : State) :
    (s.holdLine).tcu = s.tcu := by
  simp only [State.holdLine]; repeat' split
  all_goals simp

@[simp] theorem State.holdLine_fu (s : State) :
    (s.holdLine).fu = s.fu := by
  simp only [State.holdLine]; repeat' split
  all_goals simp

@[simp] theorem State.withdrawRequests_pending (s : State) :
    (s.withdrawRequests).pending = s.pending := by
  simp only [State.withdrawRequests]; repeat' split
  all_goals simp

@[simp] theorem State.withdrawRequests_time (s : State) :
    (s.withdrawRequests).time = s.time := by
  simp only [State.withdrawRequests]; repeat' split
  all_goals simp

@[simp] theorem State.withdrawRequests_encoder (s : State) :
    (s.withdrawRequests).encoder = s.encoder := by
  simp only [State.withdrawRequests]; repeat' split
  all_goals simp

@[simp] theorem State.withdrawRequests_travelOwed (s : State) :
    (s.withdrawRequests).travelOwed = s.travelOwed := by
  simp only [State.withdrawRequests]; repeat' split
  all_goals simp

@[simp] theorem State.withdrawRequests_free (s : State) :
    (s.withdrawRequests).free = s.free := by
  simp only [State.withdrawRequests]; repeat' split
  all_goals simp

@[simp] theorem State.withdrawRequests_inputs (s : State) :
    (s.withdrawRequests).inputs = s.inputs := by
  simp only [State.withdrawRequests]; repeat' split
  all_goals simp

@[simp] theorem State.withdrawRequests_resetAsserted (s : State) :
    (s.withdrawRequests).resetAsserted = s.resetAsserted := by
  simp only [State.withdrawRequests]; repeat' split
  all_goals simp

@[simp] theorem State.withdrawRequests_si (s : State) :
    (s.withdrawRequests).si = s.si := by
  simp only [State.withdrawRequests]; repeat' split
  all_goals simp

@[simp] theorem State.withdrawRequests_lb (s : State) :
    (s.withdrawRequests).lb = s.lb := by
  simp only [State.withdrawRequests]; repeat' split
  all_goals simp

@[simp] theorem State.withdrawRequests_ts (s : State) :
    (s.withdrawRequests).ts = s.ts := by
  simp only [State.withdrawRequests]; repeat' split
  all_goals simp

@[simp] theorem State.withdrawRequests_ss (s : State) :
    (s.withdrawRequests).ss = s.ss := by
  simp only [State.withdrawRequests]; repeat' split
  all_goals simp

@[simp] theorem State.withdrawRequests_orders (s : State) :
    (s.withdrawRequests).orders = s.orders := by
  simp only [State.withdrawRequests]; repeat' split
  all_goals simp

@[simp] theorem State.withdrawRequests_pc (s : State) :
    (s.withdrawRequests).pc = s.pc := by
  simp only [State.withdrawRequests]; repeat' split
  all_goals simp

@[simp] theorem State.withdrawRequests_tcu (s : State) :
    (s.withdrawRequests).tcu = s.tcu := by
  simp only [State.withdrawRequests]; repeat' split
  all_goals simp

@[simp] theorem State.withdrawRequests_fu (s : State) :
    (s.withdrawRequests).fu = s.fu := by
  simp only [State.withdrawRequests]; repeat' split
  all_goals simp

@[simp] theorem State.clearStop_pending (s : State) :
    (s.clearStop).pending = s.pending := by
  simp only [State.clearStop]; repeat' split
  all_goals simp

@[simp] theorem State.clearStop_time (s : State) :
    (s.clearStop).time = s.time := by
  simp only [State.clearStop]; repeat' split
  all_goals simp

@[simp] theorem State.clearStop_encoder (s : State) :
    (s.clearStop).encoder = s.encoder := by
  simp only [State.clearStop]; repeat' split
  all_goals simp

@[simp] theorem State.clearStop_travelOwed (s : State) :
    (s.clearStop).travelOwed = s.travelOwed := by
  simp only [State.clearStop]; repeat' split
  all_goals simp

@[simp] theorem State.clearStop_free (s : State) :
    (s.clearStop).free = s.free := by
  simp only [State.clearStop]; repeat' split
  all_goals simp

@[simp] theorem State.clearStop_inputs (s : State) :
    (s.clearStop).inputs = s.inputs := by
  simp only [State.clearStop]; repeat' split
  all_goals simp

@[simp] theorem State.clearStop_resetAsserted (s : State) :
    (s.clearStop).resetAsserted = s.resetAsserted := by
  simp only [State.clearStop]; repeat' split
  all_goals simp

@[simp] theorem State.clearStop_lb (s : State) :
    (s.clearStop).lb = s.lb := by
  simp only [State.clearStop]; repeat' split
  all_goals simp

@[simp] theorem State.clearStop_ts (s : State) :
    (s.clearStop).ts = s.ts := by
  simp only [State.clearStop]; repeat' split
  all_goals simp

@[simp] theorem State.recoveryClear_pending (s : State) :
    (s.recoveryClear).pending = s.pending := by
  simp only [State.recoveryClear]; repeat' split
  all_goals simp

@[simp] theorem State.recoveryClear_time (s : State) :
    (s.recoveryClear).time = s.time := by
  simp only [State.recoveryClear]; repeat' split
  all_goals simp

@[simp] theorem State.recoveryClear_encoder (s : State) :
    (s.recoveryClear).encoder = s.encoder := by
  simp only [State.recoveryClear]; repeat' split
  all_goals simp

@[simp] theorem State.recoveryClear_travelOwed (s : State) :
    (s.recoveryClear).travelOwed = s.travelOwed := by
  simp only [State.recoveryClear]; repeat' split
  all_goals simp

@[simp] theorem State.recoveryClear_free (s : State) :
    (s.recoveryClear).free = s.free := by
  simp only [State.recoveryClear]; repeat' split
  all_goals simp

@[simp] theorem State.recoveryClear_inputs (s : State) :
    (s.recoveryClear).inputs = s.inputs := by
  simp only [State.recoveryClear]; repeat' split
  all_goals simp

@[simp] theorem State.recoveryClear_resetAsserted (s : State) :
    (s.recoveryClear).resetAsserted = s.resetAsserted := by
  simp only [State.recoveryClear]; repeat' split
  all_goals simp

@[simp] theorem State.recoveryClear_lp (s : State) :
    (s.recoveryClear).lp = s.lp := by
  simp only [State.recoveryClear]; repeat' split
  all_goals simp

@[simp] theorem State.recoveryClear_si (s : State) :
    (s.recoveryClear).si = s.si := by
  simp only [State.recoveryClear]; repeat' split
  all_goals simp

@[simp] theorem State.recoveryClear_lb (s : State) :
    (s.recoveryClear).lb = s.lb := by
  simp only [State.recoveryClear]; repeat' split
  all_goals simp

@[simp] theorem State.recoveryClear_ts (s : State) :
    (s.recoveryClear).ts = s.ts := by
  simp only [State.recoveryClear]; repeat' split
  all_goals simp

@[simp] theorem State.recoveryClear_ss (s : State) :
    (s.recoveryClear).ss = s.ss := by
  simp only [State.recoveryClear]; repeat' split
  all_goals simp

@[simp] theorem State.recoveryClear_orders (s : State) :
    (s.recoveryClear).orders = s.orders := by
  simp only [State.recoveryClear]; repeat' split
  all_goals simp

@[simp] theorem State.recoveryClear_pc (s : State) :
    (s.recoveryClear).pc = s.pc := by
  simp only [State.recoveryClear]; repeat' split
  all_goals simp

@[simp] theorem State.recoveryClear_tcu (s : State) :
    (s.recoveryClear).tcu = s.tcu := by
  simp only [State.recoveryClear]; repeat' split
  all_goals simp

@[simp] theorem State.recoveryClear_fu (s : State) :
    (s.recoveryClear).fu = s.fu := by
  simp only [State.recoveryClear]; repeat' split
  all_goals simp

@[simp] theorem State.recoveryClear_lm (s : State) :
    (s.recoveryClear).lm = s.lm := by
  simp only [State.recoveryClear]; repeat' split
  all_goals simp

@[simp] theorem State.lineReset_pending (s : State) :
    (s.lineReset).pending = s.pending := by
  simp only [State.lineReset]; repeat' split
  all_goals simp

@[simp] theorem State.lineReset_time (s : State) :
    (s.lineReset).time = s.time := by
  simp only [State.lineReset]; repeat' split
  all_goals simp

@[simp] theorem State.lineReset_encoder (s : State) :
    (s.lineReset).encoder = s.encoder := by
  simp only [State.lineReset]; repeat' split
  all_goals simp

@[simp] theorem State.lineReset_travelOwed (s : State) :
    (s.lineReset).travelOwed = s.travelOwed := by
  simp only [State.lineReset]; repeat' split
  all_goals simp

@[simp] theorem State.lineReset_free (s : State) :
    (s.lineReset).free = s.free := by
  simp only [State.lineReset]; repeat' split
  all_goals simp

@[simp] theorem State.lineReset_inputs (s : State) :
    (s.lineReset).inputs = s.inputs := by
  simp only [State.lineReset]; repeat' split
  all_goals simp

@[simp] theorem State.lineReset_resetAsserted (s : State) :
    (s.lineReset).resetAsserted = s.resetAsserted := by
  simp only [State.lineReset]; repeat' split
  all_goals simp

@[simp] theorem State.retryDrill_pending (s : State) (f : Finish) :
    (s.retryDrill f).pending = s.pending := by
  simp only [State.retryDrill]; repeat' split
  all_goals simp

@[simp] theorem State.retryDrill_time (s : State) (f : Finish) :
    (s.retryDrill f).time = s.time := by
  simp only [State.retryDrill]; repeat' split
  all_goals simp

@[simp] theorem State.retryDrill_encoder (s : State) (f : Finish) :
    (s.retryDrill f).encoder = s.encoder := by
  simp only [State.retryDrill]; repeat' split
  all_goals simp

@[simp] theorem State.retryDrill_travelOwed (s : State) (f : Finish) :
    (s.retryDrill f).travelOwed = s.travelOwed := by
  simp only [State.retryDrill]; repeat' split
  all_goals simp

@[simp] theorem State.retryDrill_free (s : State) (f : Finish) :
    (s.retryDrill f).free = s.free := by
  simp only [State.retryDrill]; repeat' split
  all_goals simp

@[simp] theorem State.retryDrill_inputs (s : State) (f : Finish) :
    (s.retryDrill f).inputs = s.inputs := by
  simp only [State.retryDrill]; repeat' split
  all_goals simp

@[simp] theorem State.retryDrill_resetAsserted (s : State) (f : Finish) :
    (s.retryDrill f).resetAsserted = s.resetAsserted := by
  simp only [State.retryDrill]; repeat' split
  all_goals simp

@[simp] theorem State.retryDrill_si (s : State) (f : Finish) :
    (s.retryDrill f).si = s.si := by
  simp only [State.retryDrill]; repeat' split
  all_goals simp

@[simp] theorem State.retryDrill_lb (s : State) (f : Finish) :
    (s.retryDrill f).lb = s.lb := by
  simp only [State.retryDrill]; repeat' split
  all_goals simp

@[simp] theorem State.retryDrill_ts (s : State) (f : Finish) :
    (s.retryDrill f).ts = s.ts := by
  simp only [State.retryDrill]; repeat' split
  all_goals simp

@[simp] theorem State.retryDrill_ss (s : State) (f : Finish) :
    (s.retryDrill f).ss = s.ss := by
  simp only [State.retryDrill]; repeat' split
  all_goals simp

@[simp] theorem State.retryDrill_pc (s : State) (f : Finish) :
    (s.retryDrill f).pc = s.pc := by
  simp only [State.retryDrill]; repeat' split
  all_goals simp

@[simp] theorem State.retryDrill_tcu (s : State) (f : Finish) :
    (s.retryDrill f).tcu = s.tcu := by
  simp only [State.retryDrill]; repeat' split
  all_goals simp

@[simp] theorem State.retryBlocked_pending (s : State) :
    (s.retryBlocked).pending = s.pending := by
  simp only [State.retryBlocked]; repeat' split
  all_goals simp

@[simp] theorem State.retryBlocked_time (s : State) :
    (s.retryBlocked).time = s.time := by
  simp only [State.retryBlocked]; repeat' split
  all_goals simp

@[simp] theorem State.retryBlocked_encoder (s : State) :
    (s.retryBlocked).encoder = s.encoder := by
  simp only [State.retryBlocked]; repeat' split
  all_goals simp

@[simp] theorem State.retryBlocked_travelOwed (s : State) :
    (s.retryBlocked).travelOwed = s.travelOwed := by
  simp only [State.retryBlocked]; repeat' split
  all_goals simp

@[simp] theorem State.retryBlocked_free (s : State) :
    (s.retryBlocked).free = s.free := by
  simp only [State.retryBlocked]; repeat' split
  all_goals simp

@[simp] theorem State.retryBlocked_inputs (s : State) :
    (s.retryBlocked).inputs = s.inputs := by
  simp only [State.retryBlocked]; repeat' split
  all_goals simp

@[simp] theorem State.retryBlocked_resetAsserted (s : State) :
    (s.retryBlocked).resetAsserted = s.resetAsserted := by
  simp only [State.retryBlocked]; repeat' split
  all_goals simp

@[simp] theorem State.retryBlocked_si (s : State) :
    (s.retryBlocked).si = s.si := by
  simp only [State.retryBlocked]; repeat' split
  all_goals simp

@[simp] theorem State.retryBlocked_lb (s : State) :
    (s.retryBlocked).lb = s.lb := by
  simp only [State.retryBlocked]; repeat' split
  all_goals simp

@[simp] theorem State.retryBlocked_ts (s : State) :
    (s.retryBlocked).ts = s.ts := by
  simp only [State.retryBlocked]; repeat' split
  all_goals simp

@[simp] theorem State.retryBlocked_ss (s : State) :
    (s.retryBlocked).ss = s.ss := by
  simp only [State.retryBlocked]; repeat' split
  all_goals simp

@[simp] theorem State.retryBlocked_pc (s : State) :
    (s.retryBlocked).pc = s.pc := by
  simp only [State.retryBlocked]; repeat' split
  all_goals simp

@[simp] theorem State.retryBlocked_tcu (s : State) :
    (s.retryBlocked).tcu = s.tcu := by
  simp only [State.retryBlocked]; repeat' split
  all_goals simp

@[simp] theorem State.issueWaiting_pending (s : State) (st : Station) :
    (s.issueWaiting st).pending = s.pending := by
  simp only [State.issueWaiting]; repeat' split
  all_goals simp

@[simp] theorem State.issueWaiting_time (s : State) (st : Station) :
    (s.issueWaiting st).time = s.time := by
  simp only [State.issueWaiting]; repeat' split
  all_goals simp

@[simp] theorem State.issueWaiting_encoder (s : State) (st : Station) :
    (s.issueWaiting st).encoder = s.encoder := by
  simp only [State.issueWaiting]; repeat' split
  all_goals simp

@[simp] theorem State.issueWaiting_travelOwed (s : State) (st : Station) :
    (s.issueWaiting st).travelOwed = s.travelOwed := by
  simp only [State.issueWaiting]; repeat' split
  all_goals simp

@[simp] theorem State.issueWaiting_free (s : State) (st : Station) :
    (s.issueWaiting st).free = s.free := by
  simp only [State.issueWaiting]; repeat' split
  all_goals simp

@[simp] theorem State.issueWaiting_inputs (s : State) (st : Station) :
    (s.issueWaiting st).inputs = s.inputs := by
  simp only [State.issueWaiting]; repeat' split
  all_goals simp

@[simp] theorem State.issueWaiting_resetAsserted (s : State) (st : Station) :
    (s.issueWaiting st).resetAsserted = s.resetAsserted := by
  simp only [State.issueWaiting]; repeat' split
  all_goals simp

@[simp] theorem State.issueWaiting_si (s : State) (st : Station) :
    (s.issueWaiting st).si = s.si := by
  simp only [State.issueWaiting]; repeat' split
  all_goals simp

@[simp] theorem State.issueWaiting_lb (s : State) (st : Station) :
    (s.issueWaiting st).lb = s.lb := by
  simp only [State.issueWaiting]; repeat' split
  all_goals simp

@[simp] theorem State.issueWaiting_ts (s : State) (st : Station) :
    (s.issueWaiting st).ts = s.ts := by
  simp only [State.issueWaiting]; repeat' split
  all_goals simp

@[simp] theorem State.issueWaiting_ss (s : State) (st : Station) :
    (s.issueWaiting st).ss = s.ss := by
  simp only [State.issueWaiting]; repeat' split
  all_goals simp

@[simp] theorem State.issueWaiting_pc (s : State) (st : Station) :
    (s.issueWaiting st).pc = s.pc := by
  simp only [State.issueWaiting]; repeat' split
  all_goals simp

@[simp] theorem State.issueWaiting_tcu (s : State) (st : Station) :
    (s.issueWaiting st).tcu = s.tcu := by
  simp only [State.issueWaiting]; repeat' split
  all_goals simp

@[simp] theorem State.issueWaiting_fu (s : State) (st : Station) :
    (s.issueWaiting st).fu = s.fu := by
  simp only [State.issueWaiting]; repeat' split
  all_goals simp

@[simp] theorem State.readyWaitExpiry_pending (s : State) (st : Station) :
    (s.readyWaitExpiry st).pending = s.pending := by
  simp only [State.readyWaitExpiry]; repeat' split
  all_goals simp

@[simp] theorem State.readyWaitExpiry_time (s : State) (st : Station) :
    (s.readyWaitExpiry st).time = s.time := by
  simp only [State.readyWaitExpiry]; repeat' split
  all_goals simp

@[simp] theorem State.readyWaitExpiry_encoder (s : State) (st : Station) :
    (s.readyWaitExpiry st).encoder = s.encoder := by
  simp only [State.readyWaitExpiry]; repeat' split
  all_goals simp

@[simp] theorem State.readyWaitExpiry_travelOwed (s : State) (st : Station) :
    (s.readyWaitExpiry st).travelOwed = s.travelOwed := by
  simp only [State.readyWaitExpiry]; repeat' split
  all_goals simp

@[simp] theorem State.readyWaitExpiry_free (s : State) (st : Station) :
    (s.readyWaitExpiry st).free = s.free := by
  simp only [State.readyWaitExpiry]; repeat' split
  all_goals simp

@[simp] theorem State.readyWaitExpiry_inputs (s : State) (st : Station) :
    (s.readyWaitExpiry st).inputs = s.inputs := by
  simp only [State.readyWaitExpiry]; repeat' split
  all_goals simp

@[simp] theorem State.readyWaitExpiry_resetAsserted (s : State) (st : Station) :
    (s.readyWaitExpiry st).resetAsserted = s.resetAsserted := by
  simp only [State.readyWaitExpiry]; repeat' split
  all_goals simp

@[simp] theorem State.readyWaitExpiry_si (s : State) (st : Station) :
    (s.readyWaitExpiry st).si = s.si := by
  simp only [State.readyWaitExpiry]; repeat' split
  all_goals simp

@[simp] theorem State.readyWaitExpiry_lb (s : State) (st : Station) :
    (s.readyWaitExpiry st).lb = s.lb := by
  simp only [State.readyWaitExpiry]; repeat' split
  all_goals simp

@[simp] theorem State.readyWaitExpiry_ts (s : State) (st : Station) :
    (s.readyWaitExpiry st).ts = s.ts := by
  simp only [State.readyWaitExpiry]; repeat' split
  all_goals simp

@[simp] theorem State.readyWaitExpiry_ss (s : State) (st : Station) :
    (s.readyWaitExpiry st).ss = s.ss := by
  simp only [State.readyWaitExpiry]; repeat' split
  all_goals simp

@[simp] theorem State.readyWaitExpiry_pc (s : State) (st : Station) :
    (s.readyWaitExpiry st).pc = s.pc := by
  simp only [State.readyWaitExpiry]; repeat' split
  all_goals simp

@[simp] theorem State.readyWaitExpiry_tcu (s : State) (st : Station) :
    (s.readyWaitExpiry st).tcu = s.tcu := by
  simp only [State.readyWaitExpiry]; repeat' split
  all_goals simp

@[simp] theorem State.readyWaitExpiry_fu (s : State) (st : Station) :
    (s.readyWaitExpiry st).fu = s.fu := by
  simp only [State.readyWaitExpiry]; repeat' split
  all_goals simp

@[simp] theorem State.orderTimeout_pending (s : State) (st : Station) :
    (s.orderTimeout st).pending = s.pending := by
  simp only [State.orderTimeout]; repeat' split
  all_goals simp

@[simp] theorem State.orderTimeout_time (s : State) (st : Station) :
    (s.orderTimeout st).time = s.time := by
  simp only [State.orderTimeout]; repeat' split
  all_goals simp

@[simp] theorem State.orderTimeout_encoder (s : State) (st : Station) :
    (s.orderTimeout st).encoder = s.encoder := by
  simp only [State.orderTimeout]; repeat' split
  all_goals simp

@[simp] theorem State.orderTimeout_travelOwed (s : State) (st : Station) :
    (s.orderTimeout st).travelOwed = s.travelOwed := by
  simp only [State.orderTimeout]; repeat' split
  all_goals simp

@[simp] theorem State.orderTimeout_free (s : State) (st : Station) :
    (s.orderTimeout st).free = s.free := by
  simp only [State.orderTimeout]; repeat' split
  all_goals simp

@[simp] theorem State.orderTimeout_inputs (s : State) (st : Station) :
    (s.orderTimeout st).inputs = s.inputs := by
  simp only [State.orderTimeout]; repeat' split
  all_goals simp

@[simp] theorem State.orderTimeout_resetAsserted (s : State) (st : Station) :
    (s.orderTimeout st).resetAsserted = s.resetAsserted := by
  simp only [State.orderTimeout]; repeat' split
  all_goals simp

@[simp] theorem State.orderTimeout_lb (s : State) (st : Station) :
    (s.orderTimeout st).lb = s.lb := by
  simp only [State.orderTimeout]; repeat' split
  all_goals simp

@[simp] theorem State.orderBedTransfer_pending (s : State) :
    (s.orderBedTransfer).pending = s.pending := by
  simp only [State.orderBedTransfer]; repeat' split
  all_goals simp

@[simp] theorem State.orderBedTransfer_time (s : State) :
    (s.orderBedTransfer).time = s.time := by
  simp only [State.orderBedTransfer]; repeat' split
  all_goals simp

@[simp] theorem State.orderBedTransfer_encoder (s : State) :
    (s.orderBedTransfer).encoder = s.encoder := by
  simp only [State.orderBedTransfer]; repeat' split
  all_goals simp

@[simp] theorem State.orderBedTransfer_travelOwed (s : State) :
    (s.orderBedTransfer).travelOwed = s.travelOwed := by
  simp only [State.orderBedTransfer]; repeat' split
  all_goals simp

@[simp] theorem State.orderBedTransfer_free (s : State) :
    (s.orderBedTransfer).free = s.free := by
  simp only [State.orderBedTransfer]; repeat' split
  all_goals simp

@[simp] theorem State.orderBedTransfer_inputs (s : State) :
    (s.orderBedTransfer).inputs = s.inputs := by
  simp only [State.orderBedTransfer]; repeat' split
  all_goals simp

@[simp] theorem State.orderBedTransfer_resetAsserted (s : State) :
    (s.orderBedTransfer).resetAsserted = s.resetAsserted := by
  simp only [State.orderBedTransfer]; repeat' split
  all_goals simp

@[simp] theorem State.orderBedTransfer_pc (s : State) :
    (s.orderBedTransfer).pc = s.pc := by
  simp only [State.orderBedTransfer]; repeat' split
  all_goals simp

@[simp] theorem State.orderBedTransfer_tcu (s : State) :
    (s.orderBedTransfer).tcu = s.tcu := by
  simp only [State.orderBedTransfer]; repeat' split
  all_goals simp

@[simp] theorem State.strikeBegin_pending (s : State) :
    (s.strikeBegin).pending = s.pending := by
  simp only [State.strikeBegin]; repeat' split
  all_goals simp

@[simp] theorem State.strikeBegin_time (s : State) :
    (s.strikeBegin).time = s.time := by
  simp only [State.strikeBegin]; repeat' split
  all_goals simp

@[simp] theorem State.strikeBegin_encoder (s : State) :
    (s.strikeBegin).encoder = s.encoder := by
  simp only [State.strikeBegin]; repeat' split
  all_goals simp

@[simp] theorem State.strikeBegin_travelOwed (s : State) :
    (s.strikeBegin).travelOwed = s.travelOwed := by
  simp only [State.strikeBegin]; repeat' split
  all_goals simp

@[simp] theorem State.strikeBegin_free (s : State) :
    (s.strikeBegin).free = s.free := by
  simp only [State.strikeBegin]; repeat' split
  all_goals simp

@[simp] theorem State.strikeBegin_inputs (s : State) :
    (s.strikeBegin).inputs = s.inputs := by
  simp only [State.strikeBegin]; repeat' split
  all_goals simp

@[simp] theorem State.strikeBegin_resetAsserted (s : State) :
    (s.strikeBegin).resetAsserted = s.resetAsserted := by
  simp only [State.strikeBegin]; repeat' split
  all_goals simp

@[simp] theorem State.strikeBegin_si (s : State) :
    (s.strikeBegin).si = s.si := by
  simp only [State.strikeBegin]; repeat' split
  all_goals simp

@[simp] theorem State.strikeBegin_lb (s : State) :
    (s.strikeBegin).lb = s.lb := by
  simp only [State.strikeBegin]; repeat' split
  all_goals simp

@[simp] theorem State.strikeBegin_ts (s : State) :
    (s.strikeBegin).ts = s.ts := by
  simp only [State.strikeBegin]; repeat' split
  all_goals simp

@[simp] theorem State.strikeBegin_orders (s : State) :
    (s.strikeBegin).orders = s.orders := by
  simp only [State.strikeBegin]; repeat' split
  all_goals simp

@[simp] theorem State.strikeBegin_pc (s : State) :
    (s.strikeBegin).pc = s.pc := by
  simp only [State.strikeBegin]; repeat' split
  all_goals simp

@[simp] theorem State.strikeBegin_fu (s : State) :
    (s.strikeBegin).fu = s.fu := by
  simp only [State.strikeBegin]; repeat' split
  all_goals simp

@[simp] theorem State.strikeBegin_lsv (s : State) :
    (s.strikeBegin).lsv = s.lsv := by
  simp only [State.strikeBegin]; repeat' split
  all_goals simp

@[simp] theorem State.strokeTimeout_pending (s : State) (d : DriveId) :
    (s.strokeTimeout d).pending = s.pending := by
  simp only [State.strokeTimeout]; repeat' split
  all_goals simp

@[simp] theorem State.strokeTimeout_time (s : State) (d : DriveId) :
    (s.strokeTimeout d).time = s.time := by
  simp only [State.strokeTimeout]; repeat' split
  all_goals simp

@[simp] theorem State.strokeTimeout_encoder (s : State) (d : DriveId) :
    (s.strokeTimeout d).encoder = s.encoder := by
  simp only [State.strokeTimeout]; repeat' split
  all_goals simp

@[simp] theorem State.strokeTimeout_travelOwed (s : State) (d : DriveId) :
    (s.strokeTimeout d).travelOwed = s.travelOwed := by
  simp only [State.strokeTimeout]; repeat' split
  all_goals simp

@[simp] theorem State.strokeTimeout_free (s : State) (d : DriveId) :
    (s.strokeTimeout d).free = s.free := by
  simp only [State.strokeTimeout]; repeat' split
  all_goals simp

@[simp] theorem State.strokeTimeout_inputs (s : State) (d : DriveId) :
    (s.strokeTimeout d).inputs = s.inputs := by
  simp only [State.strokeTimeout]; repeat' split
  all_goals simp

@[simp] theorem State.strokeTimeout_resetAsserted (s : State) (d : DriveId) :
    (s.strokeTimeout d).resetAsserted = s.resetAsserted := by
  simp only [State.strokeTimeout]; repeat' split
  all_goals simp

@[simp] theorem State.strokeTimeout_lb (s : State) (d : DriveId) :
    (s.strokeTimeout d).lb = s.lb := by
  simp only [State.strokeTimeout]; repeat' split
  all_goals simp

@[simp] theorem State.outRequest_pending (s : State) :
    (s.outRequest).pending = s.pending := by
  simp only [State.outRequest]; repeat' split
  all_goals simp

@[simp] theorem State.outRequest_time (s : State) :
    (s.outRequest).time = s.time := by
  simp only [State.outRequest]; repeat' split
  all_goals simp

@[simp] theorem State.outRequest_encoder (s : State) :
    (s.outRequest).encoder = s.encoder := by
  simp only [State.outRequest]; repeat' split
  all_goals simp

@[simp] theorem State.outRequest_travelOwed (s : State) :
    (s.outRequest).travelOwed = s.travelOwed := by
  simp only [State.outRequest]; repeat' split
  all_goals simp

@[simp] theorem State.outRequest_free (s : State) :
    (s.outRequest).free = s.free := by
  simp only [State.outRequest]; repeat' split
  all_goals simp

@[simp] theorem State.outRequest_inputs (s : State) :
    (s.outRequest).inputs = s.inputs := by
  simp only [State.outRequest]; repeat' split
  all_goals simp

@[simp] theorem State.outRequest_resetAsserted (s : State) :
    (s.outRequest).resetAsserted = s.resetAsserted := by
  simp only [State.outRequest]; repeat' split
  all_goals simp

@[simp] theorem State.outRequest_pc (s : State) :
    (s.outRequest).pc = s.pc := by
  simp only [State.outRequest]; repeat' split
  all_goals simp

@[simp] theorem State.outRequest_tcu (s : State) :
    (s.outRequest).tcu = s.tcu := by
  simp only [State.outRequest]; repeat' split
  all_goals simp

@[simp] theorem State.orderOutTransfer_pending (s : State) :
    (s.orderOutTransfer).pending = s.pending := by
  simp only [State.orderOutTransfer]; repeat' split
  all_goals simp

@[simp] theorem State.orderOutTransfer_time (s : State) :
    (s.orderOutTransfer).time = s.time := by
  simp only [State.orderOutTransfer]; repeat' split
  all_goals simp

@[simp] theorem State.orderOutTransfer_encoder (s : State) :
    (s.orderOutTransfer).encoder = s.encoder := by
  simp only [State.orderOutTransfer]; repeat' split
  all_goals simp

@[simp] theorem State.orderOutTransfer_travelOwed (s : State) :
    (s.orderOutTransfer).travelOwed = s.travelOwed := by
  simp only [State.orderOutTransfer]; repeat' split
  all_goals simp

@[simp] theorem State.orderOutTransfer_free (s : State) :
    (s.orderOutTransfer).free = s.free := by
  simp only [State.orderOutTransfer]; repeat' split
  all_goals simp

@[simp] theorem State.orderOutTransfer_inputs (s : State) :
    (s.orderOutTransfer).inputs = s.inputs := by
  simp only [State.orderOutTransfer]; repeat' split
  all_goals simp

@[simp] theorem State.orderOutTransfer_resetAsserted (s : State) :
    (s.orderOutTransfer).resetAsserted = s.resetAsserted := by
  simp only [State.orderOutTransfer]; repeat' split
  all_goals simp

@[simp] theorem State.orderOutTransfer_lp (s : State) :
    (s.orderOutTransfer).lp = s.lp := by
  simp only [State.orderOutTransfer]; repeat' split
  all_goals simp

@[simp] theorem State.orderOutTransfer_si (s : State) :
    (s.orderOutTransfer).si = s.si := by
  simp only [State.orderOutTransfer]; repeat' split
  all_goals simp

@[simp] theorem State.orderOutTransfer_lb (s : State) :
    (s.orderOutTransfer).lb = s.lb := by
  simp only [State.orderOutTransfer]; repeat' split
  all_goals simp

@[simp] theorem State.orderOutTransfer_ts (s : State) :
    (s.orderOutTransfer).ts = s.ts := by
  simp only [State.orderOutTransfer]; repeat' split
  all_goals simp

@[simp] theorem State.orderOutTransfer_ss (s : State) :
    (s.orderOutTransfer).ss = s.ss := by
  simp only [State.orderOutTransfer]; repeat' split
  all_goals simp

@[simp] theorem State.orderOutTransfer_pc (s : State) :
    (s.orderOutTransfer).pc = s.pc := by
  simp only [State.orderOutTransfer]; repeat' split
  all_goals simp

@[simp] theorem State.orderOutTransfer_tcu (s : State) :
    (s.orderOutTransfer).tcu = s.tcu := by
  simp only [State.orderOutTransfer]; repeat' split
  all_goals simp

@[simp] theorem State.orderOutTransfer_fu (s : State) :
    (s.orderOutTransfer).fu = s.fu := by
  simp only [State.orderOutTransfer]; repeat' split
  all_goals simp

@[simp] theorem State.orderOutTransfer_lm (s : State) :
    (s.orderOutTransfer).lm = s.lm := by
  simp only [State.orderOutTransfer]; repeat' split
  all_goals simp

@[simp] theorem State.orderOutTransfer_lsv (s : State) :
    (s.orderOutTransfer).lsv = s.lsv := by
  simp only [State.orderOutTransfer]; repeat' split
  all_goals simp

@[simp] theorem State.setDebtAtExpiry_pending (s : State) (d : DriveId) (n : Int) (l : Option Nat) :
    (s.setDebtAtExpiry d n l).pending = s.pending := by
  simp only [State.setDebtAtExpiry]; repeat' split
  all_goals simp

@[simp] theorem State.setDebtAtExpiry_time (s : State) (d : DriveId) (n : Int) (l : Option Nat) :
    (s.setDebtAtExpiry d n l).time = s.time := by
  simp only [State.setDebtAtExpiry]; repeat' split
  all_goals simp

@[simp] theorem State.setDebtAtExpiry_encoder (s : State) (d : DriveId) (n : Int) (l : Option Nat) :
    (s.setDebtAtExpiry d n l).encoder = s.encoder := by
  simp only [State.setDebtAtExpiry]; repeat' split
  all_goals simp

@[simp] theorem State.setDebtAtExpiry_travelOwed (s : State) (d : DriveId) (n : Int) (l : Option Nat) :
    (s.setDebtAtExpiry d n l).travelOwed = s.travelOwed := by
  simp only [State.setDebtAtExpiry]; repeat' split
  all_goals simp

@[simp] theorem State.setDebtAtExpiry_free (s : State) (d : DriveId) (n : Int) (l : Option Nat) :
    (s.setDebtAtExpiry d n l).free = s.free := by
  simp only [State.setDebtAtExpiry]; repeat' split
  all_goals simp

@[simp] theorem State.setDebtAtExpiry_inputs (s : State) (d : DriveId) (n : Int) (l : Option Nat) :
    (s.setDebtAtExpiry d n l).inputs = s.inputs := by
  simp only [State.setDebtAtExpiry]; repeat' split
  all_goals simp

@[simp] theorem State.setDebtAtExpiry_resetAsserted (s : State) (d : DriveId) (n : Int) (l : Option Nat) :
    (s.setDebtAtExpiry d n l).resetAsserted = s.resetAsserted := by
  simp only [State.setDebtAtExpiry]; repeat' split
  all_goals simp

@[simp] theorem State.setDebtAtExpiry_si (s : State) (d : DriveId) (n : Int) (l : Option Nat) :
    (s.setDebtAtExpiry d n l).si = s.si := by
  simp only [State.setDebtAtExpiry]; repeat' split
  all_goals simp

@[simp] theorem State.setDebtAtExpiry_lb (s : State) (d : DriveId) (n : Int) (l : Option Nat) :
    (s.setDebtAtExpiry d n l).lb = s.lb := by
  simp only [State.setDebtAtExpiry]; repeat' split
  all_goals simp

@[simp] theorem State.setDebtAtExpiry_ts (s : State) (d : DriveId) (n : Int) (l : Option Nat) :
    (s.setDebtAtExpiry d n l).ts = s.ts := by
  simp only [State.setDebtAtExpiry]; repeat' split
  all_goals simp

@[simp] theorem State.setDebtAtExpiry_ss (s : State) (d : DriveId) (n : Int) (l : Option Nat) :
    (s.setDebtAtExpiry d n l).ss = s.ss := by
  simp only [State.setDebtAtExpiry]; repeat' split
  all_goals simp

@[simp] theorem State.setDebtAtExpiry_orders (s : State) (d : DriveId) (n : Int) (l : Option Nat) :
    (s.setDebtAtExpiry d n l).orders = s.orders := by
  simp only [State.setDebtAtExpiry]; repeat' split
  all_goals simp

@[simp] theorem State.setDebtAtExpiry_tcu (s : State) (d : DriveId) (n : Int) (l : Option Nat) :
    (s.setDebtAtExpiry d n l).tcu = s.tcu := by
  simp only [State.setDebtAtExpiry]; repeat' split
  all_goals simp

@[simp] theorem State.setDebtAtExpiry_fu (s : State) (d : DriveId) (n : Int) (l : Option Nat) :
    (s.setDebtAtExpiry d n l).fu = s.fu := by
  simp only [State.setDebtAtExpiry]; repeat' split
  all_goals simp

@[simp] theorem State.setDebtAtExpiry_lsv (s : State) (d : DriveId) (n : Int) (l : Option Nat) :
    (s.setDebtAtExpiry d n l).lsv = s.lsv := by
  simp only [State.setDebtAtExpiry]; repeat' split
  all_goals simp

@[simp] theorem State.quarterExpiry_pending (s : State) (d : DriveId) :
    (s.quarterExpiry d).pending = s.pending := by
  simp only [State.quarterExpiry]; repeat' split
  all_goals simp

@[simp] theorem State.quarterExpiry_time (s : State) (d : DriveId) :
    (s.quarterExpiry d).time = s.time := by
  simp only [State.quarterExpiry]; repeat' split
  all_goals simp

@[simp] theorem State.quarterExpiry_encoder (s : State) (d : DriveId) :
    (s.quarterExpiry d).encoder = s.encoder := by
  simp only [State.quarterExpiry]; repeat' split
  all_goals simp

@[simp] theorem State.quarterExpiry_travelOwed (s : State) (d : DriveId) :
    (s.quarterExpiry d).travelOwed = s.travelOwed := by
  simp only [State.quarterExpiry]; repeat' split
  all_goals simp

@[simp] theorem State.quarterExpiry_free (s : State) (d : DriveId) :
    (s.quarterExpiry d).free = s.free := by
  simp only [State.quarterExpiry]; repeat' split
  all_goals simp

@[simp] theorem State.quarterExpiry_inputs (s : State) (d : DriveId) :
    (s.quarterExpiry d).inputs = s.inputs := by
  simp only [State.quarterExpiry]; repeat' split
  all_goals simp

@[simp] theorem State.quarterExpiry_resetAsserted (s : State) (d : DriveId) :
    (s.quarterExpiry d).resetAsserted = s.resetAsserted := by
  simp only [State.quarterExpiry]; repeat' split
  all_goals simp

@[simp] theorem State.quarterExpiry_lb (s : State) (d : DriveId) :
    (s.quarterExpiry d).lb = s.lb := by
  simp only [State.quarterExpiry]; repeat' split
  all_goals simp

@[simp] theorem State.payPurge_pending (s : State) (d : DriveId) (p : Purge) :
    (s.payPurge d p).pending = s.pending := by
  simp only [State.payPurge]; repeat' split
  all_goals simp

@[simp] theorem State.payPurge_time (s : State) (d : DriveId) (p : Purge) :
    (s.payPurge d p).time = s.time := by
  simp only [State.payPurge]; repeat' split
  all_goals simp

@[simp] theorem State.payPurge_encoder (s : State) (d : DriveId) (p : Purge) :
    (s.payPurge d p).encoder = s.encoder := by
  simp only [State.payPurge]; repeat' split
  all_goals simp

@[simp] theorem State.payPurge_travelOwed (s : State) (d : DriveId) (p : Purge) :
    (s.payPurge d p).travelOwed = s.travelOwed := by
  simp only [State.payPurge]; repeat' split
  all_goals simp

@[simp] theorem State.payPurge_free (s : State) (d : DriveId) (p : Purge) :
    (s.payPurge d p).free = s.free := by
  simp only [State.payPurge]; repeat' split
  all_goals simp

@[simp] theorem State.payPurge_inputs (s : State) (d : DriveId) (p : Purge) :
    (s.payPurge d p).inputs = s.inputs := by
  simp only [State.payPurge]; repeat' split
  all_goals simp

@[simp] theorem State.payPurge_resetAsserted (s : State) (d : DriveId) (p : Purge) :
    (s.payPurge d p).resetAsserted = s.resetAsserted := by
  simp only [State.payPurge]; repeat' split
  all_goals simp

@[simp] theorem State.payPurge_lb (s : State) (d : DriveId) (p : Purge) :
    (s.payPurge d p).lb = s.lb := by
  simp only [State.payPurge]; repeat' split
  all_goals simp

@[simp] theorem State.payPurge_ts (s : State) (d : DriveId) (p : Purge) :
    (s.payPurge d p).ts = s.ts := by
  simp only [State.payPurge]; repeat' split
  all_goals simp

@[simp] theorem State.purgeEnd_pending (s : State) (d : DriveId) :
    (s.purgeEnd d).pending = s.pending := by
  simp only [State.purgeEnd]; repeat' split
  all_goals simp

@[simp] theorem State.purgeEnd_time (s : State) (d : DriveId) :
    (s.purgeEnd d).time = s.time := by
  simp only [State.purgeEnd]; repeat' split
  all_goals simp

@[simp] theorem State.purgeEnd_encoder (s : State) (d : DriveId) :
    (s.purgeEnd d).encoder = s.encoder := by
  simp only [State.purgeEnd]; repeat' split
  all_goals simp

@[simp] theorem State.purgeEnd_travelOwed (s : State) (d : DriveId) :
    (s.purgeEnd d).travelOwed = s.travelOwed := by
  simp only [State.purgeEnd]; repeat' split
  all_goals simp

@[simp] theorem State.purgeEnd_free (s : State) (d : DriveId) :
    (s.purgeEnd d).free = s.free := by
  simp only [State.purgeEnd]; repeat' split
  all_goals simp

@[simp] theorem State.purgeEnd_inputs (s : State) (d : DriveId) :
    (s.purgeEnd d).inputs = s.inputs := by
  simp only [State.purgeEnd]; repeat' split
  all_goals simp

@[simp] theorem State.purgeEnd_resetAsserted (s : State) (d : DriveId) :
    (s.purgeEnd d).resetAsserted = s.resetAsserted := by
  simp only [State.purgeEnd]; repeat' split
  all_goals simp

@[simp] theorem State.purgeEnd_lb (s : State) (d : DriveId) :
    (s.purgeEnd d).lb = s.lb := by
  simp only [State.purgeEnd]; repeat' split
  all_goals simp

@[simp] theorem State.purgeEnd_ts (s : State) (d : DriveId) :
    (s.purgeEnd d).ts = s.ts := by
  simp only [State.purgeEnd]; repeat' split
  all_goals simp

@[simp] theorem State.setTemperature_pending (s : State) (d : DriveId) (t : Temperature) :
    (s.setTemperature d t).pending = s.pending := by
  simp only [State.setTemperature]; repeat' split
  all_goals simp

@[simp] theorem State.setTemperature_time (s : State) (d : DriveId) (t : Temperature) :
    (s.setTemperature d t).time = s.time := by
  simp only [State.setTemperature]; repeat' split
  all_goals simp

@[simp] theorem State.setTemperature_encoder (s : State) (d : DriveId) (t : Temperature) :
    (s.setTemperature d t).encoder = s.encoder := by
  simp only [State.setTemperature]; repeat' split
  all_goals simp

@[simp] theorem State.setTemperature_travelOwed (s : State) (d : DriveId) (t : Temperature) :
    (s.setTemperature d t).travelOwed = s.travelOwed := by
  simp only [State.setTemperature]; repeat' split
  all_goals simp

@[simp] theorem State.setTemperature_free (s : State) (d : DriveId) (t : Temperature) :
    (s.setTemperature d t).free = s.free := by
  simp only [State.setTemperature]; repeat' split
  all_goals simp

@[simp] theorem State.setTemperature_inputs (s : State) (d : DriveId) (t : Temperature) :
    (s.setTemperature d t).inputs = s.inputs := by
  simp only [State.setTemperature]; repeat' split
  all_goals simp

@[simp] theorem State.setTemperature_resetAsserted (s : State) (d : DriveId) (t : Temperature) :
    (s.setTemperature d t).resetAsserted = s.resetAsserted := by
  simp only [State.setTemperature]; repeat' split
  all_goals simp

@[simp] theorem State.setTemperature_si (s : State) (d : DriveId) (t : Temperature) :
    (s.setTemperature d t).si = s.si := by
  simp only [State.setTemperature]; repeat' split
  all_goals simp

@[simp] theorem State.setTemperature_lb (s : State) (d : DriveId) (t : Temperature) :
    (s.setTemperature d t).lb = s.lb := by
  simp only [State.setTemperature]; repeat' split
  all_goals simp

@[simp] theorem State.setTemperature_ts (s : State) (d : DriveId) (t : Temperature) :
    (s.setTemperature d t).ts = s.ts := by
  simp only [State.setTemperature]; repeat' split
  all_goals simp

@[simp] theorem State.setTemperature_ss (s : State) (d : DriveId) (t : Temperature) :
    (s.setTemperature d t).ss = s.ss := by
  simp only [State.setTemperature]; repeat' split
  all_goals simp

@[simp] theorem State.setTemperature_orders (s : State) (d : DriveId) (t : Temperature) :
    (s.setTemperature d t).orders = s.orders := by
  simp only [State.setTemperature]; repeat' split
  all_goals simp

@[simp] theorem State.setTemperature_tcu (s : State) (d : DriveId) (t : Temperature) :
    (s.setTemperature d t).tcu = s.tcu := by
  simp only [State.setTemperature]; repeat' split
  all_goals simp

@[simp] theorem State.setTemperature_fu (s : State) (d : DriveId) (t : Temperature) :
    (s.setTemperature d t).fu = s.fu := by
  simp only [State.setTemperature]; repeat' split
  all_goals simp

@[simp] theorem State.setAir_pending (s : State) (p : Bool) :
    (s.setAir p).pending = s.pending := by
  simp only [State.setAir]; repeat' split
  all_goals simp

@[simp] theorem State.setAir_time (s : State) (p : Bool) :
    (s.setAir p).time = s.time := by
  simp only [State.setAir]; repeat' split
  all_goals simp

@[simp] theorem State.setAir_encoder (s : State) (p : Bool) :
    (s.setAir p).encoder = s.encoder := by
  simp only [State.setAir]; repeat' split
  all_goals simp

@[simp] theorem State.setAir_travelOwed (s : State) (p : Bool) :
    (s.setAir p).travelOwed = s.travelOwed := by
  simp only [State.setAir]; repeat' split
  all_goals simp

@[simp] theorem State.setAir_free (s : State) (p : Bool) :
    (s.setAir p).free = s.free := by
  simp only [State.setAir]; repeat' split
  all_goals simp

@[simp] theorem State.setAir_inputs (s : State) (p : Bool) :
    (s.setAir p).inputs = s.inputs := by
  simp only [State.setAir]; repeat' split
  all_goals simp

@[simp] theorem State.setAir_resetAsserted (s : State) (p : Bool) :
    (s.setAir p).resetAsserted = s.resetAsserted := by
  simp only [State.setAir]; repeat' split
  all_goals simp

@[simp] theorem State.setAir_lb (s : State) (p : Bool) :
    (s.setAir p).lb = s.lb := by
  simp only [State.setAir]; repeat' split
  all_goals simp

@[simp] theorem State.setAir_ts (s : State) (p : Bool) :
    (s.setAir p).ts = s.ts := by
  simp only [State.setAir]; repeat' split
  all_goals simp

@[simp] theorem State.transferBook_pending (s : State) (i : Slot) :
    (s.transferBook i).pending = s.pending := by
  simp only [State.transferBook]; repeat' split
  all_goals simp

@[simp] theorem State.transferBook_time (s : State) (i : Slot) :
    (s.transferBook i).time = s.time := by
  simp only [State.transferBook]; repeat' split
  all_goals simp

@[simp] theorem State.transferBook_encoder (s : State) (i : Slot) :
    (s.transferBook i).encoder = s.encoder := by
  simp only [State.transferBook]; repeat' split
  all_goals simp

@[simp] theorem State.transferBook_travelOwed (s : State) (i : Slot) :
    (s.transferBook i).travelOwed = s.travelOwed := by
  simp only [State.transferBook]; repeat' split
  all_goals simp

@[simp] theorem State.transferBook_free (s : State) (i : Slot) :
    (s.transferBook i).free = s.free := by
  simp only [State.transferBook]; repeat' split
  all_goals simp

@[simp] theorem State.transferBook_inputs (s : State) (i : Slot) :
    (s.transferBook i).inputs = s.inputs := by
  simp only [State.transferBook]; repeat' split
  all_goals simp

@[simp] theorem State.transferBook_resetAsserted (s : State) (i : Slot) :
    (s.transferBook i).resetAsserted = s.resetAsserted := by
  simp only [State.transferBook]; repeat' split
  all_goals simp

@[simp] theorem State.transferBook_lp (s : State) (i : Slot) :
    (s.transferBook i).lp = s.lp := by
  simp only [State.transferBook]; repeat' split
  all_goals simp

@[simp] theorem State.transferBook_lb (s : State) (i : Slot) :
    (s.transferBook i).lb = s.lb := by
  simp only [State.transferBook]; repeat' split
  all_goals simp

@[simp] theorem State.transferBook_ts (s : State) (i : Slot) :
    (s.transferBook i).ts = s.ts := by
  simp only [State.transferBook]; repeat' split
  all_goals simp

@[simp] theorem State.transferBook_ss (s : State) (i : Slot) :
    (s.transferBook i).ss = s.ss := by
  simp only [State.transferBook]; repeat' split
  all_goals simp

@[simp] theorem State.transferBook_pc (s : State) (i : Slot) :
    (s.transferBook i).pc = s.pc := by
  simp only [State.transferBook]; repeat' split
  all_goals simp

@[simp] theorem State.transferBook_tcu (s : State) (i : Slot) :
    (s.transferBook i).tcu = s.tcu := by
  simp only [State.transferBook]; repeat' split
  all_goals simp

@[simp] theorem State.transferBook_lm (s : State) (i : Slot) :
    (s.transferBook i).lm = s.lm := by
  simp only [State.transferBook]; repeat' split
  all_goals simp

@[simp] theorem State.orderFinishTransfer_pending (s : State) :
    (s.orderFinishTransfer).pending = s.pending := by
  simp only [State.orderFinishTransfer]; repeat' split
  all_goals simp

@[simp] theorem State.orderFinishTransfer_time (s : State) :
    (s.orderFinishTransfer).time = s.time := by
  simp only [State.orderFinishTransfer]; repeat' split
  all_goals simp

@[simp] theorem State.orderFinishTransfer_encoder (s : State) :
    (s.orderFinishTransfer).encoder = s.encoder := by
  simp only [State.orderFinishTransfer]; repeat' split
  all_goals simp

@[simp] theorem State.orderFinishTransfer_travelOwed (s : State) :
    (s.orderFinishTransfer).travelOwed = s.travelOwed := by
  simp only [State.orderFinishTransfer]; repeat' split
  all_goals simp

@[simp] theorem State.orderFinishTransfer_free (s : State) :
    (s.orderFinishTransfer).free = s.free := by
  simp only [State.orderFinishTransfer]; repeat' split
  all_goals simp

@[simp] theorem State.orderFinishTransfer_inputs (s : State) :
    (s.orderFinishTransfer).inputs = s.inputs := by
  simp only [State.orderFinishTransfer]; repeat' split
  all_goals simp

@[simp] theorem State.orderFinishTransfer_resetAsserted (s : State) :
    (s.orderFinishTransfer).resetAsserted = s.resetAsserted := by
  simp only [State.orderFinishTransfer]; repeat' split
  all_goals simp

@[simp] theorem State.orderFinishTransfer_lp (s : State) :
    (s.orderFinishTransfer).lp = s.lp := by
  simp only [State.orderFinishTransfer]; repeat' split
  all_goals simp

@[simp] theorem State.orderFinishTransfer_lb (s : State) :
    (s.orderFinishTransfer).lb = s.lb := by
  simp only [State.orderFinishTransfer]; repeat' split
  all_goals simp

@[simp] theorem State.orderFinishTransfer_ts (s : State) :
    (s.orderFinishTransfer).ts = s.ts := by
  simp only [State.orderFinishTransfer]; repeat' split
  all_goals simp

@[simp] theorem State.orderFinishTransfer_ss (s : State) :
    (s.orderFinishTransfer).ss = s.ss := by
  simp only [State.orderFinishTransfer]; repeat' split
  all_goals simp

@[simp] theorem State.orderFinishTransfer_pc (s : State) :
    (s.orderFinishTransfer).pc = s.pc := by
  simp only [State.orderFinishTransfer]; repeat' split
  all_goals simp

@[simp] theorem State.orderFinishTransfer_tcu (s : State) :
    (s.orderFinishTransfer).tcu = s.tcu := by
  simp only [State.orderFinishTransfer]; repeat' split
  all_goals simp

@[simp] theorem State.orderFinishTransfer_lm (s : State) :
    (s.orderFinishTransfer).lm = s.lm := by
  simp only [State.orderFinishTransfer]; repeat' split
  all_goals simp

@[simp] theorem State.hangerSet_pending (s : State) (f : Finish) :
    (s.hangerSet f).pending = s.pending := by
  simp only [State.hangerSet]; repeat' split
  all_goals simp

@[simp] theorem State.hangerSet_time (s : State) (f : Finish) :
    (s.hangerSet f).time = s.time := by
  simp only [State.hangerSet]; repeat' split
  all_goals simp

@[simp] theorem State.hangerSet_encoder (s : State) (f : Finish) :
    (s.hangerSet f).encoder = s.encoder := by
  simp only [State.hangerSet]; repeat' split
  all_goals simp

@[simp] theorem State.hangerSet_travelOwed (s : State) (f : Finish) :
    (s.hangerSet f).travelOwed = s.travelOwed := by
  simp only [State.hangerSet]; repeat' split
  all_goals simp

@[simp] theorem State.hangerSet_free (s : State) (f : Finish) :
    (s.hangerSet f).free = s.free := by
  simp only [State.hangerSet]; repeat' split
  all_goals simp

@[simp] theorem State.hangerSet_inputs (s : State) (f : Finish) :
    (s.hangerSet f).inputs = s.inputs := by
  simp only [State.hangerSet]; repeat' split
  all_goals simp

@[simp] theorem State.hangerSet_resetAsserted (s : State) (f : Finish) :
    (s.hangerSet f).resetAsserted = s.resetAsserted := by
  simp only [State.hangerSet]; repeat' split
  all_goals simp

@[simp] theorem State.hangerSet_lp (s : State) (f : Finish) :
    (s.hangerSet f).lp = s.lp := by
  simp only [State.hangerSet]; repeat' split
  all_goals simp

@[simp] theorem State.hangerSet_lb (s : State) (f : Finish) :
    (s.hangerSet f).lb = s.lb := by
  simp only [State.hangerSet]; repeat' split
  all_goals simp

@[simp] theorem State.hangerSet_ts (s : State) (f : Finish) :
    (s.hangerSet f).ts = s.ts := by
  simp only [State.hangerSet]; repeat' split
  all_goals simp

@[simp] theorem State.hangerSet_ss (s : State) (f : Finish) :
    (s.hangerSet f).ss = s.ss := by
  simp only [State.hangerSet]; repeat' split
  all_goals simp

@[simp] theorem State.hangerSet_pc (s : State) (f : Finish) :
    (s.hangerSet f).pc = s.pc := by
  simp only [State.hangerSet]; repeat' split
  all_goals simp

@[simp] theorem State.hangerSet_tcu (s : State) (f : Finish) :
    (s.hangerSet f).tcu = s.tcu := by
  simp only [State.hangerSet]; repeat' split
  all_goals simp

@[simp] theorem State.hangerSet_lm (s : State) (f : Finish) :
    (s.hangerSet f).lm = s.lm := by
  simp only [State.hangerSet]; repeat' split
  all_goals simp

@[simp] theorem State.bookOnExit_pending (s : State) (f : Finish) :
    (s.bookOnExit f).pending = s.pending := by
  simp only [State.bookOnExit]; repeat' split
  all_goals simp

@[simp] theorem State.bookOnExit_time (s : State) (f : Finish) :
    (s.bookOnExit f).time = s.time := by
  simp only [State.bookOnExit]; repeat' split
  all_goals simp

@[simp] theorem State.bookOnExit_encoder (s : State) (f : Finish) :
    (s.bookOnExit f).encoder = s.encoder := by
  simp only [State.bookOnExit]; repeat' split
  all_goals simp

@[simp] theorem State.bookOnExit_travelOwed (s : State) (f : Finish) :
    (s.bookOnExit f).travelOwed = s.travelOwed := by
  simp only [State.bookOnExit]; repeat' split
  all_goals simp

@[simp] theorem State.bookOnExit_free (s : State) (f : Finish) :
    (s.bookOnExit f).free = s.free := by
  simp only [State.bookOnExit]; repeat' split
  all_goals simp

@[simp] theorem State.bookOnExit_inputs (s : State) (f : Finish) :
    (s.bookOnExit f).inputs = s.inputs := by
  simp only [State.bookOnExit]; repeat' split
  all_goals simp

@[simp] theorem State.bookOnExit_resetAsserted (s : State) (f : Finish) :
    (s.bookOnExit f).resetAsserted = s.resetAsserted := by
  simp only [State.bookOnExit]; repeat' split
  all_goals simp

@[simp] theorem State.bookOnExit_lb (s : State) (f : Finish) :
    (s.bookOnExit f).lb = s.lb := by
  simp only [State.bookOnExit]; repeat' split
  all_goals simp

@[simp] theorem State.bookOnExit_ss (s : State) (f : Finish) :
    (s.bookOnExit f).ss = s.ss := by
  simp only [State.bookOnExit]; repeat' split
  all_goals simp

@[simp] theorem State.bookOnExit_orders (s : State) (f : Finish) :
    (s.bookOnExit f).orders = s.orders := by
  simp only [State.bookOnExit]; repeat' split
  all_goals simp

@[simp] theorem State.bookOnExit_pc (s : State) (f : Finish) :
    (s.bookOnExit f).pc = s.pc := by
  simp only [State.bookOnExit]; repeat' split
  all_goals simp

@[simp] theorem State.exitRunTimeout_pending (s : State) :
    (s.exitRunTimeout).pending = s.pending := by
  simp only [State.exitRunTimeout]; repeat' split
  all_goals simp

@[simp] theorem State.exitRunTimeout_time (s : State) :
    (s.exitRunTimeout).time = s.time := by
  simp only [State.exitRunTimeout]; repeat' split
  all_goals simp

@[simp] theorem State.exitRunTimeout_encoder (s : State) :
    (s.exitRunTimeout).encoder = s.encoder := by
  simp only [State.exitRunTimeout]; repeat' split
  all_goals simp

@[simp] theorem State.exitRunTimeout_travelOwed (s : State) :
    (s.exitRunTimeout).travelOwed = s.travelOwed := by
  simp only [State.exitRunTimeout]; repeat' split
  all_goals simp

@[simp] theorem State.exitRunTimeout_free (s : State) :
    (s.exitRunTimeout).free = s.free := by
  simp only [State.exitRunTimeout]; repeat' split
  all_goals simp

@[simp] theorem State.exitRunTimeout_inputs (s : State) :
    (s.exitRunTimeout).inputs = s.inputs := by
  simp only [State.exitRunTimeout]; repeat' split
  all_goals simp

@[simp] theorem State.exitRunTimeout_resetAsserted (s : State) :
    (s.exitRunTimeout).resetAsserted = s.resetAsserted := by
  simp only [State.exitRunTimeout]; repeat' split
  all_goals simp

@[simp] theorem State.exitRunTimeout_lb (s : State) :
    (s.exitRunTimeout).lb = s.lb := by
  simp only [State.exitRunTimeout]; repeat' split
  all_goals simp

@[simp] theorem State.exitEdge_pending (s : State) (f : Finish) :
    (s.exitEdge f).pending = s.pending := by
  simp only [State.exitEdge]; repeat' split
  all_goals simp

@[simp] theorem State.exitEdge_time (s : State) (f : Finish) :
    (s.exitEdge f).time = s.time := by
  simp only [State.exitEdge]; repeat' split
  all_goals simp

@[simp] theorem State.exitEdge_encoder (s : State) (f : Finish) :
    (s.exitEdge f).encoder = s.encoder := by
  simp only [State.exitEdge]; repeat' split
  all_goals simp

@[simp] theorem State.exitEdge_travelOwed (s : State) (f : Finish) :
    (s.exitEdge f).travelOwed = s.travelOwed := by
  simp only [State.exitEdge]; repeat' split
  all_goals simp

@[simp] theorem State.exitEdge_free (s : State) (f : Finish) :
    (s.exitEdge f).free = s.free := by
  simp only [State.exitEdge]; repeat' split
  all_goals simp

@[simp] theorem State.exitEdge_inputs (s : State) (f : Finish) :
    (s.exitEdge f).inputs = s.inputs := by
  simp only [State.exitEdge]; repeat' split
  all_goals simp

@[simp] theorem State.exitEdge_resetAsserted (s : State) (f : Finish) :
    (s.exitEdge f).resetAsserted = s.resetAsserted := by
  simp only [State.exitEdge]; repeat' split
  all_goals simp

@[simp] theorem State.exitEdge_lb (s : State) (f : Finish) :
    (s.exitEdge f).lb = s.lb := by
  simp only [State.exitEdge]; repeat' split
  all_goals simp

@[simp] theorem State.exitEdge_ss (s : State) (f : Finish) :
    (s.exitEdge f).ss = s.ss := by
  simp only [State.exitEdge]; repeat' split
  all_goals simp

@[simp] theorem State.exitEdge_orders (s : State) (f : Finish) :
    (s.exitEdge f).orders = s.orders := by
  simp only [State.exitEdge]; repeat' split
  all_goals simp

@[simp] theorem State.exitEdge_pc (s : State) (f : Finish) :
    (s.exitEdge f).pc = s.pc := by
  simp only [State.exitEdge]; repeat' split
  all_goals simp

@[simp] theorem State.takeLevels_pending (s : State) :
    (s.takeLevels).pending = s.pending := by
  exact foldl_keeps (fun s : State => s.pending) _ (fun s c => by simp) _ s

@[simp] theorem State.takeLevels_time (s : State) :
    (s.takeLevels).time = s.time := by
  exact foldl_keeps (fun s : State => s.time) _ (fun s c => by simp) _ s

@[simp] theorem State.takeLevels_encoder (s : State) :
    (s.takeLevels).encoder = s.encoder := by
  exact foldl_keeps (fun s : State => s.encoder) _ (fun s c => by simp) _ s

@[simp] theorem State.takeLevels_travelOwed (s : State) :
    (s.takeLevels).travelOwed = s.travelOwed := by
  exact foldl_keeps (fun s : State => s.travelOwed) _ (fun s c => by simp) _ s

@[simp] theorem State.takeLevels_free (s : State) :
    (s.takeLevels).free = s.free := by
  exact foldl_keeps (fun s : State => s.free) _ (fun s c => by simp) _ s

@[simp] theorem State.takeLevels_inputs (s : State) :
    (s.takeLevels).inputs = s.inputs := by
  exact foldl_keeps (fun s : State => s.inputs) _ (fun s c => by simp) _ s

@[simp] theorem State.takeLevels_resetAsserted (s : State) :
    (s.takeLevels).resetAsserted = s.resetAsserted := by
  exact foldl_keeps (fun s : State => s.resetAsserted) _ (fun s c => by simp) _ s

@[simp] theorem State.takeLevels_si (s : State) :
    (s.takeLevels).si = s.si := by
  exact foldl_keeps (fun s : State => s.si) _ (fun s c => by simp) _ s

@[simp] theorem State.takeLevels_lb (s : State) :
    (s.takeLevels).lb = s.lb := by
  exact foldl_keeps (fun s : State => s.lb) _ (fun s c => by simp) _ s

@[simp] theorem State.takeLevels_ts (s : State) :
    (s.takeLevels).ts = s.ts := by
  exact foldl_keeps (fun s : State => s.ts) _ (fun s c => by simp) _ s

@[simp] theorem State.takeLevels_ss (s : State) :
    (s.takeLevels).ss = s.ss := by
  exact foldl_keeps (fun s : State => s.ss) _ (fun s c => by simp) _ s

@[simp] theorem State.takeLevels_orders (s : State) :
    (s.takeLevels).orders = s.orders := by
  exact foldl_keeps (fun s : State => s.orders) _ (fun s c => by simp) _ s

@[simp] theorem State.takeLevels_pc (s : State) :
    (s.takeLevels).pc = s.pc := by
  exact foldl_keeps (fun s : State => s.pc) _ (fun s c => by simp) _ s

@[simp] theorem State.takeLevels_tcu (s : State) :
    (s.takeLevels).tcu = s.tcu := by
  exact foldl_keeps (fun s : State => s.tcu) _ (fun s c => by simp) _ s

@[simp] theorem State.takeLevels_fu (s : State) :
    (s.takeLevels).fu = s.fu := by
  exact foldl_keeps (fun s : State => s.fu) _ (fun s c => by simp) _ s

@[simp] theorem State.takeLevels_lsv (s : State) :
    (s.takeLevels).lsv = s.lsv := by
  exact foldl_keeps (fun s : State => s.lsv) _ (fun s c => by simp) _ s

@[simp] theorem State.frameBreak_pending (s : State) :
    (s.frameBreak).pending = s.pending := by
  simp only [State.frameBreak]; repeat' split
  all_goals simp

@[simp] theorem State.frameBreak_time (s : State) :
    (s.frameBreak).time = s.time := by
  simp only [State.frameBreak]; repeat' split
  all_goals simp

@[simp] theorem State.frameBreak_encoder (s : State) :
    (s.frameBreak).encoder = s.encoder := by
  simp only [State.frameBreak]; repeat' split
  all_goals simp

@[simp] theorem State.frameBreak_travelOwed (s : State) :
    (s.frameBreak).travelOwed = s.travelOwed := by
  simp only [State.frameBreak]; repeat' split
  all_goals simp

@[simp] theorem State.frameBreak_free (s : State) :
    (s.frameBreak).free = s.free := by
  simp only [State.frameBreak]; repeat' split
  all_goals simp

@[simp] theorem State.frameBreak_inputs (s : State) :
    (s.frameBreak).inputs = s.inputs := by
  simp only [State.frameBreak]; repeat' split
  all_goals simp

@[simp] theorem State.frameBreak_resetAsserted (s : State) :
    (s.frameBreak).resetAsserted = s.resetAsserted := by
  simp only [State.frameBreak]; repeat' split
  all_goals simp

@[simp] theorem State.frameBreak_si (s : State) :
    (s.frameBreak).si = s.si := by
  simp only [State.frameBreak]; repeat' split
  all_goals simp

@[simp] theorem State.frameBreak_lb (s : State) :
    (s.frameBreak).lb = s.lb := by
  simp only [State.frameBreak]; repeat' split
  all_goals simp

@[simp] theorem State.frameBreak_ts (s : State) :
    (s.frameBreak).ts = s.ts := by
  simp only [State.frameBreak]; repeat' split
  all_goals simp

@[simp] theorem State.frameBreak_ss (s : State) :
    (s.frameBreak).ss = s.ss := by
  simp only [State.frameBreak]; repeat' split
  all_goals simp

@[simp] theorem State.frameBreak_orders (s : State) :
    (s.frameBreak).orders = s.orders := by
  simp only [State.frameBreak]; repeat' split
  all_goals simp

@[simp] theorem State.frameBreak_pc (s : State) :
    (s.frameBreak).pc = s.pc := by
  simp only [State.frameBreak]; repeat' split
  all_goals simp

@[simp] theorem State.frameBreak_tcu (s : State) :
    (s.frameBreak).tcu = s.tcu := by
  simp only [State.frameBreak]; repeat' split
  all_goals simp

@[simp] theorem State.frameBreak_fu (s : State) :
    (s.frameBreak).fu = s.fu := by
  simp only [State.frameBreak]; repeat' split
  all_goals simp

@[simp] theorem State.frameBreak_lsv (s : State) :
    (s.frameBreak).lsv = s.lsv := by
  simp only [State.frameBreak]; repeat' split
  all_goals simp

@[simp] theorem State.powerWarning_pending (s : State) :
    (s.powerWarning).pending = s.pending := by
  simp only [State.powerWarning]; repeat' split
  all_goals simp

@[simp] theorem State.powerWarning_time (s : State) :
    (s.powerWarning).time = s.time := by
  simp only [State.powerWarning]; repeat' split
  all_goals simp

@[simp] theorem State.powerWarning_encoder (s : State) :
    (s.powerWarning).encoder = s.encoder := by
  simp only [State.powerWarning]; repeat' split
  all_goals simp

@[simp] theorem State.powerWarning_travelOwed (s : State) :
    (s.powerWarning).travelOwed = s.travelOwed := by
  simp only [State.powerWarning]; repeat' split
  all_goals simp

@[simp] theorem State.powerWarning_free (s : State) :
    (s.powerWarning).free = s.free := by
  simp only [State.powerWarning]; repeat' split
  all_goals simp

@[simp] theorem State.powerWarning_inputs (s : State) :
    (s.powerWarning).inputs = s.inputs := by
  simp only [State.powerWarning]; repeat' split
  all_goals simp

@[simp] theorem State.powerWarning_resetAsserted (s : State) :
    (s.powerWarning).resetAsserted = s.resetAsserted := by
  simp only [State.powerWarning]; repeat' split
  all_goals simp

@[simp] theorem State.powerWarning_lb (s : State) :
    (s.powerWarning).lb = s.lb := by
  simp only [State.powerWarning]; repeat' split
  all_goals simp

end Sys2Proof.Machine
end

