-- ==== Sys2Proof/Laws/Take.lean ====
section
/-! SUPPORT. What taking an event, taking a request and reporting a condition can do, each said once:
lemmas that later proofs cite in place of the definitions. -/

namespace Sys2Proof

namespace Bank

theorem write_read {α : Type} {n : Nat} (v : Vector α n) (i : Fin n) :
    write v i (read v i) = v := by
  apply Bank.ext
  intro j
  rw [read_write]
  split
  · subst_vars; rfl
  · rfl

theorem write_write {α : Type} {n : Nat} (v : Vector α n) (i : Fin n) (a b : α) :
    write (write v i a) i b = write v i b := by
  apply Bank.ext
  intro j
  simp only [read_write]
  split <;> rfl

end Bank

namespace Safety

open Sys2Proof.Machine

set_option Elab.async false

/-! ## Reports compose -/

theorem Noticed.refl (s : State) : Noticed s s := rfl

theorem Noticed.trans {s t u : State} (a : Noticed s t) (b : Noticed t u) : Noticed s u := by
  unfold Noticed at *
  rw [b, a]

theorem Monitored.refl (s : State) : Monitored s.lm.work s s := rfl

theorem Monitored.trans {w v : Vector Count 18} {s t u : State} (a : Monitored w s t)
    (b : Monitored v t u) : Monitored v s u := by
  unfold Monitored at *
  rw [b, a]

theorem Monitored.work_eq {w : Vector Count 18} {s t : State} (a : Monitored w s t) :
    t.lm.work = w := by
  rw [a]

theorem Reported.refl (s : State) : Reported s s := ⟨rfl, rfl⟩

theorem Reported.trans {s t u : State} (a : Reported s t) (b : Reported t u) : Reported s u := by
  refine ⟨?_, a.2.trans b.2⟩
  have e : t.lm.work = s.lm.work := a.1.work_eq
  exact a.1.trans (e ▸ b.1)

theorem MoveNoted.trans {s t u : State} (a : MoveNoted s t) (b : MoveNoted t u) : MoveNoted s u := by
  refine ⟨fun m => b.1 (a.1 m), fun c => ?_⟩
  by_cases e : t.lsv.lineState = s.lsv.lineState
  · exact b.2 (e ▸ c)
  · exact b.1 (a.2 e)

/-- Where the Line Supervisor has changed in its hold sources alone, no move is left unnoted. -/
theorem LineMoved.of_holds {s t : State} (h : t.lsv = { s.lsv with holds := t.lsv.holds }) :
    LineMoved s t := by
  have l : t.lsv.lineState = s.lsv.lineState := by rw [h]
  have m : t.lsv.moved = s.lsv.moved := by rw [h]
  exact ⟨by rw [l, m]; exact h, fun x => m ▸ x, fun c => absurd l c⟩

theorem LineMoved.refl (s : State) : LineMoved s s := .of_holds rfl

theorem LineMoved.trans {s t u : State} (a : LineMoved s t) (b : LineMoved t u) :
    LineMoved s u := by
  refine ⟨?_, a.2.trans b.2⟩
  rw [b.1, a.1]

end Safety

namespace Machine

open Sys2Proof.Safety

/-! ## States field by field -/

/-- Two states with the same fields are the same state. -/
theorem State.eq_of_fields {s t : State} (h₁ : s.pending = t.pending) (h₂ : s.time = t.time)
    (h₃ : s.encoder = t.encoder) (h₄ : s.travelOwed = t.travelOwed) (h₅ : s.free = t.free)
    (h₆ : s.inputs = t.inputs) (h₇ : s.resetAsserted = t.resetAsserted) (h₈ : s.lp = t.lp)
    (h₉ : s.si = t.si) (h₁₀ : s.lb = t.lb) (h₁₁ : s.ts = t.ts) (h₁₂ : s.ss = t.ss)
    (h₁₃ : s.orders = t.orders) (h₁₄ : s.pc = t.pc) (h₁₅ : s.tcu = t.tcu) (h₁₆ : s.fu = t.fu)
    (h₁₇ : s.lm = t.lm) (h₁₈ : s.lsv = t.lsv) : s = t := by
  cases s
  cases t
  simp_all

/-! ## Events -/

/-- Outside a reset, taking an event is the event's effect. -/
theorem takeEvent_awake {act : State → State} {s : State} (h : Awake s) :
    takeEvent act s = .next (act s) := by
  have h' : s.resetAsserted = false := h
  simp [takeEvent, h']

/-- While the Reset input is asserted, taking an event changes nothing. -/
theorem takeEvent_asserted {act : State → State} {s : State} (h : s.resetAsserted = true) :
    takeEvent act s = .next s := by
  simp [takeEvent, h]

/-! ## Requests -/

/-- The state in which a request's owner acts: the receiver hunts and a place is reserved. -/
def admitted (s : State) : State :=
  { s with lp := { s.lp with receiver := .hunting, reserved := true } }

/-- A request that is not returned and finds a place is carried out by its owner and answered. -/
theorem request_served (f : Frame) (act : State → State × Reply) (s : State)
    (h₁ : s.lsv.mode ≠ .echo ∨ f.isSetMode = true) (h₂ : s.lp.placesInUse < 16) :
    State.request f act s =
      (act (admitted s)).1.setLp
        ((act (admitted s)).1.lp.answer (f.answered (act (admitted s)).2)) := by
  have e : ¬((s.setLp s.lp.hunt).lsv.mode = .echo ∧ f.isSetMode = false) := by
    rintro ⟨a, b⟩
    rcases h₁ with h | h
    · exact h a
    · simp [h] at b
  have p : (s.setLp s.lp.hunt).lp.placesInUse < 16 := h₂
  unfold State.request
  simp only [e, if_false]
  unfold State.serve
  simp only [p, if_true]
  rfl

/-- A served request is carried out by its owner and answered. -/
theorem take_served {f : Frame} {act : State → State × Reply} {s : State} (h : Served s) :
    takeRequest f act s = .next
      ((act (admitted s)).1.setLp
        ((act (admitted s)).1.lp.answer (f.answered (act (admitted s)).2))) := by
  unfold takeRequest
  rw [takeEvent_awake h.1, request_served f act s (Or.inl h.2.1) h.2.2]

/-- A served request whose owner leaves the Link Port alone: the answer joins the queue, and the rest of
the state is as the owner left it. -/
theorem take_quiet {f : Frame} {act : State → State × Reply} {s : State} (h : Served s) (w : State)
    (r : Reply)
    (ha : act (admitted s) =
      ({ w with lp := { s.lp with receiver := .hunting, reserved := true } }, r)) :
    takeRequest f act s = .next { w with lp := answered s.lp f.tag f.kind r.result r.data } := by
  rw [take_served h, ha]
  rfl

/-- A request that finds no place for its answer is discarded unexecuted (R197). -/
theorem take_discarded {f : Frame} {act : State → State × Reply} {s : State} (h : Awake s)
    (m : s.lsv.mode ≠ .echo) (p : 16 ≤ s.lp.placesInUse) :
    takeRequest f act s = .next
      { s with lp := { s.lp with receiver := .hunting, requestsDiscarded := true } } := by
  have e : ¬((s.setLp s.lp.hunt).lsv.mode = .echo ∧ f.isSetMode = false) := fun x => m x.1
  have p' : ¬(s.setLp s.lp.hunt).lp.placesInUse < 16 := Nat.not_lt.mpr p
  unfold takeRequest
  rw [takeEvent_awake h]
  unfold State.request
  simp only [e, if_false]
  unfold State.serve
  simp only [p', if_false]
  rfl

/-- In ECHO a request other than SET MODE is returned (R199). -/
theorem take_echoed {f : Frame} {act : State → State × Reply} {s : State} (h : Awake s)
    (m : s.lsv.mode = .echo) (n : f.isSetMode = false) :
    takeRequest f act s = .next (s.setLp (s.lp.hunt.echo f)) := by
  have e : (s.setLp s.lp.hunt).lsv.mode = .echo ∧ f.isSetMode = false := ⟨m, n⟩
  unfold takeRequest
  rw [takeEvent_awake h]
  unfold State.request
  simp only [e, and_self, if_true]
  rfl

/-! ## Bytes and indices -/

theorem natByte_toNat {n : Nat} (h : n < 256) : (natByte n).toNat = n := by
  simp [natByte, Nat.mod_eq_of_lt h]

theorem readIndex_natByte {n : Nat} (hn : n ≤ 256) (i : Fin n) :
    readIndex n (natByte i.val) = some i := by
  have e : (natByte i.val).toNat = i.val := natByte_toNat (by omega)
  simp [readIndex, e]

theorem readIndex_none {n : Nat} {b : Byte} (h : n ≤ b.toNat) : readIndex n b = none := by
  simp [readIndex]
  omega

/-! ## Notices and reports -/

/-- A notice changes the queue and NOTICES_LOST alone (R196). -/
theorem pushNotice_keeps (l : LinkPort) (u : Upstream) :
    l.pushNotice u =
      { l with queue := (l.pushNotice u).queue, noticesLost := (l.pushNotice u).noticesLost } := by
  unfold LinkPort.pushNotice
  split <;> rfl

theorem pushOptional_keeps (l : LinkPort) (u : Option Upstream) :
    l.pushOptional u =
      { l with
        queue := (l.pushOptional u).queue, noticesLost := (l.pushOptional u).noticesLost } := by
  cases u with
  | none => rfl
  | some u => exact pushNotice_keeps l u

/-- The latch of a condition is the only thing that setting it changes. -/
theorem latch_keeps (c : Condition) (m : LineMonitor) :
    m.latch c = { m with latches := (m.latch c).latches } := rfl

/-- A reported level changes the latches and the live levels alone. -/
theorem report_keeps (c : Condition) (p : Bool) (m : LineMonitor) :
    m.report c p = { m with latches := (m.report c p).latches, live := (m.report c p).live } := by
  unfold LineMonitor.report
  split
  · rfl
  · split <;> rfl

/-- Reporting a level changes nothing but what reports change (R180 to R182). -/
theorem reportLevel_reported (c : Condition) (p : Bool) (s : State) :
    Reported s (s.reportLevel c p) :=
  ⟨report_keeps c p s.lm, pushOptional_keeps s.lp _⟩

/-- So does the occurrence of a momentary condition. -/
theorem occur_reported (c : Condition) (s : State) : Reported s (s.occur c) :=
  ⟨latch_keeps c s.lm, pushOptional_keeps s.lp _⟩

/-- So does a notice. -/
theorem notify_reported (u : Upstream) (s : State) : Reported s (s.notify u) :=
  ⟨rfl, pushNotice_keeps s.lp u⟩

/-- One count changes its counter and what reports change (R174, R175). -/
theorem count_counted (k : Counter) (s : State) : Counted k s (s.count k) := by
  refine ⟨?_, pushOptional_keeps s.lp _⟩
  show s.lm.bump k = _
  unfold LineMonitor.bump counted
  simp only [State.count, LineMonitor.bump]
  split <;> rfl

theorem syncPause_reported (s : State) : Reported s s.syncPause := reportLevel_reported _ _ s

/-- The line state takes its value; beside it only reports are made (R160, R166, R168). -/
theorem moveLine_reported (l : LineState) (s : State) : Reported s (s.moveLine l) := by
  let a : State := { s with lsv := { s.lsv with lineState := l, moved := true } }
  have h₀ : Reported s a := ⟨rfl, rfl⟩
  have h₁ := reportLevel_reported .held (decide (l = .held)) a
  have h₂ := reportLevel_reported .safeStop (decide (l = .safeStop))
    (a.reportLevel .held (decide (l = .held)))
  exact ((h₀.trans h₁).trans h₂).trans (syncPause_reported _)

@[simp] theorem moveLine_lsv (l : LineState) (s : State) :
    (s.moveLine l).lsv = { s.lsv with lineState := l, moved := true } := rfl

theorem setHolds_reported (h : HoldSources) (s : State) : Reported s (s.setHolds h) := ⟨rfl, rfl⟩

theorem releaseIfFree_reported (s : State) : Reported s s.releaseIfFree := by
  unfold State.releaseIfFree
  split
  · exact moveLine_reported _ s
  · exact Reported.refl s

theorem addHold_reported (x : HoldSource) (s : State) : Reported s (s.addHold x) := by
  unfold State.addHold
  dsimp only
  split
  · exact (setHolds_reported _ s).trans (moveLine_reported _ _)
  · exact setHolds_reported _ s

theorem dropHold_reported (x : HoldSource) (s : State) : Reported s (s.dropHold x) :=
  (setHolds_reported _ s).trans (releaseIfFree_reported _)

theorem presentHold_reported (x : HoldSource) (on : Bool) (s : State) :
    Reported s (s.presentHold x on) := by
  unfold State.presentHold
  split
  · exact Reported.refl s
  · split
    · exact addHold_reported x s
    · exact dropHold_reported x s

/-- A condition and its hold source follow their owner: only reports are made, and only the holds and the
line state of the Line Supervisor may change. -/
theorem follow_reported (c : Condition) (x : HoldSource) (on : Bool) (s : State) :
    Reported s (s.follow c x on) :=
  (reportLevel_reported c on s).trans (presentHold_reported x on _)

theorem moveLine_moved (l : LineState) (s : State) : LineMoved s (s.moveLine l) :=
  ⟨rfl, fun _ => rfl, fun _ => rfl⟩

theorem setHolds_moved (h : HoldSources) (s : State) : LineMoved s (s.setHolds h) := .of_holds rfl

theorem releaseIfFree_moved (s : State) : LineMoved s s.releaseIfFree := by
  unfold State.releaseIfFree
  split
  · exact moveLine_moved _ s
  · exact LineMoved.refl s

theorem addHold_moved (x : HoldSource) (s : State) : LineMoved s (s.addHold x) := by
  unfold State.addHold
  dsimp only
  split
  · exact (setHolds_moved _ s).trans (moveLine_moved _ _)
  · exact setHolds_moved _ s

theorem dropHold_moved (x : HoldSource) (s : State) : LineMoved s (s.dropHold x) :=
  (setHolds_moved _ s).trans (releaseIfFree_moved _)

theorem presentHold_moved (x : HoldSource) (on : Bool) (s : State) :
    LineMoved s (s.presentHold x on) := by
  unfold State.presentHold
  split
  · exact LineMoved.refl s
  · split
    · exact addHold_moved x s
    · exact dropHold_moved x s

theorem follow_moved (c : Condition) (x : HoldSource) (on : Bool) (s : State) :
    LineMoved s (s.follow c x on) :=
  LineMoved.trans (t := s.reportLevel c on) (.of_holds rfl) (presentHold_moved x on _)

/-! ## The test of R74 -/

/-- Where no outstanding drive of a lift ON_BED is DISABLED, the test of R74 changes nothing. -/
theorem cutDisabled_eq_self {s : State} (h : Safety.NoneDisabled s) : s.cutDisabled = s := by
  unfold State.cutDisabled
  split
  · rfl
  · rename_i b e
    split
    · rename_i c
      simp only [Bed.onBed, Bed.anyOutstanding, Bool.and_eq_true, decide_eq_true_eq,
        List.any_eq_true] at c
      obtain ⟨o, d, _, p, q⟩ := c
      exact absurd q (h b e o d p)
    · rfl

/-- Otherwise the lift is a PASS lift cut to its drives done and in flight, its book is faulted, and the
lift is released if it can be. -/
theorem cutDisabled_of_disabled {s : State} {b : Bed} {d : DriveId} (e : s.ss.bed = some b)
    (o : b.lift.state = some .onBed) (p : DriveSet.has d b.outstanding = true)
    (q : s.driveState d = .disabled) :
    s.cutDisabled =
      ((s.setBed (some (b.toPass (b.done ||| b.inFlight)))).raiseFault b.lift.slot
        .driveDisabled).releaseLift := by
  have c : (b.onBed && b.anyOutstanding fun d => decide (s.driveState d = .disabled)) = true := by
    simp only [Bed.onBed, Bed.anyOutstanding, Bool.and_eq_true, decide_eq_true_eq,
      List.any_eq_true]
    exact ⟨o, d, List.mem_finRange d, p, q⟩
  simp only [State.cutDisabled, e, c, if_true]

/-! ## The Return Queue (R195 to R197) -/

/-- A notice keeps the queue within 16 places and 12 notices. -/
theorem pushNotice_bounds {l : LinkPort} {u : Upstream} (h : l.placesInUse ≤ 16)
    (n : l.noticeCount ≤ 12) :
    (l.pushNotice u).placesInUse ≤ 16 ∧ (l.pushNotice u).noticeCount ≤ 12 := by
  unfold LinkPort.pushNotice
  split
  · rename_i p
    refine ⟨?_, ?_⟩
    · simp only [LinkPort.placesInUse, List.length_append, List.length_singleton] at p ⊢
      omega
    · have c : List.countP Upstream.isNotice [u] ≤ 1 := List.countP_le_length
      simp only [LinkPort.noticeCount, List.countP_append] at p ⊢
      omega
  · exact ⟨h, n⟩

end Machine

end Sys2Proof
end

