-- ==== Sys2Proof/Laws/Due.lean ====
section
/-! SUPPORT. The events that `State.dueEvents` lists are the ones that have fallen due, each listed once. -/

namespace Sys2Proof

namespace Machine

open Sys2Proof.Safety

set_option Elab.async false

theorem mem_dueIf (p : Bool) (i j : Instr) : i ∈ dueIf p j ↔ p = true ∧ i = j := by
  cases p <;> simp [dueIf]

theorem Channel.due_iff (m : ChannelMode) (p : Phase) (c : Channel) :
    c.due m p = true ↔ CountedDown m p c := by
  simp [Channel.due, CountedDown, and_assoc]

theorem State.timerSuspended_iff (d : DriveId) (s : State) :
    s.timerSuspended d = true ↔ Suspended d s := by
  simp [State.timerSuspended, State.unusable, Suspended, or_assoc]

theorem State.hasRun_iff (d : DriveId) (s : State) :
    s.hasRun d = true ↔ (s.account d).length ≠ none ∨ ¬Suspended d s := by
  simp [State.hasRun, ← State.timerSuspended_iff, Option.isSome_iff_ne_none]

theorem State.requestTested_iff (d : DriveId) (s : State) :
    s.requestTested d = true ↔
      s.lsv.moved = true ∨ (s.account d).tested = true ∨ (s.account d).length ≠ none
        ∨ ¬Suspended d s := by
  simp [State.requestTested, ← State.hasRun_iff, or_assoc]

/-- A drive that is READY, with the line out of SAFE_STOP and ECHO, has its reasons tested (R112): so log 35
withholds no request that could be granted. -/
theorem State.requestTested_of_ready (d : DriveId) (s : State) (ready : s.driveState d = .ready)
    (line : s.lsv.lineState ≠ .safeStop) (mode : s.lsv.mode ≠ .echo) : s.requestTested d = true :=
  (s.requestTested_iff d).2 (by simp [Suspended, ready, line, mode])

theorem mem_stations (st : Station) : st ∈ stations := by
  cases st <;> decide

theorem State.noticeDue_iff (s : State) : s.noticeDue = true ↔ Due .noticeExpiry s := by
  unfold State.noticeDue Due State.expired State.travelSince
  cases s.si.notices.head? <;> simp

theorem State.bedTransferDue_iff (s : State) : s.bedTransferDue = true ↔ Due .bedTransferOrder s := by
  simp [State.bedTransferDue, Due, and_assoc]

theorem State.nextStrike_iff (s : State) : s.nextStrike.isSome = true ↔ Due .strikeBegin s := by
  simp [State.nextStrike, Due]

theorem State.askDue_iff (s : State) : s.askDue = true ↔ Due .outRequest s := by
  unfold State.askDue State.outRequestStands Due
  cases s.ss.bed <;> simp [and_assoc, and_comm, and_left_comm]

theorem State.outTransferDue_iff (s : State) : s.outTransferDue = true ↔ Due .outTransferOrder s := by
  unfold State.outTransferDue Due
  cases s.ss.bed with
  | none => simp
  | some b => simp; tauto

theorem State.finishTransferDue_iff (s : State) :
    s.finishTransferDue = true ↔ Due .finishTransferOrder s := by
  unfold State.finishTransferDue Due
  cases s.fu.gather with
  | none => simp
  | some g =>
    cases h : s.book g.book with
    | none => simp [h]
    | some b => simp [h]; tauto

theorem State.dwellPassed_iff (s : State) : s.dwellPassed = true ↔ Due .bedDwellLimitExpiry s := by
  unfold State.dwellPassed Due
  cases s.ss.bed with
  | none => simp
  | some b => cases h : b.dwellStart <;> simp [h]

theorem State.exitRunDue_iff (s : State) : s.exitRunDue = true ↔ Due .exitRunTimeout s := by
  unfold State.exitRunDue Due
  cases s.fu.finish with
  | none => simp
  | some f => cases h : f.exitRunEnd <;> simp [h]

theorem State.reportDue_iff (s : State) : s.reportDue = true ↔ Due .reportPeriodExpiry s := by
  unfold State.reportDue Due
  cases s.lm.timer <;> simp

theorem State.broken_iff (s : State) :
    s.lp.receiver.broken s.time = true ↔ Due .frameBreakTimeout s := by
  unfold Receiver.broken Due
  cases s.lp.receiver <;> simp

theorem State.dwellDue_iff (s : State) : s.dwellDue = true ↔ Due .holdDwellEnd s := by
  simp [State.dwellDue, Due, Channel.due_iff]

theorem State.waitDue_iff (st : Station) (s : State) :
    s.waitDue st = true ↔ Due (.readyWaitExpiry st) s := by
  unfold State.waitDue Due
  rcases h : s.order st with _ | ⟨j, _ | _⟩ <;> simp [Order.waitPassed, h]

theorem State.orderDue_iff (st : Station) (s : State) :
    s.orderDue st = true ↔ Due (.orderTimeout st) s := by
  unfold State.orderDue Due
  rcases h : s.order st with _ | ⟨j, _ | _⟩ <;> simp [Order.timedOut, h]

theorem State.strokeDue_iff (d : DriveId) (s : State) :
    s.strokeDue d = true ↔ Due (.strokeTimeout d) s := by
  unfold State.strokeDue Due
  cases h : (s.drive d).strike <;> simp [h]

theorem State.quarterDue_iff (d : DriveId) (s : State) :
    s.quarterDue d = true ↔ Due (.quarterIntervalExpiry d) s := by
  unfold State.quarterDue Due
  rw [Bool.and_eq_true, Bool.not_eq_true', ← Bool.not_eq_true, State.timerSuspended_iff]
  cases h : (s.account d).length <;> simp [h]

theorem State.purgeDone_iff (d : DriveId) (s : State) :
    State.purgeDone d s = true ↔ Due (.purgeEnd d) s := by
  unfold State.purgeDone Due
  cases h : (s.account d).purge <;> simp [h]

/-- The events listed are the ones that have fallen due. -/
theorem mem_dueEvents (i : Instr) (s : State) : i ∈ s.dueEvents ↔ Due i s := by
  simp only [State.dueEvents, State.dueWork, State.dueShaped, State.dueStation, State.dueDrive,
    State.dueChannel, List.mem_append, List.mem_flatMap, mem_dueIf, List.mem_finRange, true_and,
    State.noticeDue_iff, State.bedTransferDue_iff, State.nextStrike_iff, State.askDue_iff,
    State.outTransferDue_iff, State.finishTransferDue_iff, State.dwellPassed_iff, State.exitRunDue_iff,
    State.reportDue_iff, State.broken_iff, State.dwellDue_iff, State.waitDue_iff, State.orderDue_iff,
    State.strokeDue_iff, State.quarterDue_iff, State.purgeDone_iff, Channel.due_iff, mem_stations]
  cases i <;> simp <;> first | exact id | exact Iff.rfl

/-! ## Each event is listed once -/

theorem dueIf_sublist (p : Bool) (i : Instr) : (dueIf p i).Sublist [i] := by
  cases p <;> simp [dueIf]

theorem sublist_dueIf {l m : List Instr} (p : Bool) (i : Instr) (h : l.Sublist m) :
    (l ++ dueIf p i).Sublist (m ++ [i]) :=
  h.append (dueIf_sublist p i)

theorem flatMap_sublist {α β : Type} {f g : α → List β} (l : List α)
    (h : ∀ x, (f x).Sublist (g x)) : (l.flatMap f).Sublist (l.flatMap g) := by
  induction l with
  | nil => simp
  | cons x l ih => simpa using (h x).append ih

/-- The events of the part's own work and timers, in the order in which they are listed. -/
def everyWork : List Instr :=
  [Instr.noticeExpiry] ++ [Instr.bedTransferOrder] ++ [Instr.strikeBegin] ++ [Instr.outRequest]
    ++ [Instr.outTransferOrder] ++ [Instr.finishTransferOrder] ++ [Instr.bedDwellLimitExpiry]
    ++ [Instr.exitRunTimeout] ++ [Instr.reportPeriodExpiry] ++ [Instr.frameBreakTimeout]

/-- Every event that can fall due, in the order in which they are listed. -/
def everyDue : List Instr :=
  everyWork ++ ([Instr.holdDwellEnd] ++ [Instr.pitchPulseEnd] ++ [Instr.pitchPeriodBoundary])
    ++ stations.flatMap (fun st => [Instr.readyWaitExpiry st] ++ [Instr.orderTimeout st])
    ++ (List.finRange 5).flatMap (fun d =>
      [Instr.strokeTimeout d] ++ [Instr.quarterIntervalExpiry d]
        ++ [Instr.purgeEnd d] ++ [Instr.purgeGrant d])
    ++ (List.finRange 9).flatMap (fun i =>
      [Instr.strobeWaitEnd i] ++ [Instr.strobePulseEnd i]
        ++ [Instr.softWaitEnd i] ++ [Instr.softPulseEnd i])

theorem everyDue_nodup : everyDue.Nodup := by decide

theorem dueWork_sublist (s : State) : s.dueWork.Sublist everyWork := by
  unfold State.dueWork everyWork
  iterate 9 refine sublist_dueIf _ _ ?_
  exact dueIf_sublist _ _

theorem dueShaped_sublist (s : State) :
    s.dueShaped.Sublist
      ([Instr.holdDwellEnd] ++ [Instr.pitchPulseEnd] ++ [Instr.pitchPeriodBoundary]) := by
  unfold State.dueShaped
  iterate 2 refine sublist_dueIf _ _ ?_
  exact dueIf_sublist _ _

theorem dueStation_sublist (st : Station) (s : State) :
    (s.dueStation st).Sublist ([Instr.readyWaitExpiry st] ++ [Instr.orderTimeout st]) :=
  (dueIf_sublist _ _).append (dueIf_sublist _ _)

theorem dueDrive_sublist (d : DriveId) (s : State) :
    (s.dueDrive d).Sublist
      ([Instr.strokeTimeout d] ++ [Instr.quarterIntervalExpiry d]
        ++ [Instr.purgeEnd d] ++ [Instr.purgeGrant d]) := by
  unfold State.dueDrive
  iterate 3 refine sublist_dueIf _ _ ?_
  exact dueIf_sublist _ _

theorem dueChannel_sublist (i : ChannelId) (s : State) :
    (s.dueChannel i).Sublist
      ([Instr.strobeWaitEnd i] ++ [Instr.strobePulseEnd i]
        ++ [Instr.softWaitEnd i] ++ [Instr.softPulseEnd i]) := by
  unfold State.dueChannel
  iterate 3 refine sublist_dueIf _ _ ?_
  exact dueIf_sublist _ _

theorem dueEvents_sublist (s : State) : s.dueEvents.Sublist everyDue :=
  ((((dueWork_sublist s).append (dueShaped_sublist s)).append
    (flatMap_sublist _ fun st => dueStation_sublist st s)).append
    (flatMap_sublist _ fun d => dueDrive_sublist d s)).append
    (flatMap_sublist _ fun i => dueChannel_sublist i s)

/-- Each event that has fallen due is listed once. -/
theorem dueEvents_nodup (s : State) : s.dueEvents.Nodup :=
  (dueEvents_sublist s).nodup everyDue_nodup

end Machine

end Sys2Proof
end

