-- ==== Sys2Proof/Laws/PerInstr.lean ====
section
/-! SUPPORT. One statement about every command as syntax: a well-formed command that stands for a frame
stands for one the link carries, and a request's frame is received as that request (R190, R192, R203,
R204). -/

namespace Sys2Proof.Laws.Framing

open Sys2Proof Sys2Proof.Machine Sys2Proof.Safety

set_option Elab.async false

/-- A 16-bit value is joined from its two bytes. -/
theorem joinHalf_bytes (x : Half) : joinHalf (hiByte x) (loByte x) = x := by
  apply BitVec.eq_of_getLsbD_eq
  intro i _
  simp only [joinHalf, hiByte, loByte, BitVec.getLsbD_append, BitVec.getLsbD_extractLsb']
  split
  all_goals simp_all
  omega

/-- A well-formed command's frame, if it has one, has at most 56 payload bytes, and a request's frame is
received as that request. -/
def Statement (i : Instr) : Prop :=
  i.wellFormed = true → ∀ f, requestFrame i = some f →
    f.payload.length ≤ 56 ∧ (isRequest i = true → f.received = .request i)

theorem sheetNotice (tag : Byte) (book : Half) (leaf kind : Byte) (thickness : Half) (flags : Byte) :
    Statement (.sheetNotice tag book leaf kind thickness flags) := by
  intro _ f h
  cases h
  exact ⟨by simp [halfBytes], fun _ => by simp [Frame.received, halfBytes, joinHalf_bytes]⟩

theorem bookOpen (tag : Byte) (book : Half) (format declared : Byte) :
    Statement (.bookOpen tag book format declared) := by
  intro _ f h
  cases h
  exact ⟨by simp [halfBytes], fun _ => by simp [Frame.received, halfBytes, joinHalf_bytes]⟩

theorem bookCancel (tag : Byte) (book : Half) :
    Statement (.bookCancel tag book) := by
  intro _ f h
  cases h
  exact ⟨by simp [halfBytes], fun _ => by simp [Frame.received, halfBytes, joinHalf_bytes]⟩

theorem tableWrite (tag selector entry : Byte) (contents : List Byte) :
    Statement (.tableWrite tag selector entry contents) := by
  intro w f h
  cases h
  have hc : contentsLengthOk contents.length = true := by
    by_contra hc
    simp [Instr.wellFormed, Instr.defect, hc] at w
  refine ⟨?_, fun _ => by simp [Frame.received, readTableWrite, hc]⟩
  simp [contentsLengthOk] at hc
  simp only [List.length_cons]
  omega

theorem tableRead (tag selector entry copy : Byte) :
    Statement (.tableRead tag selector entry copy) := by
  intro _ f h
  cases h
  exact ⟨by simp, fun _ => by simp [Frame.received]⟩

theorem channelSet (tag channel mode source : Byte) (n w b : Half) :
    Statement (.channelSet tag channel mode source n w b) := by
  intro _ f h
  cases h
  exact ⟨by simp [halfBytes], fun _ => by simp [Frame.received, halfBytes, joinHalf_bytes]⟩

theorem channelCount (tag channel : Byte) (n w b : Half) :
    Statement (.channelCount tag channel n w b) := by
  intro _ f h
  cases h
  exact ⟨by simp [halfBytes], fun _ => by simp [Frame.received, halfBytes, joinHalf_bytes]⟩

theorem capture (tag : Byte) (channels : Half) (selector : Byte) :
    Statement (.capture tag channels selector) := by
  intro _ f h
  cases h
  exact ⟨by simp [halfBytes], fun _ => by simp [Frame.received, halfBytes, joinHalf_bytes]⟩

theorem channelRead (tag channel : Byte) :
    Statement (.channelRead tag channel) := by
  intro _ f h
  cases h
  exact ⟨by simp, fun _ => by simp [Frame.received]⟩

theorem counterTransfer (tag : Byte) :
    Statement (.counterTransfer tag) := by
  intro _ f h
  cases h
  exact ⟨by simp, fun _ => by simp [Frame.received]⟩

theorem counterRead (tag : Byte) :
    Statement (.counterRead tag) := by
  intro _ f h
  cases h
  exact ⟨by simp, fun _ => by simp [Frame.received]⟩

theorem eventSetup (tag : Byte) (enables edges : Half) :
    Statement (.eventSetup tag enables edges) := by
  intro _ f h
  cases h
  exact ⟨by simp [halfBytes], fun _ => by simp [Frame.received, halfBytes, joinHalf_bytes]⟩

theorem eventClear (tag : Byte) (conditions : Half) :
    Statement (.eventClear tag conditions) := by
  intro _ f h
  cases h
  exact ⟨by simp [halfBytes], fun _ => by simp [Frame.received, halfBytes, joinHalf_bytes]⟩

theorem statusRead (tag page : Byte) :
    Statement (.statusRead tag page) := by
  intro _ f h
  cases h
  exact ⟨by simp, fun _ => by simp [Frame.received]⟩

theorem hold (tag modeByte : Byte) :
    Statement (.hold tag modeByte) := by
  intro _ f h
  cases h
  exact ⟨by simp [lineControlFrame],
    fun _ => by simp [Frame.received, lineControlFrame, lineControlKind, readLineControl]⟩

theorem resume (tag modeByte : Byte) :
    Statement (.resume tag modeByte) := by
  intro _ f h
  cases h
  exact ⟨by simp [lineControlFrame],
    fun _ => by simp [Frame.received, lineControlFrame, lineControlKind, readLineControl]⟩

theorem stop (tag modeByte : Byte) :
    Statement (.stop tag modeByte) := by
  intro _ f h
  cases h
  exact ⟨by simp [lineControlFrame],
    fun _ => by simp [Frame.received, lineControlFrame, lineControlKind, readLineControl]⟩

theorem stopClear (tag modeByte : Byte) :
    Statement (.stopClear tag modeByte) := by
  intro _ f h
  cases h
  exact ⟨by simp [lineControlFrame],
    fun _ => by simp [Frame.received, lineControlFrame, lineControlKind, readLineControl]⟩

theorem setMode (tag modeByte : Byte) :
    Statement (.setMode tag modeByte) := by
  intro _ f h
  cases h
  exact ⟨by simp [lineControlFrame],
    fun _ => by simp [Frame.received, lineControlFrame, lineControlKind, readLineControl]⟩

theorem lineReset (tag modeByte : Byte) :
    Statement (.lineReset tag modeByte) := by
  intro _ f h
  cases h
  exact ⟨by simp [lineControlFrame],
    fun _ => by simp [Frame.received, lineControlFrame, lineControlKind, readLineControl]⟩

theorem bitChanged (tag : Byte) (life : Half) :
    Statement (.bitChanged tag life) := by
  intro _ f h
  cases h
  exact ⟨by simp [halfBytes], fun _ => by simp [Frame.received, halfBytes, joinHalf_bytes]⟩

theorem recoveryRead (tag slot : Byte) :
    Statement (.recoveryRead tag slot) := by
  intro _ f h
  cases h
  exact ⟨by simp, fun _ => by simp [Frame.received]⟩

theorem recoveryClear (tag : Byte) :
    Statement (.recoveryClear tag) := by
  intro _ f h
  cases h
  exact ⟨by simp, fun _ => by simp [Frame.received]⟩

theorem unknownKindFrame (kind tag : Byte) (payload : List Byte) :
    Statement (.unknownKindFrame kind tag payload) := by
  intro w f h
  cases h
  refine ⟨?_, fun r => by cases r⟩
  by_contra hc
  have hl : 56 < payload.length := by simpa using hc
  simp [Instr.wellFormed, Instr.defect, unknownDefect, frameDefect, hl] at w

theorem damagedFrame :
    Statement (.damagedFrame) := by
  intro _ f h
  cases h

theorem echoReturn (kind tag : Byte) (payload : List Byte) :
    Statement (.echoReturn kind tag payload) := by
  intro w f h
  cases h
  refine ⟨?_, fun r => by cases r⟩
  by_contra hc
  have hl : 56 < payload.length := by simpa using hc
  simp [Instr.wellFormed, Instr.defect, returnDefect, frameDefect, hl] at w

theorem frameBreakTimeout :
    Statement (.frameBreakTimeout) := by
  intro _ f h
  cases h

theorem frameSent :
    Statement (.frameSent) := by
  intro _ f h
  cases h

theorem infeedEdge :
    Statement (.infeedEdge) := by
  intro _ f h
  cases h

theorem noticeExpiry :
    Statement (.noticeExpiry) := by
  intro _ f h
  cases h

theorem bedTransferOrder :
    Statement (.bedTransferOrder) := by
  intro _ f h
  cases h

theorem stationReady (station : Station) (present : Bool) :
    Statement (.stationReady station present) := by
  intro _ f h
  cases h

theorem readyWaitExpiry (station : Station) :
    Statement (.readyWaitExpiry station) := by
  intro _ f h
  cases h

theorem orderTimeout (station : Station) :
    Statement (.orderTimeout station) := by
  intro _ f h
  cases h

theorem bedArrival :
    Statement (.bedArrival) := by
  intro _ f h
  cases h

theorem strikeBegin :
    Statement (.strikeBegin) := by
  intro _ f h
  cases h

theorem strokeDone (drive : DriveId) :
    Statement (.strokeDone drive) := by
  intro _ f h
  cases h

theorem strokeTimeout (drive : DriveId) :
    Statement (.strokeTimeout drive) := by
  intro _ f h
  cases h

theorem outRequest :
    Statement (.outRequest) := by
  intro _ f h
  cases h

theorem outTransferOrder :
    Statement (.outTransferOrder) := by
  intro _ f h
  cases h

theorem gatherArrival :
    Statement (.gatherArrival) := by
  intro _ f h
  cases h

theorem bedDwellLimitExpiry :
    Statement (.bedDwellLimitExpiry) := by
  intro _ f h
  cases h

theorem quarterIntervalExpiry (drive : DriveId) :
    Statement (.quarterIntervalExpiry drive) := by
  intro _ f h
  cases h

theorem purgeGrant (drive : DriveId) :
    Statement (.purgeGrant drive) := by
  intro _ f h
  cases h

theorem purgeEnd (drive : DriveId) :
    Statement (.purgeEnd drive) := by
  intro _ f h
  cases h

theorem temperatureChange (drive : DriveId) (reading : TempReading) :
    Statement (.temperatureChange drive reading) := by
  intro _ f h
  cases h

theorem purgeAirChange (present : Bool) :
    Statement (.purgeAirChange present) := by
  intro _ f h
  cases h

theorem holdDwellEnd :
    Statement (.holdDwellEnd) := by
  intro _ f h
  cases h

theorem strobeWaitEnd (channel : ChannelId) :
    Statement (.strobeWaitEnd channel) := by
  intro _ f h
  cases h

theorem strobePulseEnd (channel : ChannelId) :
    Statement (.strobePulseEnd channel) := by
  intro _ f h
  cases h

theorem pitchPulseEnd :
    Statement (.pitchPulseEnd) := by
  intro _ f h
  cases h

theorem pitchPeriodBoundary :
    Statement (.pitchPeriodBoundary) := by
  intro _ f h
  cases h

theorem softWaitEnd (channel : ChannelId) :
    Statement (.softWaitEnd channel) := by
  intro _ f h
  cases h

theorem softPulseEnd (channel : ChannelId) :
    Statement (.softPulseEnd channel) := by
  intro _ f h
  cases h

theorem finishTransferOrder :
    Statement (.finishTransferOrder) := by
  intro _ f h
  cases h

theorem finishTransferDone :
    Statement (.finishTransferDone) := by
  intro _ f h
  cases h

theorem drillDone :
    Statement (.drillDone) := by
  intro _ f h
  cases h

theorem hangerDone :
    Statement (.hangerDone) := by
  intro _ f h
  cases h

theorem closerDone :
    Statement (.closerDone) := by
  intro _ f h
  cases h

theorem exitTransferDone :
    Statement (.exitTransferDone) := by
  intro _ f h
  cases h

theorem exitRunTimeout :
    Statement (.exitRunTimeout) := by
  intro _ f h
  cases h

theorem exitSensorEdge :
    Statement (.exitSensorEdge) := by
  intro _ f h
  cases h

theorem guardOpen :
    Statement (.guardOpen) := by
  intro _ f h
  cases h

theorem guardClose :
    Statement (.guardClose) := by
  intro _ f h
  cases h

theorem powerWarningAssert :
    Statement (.powerWarningAssert) := by
  intro _ f h
  cases h

theorem powerWarningRelease :
    Statement (.powerWarningRelease) := by
  intro _ f h
  cases h

theorem resetInputAssert :
    Statement (.resetInputAssert) := by
  intro _ f h
  cases h

theorem resetInputRelease :
    Statement (.resetInputRelease) := by
  intro _ f h
  cases h

theorem powerOn (inputs : Inputs) :
    Statement (.powerOn inputs) := by
  intro _ f h
  cases h

theorem reportPeriodExpiry :
    Statement (.reportPeriodExpiry) := by
  intro _ f h
  cases h

theorem requestLaneCharacter (character : Byte) (framingError : Bool) :
    Statement (.requestLaneCharacter character framingError) := by
  intro _ f h
  cases h

end Sys2Proof.Laws.Framing
end

