-- ==== Sys2Proof/Tests/Slice0.lean ====
section
/-! SUPPORT. Small tests: what the well-formedness check refuses, worked values of the spec, and for each
statement about the part a state and operands that meet its hypotheses. -/

namespace Sys2Proof.Tests

open Sys2Proof Sys2Proof.Machine Sys2Proof.Safety

set_option Elab.async false

/-! ## Small states -/

/-- A pattern with one pin, in group 0. -/
def pattern : Pattern := ⟨0x8#48, false⟩

def format : Format :=
  { pattern := 0, capacity := 2400, maxSheets := 3, boardAlone := true, hanger := .wireHook,
    drillHoles := 0, wireClass := 5, feedSteps := 3 }

def drilled : Format := { Tests.format with hanger := .drilled, drillHoles := 2 }

def working (i : ChannelId) : Channel :=
  { Channel.reset with mode := workingMode i, live := ⟨500, 200, 0⟩ }

/-- The line RUNNING at 10 s: pattern 0, formats 0 to 2 and the five drives usable, every channel in its
working mode, no debts, no books. -/
def line : State :=
  { State.reset with
    time := 100000
    ts :=
      { TableStore.reset with
        patterns := Bank.write TableStore.reset.patterns 0 (some pattern)
        formats := Bank.tabulate fun f =>
          if f = 0 then ⟨some format, none, 0⟩ else if f = 1 then ⟨some format, some none, 1⟩
          else if f = 2 then ⟨some drilled, none, 1⟩ else ⟨none, none, 0⟩
        drives := Bank.tabulate fun _ => { DriveEntry.default with enabled := true } }
    tcu := Bank.tabulate working
    pc := { State.reset.pc with
      drives := Bank.tabulate fun _ => { DriveAccount.reset .cool with debt := 0 } }
    lsv := { State.reset.lsv with
      lineState := .running, moved := true, holds := ⟨false, false, false, false, false⟩ } }

end Sys2Proof.Tests

namespace Sys2Proof.Machine

def State.inMode (m : LineMode) (s : State) : State := { s with lsv := { s.lsv with mode := m } }

def State.inLine (l : LineState) (s : State) : State :=
  { s with lsv := { s.lsv with lineState := l, moved := true } }

def State.withBook (i : Slot) (b : Book) (s : State) : State :=
  { s with si := { s.si with books := Bank.write s.si.books i (some b) } }

def State.withBooks (f : Slot → Book) (s : State) : State :=
  { s with si := { s.si with books := Bank.tabulate fun i => some (f i) } }

def State.withBooksBelow (n : Nat) (f : Slot → Book) (s : State) : State :=
  { s with si := { s.si with books := Bank.tabulate fun i => if i.val < n then some (f i) else none } }

def State.withNotices (l : List Notice) (s : State) : State :=
  { s with si := { s.si with notices := l, travel := 6001 } }

def State.withOpenLift (l : Lift) (s : State) : State :=
  { s with lb := { s.lb with openLift := some l } }

def State.withLifts (l : List Lift) (s : State) : State := { s with lb := { s.lb with queue := l } }

def State.withBed (b : Bed) (s : State) : State := { s with ss := { s.ss with bed := some b } }

def State.withOrder (o : Order) (s : State) : State :=
  { s with orders := Bank.write s.orders (stationIndex o.job.station) (some o) }

def State.withStrike (d : DriveId) (k : Strike) (s : State) : State :=
  s.setDrive d { s.drive d with strike := some k }

def State.withGather (g : Gather) (s : State) : State :=
  { s with fu := { s.fu with gather := some g } }

def State.withFinish (f : Finish) (s : State) : State :=
  { s with fu := { s.fu with finish := some f } }

def State.withQueue (l : List Upstream) (s : State) : State := { s with lp := { s.lp with queue := l } }

def State.receiving (l : List Byte) (since : Nat) (s : State) : State :=
  { s with lp := { s.lp with receiver := .receiving l false since } }

end Sys2Proof.Machine

namespace Sys2Proof.Tests

open Sys2Proof Sys2Proof.Machine Sys2Proof.Safety

def bookIn (stage : Stage) : Book :=
  { id := 5, format := 0, declared := none, noticed := 1, placed := 1, liftsClosed := 1,
    liftsPunched := 0, liftsGathered := 0, stage, fault := none }

def notice (slot : Option Slot) (last : Bool) : Notice :=
  { slot, leaf := 1, kind := .leaf, thickness := 100, last,
    divert := if slot.isSome then none else some .notFound, arrival := 1 }

def lift (mode : PunchMode) (state : LiftState) : Lift :=
  { number := some 0, slot := 0, ordinal := some 0, firstLeaf := 0, sheets := 2, thickness := 200,
    kind := .leaves, mode := some mode, endsCollection := true, holdsLast := true,
    overrunHold := false, state := some state }

def openLift : Lift :=
  { number := none, slot := 0, ordinal := none, firstLeaf := 0, sheets := 2, thickness := 2300,
    kind := .leaves, mode := none, endsCollection := false, holdsLast := false,
    overrunHold := false, state := none }

def bed (mode : PunchMode) (state : LiftState) : Bed :=
  { lift := lift mode state, planned := 1, done := 0, inFlight := 0, dwellStart := some 7000,
    dwellRaised := false, outRequest := false, ask := false, accepted := false }

def issuedOrder (j : Job) : Order := ⟨j, .issued 10000⟩

def strike : Strike :=
  { timeoutAt := 10000, strobeEnded := false, strokeDone := false, simulated := false }

def gather (i : Slot) : Gather := { book := i, lifts := [], incomplete := false }

def finish (step : FinishStep) : Finish :=
  { book := 0, step, holesDrilled := 0, bitWait := false, feedOwed := 0, exitEdgeHeld := false,
    exitRunEnd := some 10000 }

def answer : Upstream := .answer 0 0 0 []

def anEvent : Upstream := .eventNotice .held .present 4

def times {α : Type} (n : Nat) (a : α) : List α := List.replicate n a

/-- A state known to hold nothing somewhere has nothing there to speak of. -/
theorem of_none {α : Type} {P : α → Prop} {o : Option α} (h : o = none) : ∀ x, o = some x → P x := by
  intro x e
  rw [h] at e
  cases e

theorem of_some {α : Type} {P : α → Prop} {o : Option α} {a : α} (h : o = some a) (p : P a) :
    ∀ x, o = some x → P x := by
  intro x e
  rw [h] at e
  cases e
  exact p

/-! ## What the well-formedness check refuses -/

theorem test_contents_length : (Instr.tableWrite 0 0 0 [1, 2]).defect = some .contentsLength := by decide

theorem test_known_kind : (Instr.unknownKindFrame 0x12 0 []).defect = some .knownKind := by decide

theorem test_payload_too_long :
    (Instr.unknownKindFrame 0x55 0 (times 57 0)).defect = some .payloadTooLong := by decide

theorem test_length_not_permitted :
    (Instr.echoReturn 0x12 0 [0]).defect = some .lengthNotPermitted := by decide

theorem test_set_mode_returned :
    (Instr.echoReturn 0x0F 0 [4, 0]).defect = some .setModeReturned := by decide

theorem test_well_formed :
    (Instr.tableWrite 0 0 0 (times 8 0)).wellFormed = true
      ∧ (Instr.unknownKindFrame 0x13 0 (times 56 0)).wellFormed = true
      ∧ (Instr.echoReturn 0x0F 0 [3, 0]).wellFormed = true := by decide

/-! ## The table of commands gives no bits -/

theorem test_no_word : decodeTableWord 8 0 = none ∧ State.reset.withFetchWord 8 0 = State.reset :=
  ⟨rfl, rfl⟩

/-! ## Values that the spec works out -/

/-- The check characters of the ASCII string 123456789 (R192): the known check value of this
code. -/
theorem test_crc : crc [0x31, 0x32, 0x33, 0x34, 0x35, 0x36, 0x37, 0x38, 0x39] = 0x29B1#16 := by
  decide +kernel

/-! ## More small states -/

def fullTable : State :=
  line.withBooks fun i => { bookIn .opened with id := BitVec.ofNat 16 (100 + i.val) }

def nearlyFull : State :=
  line.withBooksBelow 7 fun i => { bookIn .opened with id := BitVec.ofNat 16 (100 + i.val) }

def sheetComing : State :=
  (line.withBook 0 (bookIn .collecting)).withNotices [notice (some 0) false]

def lastComing : State :=
  (line.withBook 0 (bookIn .collecting)).withNotices [notice (some 0) true]

def heldLine : State :=
  line.inLine .held

def heldOnBed : State :=
  ((line.inLine .held).withBook 0 (bookIn .collected)).withBed (bed .strike .onBed)

def driveOff : State :=
  { line with ts := { line.ts with drives := Bank.write line.ts.drives 0 DriveEntry.default } }

def pausedFeed : State :=
  line.setCh 6 { working 6 with phase := .pausedPitch }

def softGate : State :=
  line.setCh 8 { working 8 with mode := .soft }

def gateWaiting : State :=
  line.setCh 7 { working 7 with phase := .waiting }

def softWaiting : State :=
  line.setCh 7 { working 7 with phase := .waiting, mode := .soft }

def softActive : State :=
  line.setCh 7 { working 7 with phase := .active, mode := .soft }

def gateActive : State :=
  line.setCh 7 { working 7 with phase := .active }

def gateTriggered : State :=
  line.setCh 7 { working 7 with phase := .active, pendingTrigger := true }

def clampActive : State :=
  line.setCh 0 { working 0 with phase := .active }

def feeding : State :=
  (line.withBook 0 (bookIn .finishing)).withFinish (finish .feed)

def feedPulse : State :=
  line.setCh 6 { working 6 with phase := .active, budget := 2 }

def lastFeedPulse : State :=
  line.setCh 6 { working 6 with phase := .active, budget := 1 }

def feedGap : State :=
  line.setCh 6 { working 6 with phase := .waiting }

def feedReload : State :=
  line.setCh 6 { working 6 with phase := .waiting, pending := true, staged := ⟨5, 4, 0⟩ }

def feedBadReload : State :=
  line.setCh 6 { working 6 with phase := .waiting, pending := true, staged := ⟨5, 5, 0⟩ }

def liftWaiting : State :=
  line.withLifts [lift .strike .queued]

def heldOver : Lift :=
  { openLift with overrunHold := true }

/-- The oldest notice has expired. -/
def noticeOver : State :=
  line.withNotices [{ notice none false with arrival := 0 }]

/-- A forward count is owed, and the divert gate waits on TRAVEL. -/
def travelling : State :=
  { line.setCh 7 { working 7 with source := .travel, phase := .waiting, countdown := 5 } with
    travelOwed := 1 }

/-- A whole ms is about to be reached: the divert gate waits on TIME, the clamp is held, and the quarter
timer of D1 and the report timer run. -/
def counting : State :=
  { ((line.setCh 7 { working 7 with phase := .waiting, countdown := 5 }).setCh 0
      { working 0 with phase := .active, gate := true, output := true }).setAccount 0
      { DriveAccount.reset .cool with debt := 0, length := some 5000, elapsed := 4999 } with
    time := 100009
    lm := { line.lm with timer := some ⟨10000, 7⟩ } }

/-- Where no event is listed as due, none is due. -/
theorem noneDue {s : State} (h : s.dueEvents = []) : ∀ i, ¬Due i s := by
  simp [← mem_dueEvents, h]

def overNotice (slot : Option Slot) (last : Bool) : Notice := { notice slot last with arrival := 0 }

/-- The last-of-book notice of a book that collects has expired. -/
def oneOver : State :=
  (line.withBook 0 (bookIn .collecting)).withNotices [overNotice (some 0) true]

/-- Two notices have expired. -/
def twoOver : State :=
  (line.withBook 0 (bookIn .collecting)).withNotices [overNotice none false, overNotice (some 0) true]

/-- Channel `i` as Channel Set leaves it in this mode, its other effects not yet taken. -/
def leftAs (i : ChannelId) (m : ChannelMode) (s : State) : State :=
  { s with tcu := Bank.write s.tcu i (channelAsSet m .time ⟨5, 2, 0⟩ (s.ch i)) }

def heldEnded : State := heldLine.withBed { bed .strike .onBed with done := 1 }

/-- D1's strike is in flight on a held line. -/
def heldStriking : State :=
  ((heldLine.withBed { bed .strike .onBed with inFlight := 1 }).withStrike 0 strike).setCh 1
    { working 1 with phase := .active }

def heldStruck : State := heldStriking.withStrike 0 { strike with strokeDone := true }

/-- The feed is under way on a held line. -/
def heldFeed : State := (feeding.inLine .held).setCh 6 { working 6 with phase := .active, budget := 2 }

def heldFeedFaulted : State :=
  heldFeed.withBook 0 { bookIn .finishing with fault := some .short }

def overrunWaiting : State :=
  ((line.withBook 0 (bookIn .collecting)).withLifts (times 12 (lift .strike
    .queued))).withOpenLift heldOver

def arriving : State :=
  ((line.withBook 0 (bookIn .collected)).withBed (bed .strike .queued)).withOrder (issuedOrder
    .bedTransfer)

def strikeReady : State :=
  (line.withBed (bed .strike .onBed)).setCh 0
    { working 0 with phase := .active, gate := true, output := true }

def bedInFlight : Bed :=
  { bed .strike .onBed with inFlight := 1 }

def striking : State :=
  ((line.withBed bedInFlight).withStrike 0 { strike with strobeEnded := false }).setCh 1
    { working 1 with phase := .active }

def strobeOver : State :=
  ((line.withBed bedInFlight).withStrike 0 { strike with strobeEnded := true }).setCh 1
    { working 1 with output := false }

def strokeOver : State :=
  ((line.withBed bedInFlight).withStrike 0 { strike with strokeDone := true }).setCh 1
    { working 1 with phase := .active }

def askingBed : Bed :=
  { bed .pass .released with outRequest := true, ask := true }

def outAsked : State :=
  line.withBed askingBed

def outBehindComplete : State :=
  ((line.withBook 1 { bookIn .collected with liftsGathered := 1 }).withBed askingBed).withGather
    (gather 1)

def outBehindOther : State :=
  ((line.withBook 1 (bookIn .collecting)).withBed askingBed).withGather (gather 1)

def punchedBed : Bed :=
  { bed .strike .released with done := 1 }

def gathering : State :=
  (((line.withBook 0 (bookIn .collected)).withBed punchedBed).withGather (gather 0)).withOrder
    (issuedOrder .outTransfer)

def waitAtLimit : State :=
  line.withOrder ⟨.drill, .waiting 8000 2000 false⟩

def waitOver : State :=
  line.withOrder ⟨.drill, .waiting 7999 2000 false⟩

def quarterNear : State :=
  line.setAccount 0 { DriveAccount.reset .cool with length := some 5000, elapsed := 4999 }

def quarterDue : State :=
  line.setAccount 0
    { DriveAccount.reset .cool with length := some 5000, elapsed := 5000, debt := 31 }

def quarterOver : State :=
  line.setAccount 0
    { DriveAccount.reset .cool with length := some 5000, elapsed := 5000, debt := 32 }

def purge : Purge :=
  { kind := .full, payment := 4, endAt := 10000, valve := true }

def purgeWanted : State :=
  line.setAccount 0 { DriveAccount.reset .cool with debt := 4 }

/-- Drive 0, its account as a reset leaves it, is READY on a line HELD since the reset. -/
def freshInHeld : State :=
  { line.setAccount 0 (DriveAccount.reset .cool) with lsv := State.reset.lsv }

/-- The state after reset, but for the channels, which are in their working modes; the drives are DISABLED. -/
def freshWorking : State := { State.reset with tcu := line.tcu }

/-- A write that makes drive 0 HALF_ONLY, taken in the state after reset. -/
def modeWrite : Instr :=
  .tableWrite 0 2 0 (driveBytes { DriveEntry.default with mode := .halfOnly })

def purging : State :=
  line.setAccount 0 { DriveAccount.reset .cool with purge := some purge }

def atTransfer : State :=
  ((line.withBook 0 { bookIn .finishing with format := 0 }).withFinish
    { finish .transferIn with exitRunEnd := none }).withOrder (issuedOrder .finishTransfer)

def atTransferDrilled : State :=
  ((line.withBook 0 { bookIn .finishing with format := 2 }).withFinish
    { finish .transferIn with exitRunEnd := none }).withOrder (issuedOrder .finishTransfer)

def firstHole : State :=
  ((line.withBook 0 { bookIn .finishing with format := 2 }).withFinish
    { finish .drill with exitRunEnd := none, holesDrilled := 0 }).withOrder (issuedOrder .drill)

def lastHole : State :=
  ((line.withBook 0 { bookIn .finishing with format := 2 }).withFinish
    { finish .drill with exitRunEnd := none, holesDrilled := 1 }).withOrder (issuedOrder .drill)

def atHanger : State :=
  ((line.withBook 0 { bookIn .finishing with format := 0 }).withFinish
    { finish .hanger with exitRunEnd := none }).withOrder (issuedOrder .hanger)

def atCloser : State :=
  ((line.withBook 0 { bookIn .finishing with format := 0 }).withFinish
    { finish .close with exitRunEnd := none }).withOrder (issuedOrder .closer)

def exiting : State :=
  ((line.withBook 0 { bookIn .finishing with format := 0 }).withFinish
    { finish .exit with exitRunEnd := none }).withOrder (issuedOrder .exitTransfer)

def exitingEdgeHeld : State :=
  ((line.withBook 0 { bookIn .finishing with format := 0 }).withFinish
    { finish .exit with exitRunEnd := none, exitEdgeHeld := true }).withOrder (issuedOrder
    .exitTransfer)

def stopped : State :=
  line.inLine .safeStop

def stoppedFaulted : State :=
  (stopped.withBook 0 { bookIn .finishing with fault := some .cancelled }).withFinish (finish
    .feed)

def stoppedOnBed : State :=
  stopped.withBed (bed .strike .onBed)

def heldByStart : State :=
  { heldLine with lsv := { heldLine.lsv with holds := ⟨true, false, false, false, false⟩ } }

def bitWaiting : State :=
  (line.withBook 0 { bookIn .finishing with format := 2 }).withFinish
    { finish .drill with bitWait := true }

def frozen : State :=
  { line with lsv := { line.lsv with record := { line.lsv.record with retentionValid := true } } }

def alarmed : State :=
  { line with inputs := { line.inputs with guardClosed := false, powerWarning := true } }

def reportDue : State :=
  { line with
    lm := { line.lm with timer := some ⟨10000, 10000⟩ }
    ts := { line.ts with settings := { line.ts.settings with reportMode := .periodic } } }

def missingFull : State :=
  { line with
    lm := { line.lm with work := Bank.write line.lm.work Counter.missing.index ⟨65535, false⟩ } }

def oneBook : State :=
  { State.reset.withBook 7 (bookIn .opened) with
    ts := { State.reset.ts with
      formats := Bank.write State.reset.ts.formats 0 ⟨some format, none, 1⟩ } }

/-- A book collects in slot 0, its sheet's notice is the oldest, and book 1 is there as well. -/
def handed (b : Book) (n : Notice) : State :=
  ((line.withBook 0 b).withBook 1 { bookIn .collecting with id := 6 }).withNotices [n]

def fullQueue (s : State) : State := s.withLifts (times 12 (lift .strike .queued))

def thick : Notice := { notice (some 0) false with thickness := 3000 }

def aBoard : Notice := { notice (some 0) false with kind := .board }

/-- The lift at the accumulator is of book 1. -/
def otherLift : Lift := { openLift with slot := 1 }

def lostLine : State := { line with si := { line.si with registration := .lost } }

def feedOfFaulted : State :=
  ((line.withBook 0 { bookIn .finishing with fault := some .short }).withFinish (finish .feed)).setCh 6
    { working 6 with phase := .active, budget := 1 }

def captured : State :=
  line.setCh 8
    { working 8 with
      capturedCount := some ⟨3, 0⟩
      capturedStatus := some ⟨.strobe, .time, false, .idle, true, false⟩ }

/-- A lift on the bed with the outstanding drive 0, which was disabled while PURGING. -/
def disabledPurging : State :=
  (driveOff.withBook 0 (bookIn .collected)).withBed (bed .strike .onBed) |>.setAccount 0
    { DriveAccount.reset .cool with debt := 4, purge := some purge }

def afterPurge (d : DriveId) (s : State) : State :=
  s.setAccount d { s.account d with debt := (s.account d).debt - 4, purge := none }

def drillWaits : State :=
  ((line.withBook 0 { bookIn .finishing with format := 2 }).withFinish (finish .drill)).withOrder
    ⟨.drill, .waiting 9000 2000 false⟩

def leaving : State :=
  ((line.withBook 0 (bookIn .leaving)).withFinish (finish .exitRun))

/-- Slot 0 collects with a lift on the bed and one in the queue, and slot 0 alone is used. -/
def underWay : State :=
  ((line.withBook 0 { bookIn .collecting with liftsClosed := 3, liftsGathered := 1 }).withLifts
    [lift .strike .queued]).withBed (bed .strike .onBed)

def cutBed : Bed := { bed .strike .onBed with planned := 3, done := 1 }

def endedBed : Bed := { bed .strike .onBed with done := 1 }

/-! ## States and operands that meet the hypotheses of each statement -/

theorem test_hyp_StepRunsFrontCommand :
    ({ line with pending := [.hold 0 0, .stop 1 0] } : State).pending = .hold 0 0 :: [.stop 1 0] :=
  rfl

theorem test_hyp_IdleStepTakesWhatIsDue_1 :
    ({ line with resetAsserted := true } : State).pending = []
      ∧ ({ line with resetAsserted := true } : State).resetAsserted = true := by
  decide

theorem test_hyp_IdleStepTakesWhatIsDue_2 :
    Due .noticeExpiry noticeOver ∧ ∀ j, Due j noticeOver → j = .noticeExpiry := by
  have h : noticeOver.dueEvents = [.noticeExpiry] := by decide
  simp [← mem_dueEvents, h]

theorem test_hyp_IdleStepTakesWhatIsDue_3 :
    Due .noticeExpiry (noticeOver.withLifts [lift .strike .queued])
      ∧ Due .bedTransferOrder (noticeOver.withLifts [lift .strike .queued])
      ∧ Instr.noticeExpiry ≠ .bedTransferOrder := by
  have h : (noticeOver.withLifts [lift .strike .queued]).dueEvents = [.noticeExpiry, .bedTransferOrder] := by
    decide
  simp [← mem_dueEvents, h]

theorem test_hyp_IdleStepTakesWhatIsDue_4 :
    (∀ i, ¬Due i travelling) ∧ 0 < travelling.travelOwed ∧ travelling.pending = []
      ∧ (travelling.ch 7).source = .travel ∧ (travelling.ch 7).phase = .waiting
      ∧ ¬((travelling.ch 7).mode = .hold ∧ (travelling.ch 7).gate = true)
      ∧ (travelling.ch 8).source ≠ .travel :=
  ⟨noneDue (by decide), by decide, rfl, by decide, by decide, by decide, by decide⟩

theorem test_hyp_IdleStepTakesWhatIsDue_5 :
    (∀ i, ¬Due i counting) ∧ counting.travelOwed = 0 ∧ counting.pending = []
      ∧ counting.resetAsserted = false ∧ (counting.time + 1) % 10 = 0 ∧ (line.time + 1) % 10 ≠ 0
      ∧ (counting.account 0).length ≠ none ∧ (counting.account 1).length = none
      ∧ counting.lsv.mode ≠ .echo ∧ (counting.ch 7).source = .time
      ∧ (counting.ch 7).phase = .waiting ∧ (counting.ch 0).mode = .hold
      ∧ (counting.ch 0).gate = true ∧ (counting.ch 8).phase = .idle :=
  ⟨noneDue (by decide), by decide, rfl, rfl, by decide, by decide, by decide, by decide, by decide,
    by decide, by decide, by decide, by decide, by decide⟩

theorem test_hyp_IdleStepTakesWhatIsDue_6 :
    ¬Suspended 0 counting ∧ Suspended 0 (counting.inLine .safeStop)
      ∧ Suspended 0 (counting.inMode .echo) ∧ (counting.inMode .echo).lsv.mode = .echo := by
  simp only [← State.timerSuspended_iff]
  decide

/-- What a tick counts, on values: at a whole ms a channel that waits on TIME, a quarter timer and the report
timer go on by one, and a channel whose clamp is held does not. -/
theorem test_tick_counts :
    ((counting.tick).ch 7).countdown = 4 ∧ (counting.tick).ch 0 = counting.ch 0
      ∧ ((counting.tick).account 0).elapsed = 5000 ∧ (counting.tick).account 1 = counting.account 1
      ∧ (counting.tick).lm.timer = some ⟨10000, 8⟩ ∧ (counting.tick).time = 100010 := by
  decide

theorem test_hyp_EveryCommandAnswersNext :
    ({ line with resetAsserted := true } : State).resetAsserted = true
      ∧ Instr.hold 0 0 ≠ .resetInputRelease ∧ ∀ x, Instr.hold 0 0 ≠ .powerOn x :=
  ⟨rfl, by decide, fun _ h => by cases h⟩

theorem test_hyp_RequestsDiscardedOrReturned_1 :
    Awake (line.withQueue (times 16 answer)) ∧ line.lsv.mode ≠ .echo
      ∧ 16 ≤ (line.withQueue (times 16 answer)).lp.placesInUse
      ∧ needsAnswer (.counterRead 0) = true ∧ (Instr.counterRead 0).wellFormed = true := by
  unfold Awake
  decide

theorem test_hyp_RequestsDiscardedOrReturned_2 :
    Awake (line.inMode .echo) ∧ (line.inMode .echo).lsv.mode = .echo
      ∧ (Instr.bookCancel 1 5).wellFormed = true
      ∧ requestFrame (.bookCancel 1 5) = some ⟨0x03, 1, [0, 5]⟩
      ∧ (⟨0x03, 1, [0, 5]⟩ : Frame).isSetMode = false
      ∧ (line.inMode .echo).lp.placesInUse < 16 := by
  unfold Awake
  decide

theorem test_hyp_RequestsDiscardedOrReturned_3 :
    Awake ((line.inMode .echo).withQueue (times 16 answer))
      ∧ ¬((line.inMode .echo).withQueue (times 16 answer)).lp.placesInUse < 16 := by
  unfold Awake
  decide

theorem test_hyp_LaneCarriesRequests :
    isRequest (.counterRead 7) = true ∧ (Instr.counterRead 7).wellFormed = true
      ∧ requestFrame (.counterRead 7) = some ⟨0x0B, 7, []⟩ ∧ Awake line
      ∧ line.lp.receiver = .hunting := by
  unfold Awake
  decide

theorem test_hyp_ReceiverTakesCharacters_1 :
    Awake line ∧ line.lp.receiver = .hunting := by
  unfold Awake
  decide

theorem test_hyp_ReceiverTakesCharacters_2 :
    (line.receiving [0x5A] 99999).lp.receiver = .receiving [0x5A] false 99999
      ∧ ([0x5A] : List Byte).length = 1 ∧ 56 < (57 : Byte).toNat := by
  decide

theorem test_hyp_ReceiverTakesCharacters_3 :
    ¬(([0x5A] : List Byte).length = 1 ∧ 56 < (56 : Byte).toNat)
      ∧ ∀ x len r, ([0x5A] : List Byte) ++ [56] = x :: len :: r → r.length ≠ len.toNat + 4 :=
  ⟨by decide, by intro x len r h; cases h; decide⟩

theorem test_hyp_ReceiverTakesCharacters_4 :
    ([0x5A, 0, 0x0B, 7, 0] : List Byte) ++ [0] = 0x5A :: 0 :: 0x0B :: 7 :: [0, 0]
      ∧ ([0, 0] : List Byte).length = (0 : Byte).toNat + 2
      ∧ ([0, 0] : List Byte).drop (0 : Byte).toNat ≠ halfBytes (crc ((0 : Byte) :: 0x0B :: 7 ::
        ([0, 0] : List Byte).take (0 : Byte).toNat)) := by
  decide +kernel

theorem test_hyp_FramesReportedAdmittedAndSent_1 :
    Awake (line.receiving [0x5A] 99980) ∧ 99980 + 20 ≤ (line.receiving [0x5A] 99980).time := by
  unfold Awake
  decide

theorem test_hyp_FramesReportedAdmittedAndSent_2 :
    (line.receiving [0x5A] 99981).lp.receiver = .receiving [0x5A] false 99981
      ∧ (line.receiving [0x5A] 99981).time < 99981 + 20 := by
  decide

theorem test_hyp_FramesReportedAdmittedAndSent_3 :
    line.lp.receiver = .hunting := by
  decide

theorem test_hyp_FramesReportedAdmittedAndSent_4 :
    (Instr.unknownKindFrame 0x13 1 [2]).wellFormed = true
      ∧ (Instr.unknownKindFrame 0 1 []).wellFormed = true ∧ Served line := by
  unfold Served
  decide

theorem test_hyp_FramesReportedAdmittedAndSent_5 :
    (line.withQueue [answer]).lp.queue = answer :: [] ∧ line.lp.queue = [] := by
  decide

theorem test_hyp_FramesReportedAdmittedAndSent_6 :
    anEvent.isNotice = true
      ∧ (line.withQueue (times 11 anEvent ++ times 4 answer)).lp.queue.length +
        (line.lp.reserved).toNat < 16
      ∧ (line.withQueue (times 11 anEvent ++ times 4 answer)).lp.noticeCount < 12 := by
  decide

theorem test_hyp_FramesReportedAdmittedAndSent_7 :
    16 ≤ (line.withQueue (times 16 answer)).lp.queue.length + line.lp.reserved.toNat := by
  decide

theorem test_hyp_FramesReportedAdmittedAndSent_8 :
    12 ≤ (line.withQueue (times 12 anEvent)).lp.noticeCount := by
  decide

theorem test_hyp_RegistrationStreaks :
    1 ≤ line.ts.settings.declareCount ∧ 1 ≤ line.ts.settings.clearCount := by
  decide

theorem test_hyp_SheetNoticeDisposed_1 :
    Awake line ∧ line.lsv.mode ≠ .echo
      ∧ 16 ≤ (line.withNotices (times 16 (notice none false))).si.notices.length := by
  unfold Awake
  decide

theorem test_hyp_SheetNoticeDisposed_2 :
    (line.withNotices (times 15 (notice none false))).si.notices.length < 16
      ∧ line.findBook 5 = none
      ∧ (line.withQueue (times 10 anEvent ++ times 4 answer)).lp.placesInUse < 15
      ∧ (line.withQueue (times 10 anEvent ++ times 4 answer)).lp.noticeCount < 11 := by
  decide

theorem test_hyp_SheetNoticeDisposed_3 :
    (line.withBook 0 (bookIn .collected)).findBook 5 = some 0
      ∧ (line.withBook 0 (bookIn .collected)).book 0 = some (bookIn .collected)
      ∧ (bookIn .collected).stage ≠ .opened ∧ (bookIn .collected).stage ≠ .collecting := by
  decide

theorem test_hyp_SheetNoticeDisposed_4 :
    FinishBookBound (line.withBook 7 (bookIn .opened))
      ∧ (line.withBook 7 (bookIn .opened)).findBook 5 = some 7
      ∧ (line.withBook 7 (bookIn .opened)).book 7 = some (bookIn .opened)
      ∧ (bookIn .opened).stage = .opened := ⟨of_none rfl, by decide⟩

theorem test_hyp_SheetNoticeDisposed_5 :
    FinishBookBound (line.withBook 0 (bookIn .collecting))
      ∧ (line.withBook 0 (bookIn .collecting)).book 0 = some (bookIn .collecting) :=
  ⟨of_none rfl, by decide⟩

theorem test_hyp_BookOpenChecksAndCreates_1 :
    Served line ∧ 16 ≤ (16 : Byte).toNat ∧ 64 < (65 : Byte).toNat := by
  unfold Served
  decide

theorem test_hyp_BookOpenChecksAndCreates_2 :
    (15 : Byte) = natByte (15 : FormatId).val ∧ (64 : Byte).toNat ≤ 64
      ∧ (Bank.read line.ts.formats 15).active = none := by
  decide

theorem test_hyp_BookOpenChecksAndCreates_3 :
    (Bank.read line.ts.formats 1).active ≠ none
      ∧ (Bank.read line.ts.formats 1).staged ≠ none := by
  decide

theorem test_hyp_BookOpenChecksAndCreates_4 :
    (∃ j c, (line.withBook 0 (bookIn .opened)).book j = some c ∧ c.id = 5)
      ∧ (Bank.read line.ts.formats 0).active ≠ none
      ∧ (Bank.read line.ts.formats 0).staged = none :=
  ⟨⟨0, bookIn .opened, by decide⟩, by decide⟩

theorem test_hyp_BookOpenChecksAndCreates_5 :
    Served fullTable ∧ (∀ j, fullTable.book j ≠ none)
      ∧ ∀ j c, fullTable.book j = some c → c.id ≠ 5 :=
  ⟨by unfold Served; decide, by decide, by decide⟩

theorem test_hyp_BookOpenChecksAndCreates_6 :
    Served line ∧ (∀ j c, line.book j = some c → c.id ≠ 5) ∧ line.book 0 = none :=
  ⟨by unfold Served; decide,
    fun j => of_none (by revert j; decide),
    by decide⟩

theorem test_hyp_BookOpenChecksAndCreates_7 :
    nearlyFull.book 7 = none ∧ ∀ j : Slot, j < 7 → nearlyFull.book j ≠ none := by decide

theorem test_hyp_BookCancelByStage_1 :
    Served line ∧ line.findBook 5 = none := by
  unfold Served
  decide

theorem test_hyp_BookCancelByStage_2 :
    Served (line.withBook 0 (bookIn .opened))
      ∧ (line.withBook 0 (bookIn .opened)).findBook 5 = some 0
      ∧ (line.withBook 0 (bookIn .opened)).book 0 = some (bookIn .opened) := by
  unfold Served
  decide

theorem test_hyp_BookCancelByStage_3 :
    (line.withBook 0 (bookIn .collected)).book 0 = some (bookIn .collected)
      ∧ NotFinishing 0 (line.withBook 0 (bookIn .collected)) := ⟨by decide, of_none rfl⟩

theorem test_hyp_BookCancelByStage_4 :
    ((line.withBook 0 (bookIn .finishing)).withFinish (finish .feed)).findBook 5 = some 0 := by
  decide

theorem test_hyp_BookCancelByStage_5 :
    FinishBookBound (line.withBook 0 { bookIn .collecting with placed := 0, liftsClosed := 0 })
      ∧ NoneOpen 0 (line.withBook 0 { bookIn .collecting with placed := 0, liftsClosed := 0 })
      ∧ endsEmpty 0 { bookIn .collecting with placed := 0, liftsClosed := 0 }
        (line.withBook 0 { bookIn .collecting with placed := 0, liftsClosed := 0 }) = true :=
  ⟨of_none rfl, of_none rfl, by decide⟩

theorem test_hyp_BookCancelByStage_6 :
    (line.withBook 0 (bookIn .collecting)).findBook 5 = some 0
      ∧ NoneOpen 0 (line.withBook 0 (bookIn .collecting))
      ∧ endsEmpty 0 (bookIn .collecting) (line.withBook 0 (bookIn .collecting)) = false :=
  ⟨by decide, of_none rfl, by decide⟩

theorem test_hyp_BookCancelByStage_7 :
    ((line.withBook 0 (bookIn .collecting)).withOpenLift openLift).findBook 5 = some 0
      ∧ openLift.slot = 0 ∧ openLift.overrunHold = false ∧ heldOver.overrunHold = true
      ∧ (line.withLifts (times 11 (lift .pass .queued))).lb.queue.length < 12
      ∧ 12 ≤ (fullQueue line).lb.queue.length := by
  decide

theorem test_hyp_InfeedEdgeDiverts_1 :
    Awake line ∧ line.si.notices = [] := by
  unfold Awake
  decide

theorem test_hyp_InfeedEdgeDiverts_2 :
    (line.withNotices [notice none false, notice none false]).si.notices = notice none false ::
      [notice none false]
      ∧ (notice none false).slot = none
      ∧ HeadFresh [notice none false] (line.withNotices [notice none false, notice none false]) :=
  ⟨rfl, rfl, of_some rfl (by decide)⟩

theorem test_hyp_InfeedEdgeDiverts_3 :
    gateTriggered.channelHears 7 = true ∧ (gateTriggered.ch 7).triggerLost = true := by
  decide

theorem test_hyp_InfeedEdgeDiverts_4 :
    Awake (handed (bookIn .collected) (notice (some 0) false))
      ∧ FinishBookBound (handed (bookIn .collected) (notice (some 0) false))
      ∧ HeadFresh [] line
      ∧ (handed (bookIn .collected) (notice (some 0) false)).book 0 = some (bookIn .collected)
      ∧ (bookIn .collected).stage ≠ .opened ∧ (bookIn .collected).stage ≠ .collecting :=
  ⟨rfl, of_none rfl, of_none rfl, by decide⟩

theorem test_hyp_InfeedEdgeDiverts_5 :
    ((withoutOldest [] lostLine.si).streak .matching lostLine.ts.settings).registration = .lost
      ∧ lostLine.ts.settings.lossAction = .divert ∧ (notice (some 0) true).last = true
      ∧ (notice (some 0) false).last = false := by
  decide

theorem test_hyp_SheetsDeclined_1 :
    SheetHanded (notice (some 0) true) [] 0 (bookIn .collecting) format
        ((handed (bookIn .collecting) (notice (some 0) true)).withOpenLift heldOver)
      ∧ ∃ l, ((handed (bookIn .collecting) (notice (some 0) true)).withOpenLift heldOver).lb.openLift
        = some l ∧ l.overrunHold = true :=
  ⟨⟨rfl, of_none rfl, rfl, rfl, of_none rfl, by decide, rfl, by decide, Or.inr (by decide)⟩,
    heldOver, rfl, rfl⟩

theorem test_hyp_SheetsDeclined_2 :
    SheetHanded (notice (some 0) false) [] 0 { bookIn .collecting with placed := 64 } format
        (handed { bookIn .collecting with placed := 64 } (notice (some 0) false))
      ∧ ∀ l, line.lb.openLift = some l → l.overrunHold = false :=
  ⟨⟨rfl, of_none rfl, rfl, rfl, of_none rfl, by decide, rfl, by decide, Or.inr (by decide)⟩,
    of_none rfl⟩

theorem test_hyp_SheetsDeclined_3 :
    SheetHanded (notice (some 0) false) [] 0 { bookIn .collecting with liftsClosed := 16 } format
        (handed { bookIn .collecting with liftsClosed := 16 } (notice (some 0) false))
      ∧ line.lb.openLift = none ∧ (notice (some 0) false).thickness ≤ format.capacity :=
  ⟨⟨rfl, of_none rfl, rfl, rfl, of_none rfl, by decide, rfl, by decide, Or.inr (by decide)⟩, rfl,
    by decide⟩

theorem test_hyp_SheetsCloseLifts_1 :
    SheetHanded (notice (some 0) false) [] 0 (bookIn .collecting) format
        ((handed (bookIn .collecting) (notice (some 0) false)).withOpenLift otherLift)
      ∧ otherLift.overrunHold = false ∧ otherLift.endsCollection = false
      ∧ otherLift.holdsLast = false
      ∧ (handed (bookIn .collecting) (notice (some 0) false)).book otherLift.slot
        = some { bookIn .collecting with id := 6 }
      ∧ MustCloseFirst 0 (notice (some 0) false) format otherLift
      ∧ (fullQueue line).lb.queue.length = 12 ∧ line.lb.queue.length < 11 :=
  ⟨⟨rfl, of_none rfl, rfl, rfl, of_none rfl, by decide, rfl, by decide, Or.inr (by decide)⟩, rfl,
    rfl, rfl, by decide, Or.inl (by decide), by decide, by decide⟩

theorem test_hyp_SheetsCloseLifts_2 :
    MustCloseFirst 0 (notice (some 0) true) format { openLift with thickness := 2301 }
      ∧ MustCloseFirst 0 (notice (some 0) true) format { openLift with sheets := 3 }
      ∧ ¬MustCloseFirst 0 (notice (some 0) true) format openLift
      ∧ (bookIn .collecting).liftsClosed + 1 < 16 := by
  unfold MustCloseFirst
  decide

theorem test_hyp_SheetsCloseLifts_3 :
    SheetHanded thick [] 0 (bookIn .collecting) format (handed (bookIn .collecting) thick)
      ∧ format.capacity < thick.thickness ∧ (bookIn .collecting).placed < 64 :=
  ⟨⟨rfl, of_none rfl, rfl, rfl, of_none rfl, by decide, rfl, by decide, Or.inr (by decide)⟩,
    by decide, by decide⟩

theorem test_hyp_SheetsCloseLifts_4 :
    SheetHanded aBoard [] 0 (bookIn .collecting) format (handed (bookIn .collecting) aBoard)
      ∧ SheetJoins 0 aBoard format (bookIn .collecting) (handed (bookIn .collecting) aBoard)
      ∧ aBoard.kind = .board ∧ format.boardAlone = true ∧ aBoard.last = false :=
  ⟨⟨rfl, of_none rfl, rfl, rfl, of_none rfl, by decide, rfl, by decide, Or.inr (by decide)⟩,
    ⟨by decide, by decide, show 1 < 16 by decide⟩, rfl, rfl, rfl⟩

theorem test_hyp_SheetsCloseLifts_5 :
    SheetJoins 0 (notice (some 0) true) format (bookIn .collecting) (fullQueue lastComing)
      ∧ 12 ≤ (fullQueue lastComing).lb.queue.length :=
  ⟨⟨by decide, by decide, show 1 < 16 by decide⟩, by decide⟩

theorem test_hyp_InfeedEdgePlacesSheet_1 :
    Awake sheetComing ∧ sheetComing.si.notices = notice (some 0) false :: []
      ∧ HeadFresh [] sheetComing ∧ sheetComing.book 0 = some (bookIn .collecting)
      ∧ sheetComing.bookFormat 0 = some format ∧ sheetComing.si.registration = .matched
      ∧ 1 ≤ sheetComing.ts.settings.declareCount
      ∧ ¬((notice (some 0) false).kind = .board ∧ format.boardAlone = true) :=
  ⟨rfl, rfl, of_none rfl, by decide, by decide, rfl, by decide, by decide⟩

theorem test_hyp_InfeedEdgePlacesSheet_2 :
    SheetJoins 0 (notice (some 0) false) format (bookIn .collecting) sheetComing :=
  ⟨by decide, by decide, show 1 < 16 by decide⟩

theorem test_hyp_InfeedEdgePlacesSheet_3 :
    SheetJoins 0 (notice (some 0) false) format (bookIn .collecting) (sheetComing.withOpenLift
      openLift) := ⟨by decide, by decide, rfl, rfl, by decide, by decide, rfl, by decide⟩

theorem test_hyp_InfeedEdgePlacesSheet_4 :
    Awake lastComing ∧ FinishBookBound lastComing
      ∧ lastComing.si.notices = notice (some 0) true :: [] ∧ HeadFresh [] lastComing
      ∧ lastComing.book 0 = some (bookIn .collecting)
      ∧ lastComing.bookFormat 0 = some format ∧ lastComing.lb.queue.length < 12 :=
  ⟨rfl, of_none rfl, rfl, of_none rfl, by decide, by decide, by decide⟩

theorem test_hyp_InfeedEdgePlacesSheet_5 :
    SheetJoins 0 (notice (some 0) true) format (bookIn .collecting) (lastComing.withOpenLift
      openLift) := ⟨by decide, by decide, rfl, rfl, by decide, by decide, rfl, by decide⟩

theorem test_hyp_OldestNoticeExpires_1 :
    HeadFresh (line.withNotices [notice none false]).si.notices (line.withNotices [notice none
      false]) := of_some rfl (by decide)

theorem test_hyp_OldestNoticeExpires_2 :
    Awake twoOver ∧ twoOver.si.notices = overNotice none false :: [overNotice (some 0) true]
      ∧ twoOver.si.window < (twoOver.si.travel - (overNotice none false).arrival).toNat
      ∧ (overNotice none false).slot.bind (fun i => twoOver.book i) = none
      ∧ (overNotice none false).slot = none := by
  unfold Awake
  decide

theorem test_hyp_OldestNoticeExpires_3 :
    (overNotice (some 0) false).slot = some 0 ∧ oneOver.book 0 = some (bookIn .collecting)
      ∧ ¬((overNotice (some 0) false).last = true ∧ (bookIn .collecting).stage = .collecting)
      ∧ (overNotice (some 0) true).last = true ∧ (bookIn .collecting).stage = .collecting
      ∧ FinishBookBound oneOver ∧ ∀ f, oneOver.fu.finish = some f → f.book ≠ 0 :=
  ⟨rfl, by decide, by decide, rfl, rfl, of_none rfl, of_none rfl⟩

theorem test_hyp_OldestNoticeExpires_4 :
    (faulted .short (bookIn .collecting)).fault ≠ none := by
  decide

/-- Two notices that have expired leave in one expiry (R17). -/
theorem test_two_notices_expire :
    ∃ t, exec .noticeExpiry twoOver = .next t ∧ t.si.notices = []
      ∧ Bank.read t.lm.work Counter.missing.index = ⟨2, false⟩ :=
  ⟨_, rfl, by decide, by decide⟩

theorem test_hyp_PatternAndFormatWrites_1 :
    Served line ∧ (times 8 (2 : Byte)).length = 8 ∧ readPattern (times 8 2) = none := by
  unfold Served
  decide

theorem test_hyp_PatternAndFormatWrites_2 :
    readPattern (patternBytes (some pattern)) = some (some pattern) ∧ NamedByBound 0 line :=
  ⟨by decide, 1, format, by decide⟩

theorem test_hyp_PatternAndFormatWrites_3 :
    readPattern (0 :: times 7 9) = some none ∧ NamedByCopy 0 line :=
  ⟨by decide, 0, format, by decide⟩

theorem test_hyp_PatternAndFormatWrites_4 :
    ¬NamedByBound 0 State.reset ∧ ¬NamedByCopy 0 State.reset := by
  have a : ∀ f, (Bank.read State.reset.ts.formats f).active = none := by decide
  have b : ∀ f, (Bank.read State.reset.ts.formats f).staged = none := by decide
  constructor
  · rintro ⟨f, c, _, h, _⟩
    rw [a f] at h
    cases h
  · rintro ⟨f, c, _, h | h⟩
    · rw [a f] at h
      cases h
    · rw [b f] at h
      cases h

theorem test_hyp_PatternAndFormatWrites_5 :
    readFormat line.ts.patterns (times 10 2) = none
      ∧ readFormat line.ts.patterns (formatBytes (some format)) = some (some format)
      ∧ (Bank.read line.ts.formats 0).refCount = 0
      ∧ 0 < (Bank.read line.ts.formats 1).refCount := by
  decide

theorem test_hyp_PatternAndFormatWrites_6 :
    (times 10 (0 : Byte)).length = 10
      ∧ ¬(((0 : Byte) = 0 ∧ (24 : Byte).toNat < 24 ∧ (times 8 (0 : Byte)).length = 8)
        ∨ ((0 : Byte) = 1 ∧ (24 : Byte).toNat < 16 ∧ (times 8 (0 : Byte)).length = 10)
        ∨ ((0 : Byte) = 2 ∧ (24 : Byte).toNat < 5 ∧ (times 8 (0 : Byte)).length = 14)
        ∨ ((0 : Byte) = 3 ∧ (24 : Byte) = 0 ∧ (times 8 (0 : Byte)).length = 30))
      ∧ (times 9 (0 : Byte)).length ≠ 8 ∧ (times 9 (0 : Byte)).length ≠ 10
      ∧ (times 9 (0 : Byte)).length ≠ 14 ∧ (times 9 (0 : Byte)).length ≠ 30 := by
  decide

theorem test_hyp_DriveAndSettingsWrites_1 :
    Served line ∧ (times 14 (2 : Byte)).length = 14 ∧ line.lsv.lineState = .running := by
  unfold Served
  decide

theorem test_hyp_DriveAndSettingsWrites_2 :
    heldLine.lsv.lineState = .held ∧ readDrive (times 14 2) = none
      ∧ readDrive (driveBytes DriveEntry.default) = some DriveEntry.default
      ∧ NoneDisabled heldLine :=
  ⟨rfl, by decide, by decide, of_none rfl⟩

theorem test_hyp_DriveAndSettingsWrites_3 :
    (bed .strike .onBed).lift.state = some .onBed
      ∧ DriveSet.has 0 (bed .strike .onBed).outstanding = true
      ∧ driveOff.driveState 0 = .disabled ∧ heldOnBed.book 0 = some (bookIn .collected) := by
  decide

theorem test_hyp_DriveAndSettingsWrites_7 :
    Served State.reset
      ∧ (State.setDriveEntry 0 { DriveEntry.default with mode := .halfOnly } State.reset).chosenKind 0
        ≠ State.reset.chosenKind 0 := by
  unfold Served
  decide

theorem test_hyp_DriveAndSettingsWrites_4 :
    (times 30 (2 : Byte)).length = 30 ∧ readSettings (times 30 2) = none
      ∧ readSettings (settingsBytes LineSettings.default) = some LineSettings.default := by
  decide

theorem test_hyp_DriveAndSettingsWrites_5 :
    ∀ b, heldOnBed.ss.bed = some b → b.dwellRaised = false → ∀ since, b.dwellStart = some since →
      line.nowMs - since ≤ LineSettings.default.bedDwellLimit :=
  of_some rfl fun _ => of_some rfl (by decide)

theorem test_hyp_DriveAndSettingsWrites_6 :
    (bed .strike .onBed).dwellRaised = false ∧ (bed .strike .onBed).dwellStart = some 7000
      ∧ readSettings (settingsBytes { LineSettings.default with bedDwellLimit := 2999 }) = some
        { LineSettings.default with bedDwellLimit := 2999 }
      ∧ 2999 < line.nowMs - 7000 := by
  decide

theorem test_hyp_TableReadsAnswer_1 :
    Served line ∧ (Bank.read line.ts.formats 1).staged = some none
      ∧ (Bank.read line.ts.formats 0).staged = none := by
  unfold Served
  decide

theorem test_hyp_TableReadsAnswer_2 :
    3 < (4 : Byte).toNat ∧ 24 ≤ (24 : Byte).toNat ∧ 16 ≤ (16 : Byte).toNat
      ∧ 5 ≤ (5 : Byte).toNat ∧ (1 : Byte) ≠ 0 := by
  decide

theorem test_hyp_TableReadsAnswer_3 :
    2 ≤ (2 : Byte).toNat ∧ (3 : Byte) = natByte (3 : FormatId).val := by
  decide

theorem test_hyp_InvalidAndEmptyPlacesAreZeros :
    Served State.reset ∧ (times 7 (9 : Byte)).length = 7 ∧ (times 9 (9 : Byte)).length = 9
      ∧ (Bank.read line.ts.formats 0).refCount = 0
      ∧ 0 < (Bank.read line.ts.formats 1).refCount ∧ Bank.read line.ts.patterns 23 = none
      ∧ (Bank.read line.ts.formats 15).active = none
      ∧ (Bank.read line.ts.formats 1).staged = some none := by
  unfold Served
  decide

theorem test_hyp_TableContentsReadBack_1 :
    pattern.check = true := by
  decide

theorem test_hyp_TableContentsReadBack_2 :
    FormatInRange line.ts.patterns format
      ∧ FormatInRange line.ts.patterns
        { drilled with capacity := 6000, maxSheets := 24, feedSteps := 64 } :=
  by unfold FormatInRange; decide

theorem test_hyp_TableContentsReadBack_3 :
    DriveInRange DriveEntry.default ∧ SettingsInRange LineSettings.default :=
  by unfold DriveInRange SettingsInRange TimeInRange; decide

theorem test_hyp_TableContentsReadBack_4 :
    readPattern (times 8 0) = some none ∧ readFormat line.ts.patterns (times 10 0) = some none
      ∧ readPattern (patternBytes (some pattern)) = some (some pattern)
      ∧ readFormat line.ts.patterns (formatBytes (some format)) = some (some format) := by
  decide

theorem test_hyp_ChannelSetChecksAndSets_1 :
    Served line ∧ 9 ≤ (9 : Byte).toNat ∧ 5 ≤ (5 : Byte).toNat ∧ 2 ≤ (2 : Byte).toNat := by
  unfold Served
  decide

theorem test_hyp_ChannelSetChecksAndSets_2 :
    (8 : Byte).toNat < 9 ∧ (4 : Byte).toNat < 5 ∧ (1 : Byte).toNat < 2
      ∧ line.lsv.lineState = .running := by
  decide

theorem test_hyp_ChannelSetChecksAndSets_3 :
    heldLine.lsv.lineState = .held ∧ (1 : Byte) = natByte (1 : ChannelId).val
      ∧ (1 : Byte) = ChannelMode.hold.code ∧ ChannelMode.hold ≠ workingMode 1
      ∧ (6 : Byte) = natByte (6 : ChannelId).val ∧ (3 : Byte) = ChannelMode.pitch.code
      ∧ countOf 5 ≤ countOf 5 := by
  decide

theorem test_hyp_ChannelSetChecksAndSets_4 :
    (8 : Byte) = natByte (8 : ChannelId).val ∧ (2 : Byte) = ChannelMode.strobe.code
      ∧ (1 : Byte) = Source.travel.code ∧ ChannelMode.strobe = workingMode 8
      ∧ NoneDisabled (leftAs 8 .strobe heldLine) ∧ (8 : ChannelId) ≠ 0 ∧ (8 : ChannelId) ≠ 6
      ∧ ∀ d, (8 : ChannelId) = strikeChannel d → (heldLine.drive d).strike = none :=
  ⟨by decide, by decide, by decide, by decide, of_none rfl, by decide, by decide, by decide⟩

theorem test_hyp_ChannelSetChecksAndSets_5 :
    NoneDisabled (leftAs 0 .hold heldLine) ∧ heldLine.ss.bed = none
      ∧ NoneDisabled (leftAs 0 .hold heldEnded) ∧ heldEnded.ss.bed = some endedBed
      ∧ endedBed.lift.state = some .onBed ∧ endedBed.outstanding = 0 ∧ endedBed.inFlight = 0 :=
  ⟨of_none rfl, rfl, of_some rfl fun _ => by decide, by decide, by decide, by decide, by decide⟩

theorem test_hyp_ChannelSetChecksAndSets_6 :
    NoneDisabled (leftAs 0 .hold heldOnBed) ∧ heldOnBed.ss.bed = some (bed .strike .onBed)
      ∧ (bed .strike .onBed).lift.state = some .onBed ∧ (bed .strike .onBed).outstanding ≠ 0
      ∧ (bed .strike .onBed).lift.mode = some .strike ∧ heldOnBed.lsv.lineState ≠ .safeStop
      ∧ ChannelMode.off ≠ .hold ∧ (heldOnBed.inLine .safeStop).lsv.lineState = .safeStop
      ∧ (bed .pass .onBed).lift.mode ≠ some .strike :=
  ⟨of_some rfl fun _ => by decide, by decide, by decide, by decide, by decide, by decide, by decide,
    by decide, by decide⟩

theorem test_hyp_ChannelSetChecksAndSets_7 :
    (1 : ChannelId) = strikeChannel 0 ∧ (heldStriking.drive 0).strike = some strike
      ∧ (heldStriking.ch 1).phase ≠ .idle ∧ (heldStriking.ch 1).mode ≠ .soft
      ∧ NoneDisabled (leftAs 1 .strobe heldStriking) ∧ strike.strokeDone = false
      ∧ strike.simulated = false :=
  ⟨by decide, by decide, by decide, by decide, of_some rfl fun _ => by decide, rfl, rfl⟩

theorem test_hyp_ChannelSetChecksAndSets_8 :
    (heldStruck.drive 0).strike = some { strike with strokeDone := true }
      ∧ (heldStruck.ch 1).phase ≠ .idle ∧ (heldStruck.ch 1).mode ≠ .soft
      ∧ NoneDisabled (leftAs 1 .strobe heldStruck) ∧ heldStruck.ss.bed = some bedInFlight :=
  ⟨by decide, by decide, by decide, of_some rfl fun _ => by decide, by decide⟩

theorem test_hyp_ChannelSetChecksAndSets_9 :
    (1 : ChannelId) = strikeChannel 0 ∧ ChannelMode.off ≠ .strobe
      ∧ heldOnBed.ss.bed = some (bed .strike .onBed) ∧ (bed .strike .onBed).lift.state = some .onBed
      ∧ DriveSet.has 0 (bed .strike .onBed).outstanding = true
      ∧ (leftAs 1 .off heldOnBed).driveState 0 = .disabled ∧ BedApart heldOnBed :=
  ⟨by decide, by decide, by decide, by decide, by decide, by decide, fun _ _ _ h => by cases h⟩

theorem test_hyp_ChannelSetChecksAndSets_10 :
    NoneDisabled (leftAs 6 .pitch heldLine) ∧ heldLine.fu.finish = none
      ∧ heldFeed.fu.finish = some (finish .feed) ∧ heldFeed.lsv.lineState = .held
      ∧ NoneDisabled (leftAs 6 .off heldFeed) ∧ (heldFeed.ch 6).phase ≠ .idle
      ∧ (heldFeed.ch 6).mode ≠ .soft ∧ heldFeed.bookFaulted (finish .feed).book = false
      ∧ (heldFeed.inLine .safeStop).lsv.lineState = .safeStop :=
  ⟨of_none rfl, rfl, by decide, by decide, of_none rfl, by decide, by decide, by decide, by decide⟩

theorem test_hyp_ChannelSetChecksAndSets_11 :
    heldFeedFaulted.fu.finish = some (finish .feed) ∧ heldFeedFaulted.lsv.lineState = .held
      ∧ heldFeedFaulted.bookFaulted (finish .feed).book = true
      ∧ heldFeedFaulted.book (finish .feed).book
        = some { bookIn .finishing with fault := some .short } := by
  decide

theorem test_hyp_ChannelCountStagesAndStarts_1 :
    Served line ∧ 9 ≤ (9 : Byte).toNat ∧ (8 : Byte) = natByte (8 : ChannelId).val
      ∧ (line.ch 8).phase ≠ .pausedPitch ∧ (line.ch 8).mode ≠ .soft := by
  unfold Served
  decide

theorem test_hyp_ChannelCountStagesAndStarts_2 :
    (pausedFeed.ch 6).phase = .pausedPitch ∧ (pausedFeed.ch 6).mode ≠ .soft
      ∧ countOf 4 < countOf 5 ∧ countOf 5 ≤ countOf 5 := by
  decide

theorem test_hyp_ChannelCountStagesAndStarts_3 :
    (softGate.ch 8).mode = .soft ∧ line.lsv.lineState ≠ .safeStop
      ∧ (softGate.inLine .safeStop).lsv.lineState = .safeStop := by
  decide

theorem test_hyp_CaptureAndChannelRead_1 :
    Served line ∧ 512 ≤ (512 : Half).toNat ∧ 4 ≤ (4 : Byte).toNat ∧ (511 : Half) ≠ 0
      ∧ (511 : Half).toNat < 512 ∧ (3 : Byte) ≠ 0 ∧ (3 : Byte).toNat < 4
      ∧ 9 ≤ (9 : Byte).toNat := by
  unfold Served
  decide

theorem test_hyp_CaptureAndChannelRead_2 :
    (captured.ch 8).capturedStatus.isSome = true ∧ (line.ch 8).capturedStatus.isSome ≠ true := by
  decide

theorem test_hyp_ShapedOutputsBeginAndEnd_1 :
    Awake gateWaiting ∧ (gateWaiting.ch 7).phase = .waiting ∧ (gateWaiting.ch 7).countdown = 0
      ∧ (gateWaiting.ch 7).mode = .strobe := by
  unfold Awake
  decide

theorem test_hyp_ShapedOutputsBeginAndEnd_2 :
    (softWaiting.ch 7).phase = .waiting ∧ (softWaiting.ch 7).mode = .soft := by
  decide

theorem test_hyp_ShapedOutputsBeginAndEnd_3 :
    (softActive.ch 7).phase = .active ∧ (softActive.ch 7).mode = .soft := by
  decide

theorem test_hyp_ShapedOutputsBeginAndEnd_4 :
    (gateActive.ch 7).phase = .active
      ∧ (∀ d, (7 : ChannelId) = strikeChannel d → (line.drive d).strike = none)
      ∧ (gateActive.ch 7).pendingTrigger = false ∧ (gateTriggered.ch 7).pendingTrigger = true := by
  decide

theorem test_hyp_ShapedOutputsBeginAndEnd_5 :
    (clampActive.ch 0).phase = .active ∧ (clampActive.ch 0).mode = .hold
      ∧ (clampActive.ch 0).gate = false := by
  decide

theorem test_hyp_ShapedOutputsBeginAndEnd_6 :
    (line.ch 7).mode = workingMode 7 ∧ (line.ch 7).phase = .idle ∧ line.lsv.lineState ≠ .safeStop
      ∧ (softGate.ch 8).mode ≠ workingMode 8 := by
  decide

theorem test_hyp_ShapedOutputsBeginAndEnd_7 :
    (gateActive.ch 7).phase ≠ .idle ∧ (gateActive.ch 7).pendingTrigger = false
      ∧ (gateTriggered.ch 7).pendingTrigger = true ∧ (feedPulse.ch 6).phase ≠ .idle
      ∧ (feedPulse.ch 6).mode = workingMode 6 := by
  decide

theorem test_hyp_ShapedOutputsBeginAndEnd_8 :
    (line.ch 6).mode = workingMode 6 ∧ (line.ch 6).phase = .idle ∧ line.lsv.lineState ≠ .safeStop
      ∧ (line.setCh 6 { working 6 with mode := .soft } |>.ch 6).mode ≠ workingMode 6 := by
  decide

theorem test_hyp_PitchTrain_1 :
    Awake feedPulse ∧ (feedPulse.ch 6).mode = .pitch ∧ (feedPulse.ch 6).countdown = 0
      ∧ (feedPulse.ch 6).phase = .active ∧ 2 ≤ (feedPulse.ch 6).budget := by
  unfold Awake
  decide

theorem test_hyp_PitchTrain_2 :
    (lastFeedPulse.ch 6).budget = 1 ∧ ∀ f, lastFeedPulse.fu.finish = some f → f.step ≠ .feed :=
  ⟨by decide, of_none rfl⟩

theorem test_hyp_PitchTrain_3 :
    feeding.fu.finish = some (finish .feed) ∧ feeding.book 0 = some (bookIn .finishing)
      ∧ (bookIn .finishing).fault = none ∧ feeding.bookFormat 0 = some format
      ∧ format.hanger = .wireHook := by
  decide

theorem test_hyp_PitchTrain_4 :
    (line.withBook 0 { bookIn .finishing with format := 2 }).bookFormat 0 = some drilled
      ∧ drilled.hanger ≠ .wireHook := by
  decide

theorem test_hyp_PitchTrain_5 :
    (feedGap.ch 6).phase = .waiting ∧ (feedGap.ch 6).pending = false := by
  decide

theorem test_hyp_PitchTrain_6 :
    (feedReload.ch 6).pending = true
      ∧ countOf (feedReload.ch 6).staged.w < countOf (feedReload.ch 6).staged.n := by
  decide

theorem test_hyp_PitchTrain_7 :
    countOf (feedBadReload.ch 6).staged.n ≤ countOf (feedBadReload.ch 6).staged.w := by
  decide

theorem test_hyp_PitchTrain_8 :
    Awake feedOfFaulted ∧ (feedOfFaulted.ch 6).budget = 1
      ∧ feedOfFaulted.fu.finish = some (finish .feed)
      ∧ feedOfFaulted.book 0 = some { bookIn .finishing with fault := some .short } := by
  unfold Awake
  decide

theorem test_hyp_TransfersOrdered_1 :
    Awake liftWaiting ∧ liftWaiting.lb.queue = lift .strike .queued :: []
      ∧ liftWaiting.ss.bed = none ∧ liftWaiting.lsv.lineState = .running
      ∧ (liftWaiting.ch 0).mode = .hold
      ∧ ∀ x, liftWaiting.lb.openLift = some x → x.overrunHold = false :=
  ⟨rfl, rfl, rfl, rfl, by decide, of_none rfl⟩

theorem test_hyp_TransfersOrdered_2 :
    overrunWaiting.lb.queue = lift .strike .queued :: times 11 (lift .strike .queued)
      ∧ overrunWaiting.lb.openLift = some heldOver ∧ overrunWaiting.book 0 ≠ none
      ∧ (times 11 (lift .strike .queued)).length < 12 := by
  decide

theorem test_hyp_TransfersOrdered_3 :
    (line.withBed { bed .pass .released with accepted := true }).ss.bed = some
      { bed .pass .released with accepted := true }
      ∧ (line.withBed { bed .pass .released with accepted := true }).order .bedShuttle = none
      ∧ line.lsv.lineState ≠ .safeStop := by
  decide

theorem test_hyp_TransfersOrdered_4 :
    ((line.withBook 0 (bookIn .gathered)).withGather (gather 0)).fu.gather = some (gather 0)
      ∧ ((line.withBook 0 (bookIn .gathered)).withGather (gather 0)).book 0 = some (bookIn
        .gathered)
      ∧ ((line.withBook 0 (bookIn .gathered)).withGather (gather 0)).fu.finish = none := by
  decide

theorem test_hyp_LiftArrivesOnBed_1 :
    Awake arriving ∧ arriving.order .bedShuttle = some (issuedOrder .bedTransfer)
      ∧ (issuedOrder .bedTransfer).isIssued = true
      ∧ arriving.ss.bed = some (bed .strike .queued)
      ∧ (bed .strike .queued).lift.mode = some .strike
      ∧ arriving.bookPattern 0 = some pattern ∧ pattern.driveSet ≠ 0
      ∧ (arriving.ch 0).mode = .hold ∧ (arriving.ch 0).output = false
      ∧ (∀ d, DriveSet.has d pattern.driveSet = true → arriving.driveState d ≠ .disabled ∧
        arriving.driveState d ≠ .faulted) := by
  unfold Awake
  decide

theorem test_hyp_LiftArrivesOnBed_2 :
    (bed .pass .queued).lift.mode ≠ some .strike ∧ (arriving.ch 0).gate = false := by
  decide

theorem test_hyp_LiftArrivesOnBed_3 :
    DriveSet.has 0 pattern.driveSet = true
      ∧ (arriving.setDrive 0 { arriving.drive 0 with faulted := true }).driveState 0 = .faulted
      ∧ arriving.book 0 = some (bookIn .collected) := by
  decide

theorem test_hyp_StrikeBeginsOnLowestEligibleDrive_1 :
    ∀ d, line.eligible d = false := by
  decide

theorem test_hyp_StrikeBeginsOnLowestEligibleDrive_2 :
    Awake strikeReady ∧ strikeReady.eligible 0 = true
      ∧ (∀ x : DriveId, x < 0 → strikeReady.eligible x = false)
      ∧ strikeReady.ss.bed = some (bed .strike .onBed)
      ∧ (strikeReady.ch (strikeChannel 0)).phase = .idle := by
  unfold Awake
  decide

theorem test_hyp_StrikesComplete_1 :
    Awake striking ∧ (striking.drive 0).strike = some { strike with strobeEnded := false }
      ∧ striking.ss.bed = some bedInFlight ∧ (striking.ch (strikeChannel 0)).mode = .strobe
      ∧ (striking.ch (strikeChannel 0)).phase = .active
      ∧ (striking.ch (strikeChannel 0)).countdown = 0
      ∧ (striking.ch (strikeChannel 0)).pendingTrigger = false := by
  unfold Awake
  decide

theorem test_hyp_StrikesComplete_2 :
    (strobeOver.drive 0).strike = some { strike with strobeEnded := true }
      ∧ strike.simulated = false := by
  decide

theorem test_hyp_StrikesComplete_3 :
    (strokeOver.drive 0).strike = some { strike with strokeDone := true }
      ∧ (strokeOver.ch (strikeChannel 0)).phase = .active := by
  decide

theorem test_hyp_OutRequestAnswered_1 :
    Awake outAsked ∧ outAsked.ss.bed = some askingBed ∧ outAsked.order .bedShuttle = none
      ∧ outAsked.fu.gather = none := by
  unfold Awake
  decide

theorem test_hyp_OutRequestAnswered_2 :
    (outAsked.withGather (gather 0)).fu.gather = some (gather 0)
      ∧ (gather 0).book = askingBed.lift.slot := by
  decide

theorem test_hyp_OutRequestAnswered_3 :
    (gather 1).book ≠ askingBed.lift.slot ∧ outBehindComplete.complete 1 = true := by
  decide

theorem test_hyp_OutRequestAnswered_4 :
    outBehindOther.complete 1 = false ∧ (gather 1).incomplete = false
      ∧ FinishBookBound outBehindOther ∧ outBehindOther.book 1 = some (bookIn .collecting)
      ∧ (bookIn .collecting).stage = .collecting :=
  ⟨by decide, rfl, of_none rfl, by decide, rfl⟩

theorem test_hyp_LiftGathered_1 :
    Awake gathering ∧ gathering.order .bedShuttle = some (issuedOrder .outTransfer)
      ∧ (issuedOrder .outTransfer).isIssued = true ∧ gathering.ss.bed = some punchedBed
      ∧ gathering.fu.gather = some (gather 0) ∧ gathering.book 0 = some (bookIn .collected) := by
  unfold Awake
  decide

theorem test_hyp_LiftGathered_2 :
    (true = true ↔ punchedBed.lift.mode = some .strike ∧ punchedBed.planned &&& ~~~punchedBed.done
      = 0)
      ∧ (false = true ↔ (bed .pass .released).lift.mode = some .strike ∧ (bed .pass
        .released).planned &&& ~~~(bed .pass .released).done = 0) := by decide

theorem test_hyp_WaitsAndDwells_1 :
    Awake line ∧ (∀ o, line.order .drill = some o → o.isIssued = true) :=
  ⟨rfl, of_none (by decide)⟩

theorem test_hyp_WaitsAndDwells_2 :
    waitOver.order .drill = some ⟨.drill, .waiting 7999 2000 false⟩
      ∧ 2000 < waitOver.nowMs - 7999 := by
  decide

theorem test_hyp_WaitsAndDwells_3 :
    waitAtLimit.order .drill = some ⟨.drill, .waiting 8000 2000 false⟩
      ∧ waitAtLimit.nowMs - 8000 ≤ 2000 := by
  decide

theorem test_hyp_WaitsAndDwells_4 :
    (line.withBed { bed .strike .onBed with dwellStart := some 6999 }).ts.settings.bedDwellLimit <
      line.nowMs - 6999
      ∧ line.nowMs - 7000 ≤ line.ts.settings.bedDwellLimit := by
  decide

theorem test_hyp_JamsEnterSafeStop_1 :
    Awake line
      ∧ (line.withOrder ⟨.drill, .issued 10000⟩).order .drill = some ⟨.drill, .issued 10000⟩
      ∧ 10000 ≤ line.nowMs ∧ line.nowMs < 10001 := by
  unfold Awake
  decide

theorem test_hyp_JamsEnterSafeStop_2 :
    ((line.withStrike 0 strike).drive 0).strike = some strike
      ∧ strike.timeoutAt ≤ line.nowMs
      ∧ line.nowMs < ({ strike with timeoutAt := 10001 } : Strike).timeoutAt := by
  decide

theorem test_hyp_JamsEnterSafeStop_3 :
    (line.withFinish (finish .exitRun)).fu.finish = some (finish .exitRun)
      ∧ (finish .exitRun).exitRunEnd = some 10000 := by
  decide

theorem test_hyp_JamsEnterSafeStop_4 :
    BedApart arriving ∧ arriving.ordered .bedTransfer = true ∧ gathering.ordered .outTransfer = true
      ∧ arriving.book 0 = some (bookIn .collected) ∧ stopped.lsv.lineState = .safeStop
      ∧ arriving.lsv.lineState ≠ .safeStop :=
  ⟨fun b f _ h => of_none (P := fun f => b.lift.slot ≠ f.book) rfl f h, by decide⟩

theorem test_hyp_JamsEnterSafeStop_5 :
    heldOnBed.ordered .bedTransfer = false ∧ heldOnBed.ordered .outTransfer = false
      ∧ (bed .pass .released).lift.state ≠ some .onBed ∧ bedInFlight.inFlight ≠ 0
      ∧ cutBed.done ≠ 0 ∧ cutBed.outstanding ≠ 0 ∧ endedBed.inFlight = 0
      ∧ endedBed.outstanding = 0 ∧ (bed .strike .onBed).done = 0
      ∧ (bed .strike .onBed).outstanding ≠ 0 := by
  decide

theorem test_hyp_JamsEnterSafeStop_6 :
    bitWaiting.fu.finish = some { finish .drill with bitWait := true }
      ∧ bitWaiting.book 0 = some { bookIn .finishing with format := 2 }
      ∧ Safety.exiting firstHole = false ∧ transferringIn atTransfer = true
      ∧ Safety.exiting Tests.exiting = true ∧ Tests.exiting.lsv.record.retentionValid = false
      ∧ Tests.exiting.lp.placesInUse < 4 := by
  decide

theorem test_hyp_QuarterIntervalAccrues_1 :
    Awake line ∧ (quarterNear.account 0).length = some 5000
      ∧ (quarterNear.account 0).elapsed < 5000 ∧ Suspended 0 (line.inLine .safeStop) := by
  unfold Awake
  rw [← State.timerSuspended_iff]
  decide

theorem test_hyp_QuarterIntervalAccrues_2 :
    (quarterDue.account 0).length = some 5000 ∧ ¬Suspended 0 quarterDue
      ∧ 5000 ≤ (quarterDue.account 0).elapsed ∧ (quarterDue.account 0).debt + 1 ≤ 32 := by
  rw [← State.timerSuspended_iff]
  decide

theorem test_hyp_QuarterIntervalAccrues_3 :
    32 < (quarterOver.account 0).debt + 1 ∧ ¬Suspended 0 quarterOver := by
  rw [← State.timerSuspended_iff]
  decide

theorem test_hyp_PurgeGrantedAndPaid_1 :
    Awake line ∧ purgeWanted.grantable 0 = true ∧ line.grantable 0 = false := by
  unfold Awake
  decide

theorem test_hyp_PurgeGrantedAndPaid_2 :
    (purging.account 0).purge = some purge ∧ purge.endAt ≤ line.nowMs
      ∧ line.nowMs < ({ purge with endAt := 10001 } : Purge).endAt := by
  decide

theorem test_hyp_PurgeGrantedAndPaid_3 :
    (disabledPurging.account 0).purge = some purge ∧ NoneDisabled (afterPurge 0 purging)
      ∧ disabledPurging.ss.bed = some (bed .strike .onBed)
      ∧ DriveSet.has 0 (bed .strike .onBed).outstanding = true
      ∧ (afterPurge 0 disabledPurging).driveState 0 = .disabled :=
  ⟨by decide, of_none rfl, by decide, by decide, by decide⟩

/-- After a reset no purge request stands (R112). -/
theorem test_reset_no_purge_request : ∀ d, State.reset.purgeRequested d = false := by
  decide

/-- A drive that becomes READY in HELD with a debt of +4 is due and pulled in (R112). -/
theorem test_ready_in_held_requested :
    freshInHeld.driveState 0 = .ready ∧ (freshInHeld.account 0).debt = 4
      ∧ (freshInHeld.account 0).length = none ∧ freshInHeld.purgeRequested 0 = true := by
  decide

theorem test_hyp_PurgeGrantedAndPaid_4 :
    heldOnBed.ss.bed = some (bed .strike .onBed) ∧ (bed .strike .onBed).lift.state = some .onBed
      ∧ DriveSet.has 0 (bed .strike .onBed).planned = true
      ∧ DriveSet.has 0 (bed .strike .onBed).done = false
      ∧ DriveSet.has 0 (bed .strike .onBed).inFlight = false ∧ line.ss.bed = none := by
  decide

theorem test_hyp_TemperatureAndAir_1 :
    Awake line ∧ line.pc.air = true ∧ (line.setAir false).pc.air = false := by
  unfold Awake
  decide

theorem test_hyp_TemperatureAndAir_2 :
    disabledPurging.pc.air = true ∧ NoneDisabled line
      ∧ (disabledPurging.setAccount 0 { disabledPurging.account 0 with purge := none }).driveState 0
        = .disabled :=
  ⟨rfl, of_none rfl, by decide⟩

theorem test_hyp_FinishStepsFollow_1 :
    Awake atTransfer ∧ atTransfer.book 0 = some (bookIn .finishing)
      ∧ (bookIn .finishing).stage = .finishing ∧ atTransfer.bookFormat 0 = some format
      ∧ atTransfer.issued .finishTransfer = true ∧ (atTransfer.inMode .dry).lsv.mode = .dry := by
  unfold Awake
  decide

theorem test_hyp_FinishStepsFollow_2 :
    atTransferDrilled.issued .finishTransfer = true ∧ atTransferDrilled.bookFormat 0 = some drilled
      ∧ drilled.hanger = .drilled
      ∧ ({ bookIn .finishing with format := 2 } : Book).fault = none
      ∧ atTransferDrilled.fu.bitLife < drilled.drillHoles
      ∧ ¬({ atTransferDrilled.fu with bitLife := 2 } : FinishUnit).bitLife < drilled.drillHoles := by
  decide

theorem test_hyp_FinishStepsFollow_3 :
    format.hanger ≠ .drilled ∧ atTransfer.bookPattern 0 = some pattern
      ∧ (atTransfer.ch 6).mode = .pitch ∧ (atTransfer.ch 6).phase = .idle
      ∧ atTransfer.lsv.lineState ≠ .safeStop := by
  decide

theorem test_hyp_FinishStepsFollow_4 :
    firstHole.issued .drill = true ∧ 0 + 1 < drilled.drillHoles
      ∧ drilled.drillHoles ≤ 1 + 1 ∧ lastHole.bookPattern 0 = some pattern := by
  decide

theorem test_hyp_FinishStepsFollow_5 :
    ((line.withBook 0 { bookIn .finishing with fault := some .cancelled }).book 0).bind Book.fault
      ≠ none := by
  decide

theorem test_hyp_FinishStepsFollow_6 :
    atHanger.issued .hanger = true ∧ atCloser.issued .closer = true := by
  decide

theorem test_hyp_FinishStepsFollow_7 :
    (atTransfer.setCh 6 { working 6 with mode := .off }).issued .finishTransfer = true
      ∧ ((atTransfer.setCh 6 { working 6 with mode := .off }).ch 6).mode ≠ .pitch := by
  decide

theorem test_hyp_FinishStepsFollow_8 :
    (atHanger.withBook 0 { bookIn .finishing with fault := some .short }).issued .hanger = true
      ∧ (atHanger.withBook 0 { bookIn .finishing with fault := some .short }).book 0
        = some { bookIn .finishing with fault := some .short } := by
  decide

theorem test_hyp_FinishStepsFollow_9 :
    (lastHole.ch 6).mode = .pitch ∧ (lastHole.ch 6).phase = .idle ∧ lastHole.lsv.lineState ≠ .safeStop
      ∧ (lastHole.setCh 6 { working 6 with mode := .off }).issued .drill = true
      ∧ ((lastHole.setCh 6 { working 6 with mode := .off }).ch 6).mode ≠ .pitch := by
  decide

theorem test_hyp_FaultsDuringFinish_1 :
    Served feeding ∧ feeding.findBook 5 = some 0 ∧ feeding.book 0 = some (bookIn .finishing)
      ∧ feeding.fu.finish = some (finish .feed)
      ∧ ((feeding.setCh 6 { working 6 with phase := .active }).ch 6).phase ≠ .idle
      ∧ (feeding.inLine .safeStop).lsv.lineState = .safeStop
      ∧ atHanger.orderWaits .hanger = false ∧ atCloser.orderWaits .closer = false
      ∧ firstHole.orderWaits .drill = false ∧ leaving.book 0 = some (bookIn .leaving) := by
  unfold Served
  decide

theorem test_hyp_FaultsDuringFinish_2 :
    Served drillWaits ∧ drillWaits.findBook 5 = some 0
      ∧ drillWaits.order .drill = some ⟨.drill, .waiting 9000 2000 false⟩
      ∧ (⟨.drill, .waiting 9000 2000 false⟩ : Order).isIssued = false
      ∧ drillWaits.fu.finish = some (finish .drill) := by
  unfold Served
  decide

theorem test_hyp_FaultsDuringFinish_3 :
    Served bitWaiting ∧ bitWaiting.findBook 5 = some 0
      ∧ (bitWaiting.inLine .safeStop).findBook 5 = some 0
      ∧ bitWaiting.lsv.lineState ≠ .safeStop := by
  unfold Served
  decide

theorem test_hyp_FaultsDuringFinish_4 :
    (feeding.ch 6).phase = .idle ∧ (bookIn .finishing).fault = none
      ∧ feeding.lsv.lineState ≠ .safeStop := by
  decide

theorem test_hyp_BookPassesExit_1 :
    Awake exiting ∧ exiting.book 0 = some (bookIn .finishing)
      ∧ exiting.issued .exitTransfer = true ∧ (finish .exit).exitEdgeHeld = false
      ∧ (finish .exit).step = .exit := by
  unfold Awake
  decide

theorem test_hyp_BookPassesExit_2 :
    (line.withFinish (finish .exit)).issued .exitTransfer = false
      ∧ (finish .exitRun).step = .exitRun ∧ (finish .feed).step ≠ .exitRun := by
  decide

theorem test_hyp_BookPassesExit_3 :
    exitingEdgeHeld.issued .exitTransfer = true := by
  decide

theorem test_hyp_HoldAndResume_1 :
    Served line ∧ (∀ i, (line.ch i).mode = workingMode i) ∧ line.lsv.lineState ≠ .safeStop := by
  unfold Served
  decide

theorem test_hyp_HoldAndResume_2 :
    (line.inLine .safeStop).lsv.lineState = .safeStop
      ∧ ∃ i, (State.reset.ch i).mode ≠ workingMode i := ⟨rfl, 0, by decide⟩

theorem test_hyp_StopRequested :
    Served line ∧ line.lsv.lineState ≠ .safeStop ∧ Served (line.inLine .safeStop)
      ∧ (line.inLine .safeStop).lsv.lineState = .safeStop := by
  unfold Served
  decide

theorem test_hyp_StopCleared_1 :
    Served line
      ∧ ¬(line.lsv.lineState = .safeStop ∧ line.inputs.guardClosed = true ∧
        line.inputs.powerWarning = false) := by
  unfold Served
  decide

theorem test_hyp_StopCleared_2 :
    Served stopped ∧ stopped.lsv.lineState = .safeStop ∧ stopped.inputs.guardClosed = true
      ∧ stopped.inputs.powerWarning = false ∧ stopped.fu.finish = none := by
  unfold Served
  decide

theorem test_hyp_StopCleared_3 :
    stoppedFaulted.fu.finish = some (finish .feed) ∧ (finish .feed).bitWait = false
      ∧ stoppedFaulted.book 0 = some { bookIn .finishing with fault := some .cancelled } := by
  decide

theorem test_hyp_StopCleared_4 :
    stoppedOnBed.ss.bed = some (bed .strike .onBed)
      ∧ (bed .strike .onBed).lift.mode = some .strike ∧ (bed .strike .onBed).outstanding ≠ 0
      ∧ (stoppedOnBed.ch 0).mode = .hold ∧ (stoppedOnBed.ch 0).output = false := by
  decide

theorem test_hyp_ModeSet_1 :
    Awake line ∧ line.lp.placesInUse < 16 ∧ 3 ≤ (3 : Byte).toNat := by
  unfold Awake
  decide

theorem test_hyp_ModeSet_2 :
    (2 : Byte) = LineMode.echo.code ∧ ¬(line.lsv.lineState = .held) := by
  decide

theorem test_hyp_ModeSet_3 :
    heldByStart.lsv.lineState = .held
      ∧ (LineMode.echo = .echo → heldByStart.lsv.holds.start = true ∨
        heldByStart.lsv.holds.request = true)
      ∧ (∀ i, heldByStart.book i = none) ∧ heldByStart.lsv.mode ≠ .echo
      ∧ heldByStart.lsv.mode = .run := by
  decide

theorem test_hyp_LineResetEmptiesTheLine :
    Served line := by
  unfold Served
  decide

theorem test_hyp_BitChangedTaken_1 :
    Served line ∧ 20000 < (20001 : Half).toNat := by
  unfold Served
  decide

theorem test_hyp_BitChangedTaken_2 :
    (20000 : Half).toNat ≤ 20000 ∧ firstHole.issued .drill = true := by
  decide

theorem test_hyp_BitChangedTaken_3 :
    line.issued .drill = false ∧ ∀ f, line.fu.finish = some f → f.bitWait = false :=
  ⟨by decide, of_none rfl⟩

theorem test_hyp_BitChangedTaken_4 :
    bitWaiting.issued .drill = false
      ∧ bitWaiting.fu.finish = some { finish .drill with bitWait := true }
      ∧ bitWaiting.bookFormat 0 = some drilled ∧ drilled.drillHoles ≤ (2 : Half).toNat
      ∧ (1 : Half).toNat < drilled.drillHoles ∧ bitWaiting.lsv.lineState ≠ .safeStop := by
  decide

theorem test_hyp_BitChangedTaken_5 :
    Served (bitWaiting.inLine .safeStop) ∧ (bitWaiting.inLine .safeStop).issued .drill = false
      ∧ (bitWaiting.inLine .safeStop).bookFormat 0 = some drilled
      ∧ (bitWaiting.inLine .safeStop).lsv.lineState = .safeStop := by
  unfold Served
  decide

theorem test_hyp_RecoveryReadAndClear_1 :
    Awake line ∧ line.lp.placesInUse < 16 ∧ 8 ≤ (8 : Byte).toNat
      ∧ (7 : Byte) = natByte (7 : Slot).val ∧ line.lsv.mode ≠ .echo
      ∧ line.lsv.record.retentionValid = false ∧ (line.inMode .echo).lsv.mode = .echo := by
  unfold Awake
  decide

theorem test_hyp_RecoveryReadAndClear_2 :
    frozen.lsv.record.retentionValid = true := by
  decide

theorem test_hyp_GuardAndPowerWarning_1 :
    Awake line ∧ line.inputs.guardClosed = true ∧ line.inputs.powerWarning = false := by
  unfold Awake
  decide

theorem test_hyp_GuardAndPowerWarning_2 :
    alarmed.inputs.guardClosed = false ∧ alarmed.inputs.powerWarning = true := by
  decide

theorem test_hyp_CountersTransferredAndRead_1 :
    Awake line ∧ line.lp.placesInUse < 16 ∧ line.lsv.mode ≠ .echo
      ∧ line.ts.settings.reportMode = .manual := by
  unfold Awake
  decide

theorem test_hyp_CountersTransferredAndRead_2 :
    reportDue.ts.settings.reportMode = .periodic ∧ reportDue.lm.timer = some ⟨10000, 10000⟩ := by
  decide

theorem test_hyp_CountsAndLevelsReported_1 :
    Bank.read line.lm.work Counter.missing.index = ⟨0, false⟩ ∧ (65534 : Nat) < 65535 := by
  decide

theorem test_hyp_CountsAndLevelsReported_2 :
    Bank.read missingFull.lm.work Counter.missing.index = ⟨65535, false⟩ := by
  decide

theorem test_hyp_CountsAndLevelsReported_3 :
    line.lm.live.getLsbD Condition.held.number = true
      ∧ line.lm.live.getLsbD Condition.safeStop.number ≠ true := by
  decide

theorem test_hyp_EventsSetUpAndStatusRead :
    Served line ∧ (0x8000 : Half).getLsbD 15 = true ∧ (0x7FFF : Half).getLsbD 15 = false
      ∧ 3 ≤ (3 : Byte).toNat := by
  unfold Served
  decide

theorem test_hyp_ResetsLeaveTheSpecValues :
    Awake line ∧ ({ line with resetAsserted := true } : State).resetAsserted = true := by
  unfold Awake
  decide

theorem test_hyp_QueueBoundsKept :
    LinkBounds line ∧ CollectionBounds line :=
  ⟨by unfold LinkBounds; decide,
    by unfold CollectionBounds HistoryBounds; exact ⟨by decide, by decide, by decide, by decide, by decide⟩⟩

theorem test_hyp_DebtBoundsKept : DebtBounds line :=
  fun d => ⟨by revert d; decide, by revert d; decide, of_none (by revert d; decide)⟩

theorem test_hyp_RecordFollowsKept : RecordFollows line :=
  ⟨fun _ => ⟨by decide, rfl, rfl⟩, fun h => by cases h⟩

theorem test_hyp_StoppedIsQuietKept :
    Quiet ((line.withBook 7 (bookIn .collected)).inLine .safeStop) :=
  ⟨by decide,
    by decide,
    by decide,
    fun st => by cases st <;> decide⟩

theorem test_hyp_LineAgreesKept :
    LineAgrees line ∧ LineAgrees heldByStart ∧ Awake line ∧ line.lsv.lineState ≠ .safeStop
      ∧ LineAgrees freshWorking ∧ freshWorking.lsv.moved = false :=
  ⟨fun _ => by decide, fun _ => by decide, rfl, by decide, fun _ => by decide, rfl⟩

theorem test_hyp_BookReferencesKept :
    ReferencesCounted oneBook ∧ BooksDistinct (State.reset.withBook 7 (bookIn .opened)) := by
  refine ⟨fun f => ⟨by revert f; decide, by revert f; decide⟩, ?_⟩
  have e : ∀ i : Slot, i ≠ 7 → (State.reset.withBook 7 (bookIn .opened)).book i = none := by decide
  intro i j b c hi hj _
  by_cases x : i = 7
  · by_cases y : j = 7
    · rw [x, y]
    · rw [e j y] at hj
      cases hj
  · rw [e i x] at hi
    cases hi

/-- A state that uses slot 0 alone, its lifts counted, agrees in its lift counts. -/
theorem liftsAgree_of_slot (s : State) (b : Book) (h0 : s.book 0 = some b)
    (hb : b.liftsClosed = liftsUnderWay 0 s + b.liftsGathered
      ∧ (b.stage = .opened → b.liftsClosed = 0 ∧ b.placed = 0)
      ∧ (b.stage = .gathered ∨ b.stage = .finishing ∨ b.stage = .leaving → liftsUnderWay 0 s = 0))
    (h : ∀ i, i ≠ 0 → s.book i = none ∧ liftsUnderWay i s = 0) : LiftsAgree s := by
  intro i
  by_cases e : i = 0
  · subst e
    exact ⟨fun n => (by rw [h0] at n; cases n), of_some h0 hb⟩
  · exact ⟨fun _ => (h i e).2, of_none (h i e).1⟩

theorem test_hyp_StagesAgreeKept_1 : StagesAgree underWay :=
  ⟨of_none rfl, of_none rfl, fun n i h => (by cases h),
    liftsAgree_of_slot _ { bookIn .collecting with liftsClosed := 3, liftsGathered := 1 }
      (by decide) (by decide) (by decide),
    fun b f _ h => of_none (P := fun f => b.lift.slot ≠ f.book) rfl f h⟩

theorem test_hyp_StagesAgreeKept_2 :
    StagesAgree ((line.withBook 0 { bookIn .finishing with liftsGathered := 1 }).withFinish
      (finish .feed)) :=
  ⟨of_some rfl ⟨{ bookIn .finishing with liftsGathered := 1 }, by decide, Or.inl rfl⟩, of_none rfl,
    fun n i h => (by cases h),
    liftsAgree_of_slot _ { bookIn .finishing with liftsGathered := 1 } (by decide) (by decide)
      (by decide),
    fun b _ h _ => of_none
      (P := fun b : Bed => b.lift.slot ≠ _) rfl b h⟩

/-! ## Single steps and values -/

/-- The state after a command. -/
def after (i : Instr) (s : State) : State :=
  match exec i s with
  | .next t => t
  | _ => s

/-- A pin set from its positions. -/
def pins (l : List Nat) : BitVec 48 := l.foldl (fun p i => p ||| (1#48 <<< i)) 0

/-- The examples of patterns of chapter 3: entries 5, 7, 9 and 11. -/
theorem test_pattern_examples :
    (Pattern.mk (pins [3, 8, 15, 20, 27, 32, 39, 44]) false).driveSet = 0x0F#5
      ∧ (Pattern.mk (pins [3, 8, 15, 20, 27, 32, 39, 44]) false).holeCount = 8
      ∧ (Pattern.mk (pins [4, 10, 13, 19, 28, 34, 37, 43]) true).driveSet = 0x1F#5
      ∧ (Pattern.mk (pins [2, 6, 10, 37, 41, 45]) false).driveSet = 0x09#5
      ∧ (Pattern.mk (pins [2, 6, 10, 37, 41, 45]) false).holeCount = 6
      ∧ (Pattern.mk (pins [18, 22, 29]) true).check = false := by
  decide

/-- A drive of the example of chapter 3: base interval 4000 ms, half duration 600 ms. -/
def slowDrive (full : Nat) : DriveEntry :=
  { DriveEntry.default with baseInterval := 4000, mode := .fullOrQuarter, half := 600, full }

/-- The duration check of chapter 3 with base interval 4000 ms. -/
theorem test_duration_example :
    (slowDrive 499).durationsOk = true ∧ (slowDrive 600).durationsOk = false
      ∧ DriveEntry.default.durationsOk = true := by
  decide

/-- The first two expiries of the example of chapter 5: COOL +1, WARM +2. -/
theorem test_debt_example :
    ((after (.quarterIntervalExpiry 2)
        (line.setAccount 2
          { DriveAccount.reset .cool with debt := 3, length := some 1000, elapsed := 1000 }))
          |>.account 2).debt = 4
      ∧ ((after (.quarterIntervalExpiry 2)
        (line.setAccount 2
          { DriveAccount.reset .warm with debt := 4, length := some 1000, elapsed := 1000 }))
          |>.account 2).debt = 6 := by
  decide

/-- The lengths that 11.5 gives the status pages and the answer of RECOVERY READ. -/
theorem test_page_lengths :
    line.linePage.length = 32 ∧ line.drivesPage.length = 21 ∧ line.booksPage.length = 40
      ∧ (recordBytes none ++ exitBytes none ++ [0, 0]).length = 15 := by
  decide

/-- Book 5120's front board on its way, as 2.9 begins. -/
def boardComing : State :=
  State.withNotices [{ notice (some 2) false with leaf := 0, kind := .board, thickness := 1500 }]
    (State.withBook 2 { bookIn .collecting with placed := 0, liftsClosed := 0 }
      { line with lb := { line.lb with nextNumber := 37 } })

/-- A board sheet under board-alone closes its lift at once, with the next lift number (2.9). -/
theorem test_board_alone :
    ((after .infeedEdge boardComing).lb.queue.map
        fun l => (l.number, l.ordinal, l.kind, l.sheets, l.mode))
      = [(some 37, some 0, .board, 1, some .strike)] := by
  decide

/-- An opened guard stops the line; STOP CLEAR with the guard closed leaves it HELD. -/
theorem test_guard :
    (after .guardOpen line).lsv.lineState = .safeStop
      ∧ (after .guardOpen line).lsv.causes.guard = true
      ∧ (after (.stopClear 0 0) (line.inLine .safeStop)).lsv.lineState = .held := by
  decide

/-- RESUME from the state after reset is refused STATE: no channel is in its working mode. -/
theorem test_resume_after_reset :
    (after (.resume 3 0) State.reset).lp.queue = [.answer 3 0x0F Result.state.code []] := by
  decide

/-- After a reset RESUME changes the line state, so DUE of a DISABLED drive is tested and its request stands,
ungranted (R105). -/
theorem test_resume_tests_requests :
    freshWorking.purgeRequested 0 = false
      ∧ (after (.resume 0 0) freshWorking).purgeRequested 0 = true
      ∧ (after (.resume 0 0) freshWorking).driveState 0 = .disabled
      ∧ (after (.resume 0 0) freshWorking).grantable 0 = false := by
  decide

/-- After a reset a write that changes the chosen kind of drive 0 tests its reasons alone (R105). -/
theorem test_mode_write_tests_request :
    (after modeWrite State.reset).purgeRequested 0 = true
      ∧ (after modeWrite State.reset).purgeRequested 1 = false := by
  decide

/-- After a reset LINE RESET tests the reasons of every drive, with the line HELD (R113). -/
theorem test_line_reset_tests_requests :
    (∀ d, (after (.lineReset 0 0) State.reset).purgeRequested d = true)
      ∧ (after (.lineReset 0 0) State.reset).lsv.lineState = .held := by
  decide

/-- HOLD on an idle line makes it HELD at once. -/
theorem test_hold : (after (.hold 0 0) line).lsv.lineState = .held := by decide

/-- The frame of COUNTER READ with tag 7, fed character by character, is answered. -/
theorem test_lane :
    (match laneFeed (Frame.mk 0x0B 7 []).bytes line with
      | .next t => t.lp.queue.length
      | _ => 0) = 1 := by
  decide +kernel

/-- Power-on from any state of the line leaves the state after reset, its clock and queue aside. -/
theorem test_power_on :
    { after (.powerOn State.reset.inputs) line with time := 0 } = State.reset := by
  decide

/-- A step on an empty queue with nothing due is a unit of time. -/
theorem test_tick : (match step line with | .next t => t.time | _ => 0) = 100001 := by
  decide

end Sys2Proof.Tests
end

/-! Table Read (R62): the entry it names, the reply it gives, and the statement about it. -/

namespace Sys2Proof.Machine

open Sys2Proof Sys2Proof.Safety

/-! ## The entry a Table Read names (R60 check 1) -/

theorem readEntry_pattern (p : Fin 24) :
    readEntry 0 (natByte p.val) = some (.pattern p) := by
  simp [readEntry, readIndex_natByte]

theorem readEntry_format (f : FormatId) :
    readEntry 1 (natByte f.val) = some (.format f) := by
  simp [readEntry, readIndex_natByte]

theorem readEntry_drive (d : DriveId) :
    readEntry 2 (natByte d.val) = some (.drive d) := by
  simp [readEntry, readIndex_natByte]

theorem readEntry_settings : readEntry 3 0 = some .settings := rfl

/-- A selector that is none of the four names no entry. -/
theorem readEntry_none_of_selector {selector : Byte} (entry : Byte) (h : 3 < selector.toNat) :
    readEntry selector entry = none := by
  obtain ⟨n, e⟩ := Nat.exists_eq_add_of_le' h
  simp [readEntry, e]

/-- An unknown selector, or an entry number past the end of its table, names no entry. -/
theorem readEntry_none {selector entry : Byte}
    (h : 3 < selector.toNat ∨ (selector = 0 ∧ 24 ≤ entry.toNat) ∨ (selector = 1 ∧ 16 ≤ entry.toNat)
      ∨ (selector = 2 ∧ 5 ≤ entry.toNat) ∨ (selector = 3 ∧ entry ≠ 0)) :
    readEntry selector entry = none := by
  rcases h with unknown | ⟨rfl, past⟩ | ⟨rfl, past⟩ | ⟨rfl, past⟩ | ⟨rfl, nonzero⟩
  · exact readEntry_none_of_selector entry unknown
  · simp [readEntry, readIndex_none past]
  · simp [readEntry, readIndex_none past]
  · simp [readEntry, readIndex_none past]
  · exact if_neg nonzero

/-- A two-state field of 2 or more is out of range (R204). -/
theorem readFlag_none {b : Byte} (h : 2 ≤ b.toNat) : readFlag b = none := by
  have not_clear : b ≠ 0 := by rintro rfl; simp at h
  have not_set : b ≠ 1 := by rintro rfl; simp at h
  rw [readFlag, if_neg not_clear, if_neg not_set]

/-! ## What the reply carries -/

/-- The model's count of a pattern's holes is the number of positions that its pin set holds (R46). -/
theorem holeCount_eq_holes (p : Pattern) : p.holeCount = holes p := by
  unfold Pattern.holeCount holes
  rw [← List.map_coe_finRange_eq_range, List.countP_map, List.countP_eq_length_filter]
  rfl

theorem patternData_eq (p : Fin 24) (s : State) :
    s.patternData p =
      patternBytes (Bank.read s.ts.patterns p)
        ++ [natByte ((Bank.read s.ts.patterns p).elim 0 holes)] := by
  have count : Pattern.holeCount = holes := funext holeCount_eq_holes
  rw [State.patternData, count]

/-- With a staged copy present the pending flag is sent as 1. -/
theorem formatData_of_staged {e : FormatEntry} {c : Option Format} (h : e.staged = some c) :
    formatData c e = formatBytes c ++ [1, natByte e.refCount] := by
  simp [formatData, FormatEntry.pending, flagByte, h]

theorem readFormatEntry_active (f : FormatId) (s : State) :
    s.readFormatEntry f 0 =
      ⟨.done, formatData (Bank.read s.ts.formats f).active (Bank.read s.ts.formats f)⟩ := rfl

theorem readFormatEntry_staged {f : FormatId} {s : State} {c : Option Format}
    (h : (Bank.read s.ts.formats f).staged = some c) :
    s.readFormatEntry f 1 =
      ⟨.done, formatBytes c ++ [1, natByte (Bank.read s.ts.formats f).refCount]⟩ := by
  simp [State.readFormatEntry, readFlag, formatData_of_staged h, h]

theorem readFormatEntry_not_staged {f : FormatId} {s : State}
    (h : (Bank.read s.ts.formats f).staged = none) :
    s.readFormatEntry f 1 = .refuse .notFound := by
  simp [State.readFormatEntry, readFlag, h]

theorem readFormatEntry_unknown_copy (f : FormatId) {copy : Byte} (s : State)
    (h : 2 ≤ copy.toNat) : s.readFormatEntry f copy = .refuse .range := by
  rw [State.readFormatEntry, readFlag_none h]

/-! ## The reply of each table -/

theorem tableReply_pattern (p : Fin 24) (copy : Byte) (s : State) :
    s.tableReply 0 (natByte p.val) copy =
      ⟨.done, patternBytes (Bank.read s.ts.patterns p)
        ++ [natByte ((Bank.read s.ts.patterns p).elim 0 holes)]⟩ := by
  rw [State.tableReply, readEntry_pattern, ← patternData_eq]

theorem tableReply_format (f : FormatId) (copy : Byte) (s : State) :
    s.tableReply 1 (natByte f.val) copy = s.readFormatEntry f copy := by
  rw [State.tableReply, readEntry_format]

theorem tableReply_drive (d : DriveId) (copy : Byte) (s : State) :
    s.tableReply 2 (natByte d.val) copy = ⟨.done, driveBytes (Bank.read s.ts.drives d)⟩ := by
  rw [State.tableReply, readEntry_drive]

theorem tableReply_settings (copy : Byte) (s : State) :
    s.tableReply 3 0 copy = ⟨.done, settingsBytes s.ts.settings⟩ := by
  rw [State.tableReply, readEntry_settings]

/-- A read that names no entry is refused RANGE. -/
theorem tableReply_of_no_entry {selector entry : Byte} (copy : Byte) (s : State)
    (h : readEntry selector entry = none) : s.tableReply selector entry copy = .refuse .range := by
  rw [State.tableReply, h]

/-! ## Table Read -/

/-- A served Table Read leaves every unit but the Link Port alone, and its reply joins the queue. -/
theorem exec_tableRead_of_reply {s : State} (served : Served s) (tag : Byte)
    {selector entry copy : Byte} {r : Result} {data : List Byte}
    (reply : s.tableReply selector entry copy = ⟨r, data⟩) :
    exec (.tableRead tag selector entry copy) s =
      .next { s with lp := answered s.lp tag 0x05 r data } :=
  take_quiet served s ⟨r, data⟩ (congrArg (Prod.mk (admitted s)) reply)

/-- Settles O19: each clause is the reply of one table, which a served read queues and does nothing
beside. -/
theorem tableReadsAnswer : Obligations.TableReadsAnswer := by
  unfold Obligations.TableReadsAnswer
  intro s tag copy served
  refine ⟨fun p => ?pattern, fun f => ⟨?active, fun c present => ?staged, fun absent => ?notStaged,
    fun unknown => ?unknownCopy⟩, fun d => ?drive, ?settings,
    fun selector entry outside => ?noEntry, rfl, rfl⟩
  all_goals apply exec_tableRead_of_reply served tag
  case pattern => exact tableReply_pattern p copy s
  case active => exact (tableReply_format f 0 s).trans (readFormatEntry_active f s)
  case staged => exact (tableReply_format f 1 s).trans (readFormatEntry_staged present)
  case notStaged => exact (tableReply_format f 1 s).trans (readFormatEntry_not_staged absent)
  case unknownCopy =>
    exact (tableReply_format f copy s).trans (readFormatEntry_unknown_copy f s unknown)
  case drive => exact tableReply_drive d copy s
  case settings => exact tableReply_settings copy s
  case noEntry => exact tableReply_of_no_entry copy s (readEntry_none outside)

end Sys2Proof.Machine

/-! Recovery Read and Recovery Clear (R171): the reply and the record each leaves, the frame that ECHO
returns (R199), and the statement about them. -/

namespace Sys2Proof.Machine

open Sys2Proof Sys2Proof.Safety

/-! ## A frame returned in ECHO (R199) -/

/-- With a place free, a returned frame joins the queue. -/
theorem LinkPort.echo_of_free {l : LinkPort} (free : l.placesInUse < 16) (f : Frame) :
    l.echo f = { l with queue := l.queue ++ [.echoed f] } :=
  if_pos free

/-- In ECHO a request other than SET MODE that finds a place free joins the queue as it came, and
nothing else happens. -/
theorem take_echoed_of_free {f : Frame} {act : State → State × Reply} {s : State} (awake : Awake s)
    (echo : s.lsv.mode = .echo) (notSetMode : f.isSetMode = false) (free : s.lp.placesInUse < 16) :
    takeRequest f act s = .next
      { s with lp := { s.lp with receiver := .hunting, queue := s.lp.queue ++ [.echoed f] } } := by
  have huntFree : s.lp.hunt.placesInUse < 16 := free
  rw [take_echoed awake echo notSetMode, LinkPort.echo_of_free huntFree]
  rfl

/-! ## The reply of Recovery Read and the record after Recovery Clear -/

theorem recoveryReply_slot (i : Slot) (s : State) :
    s.recoveryReply (natByte i.val) = ⟨.done, s.lsv.record.data i⟩ := by
  rw [State.recoveryReply, readIndex_natByte (by decide)]

/-- A slot number above 7 is refused RANGE. -/
theorem recoveryReply_range {slot : Byte} (above : 8 ≤ slot.toNat) (s : State) :
    s.recoveryReply slot = .refuse .range := by
  rw [State.recoveryReply, readIndex_none above]

/-- A record that is not frozen is left as it is. -/
theorem recoveryClear_of_following {s : State} (following : s.lsv.record.retentionValid = false) :
    s.recoveryClear = s := by
  rw [State.recoveryClear, following]
  rfl

/-- A frozen record follows the Book Table and the live last exit again (R169). -/
theorem recoveryClear_of_frozen {s : State} (frozen : s.lsv.record.retentionValid = true) :
    s.recoveryClear = s.setRecord s.followingRecord :=
  if_pos frozen

/-! ## The two requests -/

/-- A served Recovery Read changes no state: its reply joins the queue. -/
theorem exec_recoveryRead_of_reply {s : State} (served : Served s) (tag : Byte) {slot : Byte}
    {r : Result} {data : List Byte} (reply : s.recoveryReply slot = ⟨r, data⟩) :
    exec (.recoveryRead tag slot) s = .next { s with lp := answered s.lp tag 0x11 r data } :=
  take_quiet served s ⟨r, data⟩ (congrArg (Prod.mk (admitted s)) reply)

/-- A served Recovery Clear of a record that follows the tables is answered DONE and changes nothing. -/
theorem exec_recoveryClear_of_following {s : State} (served : Served s) (tag : Byte)
    (following : s.lsv.record.retentionValid = false) :
    exec (.recoveryClear tag) s = .next { s with lp := answered s.lp tag 0x12 .done [] } :=
  have stays : (admitted s).recoveryClear = admitted s := recoveryClear_of_following following
  take_quiet served s .done (congrArg doneWith stays)

/-- A served Recovery Clear of a frozen record is answered DONE, and the record alone is taken afresh. -/
theorem exec_recoveryClear_of_frozen {s : State} (served : Served s) (tag : Byte)
    (frozen : s.lsv.record.retentionValid = true) :
    exec (.recoveryClear tag) s =
      .next { s.setRecord s.followingRecord with lp := answered s.lp tag 0x12 .done [] } :=
  have follows : (admitted s).recoveryClear = (admitted s).setRecord s.followingRecord :=
    recoveryClear_of_frozen frozen
  take_quiet served (s.setRecord s.followingRecord) .done (congrArg doneWith follows)

/-- Settles O47: outside ECHO the slot number and the freezing of the record decide the reply and the
record; in ECHO both frames are returned. The line state is asked for nowhere. -/
theorem recoveryReadAndClear : Obligations.RecoveryReadAndClear := by
  unfold Obligations.RecoveryReadAndClear
  refine ⟨fun s tag slot awake free => ⟨fun notEcho => ?outsideEcho, fun echo => ?inEcho⟩,
    fun _ => rfl, fun _ => rfl⟩
  case outsideEcho =>
    have served : Served s := ⟨awake, notEcho, free⟩
    refine ⟨fun above => ?range, fun i named => ?slotRead, fun following => ?following,
      fun frozen => ?frozen⟩
    case range => exact exec_recoveryRead_of_reply served tag (recoveryReply_range above s)
    case slotRead =>
      subst named
      exact exec_recoveryRead_of_reply served tag (recoveryReply_slot i s)
    case following => exact exec_recoveryClear_of_following served tag following
    case frozen => exact exec_recoveryClear_of_frozen served tag frozen
  case inEcho =>
    exact ⟨take_echoed_of_free awake echo rfl free, take_echoed_of_free awake echo rfl free⟩

end Sys2Proof.Machine

/-! Invalid entries and empty places (R205, R206): a Table Write with Valid 0, the zeros that an invalid
entry reads back as, the fields of the channel status byte, and the statement about them. -/

namespace Sys2Proof.Machine

open Sys2Proof Sys2Proof.Safety

/-! ## Contents written with Valid 0 (R206) -/

theorem readPattern_of_valid_zero {rest : List Byte} (length : rest.length = 7) :
    readPattern (0 :: rest) = some none := by
  match rest, length with
  | [_, _, _, _, _, _, _], _ => rfl

theorem readFormat_of_valid_zero (patterns : Vector (Option Pattern) 24) {rest : List Byte}
    (length : rest.length = 9) : readFormat patterns (0 :: rest) = some none := by
  match rest, length with
  | [_, _, _, _, _, _, _, _, _], _ => rfl

/-! ## The copies that name a pattern (R54) -/

theorem copyNames_iff (p : Fin 24) (c : Option Format) :
    copyNames p c = true ↔ ∃ f, c = some f ∧ f.pattern = p := by
  cases c <;> simp [copyNames]

/-- The model's test for a valid copy that names the pattern says what the statements say. -/
theorem patternNamed_iff (p : Fin 24) (s : State) :
    s.ts.patternNamed p = true ↔ NamedByCopy p s := by
  simp only [TableStore.patternNamed, List.any_eq_true, List.mem_finRange, true_and,
    Bool.or_eq_true, Option.any_eq_true, copyNames_iff, NamedByCopy]
  refine exists_congr fun i => ⟨?_, ?_⟩
  · rintro (⟨f, active, named⟩ | ⟨c, staged, f, rfl, named⟩)
    · exact ⟨f, named, .inl active⟩
    · exact ⟨f, named, .inr staged⟩
  · rintro ⟨f, named, active | staged⟩
    · exact .inl ⟨f, active, named⟩
    · exact .inr ⟨some f, staged, f, rfl, named⟩

/-! ## Where a format copy is placed (R51) -/

theorem FormatEntry.target_of_unbound {e : FormatEntry} (unbound : e.refCount = 0) :
    e.target = .active :=
  if_pos unbound

theorem FormatEntry.target_of_bound {e : FormatEntry} (bound : 0 < e.refCount) :
    e.target = .staged :=
  if_neg bound.ne'

theorem FormatEntry.place_of_unbound {e : FormatEntry} (c : Option Format)
    (unbound : e.refCount = 0) : e.place c = { e with active := c } := by
  rw [FormatEntry.place, target_of_unbound unbound]

theorem FormatEntry.place_of_bound {e : FormatEntry} (c : Option Format)
    (bound : 0 < e.refCount) : e.place c = { e with staged := some c } := by
  rw [FormatEntry.place, target_of_bound bound]

/-! ## Table Write (R60) -/

/-- A write whose contents have the length of the entry that it names is a write to that entry. -/
theorem readWritten_of_entry {selector entry : Byte} {contents : List Byte} {e : TableEntry}
    (named : readEntry selector entry = some e) (length : contents.length = e.length) :
    readWritten selector entry contents = some e := by
  simp [readWritten, named, length]

theorem tableWrite_pattern (p : Fin 24) {contents : List Byte} (length : contents.length = 8)
    (s : State) : s.tableWrite 0 (natByte p.val) contents = s.writePattern p contents := by
  rw [State.tableWrite, readWritten_of_entry (readEntry_pattern p) length]

theorem tableWrite_format (f : FormatId) {contents : List Byte} (length : contents.length = 10)
    (s : State) : s.tableWrite 1 (natByte f.val) contents = s.writeFormat f contents := by
  rw [State.tableWrite, readWritten_of_entry (readEntry_format f) length]

/-- A pattern that no valid copy names is made invalid. -/
theorem writePattern_invalid {p : Fin 24} {contents : List Byte} {s : State}
    (read : readPattern contents = some none) (unnamed : ¬NamedByCopy p s) :
    s.writePattern p contents = doneWith (s.setPattern p none) := by
  have free : s.ts.patternBusy p none = false :=
    Bool.eq_false_iff.mpr fun busy => unnamed ((patternNamed_iff p s).mp busy)
  simp [State.writePattern, read, free]

/-- A format whose contents are within range takes them in the copy that its reference count decides. -/
theorem writeFormat_of_read {f : FormatId} {contents : List Byte} {c : Option Format} {s : State}
    (read : readFormat s.ts.patterns contents = some c) :
    s.writeFormat f contents =
      ({ s with ts := s.ts.modifyFormat f (FormatEntry.place c) },
        ⟨.done, [(Bank.read s.ts.formats f).target.code]⟩) := by
  rw [State.writeFormat, read]

/-- A served Table Write that changes the Table Store alone, and its answer joins the queue. -/
theorem exec_tableWrite_of_stored {s : State} (served : Served s) (tag : Byte)
    {selector entry : Byte} {contents : List Byte} {stored : TableStore} {r : Result}
    {data : List Byte} (length : contentsLengthOk contents.length = true)
    (written : (admitted s).tableWrite selector entry contents =
      ({ admitted s with ts := stored }, ⟨r, data⟩)) :
    exec (.tableWrite tag selector entry contents) s =
      .next { s with ts := stored, lp := answered s.lp tag 0x04 r data } :=
  (if_pos length).trans (take_quiet served { s with ts := stored } ⟨r, data⟩ written)

theorem exec_tableWrite_pattern_invalid {s : State} (served : Served s) (tag : Byte) {p : Fin 24}
    {rest : List Byte} (length : rest.length = 7) (unnamed : ¬NamedByCopy p s) :
    exec (.tableWrite tag 0 (natByte p.val) (0 :: rest)) s = .next
      { s with
        ts := { s.ts with patterns := Bank.write s.ts.patterns p none }
        lp := answered s.lp tag 0x04 .done [] } := by
  have whole : (0 :: rest).length = 8 := congrArg (· + 1) length
  apply exec_tableWrite_of_stored served tag (by rw [whole]; rfl)
  rw [tableWrite_pattern p whole]
  exact writePattern_invalid (readPattern_of_valid_zero length) unnamed

/-- A format write with Valid 0 places an invalid copy. -/
theorem exec_tableWrite_format_invalid {s : State} (served : Served s) (tag : Byte) (f : FormatId)
    {rest : List Byte} (length : rest.length = 9) :
    exec (.tableWrite tag 1 (natByte f.val) (0 :: rest)) s = .next
      { s with
        ts := s.ts.modifyFormat f (FormatEntry.place none)
        lp := answered s.lp tag 0x04 .done [(Bank.read s.ts.formats f).target.code] } := by
  have whole : (0 :: rest).length = 10 := congrArg (· + 1) length
  apply exec_tableWrite_of_stored served tag (by rw [whole]; rfl)
  rw [tableWrite_format f whole]
  exact writeFormat_of_read (readFormat_of_valid_zero _ length)

/-! ## Reading an invalid entry (R62, R206) -/

theorem tableReply_pattern_invalid {p : Fin 24} (copy : Byte) {s : State}
    (invalid : Bank.read s.ts.patterns p = none) :
    s.tableReply 0 (natByte p.val) copy = ⟨.done, List.replicate 9 0⟩ := by
  rw [tableReply_pattern, invalid]
  rfl

theorem tableReply_format_active_invalid {f : FormatId} {s : State}
    (invalid : (Bank.read s.ts.formats f).active = none) :
    s.tableReply 1 (natByte f.val) 0 =
      ⟨.done, List.replicate 10 0 ++ [flagByte (Bank.read s.ts.formats f).pending,
        natByte (Bank.read s.ts.formats f).refCount]⟩ := by
  rw [tableReply_format, readFormatEntry_active, invalid]
  rfl

theorem tableReply_format_staged_invalid {f : FormatId} {s : State}
    (invalid : (Bank.read s.ts.formats f).staged = some none) :
    s.tableReply 1 (natByte f.val) 1 =
      ⟨.done, List.replicate 10 0 ++ [1, natByte (Bank.read s.ts.formats f).refCount]⟩ := by
  rw [tableReply_format, readFormatEntry_staged invalid]
  rfl

/-! ## The channel status byte (R205) -/

theorem Source.code_bit (x : Source) : x.code.getLsbD 0 = decide (x = .travel) := by
  cases x <;> rfl

/-- The status byte bit by bit, each bit taken from its field, the lowest field first. -/
theorem CapturedStatus.byte_getLsbD (x : CapturedStatus) (i : Nat) :
    x.byte.getLsbD i =
      if i < 3 then (x.mode.code.extractLsb' 0 3).getLsbD i
      else if i - 3 < 1 then (x.source.code.extractLsb' 0 1).getLsbD (i - 3)
      else if i - 3 - 1 < 1 then (BitVec.ofBool x.output).getLsbD (i - 3 - 1)
      else if i - 3 - 1 - 1 < 2 then (x.phase.code.extractLsb' 0 2).getLsbD (i - 3 - 1 - 1)
      else (BitVec.ofBool x.pending).getLsbD (i - 3 - 1 - 1 - 2) := by
  change BitVec.getLsbD (w := 1 + 2 + 1 + 1 + 3) (_ ++ _) i = _
  simp only [BitVec.getLsbD_append]

theorem CapturedStatus.byte_mode (x : CapturedStatus) :
    x.byte.extractLsb' 0 3 = x.mode.code.extractLsb' 0 3 :=
  BitVec.extractLsb'_append_eq_right

theorem CapturedStatus.byte_source (x : CapturedStatus) :
    x.byte.getLsbD 3 = decide (x.source = .travel) :=
  calc
    x.byte.getLsbD 3 = x.source.code.getLsbD 0 := (x.byte_getLsbD 3).trans (by simp)
    _ = decide (x.source = .travel) := x.source.code_bit

theorem CapturedStatus.byte_output (x : CapturedStatus) : x.byte.getLsbD 4 = x.output :=
  (x.byte_getLsbD 4).trans (by simp)

/-- The fields below the phase are taken off one after another, then the one above it. -/
theorem CapturedStatus.byte_phase (x : CapturedStatus) :
    x.byte.extractLsb' 5 2 = x.phase.code.extractLsb' 0 2 :=
  calc
    x.byte.extractLsb' 5 2
    _ = (BitVec.ofBool x.pending ++ x.phase.code.extractLsb' 0 2 ++ BitVec.ofBool x.output
          ++ x.source.code.extractLsb' 0 1).extractLsb' 2 2 :=
      BitVec.extractLsb'_append_eq_of_le (by decide)
    _ = (BitVec.ofBool x.pending ++ x.phase.code.extractLsb' 0 2
          ++ BitVec.ofBool x.output).extractLsb' 1 2 :=
      BitVec.extractLsb'_append_eq_of_le (by decide)
    _ = (BitVec.ofBool x.pending ++ x.phase.code.extractLsb' 0 2).extractLsb' 0 2 :=
      BitVec.extractLsb'_append_eq_of_le (by decide)
    _ = x.phase.code.extractLsb' 0 2 := BitVec.extractLsb'_append_eq_right

theorem CapturedStatus.byte_pending (x : CapturedStatus) : x.byte.getLsbD 7 = x.pending :=
  (x.byte_getLsbD 7).trans (by simp)

/-- Settles O20: with Valid 0 the reader looks at no other byte, so the write places an invalid entry;
the reads are those of an invalid entry, and each field of the status byte stands at its bits. -/
theorem invalidAndEmptyPlacesAreZeros : Obligations.InvalidAndEmptyPlacesAreZeros := by
  unfold Obligations.InvalidAndEmptyPlacesAreZeros
  refine ⟨fun s tag rest served => ⟨fun p length unnamed => ?patternWrite,
    fun f length unbound => ?activeWrite, fun f length bound => ?stagedWrite,
    fun p copy invalid => ?patternRead, fun f invalid => ?activeRead,
    fun f invalid => ?stagedRead⟩, rfl, rfl, rfl, fun x => ?statusByte⟩
  case patternWrite => exact exec_tableWrite_pattern_invalid served tag length unnamed
  case activeWrite =>
    rw [exec_tableWrite_format_invalid served tag f length, TableStore.modifyFormat,
      FormatEntry.place_of_unbound none unbound, FormatEntry.target_of_unbound unbound]
    rfl
  case stagedWrite =>
    rw [exec_tableWrite_format_invalid served tag f length, TableStore.modifyFormat,
      FormatEntry.place_of_bound none bound, FormatEntry.target_of_bound bound]
    rfl
  case patternRead =>
    exact exec_tableRead_of_reply served tag (tableReply_pattern_invalid copy invalid)
  case activeRead =>
    exact ⟨_, _, exec_tableRead_of_reply served tag (tableReply_format_active_invalid invalid)⟩
  case stagedRead =>
    exact ⟨_, _, exec_tableRead_of_reply served tag (tableReply_format_staged_invalid invalid)⟩
  case statusByte =>
    exact ⟨x.byte_mode, x.byte_source, x.byte_output, x.byte_phase, x.byte_pending⟩

end Sys2Proof.Machine

/-! The shared operations as chains of primitive updates: each operation is shown once to be such a chain, and
what every primitive update keeps, or relates, follows for every operation. -/

namespace Sys2Proof.Machine

open Sys2Proof Sys2Proof.Safety

set_option Elab.async false

/-! ## Primitive updates -/

/-- The debt of an account lies within its bounds and its purge in flight can be paid (R95). -/
def DriveAccount.Payable (a : DriveAccount) : Prop :=
  -32 ≤ a.debt ∧ a.debt ≤ 32 ∧ ∀ p, a.purge = some p → -32 ≤ a.debt - p.payment

/-- What of a Book Table entry does not change while it lives: its id and its format (R1). -/
def Book.name (b : Book) : Half × FormatId := (b.id, b.format)

/-- One primitive update that the shared operations are made of. None of them stops the line or ends its stop. -/
inductive Move : State → State → Prop where
  | notice (u : Upstream) (s : State) : Move s (s.notify u)
  | report (c : Condition) (p : Bool) (s : State) : Move s (s.reportLevel c p)
  | occur (c : Condition) (s : State) : Move s (s.occur c)
  | count (k : Counter) (s : State) : Move s (s.count k)
  | line (l : LineState) (s : State) (before : s.lsv.lineState ≠ .safeStop) (after : l ≠ .safeStop) :
      Move s { s with lsv := { s.lsv with lineState := l, moved := true } }
  | holds (h : HoldSources) (s : State) : Move s (s.setHolds h)
  | book (i : Slot) (b : Option Book) (s : State) (same : b.map Book.name = (s.book i).map Book.name) :
      Move s (s.setBook i b)
  | remove (i : Slot) (s : State) : Move s (s.removeBook i)
  | intake (x : SheetIntake) (s : State) (books : x.books = s.si.books)
      (room : x.notices.length ≤ s.si.notices.length ∨ x.notices.length ≤ 16) : Move s { s with si := x }
  | builder (x : LiftBuilder) (s : State)
      (room : x.queue.length ≤ s.lb.queue.length ∨ x.queue.length ≤ 12) : Move s { s with lb := x }
  | scheduler (x : StrikeScheduler) (s : State)
      (history : x.history = s.ss.history ∨ x.history = pushHistory s.nowMs s.ss.history) :
      Move s { s with ss := x }
  | orders (v : Vector (Option Order) 6) (s : State) : Move s { s with orders := v }
  | channels (v : Vector Channel 9) (s : State) : Move s { s with tcu := v }
  | finish (x : FinishUnit) (s : State) : Move s { s with fu := x }
  | accounts (v : Vector DriveAccount 5) (s : State)
      (pay : ∀ d, (s.account d).Payable → (Bank.read v d).Payable) :
      Move s { s with pc := { s.pc with drives := v } }

/-- A chain of primitive updates. -/
def Moves : State → State → Prop := Relation.ReflTransGen Move

theorem Moves.refl (s : State) : Moves s s := Relation.ReflTransGen.refl

theorem Moves.trans {s t u : State} (a : Moves s t) (b : Moves t u) : Moves s u :=
  Relation.ReflTransGen.trans a b

theorem Move.moves {s t : State} (m : Move s t) : Moves s t := Relation.ReflTransGen.single m

/-- A reflexive and transitive relation that every primitive update meets holds along a chain of them. -/
theorem Moves.relates {s t : State} (R : State → State → Prop) (m : Moves s t) (refl : ∀ s, R s s)
    (trans : ∀ {s t u}, R s t → R t u → R s u) (one : ∀ {s t}, Move s t → R s t) : R s t := by
  induction m with
  | refl => exact refl s
  | tail _ b ih => exact trans ih (one b)

/-- What every primitive update keeps, a chain of them keeps. -/
theorem Moves.keeps {s t : State} {P : State → Prop} (m : Moves s t)
    (one : ∀ {s t}, Move s t → P s → P t) (h : P s) : P t :=
  m.relates (fun s t => P s → P t) (fun _ h => h) (fun a b h => b (a h)) one h

/-- A choice between two chains is a chain. -/
theorem Moves.ite {p : Prop} [Decidable p] {s t u : State} (a : p → Moves s t) (b : ¬p → Moves s u) :
    Moves s (if p then t else u) := by
  split
  · exact a ‹_›
  · exact b ‹_›

/-! ## Flags, holds and the line state -/

theorem moves_syncPause (s : State) : Moves s s.syncPause := (Move.report _ _ s).moves

theorem moves_moveLine {l : LineState} {s : State} (before : s.lsv.lineState ≠ .safeStop)
    (after : l ≠ .safeStop) : Moves s (s.moveLine l) :=
  (((Move.line l s before after).moves.trans (Move.report _ _ _).moves).trans
    (Move.report _ _ _).moves).trans (moves_syncPause _)

theorem moves_addHold (x : HoldSource) (s : State) : Moves s (s.addHold x) := by
  refine (Move.holds (s.lsv.holds.put x true) s).moves.trans (Moves.ite (fun r => ?_) fun _ => .refl _)
  exact moves_moveLine (by rw [r]; decide) (by decide)

theorem moves_releaseIfFree (s : State) : Moves s s.releaseIfFree := by
  refine Moves.ite (fun h => moves_moveLine ?_ (by decide)) fun _ => .refl s
  rcases h.2 with e | e <;> rw [e] <;> decide

theorem moves_dropHold (x : HoldSource) (s : State) : Moves s (s.dropHold x) :=
  (Move.holds _ s).moves.trans (moves_releaseIfFree _)

theorem moves_presentHold (x : HoldSource) (on : Bool) (s : State) : Moves s (s.presentHold x on) :=
  .ite (fun _ => .refl s) fun _ => .ite (fun _ => moves_addHold x s) fun _ => moves_dropHold x s

theorem moves_follow (c : Condition) (x : HoldSource) (on : Bool) (s : State) :
    Moves s (s.follow c x on) :=
  (Move.report c on s).moves.trans (moves_presentHold x on _)

theorem SheetIntake.streak_books (e : StreakEvent) (x : LineSettings) (si : SheetIntake) :
    (si.streak e x).books = si.books ∧ (si.streak e x).notices = si.notices := by
  unfold SheetIntake.streak
  cases e <;> cases si.registration <;> dsimp only <;> split <;> exact ⟨rfl, rfl⟩

theorem moves_updateRegistration (e : StreakEvent) (s : State) : Moves s (s.updateRegistration e) := by
  obtain ⟨books, notices⟩ := SheetIntake.streak_books e s.ts.settings s.si
  exact (Move.intake _ s books (by simp [notices])).moves.trans (Move.report _ _ _).moves

/-! ## Books, channels and orders -/

theorem moves_modifyBook (i : Slot) {f : Book → Book} (s : State) (same : ∀ b, (f b).name = b.name) :
    Moves s (s.modifyBook i f) :=
  (Move.book i _ s (by cases s.book i <;> simp [same])).moves

theorem Book.advance_name (a b : Stage) (k : Book) : (k.advance a b).name = k.name := by
  unfold Book.advance
  split <;> rfl

theorem Book.addFault_name (c : FaultCause) (k : Book) : (k.addFault c).name = k.name := by
  unfold Book.addFault
  split <;> rfl

theorem moves_advance (i : Slot) (a b : Stage) (s : State) : Moves s (s.modifyBook i (Book.advance a b)) :=
  moves_modifyBook i s (Book.advance_name a b)

theorem moves_sendOutcome (o : BookOutcome) (b : Book) (s : State) : Moves s (s.sendOutcome o b) :=
  .ite (fun _ => (Move.notice _ s).moves) fun _ => .refl s

theorem moves_removeEmpty (i : Slot) (s : State) : Moves s (s.removeEmpty i) := by
  unfold State.removeEmpty
  split
  · exact .refl s
  · exact ((moves_sendOutcome _ _ s).trans (Move.count _ _).moves).trans (Move.remove i _).moves

theorem moves_setCh (i : ChannelId) (c : Channel) (s : State) : Moves s (s.setCh i c) :=
  (Move.channels _ s).moves

theorem moves_triggerStrobe (i : ChannelId) (s : State) : Moves s (s.triggerStrobe i) :=
  .ite (fun _ => .ite (fun _ => (Move.occur _ s).moves) fun _ => moves_setCh _ _ s) fun _ => .refl s

theorem moves_triggerClamp (s : State) : Moves s s.triggerClamp :=
  .ite (fun _ => moves_setCh _ _ s) fun _ => .refl s

theorem moves_startFeed (budget : Nat) (s : State) : Moves s (s.startFeed budget) :=
  .ite (fun _ => .ite (fun _ => (Move.occur _ s).moves) fun _ => moves_setCh _ _ s) fun _ => .refl s

theorem moves_setDrive (d : DriveId) (r : DriveRecord) (s : State) : Moves s (s.setDrive d r) :=
  (Move.scheduler _ s (.inl (by rfl))).moves

theorem moves_setBed (b : Option Bed) (s : State) : Moves s (s.setBed b) :=
  (Move.scheduler _ s (.inl (by rfl))).moves

theorem moves_setOrder (st : Station) (o : Option Order) (s : State) : Moves s (s.setOrder st o) :=
  (Move.orders _ s).moves

theorem moves_syncStationWait (s : State) : Moves s s.syncStationWait := moves_follow _ _ _ s

theorem moves_makeOrder (j : Job) (s : State) : Moves s (s.makeOrder j) := moves_setOrder _ _ s

theorem moves_endOrder (st : Station) (s : State) : Moves s (s.endOrder st) :=
  (moves_setOrder st none s).trans (moves_syncStationWait _)

theorem moves_testRest (s : State) : Moves s s.testRest :=
  .ite (fun h => moves_moveLine (by rw [h.1]; decide) (by decide)) fun _ => .refl s

/-! ## Faults -/

theorem moves_setFinish (f : Option Finish) (s : State) : Moves s (s.setFinish f) :=
  (Move.finish _ s).moves

theorem moves_startExit (f : Finish) (s : State) : Moves s (s.startExit f) :=
  ((moves_setFinish _ s).trans (moves_advance _ _ _ _)).trans (moves_makeOrder _ _)

theorem moves_unblock (f : Finish) (s : State) : Moves s (s.unblock f) :=
  (moves_setFinish _ s).trans (moves_follow _ _ _ _)

theorem moves_withdrawForExit (st : Station) (f : Finish) (s : State) :
    Moves s (s.withdrawForExit st f) :=
  .ite (fun _ => (moves_endOrder st s).trans (moves_startExit f _)) fun _ => .refl s

theorem moves_reactToFault (f : Finish) (s : State) : Moves s (s.reactToFault f) := by
  unfold State.reactToFault
  cases f.step <;> dsimp only
  case drill =>
    exact .ite
      (fun _ => (moves_unblock f s).trans (.ite (fun _ => .refl _) fun _ => moves_startExit _ _))
      fun _ => moves_withdrawForExit _ f s
  case feed => exact .ite (fun _ => .refl s) fun _ => moves_startExit f s
  case hanger => exact moves_withdrawForExit _ f s
  case close => exact moves_withdrawForExit _ f s
  all_goals exact .refl s

theorem moves_tellFinish (i : Slot) (s : State) : Moves s (s.tellFinish i) := by
  unfold State.tellFinish
  split
  · exact .refl s
  · exact .ite (fun _ => moves_reactToFault _ s) fun _ => .refl s

theorem moves_raiseFault (i : Slot) (c : FaultCause) (s : State) : Moves s (s.raiseFault i c) :=
  .ite (fun _ => (moves_modifyBook i s (Book.addFault_name c)).trans (moves_tellFinish i _))
    fun _ => .refl s

/-! ## Lifts -/

theorem moves_testComplete (i : Slot) (s : State) : Moves s (s.testComplete i) :=
  .ite (fun _ => moves_advance _ _ _ s) fun _ => .refl s

theorem moves_collectionEnded (i : Slot) (s : State) : Moves s (s.collectionEnded i) :=
  (moves_advance i _ _ s).trans
    (.ite (fun _ => moves_removeEmpty i _) fun _ => moves_testComplete i _)

theorem moves_setOpenLift (l : Option Lift) (s : State) : Moves s (s.setOpenLift l) :=
  (Move.builder _ s (.inl (by exact le_rfl))).moves

theorem moves_liftJoined (s : State) : Moves s s.liftJoined :=
  (Move.builder s.lb.joined s (.inl (by exact le_rfl))).moves.trans (moves_syncPause _)

theorem moves_liftLeft (s : State) : Moves s s.liftLeft :=
  (Move.builder s.lb.left s (.inl (by exact le_rfl))).moves.trans (moves_syncPause _)

theorem moves_append {l : Lift} {s : State} (room : s.lb.queue.length < 12) :
    Moves s { s with lb := s.lb.append l } :=
  (Move.builder _ s (.inr (by simpa [LiftBuilder.append] using room))).moves

theorem moves_closeInto {l : Lift} {b : Book} {s : State} (room : s.lb.queue.length < 12) :
    Moves s (s.closeInto l b) := by
  have faulted : Moves s (if l.short b then s.raiseFault l.slot .short else s) :=
    .ite (fun _ => moves_raiseFault _ _ s) fun _ => .refl s
  have queue : (if l.short b then s.raiseFault l.slot .short else s).lb = s.lb := by
    split <;> simp
  unfold State.closeInto
  dsimp only
  generalize (if l.short b then s.raiseFault l.slot .short else s) = t at faulted queue ⊢
  have appended := faulted.trans (moves_append
    (l := l.close t.lb.nextNumber b.liftsClosed (t.closingMode l.slot)) (queue ▸ room))
  refine appended.trans ?_
  generalize { t with lb := t.lb.append (l.close t.lb.nextNumber b.liftsClosed (t.closingMode l.slot)) } = u
  refine (moves_modifyBook l.slot (f := fun b => { b with liftsClosed := b.liftsClosed + 1 }) u
    fun _ => rfl).trans ?_
  generalize u.modifyBook l.slot (fun b => { b with liftsClosed := b.liftsClosed + 1 }) = v
  exact (Moves.ite (fun _ => moves_collectionEnded _ v) fun _ => .refl v).trans (moves_liftJoined _)

theorem moves_overrun (l : Lift) (s : State) : Moves s (s.overrun l) :=
  (moves_setOpenLift _ s).trans (moves_raiseFault _ _ _)

theorem moves_closeLift (s : State) : Moves s s.closeLift := by
  unfold State.closeLift
  split
  · exact .refl s
  · refine .ite (fun room => ?_) fun _ => moves_overrun _ s
    split
    · exact moves_closeInto room
    · exact .refl s

/-- The Lift Builder, the Strike Scheduler and the Finish Unit take values. -/
theorem moves_marked {x : LiftBuilder} {y : StrikeScheduler} {z : FinishUnit} {s : State}
    (room : x.queue.length ≤ s.lb.queue.length) (history : y.history = s.ss.history) :
    Moves s { s with lb := x, ss := y, fu := z } :=
  ((Move.builder x s (.inl room)).moves.trans
    (Move.scheduler y { s with lb := x } (.inl history)).moves).trans
    (Move.finish z { s with lb := x, ss := y }).moves

theorem moves_markLastLift (i : Slot) (s : State) : Moves s (s.markLastLift i) :=
  moves_marked (by simp) rfl

theorem moves_endCollection (i : Slot) (s : State) : Moves s (s.endCollection i) := by
  unfold State.endCollection
  split
  · exact (moves_markLastLift i s).trans (moves_collectionEnded i _)
  · refine .ite (fun _ => ?_) fun _ => (moves_markLastLift i s).trans (moves_collectionEnded i _)
    exact (moves_setOpenLift _ s).trans (.ite (fun _ => .refl _) fun _ => moves_closeLift _)

theorem moves_decline (x : Sheet) (s : State) : Moves s (s.decline x) :=
  .ite (fun _ => moves_endCollection _ s) fun _ => .refl s

theorem moves_joinSheet (x : Sheet) (f : Format) (s : State) : Moves s (s.joinSheet x f) :=
  ((moves_setOpenLift _ s).trans (moves_modifyBook x.slot
    (f := fun b => { b with placed := b.placed + 1 }) _ fun _ => rfl)).trans (Move.count _ _).moves

/-- A declined sheet, by its fault (R16, R31, R42). -/
theorem moves_faultAndDecline (c : FaultCause) (x : Sheet) (s : State) :
    Moves s ((s.raiseFault x.slot c).decline x) :=
  (moves_raiseFault _ _ s).trans (moves_decline x _)

theorem moves_placeThick (x : Sheet) (f : Format) (s : State) : Moves s (s.placeThick x f).1 := by
  refine ((moves_raiseFault x.slot .tooThick s).trans (moves_closeLift _)).trans ?_
  unfold State.placeThick
  dsimp only
  split
  · exact moves_faultAndDecline _ x _
  · split
    · exact moves_faultAndDecline _ x _
    · exact (moves_joinSheet x f _).trans (moves_closeLift _)

theorem moves_placeThin (x : Sheet) (f : Format) (s : State) : Moves s (s.placeThin x f).1 := by
  have closed : Moves s (if s.lb.openLift.any (Lift.mustClose x f) then s.closeLift else s) :=
    .ite (fun _ => moves_closeLift s) fun _ => .refl s
  refine closed.trans ?_
  unfold State.placeThin
  dsimp only
  generalize (if s.lb.openLift.any (Lift.mustClose x f) then s.closeLift else s) = t
  split
  · exact moves_faultAndDecline _ x _
  · split
    · exact moves_faultAndDecline _ x _
    · exact (moves_joinSheet x f t).trans (.ite (fun _ => moves_closeLift _) fun _ => .refl _)

theorem moves_placeSheet (x : Sheet) (s : State) : Moves s (s.placeSheet x).1 := by
  unfold State.placeSheet
  split
  · split
    · exact moves_faultAndDecline _ x s
    · split
      · exact .refl s
      · split
        · exact moves_decline x s
        · split
          · exact moves_placeThick x _ s
          · exact moves_placeThin x _ s
  · exact .refl s

/-! ## The punch bed -/

theorem moves_testClamp (s : State) : Moves s s.testClamp :=
  .ite (fun _ => moves_triggerClamp s) fun _ => .refl s

theorem moves_openGate (s : State) : Moves s s.openGate := moves_setCh _ _ s

theorem moves_releaseLift (s : State) : Moves s s.releaseLift := by
  unfold State.releaseLift
  split
  · exact .refl s
  · exact .ite (fun _ => .ite (fun _ => moves_openGate s) fun _ => moves_setBed _ s) fun _ => .refl s

theorem moves_clampOpened (s : State) : Moves s s.clampOpened := by
  unfold State.clampOpened
  split
  · exact .refl s
  · exact .ite (fun _ => moves_setBed _ s) fun _ => .refl s

theorem moves_planLift (b : Bed) (s : State) : Moves s (s.planLift b) :=
  .ite (fun _ => (moves_setBed _ s).trans (moves_raiseFault _ _ _)) fun _ => moves_setBed _ s

theorem moves_cutDisabled (s : State) : Moves s s.cutDisabled := by
  unfold State.cutDisabled
  split
  · exact .refl s
  · refine .ite (fun _ => ?_) fun _ => .refl s
    exact ((moves_setBed _ s).trans (moves_raiseFault _ _ _)).trans (moves_releaseLift _)

theorem moves_beginStrike (d : DriveId) (s : State) : Moves s (s.beginStrike d) :=
  (((moves_setBed _ s).trans (moves_setDrive d _ _)).trans (Move.scheduler _ _ (.inr (by rfl))).moves).trans
    (moves_triggerStrobe _ _)

theorem moves_completeStrike (d : DriveId) (s : State) : Moves s (s.completeStrike d) :=
  (((moves_setDrive d _ s).trans (moves_setBed _ _)).trans
    (.ite (fun _ => (Move.count _ _).moves) fun _ => .refl _)).trans (moves_releaseLift _)

theorem moves_strobeEnded (d : DriveId) (s : State) : Moves s (s.strobeEnded d) := by
  unfold State.strobeEnded
  split
  · exact .refl s
  · exact .ite (fun _ => moves_completeStrike d s) fun _ => moves_setDrive d _ s

theorem moves_strokeDone (d : DriveId) (s : State) : Moves s (s.strokeDone d) := by
  unfold State.strokeDone
  split
  · exact .refl s
  · exact .ite (fun _ => .refl s)
      fun _ => .ite (fun _ => moves_completeStrike d s) fun _ => moves_setDrive d _ s

theorem moves_takeOldestLift (s : State) : Moves s s.takeOldestLift := by
  unfold State.takeOldestLift
  split
  · exact .refl s
  · rename_i l rest e
    have left := ((Move.builder { s.lb with queue := rest } s (.inl (by simp [e]))).moves.trans
      (moves_setBed (some (Bed.inTransit l)) _)).trans (moves_liftLeft _)
    exact left.trans (.ite (fun _ => moves_closeLift _) fun _ => .refl _)

theorem moves_arriveOnBed (b : Bed) (s : State) : Moves s (s.arriveOnBed b) :=
  ((moves_planLift _ s).trans (moves_testClamp _)).trans (moves_releaseLift _)

theorem moves_countLift (b : Bed) (s : State) : Moves s (s.countLift b) :=
  .ite
    (fun _ => (moves_modifyBook b.lift.slot
      (f := fun k => { k with liftsPunched := k.liftsPunched + 1 }) s fun _ => rfl).trans
        (Move.count _ _).moves)
    fun _ => (Move.count _ s).moves

theorem moves_handOver (b : Bed) (s : State) : Moves s (s.handOver b) := by
  unfold State.handOver
  refine (moves_countLift b s).trans ?_
  generalize s.countLift b = t
  refine (Move.finish { t.fu with gather := t.fu.gather.map (Gather.add b.lift) } t).moves.trans ?_
  dsimp only
  generalize { t with fu := { t.fu with gather := t.fu.gather.map (Gather.add b.lift) } } = u
  exact ((moves_modifyBook b.lift.slot (f := fun k => { k with liftsGathered := k.liftsGathered + 1 })
    u fun _ => rfl).trans (moves_testComplete _ _)).trans (moves_setBed _ _)

theorem moves_findIncomplete (g : Gather) (s : State) : Moves s (s.findIncomplete g) :=
  ((((Move.finish _ s).moves.trans (moves_raiseFault g.book _ _)).trans (moves_advance g.book _ _ _)).trans
    (moves_endCollection g.book _)).trans (moves_testComplete _ _)

theorem moves_answerOutRequest (b : Bed) (s : State) : Moves s (s.answerOutRequest b) := by
  unfold State.answerOutRequest
  split
  · exact (moves_setBed _ s).trans (Move.finish _ _).moves
  · refine .ite (fun _ => moves_setBed _ s) fun _ => .ite (fun _ => moves_setBed _ s) fun _ => ?_
    exact (moves_setBed _ s).trans (moves_findIncomplete _ _)

theorem moves_emptyGather (s : State) : Moves s s.emptyGather :=
  (Move.finish { s.fu with gather := none } s).moves.trans (Move.scheduler _ _ (.inl (by rfl))).moves

theorem moves_testDwell (s : State) : Moves s s.testDwell :=
  .ite (fun _ => (moves_setBed _ s).trans (Move.occur _ _).moves) fun _ => .refl s

/-! ## Purges -/

/-- An account is written; it stays payable. -/
theorem moves_setAccount {d : DriveId} {a : DriveAccount} {s : State}
    (pay : (s.account d).Payable → a.Payable) : Moves s (s.setAccount d a) := by
  refine (Move.accounts _ s fun x h => ?_).moves
  rw [Bank.read_write]
  split
  · next e => exact pay (e ▸ h)
  · exact h

/-- A reason of R105 leaves room for the payment of the chosen kind. -/
theorem payment_of_requested {d : DriveId} {s : State} (h : s.purgeRequested d = true) :
    -32 ≤ (s.account d).debt - (s.chosenKind d).payment := by
  have four : (s.chosenKind d).payment ≤ 4 := by cases s.chosenKind d <;> decide
  simp only [State.purgeRequested, State.purgeDue, State.purgePullIn, State.forced, Bool.and_eq_true,
    Bool.or_eq_true, decide_eq_true_eq] at h
  rcases h.2 with forced | ⟨_, due | pull⟩
  · omega
  · have := due.1; omega
  · exact pull.2

theorem moves_tryGrant (d : DriveId) (s : State) : Moves s (s.tryGrant d) := by
  refine .ite (fun g => moves_setAccount fun h => ⟨h.1, h.2.1, fun p e => ?_⟩) fun _ => .refl s
  cases e
  simp only [State.grantable, Bool.and_eq_true] at g
  exact payment_of_requested g.1.1.1

theorem moves_foldl {α : Type} {f : State → α → State} (one : ∀ s a, Moves s (f s a)) (l : List α)
    (s : State) : Moves s (l.foldl f s) := by
  induction l generalizing s with
  | nil => exact .refl s
  | cons a l ih => exact (one s a).trans (ih _)

theorem moves_grantAll (s : State) : Moves s s.grantAll :=
  moves_foldl (fun s d => moves_tryGrant d s) _ s

theorem moves_abandonPurges (s : State) : Moves s s.abandonPurges := by
  refine (Move.accounts _ s fun d h => ?_).moves
  rw [Bank.read_map]
  exact ⟨h.1, h.2.1, fun _ e => nomatch e⟩

theorem moves_stopPurges (s : State) : Moves s s.stopPurges :=
  (moves_abandonPurges s).trans (moves_cutDisabled _)

theorem moves_syncForced (s : State) : Moves s s.syncForced := (Move.report _ _ s).moves

theorem moves_syncHot (s : State) : Moves s s.syncHot := moves_follow _ _ _ s

theorem moves_fixTimers (s : State) : Moves s s.fixTimers := by
  refine (Move.accounts _ s fun d h => ?_).moves
  rw [Bank.read_tabulate]
  unfold State.fixedAccount
  dsimp only
  split
  · exact h
  · exact h

theorem moves_testKind (d : DriveId) (k : PurgeKind) (s : State) : Moves s (s.testKind d k) :=
  .ite (fun _ => .refl s) fun _ => moves_setAccount id

/-! ## The finish sequence -/

theorem moves_startDrill (f : Finish) (s : State) : Moves s (s.startDrill f) :=
  .ite (fun _ => (moves_setFinish _ s).trans (moves_follow _ _ _ _))
    fun _ => (moves_setFinish _ s).trans (moves_makeOrder _ _)

theorem moves_runFeed (owed : Nat) (s : State) : Moves s (s.runFeed owed) :=
  .ite (fun _ => moves_startFeed owed s) fun _ => .refl s

theorem moves_startFeedStep (f : Finish) (s : State) : Moves s (s.startFeedStep f) :=
  (moves_setFinish _ s).trans (moves_runFeed _ _)

theorem moves_startHanger (f : Finish) (s : State) : Moves s (s.startHanger f) :=
  (moves_setFinish _ s).trans (moves_makeOrder _ _)

theorem moves_startClose (f : Finish) (s : State) : Moves s (s.startClose f) :=
  (moves_setFinish _ s).trans (moves_makeOrder _ _)

theorem moves_startBinding (f : Finish) (s : State) : Moves s (s.startBinding f) :=
  .ite (fun _ => moves_startDrill f s) fun _ => moves_startFeedStep f s

theorem moves_afterFeed (f : Finish) (s : State) : Moves s (s.afterFeed f) :=
  .ite (fun _ => moves_startHanger f s) fun _ => moves_startClose f s

theorem moves_enterFinish (f : Finish) (s : State) : Moves s (s.enterFinish f) :=
  .ite (fun _ => moves_startExit f s) fun _ => moves_startBinding f s

theorem moves_holeDrilled (f : Finish) (s : State) : Moves s (s.holeDrilled f) :=
  (Move.finish _ s).moves.trans
    (.ite (fun _ => moves_startExit _ _)
      fun _ => .ite (fun _ => moves_makeOrder _ _) fun _ => moves_startFeedStep _ _)

theorem moves_feedEnded (s : State) : Moves s s.feedEnded := by
  unfold State.feedEnded
  split
  · exact .refl s
  · rename_i f _
    exact .ite
      (fun _ => (moves_setFinish (some { f with feedOwed := 0 }) s).trans
        (.ite (fun _ => moves_startExit _ _) fun _ => moves_afterFeed _ _)) fun _ => .refl s

theorem moves_feedCut (budget : Nat) (s : State) : Moves s (s.feedCut budget) := by
  unfold State.feedCut
  split
  · exact .refl s
  · exact .ite (fun _ => moves_setFinish _ s) fun _ => .refl s

theorem moves_feedAfterSet (s : State) : Moves s s.feedAfterSet := by
  unfold State.feedAfterSet
  split
  · exact .refl s
  · exact .ite
      (fun _ => .ite (fun _ => moves_startFeed _ s)
        fun _ => .ite (fun _ => moves_startExit _ s) fun _ => .refl s) fun _ => .refl s

theorem moves_countOutcome (o : BookOutcome) (s : State) : Moves s (s.countOutcome o) := by
  cases o
  · exact (Move.count _ s).moves
  · exact (Move.count _ s).moves
  · exact .refl s

theorem moves_resumeFinish (s : State) : Moves s s.resumeFinish := by
  unfold State.resumeFinish
  split
  · exact .refl s
  · exact .ite (fun _ => .refl s)
      fun _ => .ite (fun _ => moves_startExit _ s)
        fun _ => .ite (fun _ => moves_startDrill _ s) fun _ => .refl s

theorem moves_retryDrill (f : Finish) (s : State) : Moves s (s.retryDrill f) :=
  (moves_unblock f s).trans (.ite (fun _ => .refl _) fun _ => moves_startDrill _ _)

theorem moves_retryBlocked (s : State) : Moves s s.retryBlocked := by
  unfold State.retryBlocked
  split
  · exact .refl s
  · exact .ite (fun _ => moves_retryDrill _ s) fun _ => .refl s

/-! ## Safe Stop, the parts that leave the Line Supervisor's other records alone -/

theorem moves_quietChannels (s : State) : Moves s s.quietChannels := (Move.channels _ s).moves

theorem moves_abandonStrikes (s : State) : Moves s s.abandonStrikes :=
  (Move.scheduler _ s (.inl (by rfl))).moves

theorem moves_stopOnBed (b : Bed) (s : State) : Moves s (s.stopOnBed b) :=
  .ite (fun _ => (moves_setBed _ s).trans (moves_raiseFault _ _ _))
    fun _ => .ite (fun _ => moves_setBed _ s) fun _ => .refl s

theorem moves_stopBed (b : Bed) (s : State) : Moves s (s.stopBed b) :=
  .ite (fun _ => (moves_setBed _ s).trans (moves_raiseFault _ _ _))
    fun _ => .ite (fun _ => (moves_handOver b s).trans (moves_raiseFault _ _ _))
      fun _ => .ite (fun _ => moves_stopOnBed b s) fun _ => .refl s

theorem moves_stopScheduler (s : State) : Moves s s.stopScheduler := by
  refine (moves_abandonStrikes s).trans (Moves.trans ?_ (moves_endOrder .bedShuttle _))
  split
  · exact .refl _
  · exact moves_stopBed _ _

theorem moves_interruptFinish (f : Finish) (s : State) : Moves s (s.interruptFinish f) :=
  moves_raiseFault _ _ s

theorem moves_withdrawFinishOrders (s : State) :
    Moves s (((((s.endOrder .finishTransfer).endOrder .exitTransfer).endOrder .drill).endOrder
      .hanger).endOrder .closer) :=
  ((((moves_endOrder _ s).trans (moves_endOrder _ _)).trans (moves_endOrder _ _)).trans
    (moves_endOrder _ _)).trans (moves_endOrder _ _)

/-! ## Sheets and notices -/

theorem moves_joinNotice {n : Notice} {s : State} (room : s.si.notices.length < 16) :
    Moves s (s.joinNotice n) :=
  (Move.intake (s.si.join n) s rfl
    (.inr (by simpa [SheetIntake.join] using room))).moves.trans (moves_syncPause _)

theorem moves_noticeFaults (i : Slot) (b : Book) (w : SheetWords) (s : State) :
    Moves s (s.noticeFaults i b w) :=
  ((Moves.ite (fun _ => moves_raiseFault _ _ s) fun _ => .refl s).trans
    (.ite (fun _ => moves_raiseFault _ _ _) fun _ => .refl _)).trans
    (.ite (fun _ => moves_raiseFault _ _ _) fun _ => .refl _)

/-! ### What of the Sheet Intake a fault leaves -/

/-- Of the Sheet Intake, only the Book Table may have changed. -/
def BooksOnly (s t : State) : Prop := t.si = { s.si with books := t.si.books }

theorem BooksOnly.refl (s : State) : BooksOnly s s := rfl

theorem BooksOnly.of_eq {s t : State} (h : t.si = s.si) : BooksOnly s t := by
  rw [BooksOnly, h]

theorem BooksOnly.trans {s t u : State} (a : BooksOnly s t) (b : BooksOnly t u) : BooksOnly s u := by
  unfold BooksOnly at *
  rw [b, a]

theorem BooksOnly.notices {s t : State} (h : BooksOnly s t) : t.si.notices = s.si.notices := by rw [h]

theorem BooksOnly.ite {p : Prop} [Decidable p] {s t u : State} (a : p → BooksOnly s t)
    (b : ¬p → BooksOnly s u) : BooksOnly s (if p then t else u) := by
  split
  · exact a ‹_›
  · exact b ‹_›

theorem startExit_booksOnly (f : Finish) (s : State) : BooksOnly s (s.startExit f) := rfl

theorem withdrawForExit_booksOnly (st : Station) (f : Finish) (s : State) :
    BooksOnly s (s.withdrawForExit st f) :=
  .ite (fun _ => (BooksOnly.of_eq (by simp)).trans (startExit_booksOnly f (s.endOrder st)))
    fun _ => .refl s

theorem reactToFault_booksOnly (f : Finish) (s : State) : BooksOnly s (s.reactToFault f) := by
  unfold State.reactToFault
  cases f.step <;> dsimp only
  case drill =>
    refine .ite (fun _ => BooksOnly.trans (t := s.unblock f) (.of_eq (by simp)) ?_)
      fun _ => withdrawForExit_booksOnly _ f s
    exact .ite (fun _ => .refl _) fun _ => startExit_booksOnly _ _
  case feed => exact .ite (fun _ => .refl s) fun _ => startExit_booksOnly f s
  case hanger => exact withdrawForExit_booksOnly _ f s
  case close => exact withdrawForExit_booksOnly _ f s
  all_goals exact .refl s

theorem tellFinish_booksOnly (i : Slot) (s : State) : BooksOnly s (s.tellFinish i) := by
  unfold State.tellFinish
  split
  · exact .refl s
  · exact .ite (fun _ => reactToFault_booksOnly _ s) fun _ => .refl s

/-- A fault changes the Book Table alone of the Sheet Intake. -/
theorem raiseFault_booksOnly (i : Slot) (c : FaultCause) (s : State) :
    BooksOnly s (s.raiseFault i c) :=
  .ite (fun _ => BooksOnly.trans (t := s.modifyBook i (Book.addFault c)) rfl (tellFinish_booksOnly i _))
    fun _ => .refl s

theorem noticeFaults_booksOnly (i : Slot) (b : Book) (w : SheetWords) (s : State) :
    BooksOnly s (s.noticeFaults i b w) :=
  ((BooksOnly.ite (fun _ => raiseFault_booksOnly _ _ s) fun _ => .refl s).trans
    (.ite (fun _ => raiseFault_booksOnly _ _ _) fun _ => .refl _)).trans
    (.ite (fun _ => raiseFault_booksOnly _ _ _) fun _ => .refl _)

theorem moves_noticeTaken {i : Slot} {b : Book} {w : SheetWords} {s : State}
    (room : s.si.notices.length < 16) : Moves s (s.noticeTaken i b w) := by
  have kept := (noticeFaults_booksOnly i b w s).notices
  exact ((moves_noticeFaults i b w s).trans (moves_joinNotice (kept ▸ room))).trans
    (moves_modifyBook i _ fun _ => rfl)

theorem moves_noticeDiverted {r : DivertReason} {w : SheetWords} {s : State}
    (room : s.si.notices.length < 16) : Moves s (s.noticeDiverted r w) :=
  (moves_joinNotice room).trans (Move.notice _ _).moves

theorem moves_sheetNotice (w : SheetWords) (s : State) : Moves s (s.sheetNotice w) := by
  refine .ite (fun _ => (Move.notice _ s).moves) fun full => ?_
  have room : s.si.notices.length < 16 := by omega
  split
  · exact moves_noticeDiverted room
  · split
    · exact .refl s
    · exact .ite (fun _ => moves_noticeTaken room) fun _ => moves_noticeDiverted room

theorem moves_cancelBook (i : Slot) (b : Book) (s : State) : Moves s (s.cancelBook i b) := by
  unfold State.cancelBook
  cases b.stage
  case opened => exact (Move.remove i s).moves
  case collecting => exact (moves_raiseFault _ _ s).trans (moves_endCollection _ _)
  all_goals exact moves_raiseFault _ _ s

theorem moves_bookCancel (id : Half) (s : State) : Moves s (s.bookCancel id).1 := by
  unfold State.bookCancel
  split
  · exact .refl s
  · split
    · exact .refl s
    · exact (moves_cancelBook _ _ s).trans (moves_testRest _)

/-- The oldest notice leaves. -/
theorem moves_leaveNotice {rest : List Notice} {s : State}
    (fewer : rest.length ≤ s.si.notices.length) : Moves s (s.leaveNotice rest) :=
  (Move.intake (s.si.leave rest) s rfl (.inl fewer)).moves.trans (moves_syncPause _)

theorem moves_expireBook (i : Slot) (n : Notice) (s : State) : Moves s (s.expireBook i n) :=
  (moves_raiseFault _ _ s).trans (.ite (fun _ => moves_endCollection _ _) fun _ => .refl _)

theorem moves_expireNotice {n : Notice} {rest : List Notice} {s : State}
    (fewer : rest.length ≤ s.si.notices.length) : Moves s (s.expireNotice n rest) := by
  unfold State.expireNotice
  refine ((moves_leaveNotice fewer).trans (Move.count .missing _).moves).trans
    ((moves_updateRegistration .expiry _).trans ?_)
  split
  · exact .refl _
  · exact moves_expireBook _ n _

theorem moves_expireUpTo (k : Nat) (s : State) : Moves s (s.expireUpTo k) := by
  induction k generalizing s with
  | zero => exact .refl s
  | succ k ih =>
    unfold State.expireUpTo
    split
    · exact .refl s
    · rename_i n rest e
      exact .ite (fun _ => (moves_expireNotice (by simp [e])).trans (ih _)) fun _ => .refl s

theorem moves_testExpiry (s : State) : Moves s s.testExpiry := moves_expireUpTo _ s

theorem moves_noticeExpiry (s : State) : Moves s s.noticeExpiry :=
  .ite (fun _ => (moves_testExpiry s).trans (moves_testRest _)) fun _ => .refl s

theorem moves_divertSheet (s : State) : Moves s s.divertSheet :=
  (moves_triggerStrobe _ s).trans (Move.count _ _).moves

theorem moves_unannounced (s : State) : Moves s s.unannounced :=
  ((moves_triggerStrobe _ s).trans (Move.count _ _).moves).trans (moves_updateRegistration _ _)

theorem moves_handSheet (x : Sheet) (s : State) : Moves s (s.handSheet x) :=
  (moves_placeSheet x s).trans (.ite (fun _ => .refl _) fun _ => moves_divertSheet _)

theorem moves_registrationDivert (i : Slot) (last : Bool) (s : State) :
    Moves s (s.registrationDivert i last) :=
  ((moves_raiseFault i .registration s).trans (moves_divertSheet _)).trans
    (.ite (fun _ => moves_endCollection _ _) fun _ => .refl _)

theorem moves_disposeSheet (i : Slot) (n : Notice) (s : State) : Moves s (s.disposeSheet i n) :=
  .ite (fun _ => .ite (fun _ => moves_registrationDivert i _ s) fun _ => moves_handSheet _ s)
    fun _ => moves_divertSheet s

theorem moves_matchNotice {n : Notice} {rest : List Notice} {s : State}
    (fewer : rest.length ≤ s.si.notices.length) : Moves s (s.matchNotice n rest) := by
  unfold State.matchNotice
  refine ((moves_leaveNotice fewer).trans (moves_updateRegistration .matching _)).trans ?_
  split
  · exact moves_divertSheet _
  · exact moves_disposeSheet _ n _

theorem moves_infeedEdge (s : State) : Moves s s.infeedEdge := by
  unfold State.infeedEdge
  split
  · exact moves_unannounced s
  · rename_i n rest e
    exact (moves_matchNotice (by simp [e])).trans (moves_testExpiry _)

/-! ## Channel commands and countdowns -/

theorem moves_cutStrobe (i : ChannelId) (s : State) : Moves s (s.cutStrobe i) := by
  unfold State.cutStrobe
  split
  · exact moves_strobeEnded _ s
  · exact .refl s

theorem moves_reportCut (i : ChannelId) (s : State) : Moves s (s.reportCut i) :=
  .ite (fun _ => (Moves.ite (fun _ => moves_feedCut _ s) fun _ => .refl s).trans (moves_cutStrobe i _))
    fun _ => .refl s

theorem moves_holdForChannels (s : State) : Moves s s.holdForChannels :=
  .ite (fun _ => .refl s) fun _ => moves_addHold _ s

theorem moves_ownerAfterSet (i : ChannelId) (s : State) : Moves s (s.ownerAfterSet i) :=
  .ite (fun _ => (moves_clampOpened s).trans (moves_testClamp _))
    fun _ => .ite (fun _ => moves_feedAfterSet s) fun _ => .refl s

theorem moves_setChannel (i : ChannelId) (m : ChannelMode) (x : Source) (k : Counts) (s : State) :
    Moves s (s.setChannel i m x k) := by
  unfold State.setChannel
  exact (((((moves_reportCut i s).trans (moves_setCh i _ _)).trans (moves_holdForChannels _)).trans
    (moves_cutDisabled _)).trans (moves_ownerAfterSet i _)).trans (moves_fixTimers _)

theorem moves_channelSet (channel mode source : Byte) (k : Counts) (s : State) :
    Moves s (s.channelSet channel mode source k).1 := by
  unfold State.channelSet
  split
  · unfold State.channelSetChecked
    split
    · exact .refl s
    · split
      · exact .refl s
      · split
        · exact .refl s
        · exact moves_setChannel _ _ _ _ s
  · exact .refl s

theorem moves_channelCount (channel : Byte) (k : Counts) (s : State) :
    Moves s (s.channelCount channel k).1 := by
  unfold State.channelCount
  split
  · exact .refl s
  · exact moves_setCh _ _ s

theorem moves_capture (x : Half) (selector : Byte) (s : State) : Moves s (s.capture x selector).1 := by
  unfold State.capture
  split
  · exact .refl s
  · split
    · exact (Move.channels _ s).moves
    · exact .refl s

theorem moves_channelRead (channel : Byte) (s : State) : Moves s (s.channelRead channel).1 := by
  unfold State.channelRead
  split
  · exact .refl s
  · exact moves_setCh _ _ s

theorem moves_holdDwellEnd (s : State) : Moves s s.holdDwellEnd :=
  .ite (fun _ => (moves_setCh 0 _ s).trans (moves_clampOpened _)) fun _ => .refl s

theorem moves_strobeWaitEnd (i : ChannelId) (s : State) : Moves s (s.strobeWaitEnd i) :=
  .ite (fun _ => moves_setCh i _ s) fun _ => .refl s

theorem moves_strobePulseEnd (i : ChannelId) (s : State) : Moves s (s.strobePulseEnd i) :=
  .ite (fun _ => ((moves_setCh i _ s).trans (moves_cutStrobe i _)).trans (moves_testRest _))
    fun _ => .refl s

theorem moves_pitchPulseEnd (s : State) : Moves s s.pitchPulseEnd :=
  .ite
    (fun _ => ((moves_setCh 6 (s.ch 6).pitchPulseEnd s).trans
      (.ite (fun _ => .refl _) fun _ => moves_feedEnded _)).trans (moves_testRest _))
    fun _ => .refl s

theorem moves_pitchPeriodBoundary (s : State) : Moves s s.pitchPeriodBoundary :=
  .ite (fun _ => moves_setCh 6 _ s) fun _ => .refl s

theorem moves_softWaitEnd (i : ChannelId) (s : State) : Moves s (s.softWaitEnd i) :=
  .ite (fun _ => moves_setCh i _ s) fun _ => .refl s

theorem moves_softPulseEnd (i : ChannelId) (s : State) : Moves s (s.softPulseEnd i) :=
  .ite (fun _ => (moves_setCh i _ s).trans (moves_testRest _)) fun _ => .refl s

/-! ## Line Control, stations and drives -/

theorem moves_holdLine (s : State) : Moves s s.holdLine :=
  (moves_addHold _ s).trans (moves_testRest _)

theorem moves_resumeLine (s : State) : Moves s s.resumeLine.1 := by
  unfold State.resumeLine
  split
  · exact .refl s
  · exact (Move.holds _ s).moves.trans (moves_releaseIfFree _)

theorem moves_bitChanged (life : Half) (s : State) : Moves s (s.bitChanged life).1 := by
  unfold State.bitChanged
  split
  · exact .refl s
  · split
    · exact .refl s
    · exact ((Move.finish { s.fu with bitLife := life.toNat } s).moves.trans
        (moves_retryBlocked (s.setBitLife life.toNat))).trans (moves_testRest _)

theorem moves_issueWaiting (st : Station) (s : State) : Moves s (s.issueWaiting st) :=
  (moves_setOrder st _ s).trans (moves_syncStationWait _)

theorem moves_readyWaitExpiry (st : Station) (s : State) : Moves s (s.readyWaitExpiry st) :=
  .ite (fun _ => (moves_setOrder st _ s).trans (moves_syncStationWait _)) fun _ => .refl s

/-- A confirmed order ends, and its owner acts (R68). -/
theorem moves_confirm {act : State → State} (owner : ∀ s, Moves s (act s)) (j : Job) (s : State) :
    Moves s (State.confirm j act s) :=
  .ite (fun _ => ((moves_endOrder _ s).trans (owner _)).trans (moves_testRest _)) fun _ => .refl s

theorem moves_onFinish {act : Finish → State → State} (owner : ∀ f s, Moves s (act f s)) (s : State) :
    Moves s (s.onFinish act) := by
  unfold State.onFinish
  split
  · exact .refl s
  · exact owner _ s

theorem moves_orderBedTransfer (s : State) : Moves s s.orderBedTransfer :=
  .ite (fun _ => (moves_takeOldestLift s).trans (moves_makeOrder _ _)) fun _ => .refl s

theorem moves_liftArrives (s : State) : Moves s s.liftArrives := by
  unfold State.liftArrives
  split
  · exact .refl s
  · exact moves_arriveOnBed _ s

theorem moves_strikeBegin (s : State) : Moves s s.strikeBegin := by
  unfold State.strikeBegin
  split
  · exact .refl s
  · exact moves_beginStrike _ s

theorem moves_outRequest (s : State) : Moves s s.outRequest := by
  unfold State.outRequest
  split
  · exact .refl s
  · exact .ite (fun _ => (moves_answerOutRequest _ s).trans (moves_testRest _)) fun _ => .refl s

theorem moves_orderOutTransfer (s : State) : Moves s s.orderOutTransfer :=
  .ite (fun _ => moves_makeOrder _ s) fun _ => .refl s

theorem moves_liftGathered (s : State) : Moves s s.liftGathered := by
  unfold State.liftGathered
  split
  · exact .refl s
  · exact moves_handOver _ s

/-- A payable purge is paid. -/
theorem DriveAccount.Payable.pay {a : DriveAccount} {p : Purge} (h : a.Payable)
    (e : a.purge = some p) :
    DriveAccount.Payable { a with debt := a.debt - p.payment, purge := none } := by
  obtain ⟨_, high, pay⟩ := h
  refine ⟨pay p e, ?_, fun _ e => nomatch e⟩
  show a.debt - p.payment ≤ 32
  omega

/-- The debt takes a value that is no lower, or the bound itself. -/
theorem DriveAccount.Payable.accrue {a : DriveAccount} (h : a.Payable) {debt : Int}
    (more : a.debt ≤ debt ∨ debt = 32) (bound : debt ≤ 32) (n : Nat) (length : Option Nat) :
    DriveAccount.Payable { a with debt := debt, elapsed := n, length := length } := by
  obtain ⟨low, high, pay⟩ := h
  refine ⟨?_, bound, fun p e => ?_⟩
  · show -32 ≤ debt
    omega
  · have := pay p e
    show -32 ≤ debt - p.payment
    omega

theorem moves_payPurge {d : DriveId} {p : Purge} {s : State} (e : (s.account d).purge = some p) :
    Moves s (s.payPurge d p) := by
  have pay : Moves s (s.setAccount d
      { s.account d with debt := (s.account d).debt - p.payment, purge := none }) :=
    moves_setAccount fun h => h.pay e
  refine (pay.trans (moves_cutDisabled _)).trans
    ((Moves.ite (fun _ => (Move.count _ _).moves) fun _ => .refl _).trans
      ((moves_syncForced _).trans (moves_testRest _)))

theorem moves_purgeEnd (d : DriveId) (s : State) : Moves s (s.purgeEnd d) := by
  unfold State.purgeEnd
  split
  · exact .refl s
  · exact .ite (fun _ => moves_payPurge ‹_›) fun _ => .refl s

theorem moves_setTemperature (d : DriveId) (t : Temperature) (s : State) :
    Moves s (s.setTemperature d t) := by
  have set : Moves s (s.setAccount d { s.account d with temperature := t }) :=
    moves_setAccount fun h => h
  exact (set.trans (moves_syncHot _)).trans (moves_testRest _)

/-- At an expiry the debt takes a value within its bounds, and the interval begins anew (R96, R97). -/
theorem moves_setDebtAtExpiry {d : DriveId} {debt : Int} {length : Option Nat} {s : State}
    (more : (s.account d).debt ≤ debt ∨ debt = 32) (bound : debt ≤ 32) :
    Moves s (s.setDebtAtExpiry d debt length) :=
  Moves.trans (t := s.setAccount d (s.nextInterval d debt length))
    (moves_setAccount fun h => h.accrue more bound 0 length) (moves_syncForced _)

/-! ## The finish position -/

theorem moves_transferBook (i : Slot) (s : State) : Moves s (s.transferBook i) :=
  ((moves_setFinish _ s).trans (moves_advance i _ _ _)).trans (moves_makeOrder _ _)

theorem moves_orderFinishTransfer (s : State) : Moves s s.orderFinishTransfer := by
  unfold State.orderFinishTransfer
  split
  · exact .refl s
  · exact .ite (fun _ => moves_transferBook _ s) fun _ => .refl s

theorem moves_bookArrives (s : State) : Moves s s.bookArrives :=
  (moves_emptyGather s).trans (moves_onFinish moves_enterFinish _)

theorem moves_hangerSet (f : Finish) (s : State) : Moves s (s.hangerSet f) :=
  .ite (fun _ => moves_startExit f s) fun _ => moves_startClose f s

end Sys2Proof.Machine

/-! What chains of primitive updates change of the link, the counts and the line. -/

namespace Sys2Proof.Machine

open Sys2Proof Sys2Proof.Safety

set_option Elab.async false

/-! ## The link -/

/-- Notices have been admitted to the Return Queue, or dropped, one after another (R196). -/
def NoticesPushed : LinkPort → LinkPort → Prop :=
  Relation.ReflTransGen fun l m => ∃ u : Upstream, m = l.pushNotice u

theorem NoticesPushed.refl (l : LinkPort) : NoticesPushed l l := Relation.ReflTransGen.refl

theorem NoticesPushed.push (l : LinkPort) (u : Upstream) : NoticesPushed l (l.pushNotice u) :=
  Relation.ReflTransGen.single ⟨u, rfl⟩

theorem NoticesPushed.optional (l : LinkPort) (u : Option Upstream) :
    NoticesPushed l (l.pushOptional u) := by
  cases u with
  | none => exact .refl l
  | some u => exact .push l u

/-- Only the queue and NOTICES_LOST change. -/
theorem NoticesPushed.keeps {l m : LinkPort} (h : NoticesPushed l m) :
    m = { l with queue := m.queue, noticesLost := m.noticesLost } := by
  induction h with
  | refl => rfl
  | tail _ b ih =>
    obtain ⟨u, rfl⟩ := b
    rw [pushNotice_keeps, ih]

theorem NoticesPushed.bounds {l m : LinkPort} (h : NoticesPushed l m)
    (b : l.placesInUse ≤ 16 ∧ l.noticeCount ≤ 12) : m.placesInUse ≤ 16 ∧ m.noticeCount ≤ 12 := by
  induction h with
  | refl => exact b
  | tail _ s ih =>
    obtain ⟨u, rfl⟩ := s
    exact pushNotice_bounds ih.1 ih.2

/-- Frames already queued stay queued. -/
theorem NoticesPushed.mem {l m : LinkPort} (h : NoticesPushed l m) {u : Upstream} (q : u ∈ l.queue) :
    u ∈ m.queue := by
  induction h with
  | refl => exact q
  | tail _ s ih =>
    obtain ⟨v, rfl⟩ := s
    unfold LinkPort.pushNotice
    split
    · exact List.mem_append_left _ ih
    · exact ih

theorem modifyBook_lp (i : Slot) (f : Book → Book) (s : State) : (s.modifyBook i f).lp = s.lp := rfl

theorem Move.pushed {s t : State} (m : Move s t) : NoticesPushed s.lp t.lp := by
  cases m with
  | notice u => exact .push _ u
  | report c p => exact .optional _ _
  | occur c => exact .optional _ _
  | count k => exact .optional _ _
  | remove i => exact (State.removeBook_lp s i) ▸ .refl _
  | _ => exact .refl _

/-- A chain of primitive updates changes the link by notices alone. -/
theorem Moves.pushed {s t : State} (m : Moves s t) : NoticesPushed s.lp t.lp :=
  m.relates (fun s t => NoticesPushed s.lp t.lp) (fun s => .refl s.lp)
    (fun a b => Relation.ReflTransGen.trans a b) Move.pushed

theorem Moves.noticed {s t : State} (m : Moves s t) : Noticed s t := m.pushed.keeps

/-! ## Counters and conditions -/

/-- Of the Line Monitor, only working counters, latches and live levels have changed. -/
def Watched (s t : State) : Prop := Monitored t.lm.work s t

theorem Watched.refl (s : State) : Watched s s := rfl

theorem Watched.of_lm {s t : State} (h : t.lm = s.lm) : Watched s t := by
  unfold Watched Monitored
  rw [h]

theorem Watched.trans {s t u : State} (a : Watched s t) (b : Watched t u) : Watched s u :=
  Monitored.trans a b

end Sys2Proof.Machine

namespace Sys2Proof.Safety

open Sys2Proof.Machine

theorem Monitored.watched {w : Vector Count 18} {s t : State} (m : Monitored w s t) : Watched s t := by
  unfold Watched
  rw [m.work_eq]
  exact m

theorem MoveNoted.refl (s : State) : MoveNoted s s := ⟨id, fun h => absurd rfl h⟩

theorem LineFollowed.refl (s : State) : LineFollowed s s := ⟨rfl, MoveNoted.refl s⟩

theorem LineFollowed.trans {s t u : State} (a : LineFollowed s t) (b : LineFollowed t u) :
    LineFollowed s u := by
  refine ⟨?_, a.2.trans b.2⟩
  rw [b.1, a.1]

theorem LineMoved.followed {s t : State} (h : LineMoved s t) : LineFollowed s t := by
  refine ⟨?_, h.2⟩
  rw [h.1]

theorem LineFollowed.of_eq {s t : State} (h : t.lsv = s.lsv) : LineFollowed s t := by
  unfold LineFollowed MoveNoted
  rw [h]
  exact (LineFollowed.refl s)

end Sys2Proof.Safety

namespace Sys2Proof.Machine

open Sys2Proof Sys2Proof.Safety

set_option Elab.async false

theorem Move.watched {s t : State} (m : Move s t) : Watched s t := by
  cases m with
  | report c p => exact (reportLevel_reported c p s).1.watched
  | occur c => exact (occur_reported c s).1.watched
  | count k => exact (count_counted k s).1.watched
  | remove i => exact Watched.of_lm (State.removeBook_lm s i)
  | _ => rfl

theorem Moves.watched {s t : State} (m : Moves s t) : Watched s t :=
  m.relates Watched Watched.refl Watched.trans Move.watched

/-! ## The line -/

/-- The mirror changes the record's slots alone. -/
theorem mirror_keeps (i : Slot) (b : Option Book) (l : LineSupervisor) :
    l.mirror i b = { l with record := { l.record with slots := (l.mirror i b).record.slots } } := by
  unfold LineSupervisor.mirror
  split <;> rfl

theorem mirror_lineState (i : Slot) (b : Option Book) (l : LineSupervisor) :
    (l.mirror i b).lineState = l.lineState := by
  rw [mirror_keeps]

theorem followed_of_mirror {s t : State} {i : Slot} {b : Option Book}
    (h : t.lsv = s.lsv.mirror i b) : LineFollowed s t := by
  unfold LineFollowed MoveNoted
  rw [h, mirror_keeps]
  exact ⟨rfl, id, fun c => absurd rfl c⟩

theorem removeBook_followed (i : Slot) (s : State) : LineFollowed s (s.removeBook i) := by
  unfold State.removeBook
  split
  · exact .refl s
  · exact followed_of_mirror rfl

theorem removeBook_lineState (i : Slot) (s : State) :
    (s.removeBook i).lsv.lineState = s.lsv.lineState := by
  unfold State.removeBook
  split
  · rfl
  · exact mirror_lineState i none s.lsv

theorem Move.followed {s t : State} (m : Move s t) : LineFollowed s t := by
  cases m with
  | line l before after => exact ⟨rfl, fun _ => rfl, fun _ => rfl⟩
  | holds h => exact (LineMoved.of_holds rfl).followed
  | book i b same => exact followed_of_mirror rfl
  | remove i => exact removeBook_followed i s
  | _ => exact .of_eq rfl

/-- A chain of primitive updates changes of the Line Supervisor the record's slots, the line state and the
hold sources. -/
theorem Moves.followed {s t : State} (m : Moves s t) : LineFollowed s t :=
  m.relates LineFollowed LineFollowed.refl LineFollowed.trans Move.followed

/-- Only a safe-stop cause, a Line Reset, a reset or STOP CLEAR moves the line in or out of SAFE_STOP. -/
theorem Move.stopped_iff {s t : State} (m : Move s t) :
    t.lsv.lineState = .safeStop ↔ s.lsv.lineState = .safeStop := by
  have of_line : ∀ l : LineSupervisor, l.lineState = s.lsv.lineState →
      (l.lineState = .safeStop ↔ s.lsv.lineState = .safeStop) := fun l h => by rw [h]
  cases m with
  | line l _ before after => exact iff_of_false after before
  | book i b _ same => exact of_line _ (mirror_lineState i b s.lsv)
  | remove i => exact of_line _ (removeBook_lineState i s)
  | _ => exact Iff.rfl

theorem Moves.stopped_iff {s t : State} (m : Moves s t) :
    t.lsv.lineState = .safeStop ↔ s.lsv.lineState = .safeStop :=
  m.relates (fun s t => t.lsv.lineState = .safeStop ↔ s.lsv.lineState = .safeStop)
    (fun _ => Iff.rfl) (fun a b => b.trans a) Move.stopped_iff

end Sys2Proof.Machine

/-! What a command does to the part, above the shared operations: the updates that only the Line Supervisor, the
Line Monitor and the Table Store make, and the forms that taking a command has. -/

namespace Sys2Proof.Machine

open Sys2Proof Sys2Proof.Safety

set_option Elab.async false

/-! ## The work of a command -/

/-- One update that the work of a command is made of: a primitive update, or one of those that few commands
make. -/
inductive Work : State → State → Prop where
  | move {s t : State} (m : Move s t) : Work s t
  | line (l : LineState) (s : State) : Work s { s with lsv := { s.lsv with lineState := l, moved := true } }
  | causes (c : StopCauses) (s : State) : Work s { s with lsv := { s.lsv with causes := c } }
  | exit (e : Exit) (s : State) : Work s { s with lsv := s.lsv.recordExit e }
  | freeze (why : FreezeReason) (s : State) : Work s (s.freeze why)
  | unfreeze (s : State) : Work s s.recoveryClear
  | mode (m : LineMode) (s : State) : Work s { s with lsv := { s.lsv with mode := m } }
  | monitor (m : LineMonitor) (s : State) : Work s (s.setLm m)
  | tables (x : TableStore) (s : State) (formats : x.formats = s.ts.formats) : Work s { s with ts := x }
  | place (i : FormatId) (c : Option Format) (s : State) :
      Work s { s with ts := s.ts.modifyFormat i (FormatEntry.place c) }
  | air (p : Bool) (s : State) : Work s { s with pc := { s.pc with air := p } }
  | openBook (i : Slot) (b : Book) (s : State) (free : s.book i = none) (fresh : s.findBook b.id = none) :
      Work s (s.openBook i b)
  | flags (drawn : Nat) (lost discarded : Bool) (s : State) :
      Work s { s with
        free := drawn, lp := { s.lp with noticesLost := lost, requestsDiscarded := discarded } }
  | reset (s : State) : Work s s.resetBlocks

/-- The work of a command. -/
def Works : State → State → Prop := Relation.ReflTransGen Work

theorem Works.refl (s : State) : Works s s := Relation.ReflTransGen.refl

theorem Works.trans {s t u : State} (a : Works s t) (b : Works t u) : Works s u :=
  Relation.ReflTransGen.trans a b

theorem Work.works {s t : State} (w : Work s t) : Works s t := Relation.ReflTransGen.single w

theorem Moves.works {s t : State} (m : Moves s t) : Works s t :=
  m.relates Works Works.refl Works.trans fun a => (Work.move a).works

theorem Works.relates {s t : State} (R : State → State → Prop) (m : Works s t) (refl : ∀ s, R s s)
    (trans : ∀ {s t u}, R s t → R t u → R s u) (one : ∀ {s t}, Work s t → R s t) : R s t := by
  induction m with
  | refl => exact refl s
  | tail _ b ih => exact trans ih (one b)

theorem Works.keeps {s t : State} {P : State → Prop} (m : Works s t)
    (one : ∀ {s t}, Work s t → P s → P t) (h : P s) : P t :=
  m.relates (fun s t => P s → P t) (fun _ h => h) (fun a b h => b (a h)) one h

theorem Works.ite {p : Prop} [Decidable p] {s t u : State} (a : p → Works s t) (b : ¬p → Works s u) :
    Works s (if p then t else u) := by
  split
  · exact a ‹_›
  · exact b ‹_›

/-! ## The operations above the shared ones -/

theorem works_moveLine (l : LineState) (s : State) : Works s (s.moveLine l) := by
  refine (Work.line l s).works.trans (Moves.works ?_)
  exact ((Move.report _ _ _).moves.trans (Move.report _ _ _).moves).trans (moves_syncPause _)

theorem works_passOutcome (i : Slot) (b : Book) (o : BookOutcome) (s : State) :
    Works s (s.passOutcome i b o) := by
  unfold State.passOutcome
  have gate : Moves s (if o = .bound then s else s.triggerStrobe 8) :=
    .ite (fun _ => .refl s) fun _ => moves_triggerStrobe 8 s
  generalize (if o = .bound then s else s.triggerStrobe 8) = u at gate ⊢
  have told : Moves u ((u.sendOutcome o b).countOutcome o) :=
    (moves_sendOutcome o b u).trans (moves_countOutcome o _)
  refine ((gate.trans told).works.trans (Work.exit ⟨b.id, o⟩ _).works).trans (Moves.works ?_)
  exact (Move.remove i _).moves.trans (moves_setFinish _ _)

theorem works_passBook (f : Finish) (s : State) : Works s (s.passBook f) := by
  unfold State.passBook
  split
  · exact works_passOutcome _ _ _ s
  · exact (moves_setFinish _ s).works

theorem works_bookOnExit (f : Finish) (s : State) : Works s (s.bookOnExit f) :=
  .ite (fun _ => works_passBook f s) fun _ => (moves_setFinish _ s).works

theorem works_exitEdge (f : Finish) (s : State) : Works s (s.exitEdge f) := by
  unfold State.exitEdge
  split
  case h_6 => exact (Moves.ite (fun _ => moves_setFinish _ s) fun _ => .refl s).works
  case h_7 => exact works_passBook f s
  all_goals exact .refl s

theorem works_onFinish {act : Finish → State → State} (owner : ∀ f s, Works s (act f s)) (s : State) :
    Works s (s.onFinish act) := by
  unfold State.onFinish
  split
  · exact .refl s
  · exact owner _ s

theorem works_confirm {act : State → State} (owner : ∀ s, Works s (act s)) (j : Job) (s : State) :
    Works s (s.confirm j act) :=
  .ite (fun _ => ((moves_endOrder _ s).works.trans (owner _)).trans (moves_testRest _).works)
    fun _ => .refl s

theorem works_stopStep (f : Finish) (s : State) : Works s (s.stopStep f) := by
  have faulted : ∀ s : State, Moves s (s.interruptFinish f) := moves_interruptFinish f
  unfold State.stopStep
  split
  case h_1 => exact ((moves_emptyGather s).trans (faulted _)).works
  case h_6 => exact (faulted s).works.trans (works_passBook f _)
  case h_7 => exact (faulted s).works.trans (works_passBook f _)
  all_goals exact (faulted s).works

theorem works_stopFinish (s : State) : Works s s.stopFinish := by
  unfold State.stopFinish
  have ended := moves_withdrawFinishOrders s
  generalize (((((s.endOrder .finishTransfer).endOrder .exitTransfer).endOrder .drill).endOrder
    .hanger).endOrder .closer) = u at ended ⊢
  refine ended.works.trans ?_
  dsimp only
  split
  · exact .refl u
  · exact .ite (fun _ => .refl u) fun _ => works_stopStep _ u

theorem works_enterSafeStop (s : State) : Works s s.enterSafeStop := by
  unfold State.enterSafeStop
  refine (works_moveLine .safeStop s).trans (.trans (Moves.works ?_) (works_stopFinish _))
  exact ((moves_quietChannels _).trans (moves_stopScheduler _)).trans (moves_stopPurges _)

theorem works_addCause (x : StopCause) (s : State) : Works s (s.addCause x) := by
  unfold State.addCause
  refine (Work.causes (s.lsv.causes.add x) s).works.trans ?_
  exact .ite (fun _ => .refl _) fun _ => works_enterSafeStop _

theorem works_addCauseIf {p : Prop} [Decidable p] (x : StopCause) (s : State) :
    Works s (if p then s.addCause x else s) := .ite (fun _ => works_addCause x s) fun _ => .refl s

/-! ### Books and tables -/

theorem freeSlot_free {s : State} {i : Slot} (h : s.freeSlot = some i) : s.book i = none := by
  have := List.find?_some h
  simpa using this

theorem works_bookOpenChecked (id : Half) (f : FormatId) (declared : Option Nat) (s : State) :
    Works s (s.bookOpenChecked id f declared).1 := by
  unfold State.bookOpenChecked
  dsimp only
  split; · exact .refl s
  split; · exact .refl s
  split; · exact .refl s
  next fresh =>
  split
  · exact .refl s
  next i free =>
  exact (Work.openBook i _ s (freeSlot_free free) (by simpa [Book.new] using fresh)).works

theorem works_bookOpen (id : Half) (format declared : Byte) (s : State) :
    Works s (s.bookOpen id format declared).1 := by
  unfold State.bookOpen
  split
  · exact works_bookOpenChecked _ _ _ s
  · exact .refl s

theorem works_setDriveEntry (d : DriveId) (e : DriveEntry) (s : State) : Works s (s.setDriveEntry d e) :=
  (Work.tables { s.ts with drives := Bank.write s.ts.drives d e } s rfl).works.trans
    (((moves_testKind d _ _).trans (moves_cutDisabled _)).trans (moves_fixTimers _)).works

theorem works_setSettings (x : LineSettings) (s : State) : Works s (s.setSettings x) :=
  ((Work.tables { s.ts with settings := x } s rfl).works.trans (Work.monitor _ _).works).trans
    (moves_testDwell _).works

theorem works_tableWrite (selector entry : Byte) (contents : List Byte) (s : State) :
    Works s (s.tableWrite selector entry contents).1 := by
  unfold State.tableWrite
  split
  · exact .refl s
  next p _ =>
    unfold State.writePattern
    split
    · exact .refl s
    next x _ =>
      split
      · exact .refl s
      · exact (Work.tables { s.ts with patterns := Bank.write s.ts.patterns p x } s rfl).works
  next i _ =>
    unfold State.writeFormat
    split
    · exact .refl s
    · exact (Work.place i _ s).works
  next d _ =>
    unfold State.writeDrive
    split
    · split
      · exact .refl s
      · exact works_setDriveEntry d _ s
    · exact .refl s
  · unfold State.writeSettings
    split
    · split
      · exact .refl s
      · exact works_setSettings _ s
    · exact .refl s

/-! ### The Line Supervisor and the Line Monitor -/

/-- After STOP CLEAR the clamp is tested, the finish book goes on and the timers run (R91, R154, R99). -/
theorem moves_afterStop (s : State) : Moves s ((s.testClamp).resumeFinish).fixTimers :=
  ((moves_testClamp s).trans (moves_resumeFinish _)).trans (moves_fixTimers _)

theorem works_clearStop (s : State) : Works s s.clearStop := by
  have cleared := (Work.causes StopCauses.none s).works
  unfold State.clearStop
  generalize ({ s with lsv := { s.lsv with causes := StopCauses.none } } : State) = u at cleared ⊢
  have drives : Moves u u.clearFaultedDrives := (Move.scheduler _ _ (.inl (by rfl))).moves
  refine cleared.trans (.trans ?_ (moves_afterStop _).works)
  exact (drives.trans (Move.holds _ _).moves).works.trans (works_moveLine _ _)

theorem works_stopClear (s : State) : Works s s.stopClear.1 := by
  unfold State.stopClear
  split
  · exact works_clearStop s
  · exact .refl s

theorem works_changeMode (m : LineMode) (s : State) : Works s (s.changeMode m) :=
  (Work.mode m s).works.trans ((Move.channels _ _).moves.trans (moves_fixTimers _)).works

theorem works_setMode (modeByte : Byte) (s : State) : Works s (s.setMode modeByte).1 := by
  unfold State.setMode
  split
  · exact .refl s
  unfold State.setModeChecked
  split
  · split
    · exact .ite (fun _ => .refl s) fun _ => works_changeMode _ s
    · exact .refl s
  · exact .refl s

theorem moves_reportAfterReset (s : State) : Moves s s.reportAfterReset := by
  have report : ∀ c p s, Moves s (State.reportLevel c p s) := fun c p s => (Move.report c p s).moves
  exact ((((report _ _ _).trans (moves_syncPause _)).trans (report _ _ _)).trans (report _ _ _)).trans
    (report _ _ _)

theorem works_lineReset (s : State) : Works s s.lineReset :=
  ((Work.freeze .lineReset s).works.trans (Work.reset _).works).trans
    ((moves_reportAfterReset _).trans (moves_fixTimers _)).works

theorem works_powerWarning (s : State) : Works s s.powerWarning :=
  ((Work.freeze _ s).works.trans (Move.report _ _ _).moves.works).trans (works_addCause _ _)

theorem works_setAir (present : Bool) (s : State) : Works s (s.setAir present) := by
  unfold State.setAir
  refine ((Work.air present s).works.trans (Move.report .airLow (!present) _).moves.works).trans ?_
  exact .ite (fun _ => (moves_grantAll _).works)
    fun _ => ((moves_stopPurges _).trans (moves_testRest _)).works

theorem works_quarterExpiry (d : DriveId) (s : State) : Works s (s.quarterExpiry d) := by
  have rises : (s.account d).debt ≤ s.accrued d := by
    unfold State.accrued
    cases (s.account d).temperature <;> simp [Temperature.accrual]
  unfold State.quarterExpiry
  refine .ite (fun _ => ?_) fun _ => .refl s
  refine .ite (fun le => (moves_setDebtAtExpiry (.inl rises) le).works) fun _ => ?_
  exact ((moves_setDebtAtExpiry (.inr rfl) (by decide)).trans (Move.occur _ _).moves).works.trans
    (works_addCause _ _)

theorem works_strokeTimeout (d : DriveId) (s : State) : Works s (s.strokeTimeout d) :=
  .ite (fun _ => (moves_setDrive d _ s).works.trans (works_addCause _ _)) fun _ => .refl s

theorem works_afterLineRead (s : State) : Works s s.afterLineRead := by
  have peaks : Moves s { s with
      si := { s.si with peak := s.si.notices.length }, lb := { s.lb with peak := s.lb.queue.length } } :=
    (Move.intake { s.si with peak := s.si.notices.length } s rfl (.inl (by rfl))).moves.trans
      (Move.builder { s.lb with peak := s.lb.queue.length } { s with si := _ } (.inl (by rfl))).moves
  exact peaks.works.trans (Work.flags (s.free + 1) false false _).works

theorem works_statusRead (page : Byte) (s : State) : Works s (s.statusRead page).1 := by
  unfold State.statusRead
  split
  · exact .refl s
  · exact works_afterLineRead s
  · exact .refl s
  · exact .refl s

theorem works_eventSetup (a b : Half) (s : State) : Works s (s.eventSetup a b).1 := by
  unfold State.eventSetup
  split
  · exact (Work.monitor _ s).works
  · exact .refl s

theorem works_eventClear (a : Half) (s : State) : Works s (s.eventClear a).1 := by
  unfold State.eventClear
  split
  · exact (Work.monitor _ s).works
  · exact .refl s

theorem works_counterTransfer (s : State) : Works s s.counterTransfer.1 := by
  unfold State.counterTransfer
  split
  · exact (Work.monitor _ s).works
  · exact .refl s

theorem works_reportPeriodExpiry (s : State) : Works s s.reportPeriodExpiry :=
  .ite (fun _ => (Work.monitor _ s).works.trans (Move.notice _ _).moves.works) fun _ => .refl s

end Sys2Proof.Machine

/-! The forms that taking a command has: the link alone, the work of an event, the work of a request between its
reservation and its answer, or a reset. -/

namespace Sys2Proof.Machine

open Sys2Proof Sys2Proof.Safety

set_option Elab.async false

/-! ## What owners do at a command -/

/-- What the owner of a request does between the reservation of its answer's place and the answer. -/
inductive RequestWork : (State → State × Reply) → Prop where
  | reply (r : State → Reply) : RequestWork fun s => (s, r s)
  | bookOpen (id : Half) (format declared : Byte) : RequestWork (State.bookOpen id format declared)
  | bookCancel (id : Half) : RequestWork (State.bookCancel id)
  | tableWrite (selector entry : Byte) (contents : List Byte) :
      RequestWork (State.tableWrite selector entry contents)
  | channelSet (channel mode source : Byte) (k : Counts) :
      RequestWork (State.channelSet channel mode source k)
  | channelCount (channel : Byte) (k : Counts) : RequestWork (State.channelCount channel k)
  | capture (x : Half) (selector : Byte) : RequestWork (State.capture x selector)
  | channelRead (channel : Byte) : RequestWork (State.channelRead channel)
  | counterTransfer : RequestWork State.counterTransfer
  | eventSetup (enables edges : Half) : RequestWork (State.eventSetup enables edges)
  | eventClear (conditions : Half) : RequestWork (State.eventClear conditions)
  | statusRead (page : Byte) : RequestWork (State.statusRead page)
  | hold : RequestWork fun s => doneWith s.holdLine
  | resume : RequestWork State.resumeLine
  | stop : RequestWork fun s => doneWith (s.addCause .stopRequest)
  | stopClear : RequestWork State.stopClear
  | setMode (modeByte : Byte) : RequestWork (State.setMode modeByte)
  | lineReset : RequestWork fun s => doneWith s.lineReset
  | bitChanged (life : Half) : RequestWork (State.bitChanged life)
  | recoveryClear : RequestWork fun s => doneWith s.recoveryClear

/-- What the owner of an event does once the link and the inputs have taken it. -/
inductive EventWork : (State → State) → Prop where
  | none : EventWork id
  | linkError : EventWork (State.occur .linkError)
  | sheetNotice (w : SheetWords) : EventWork (State.sheetNotice w)
  | infeedEdge : EventWork fun s => s.infeedEdge.testRest
  | noticeExpiry : EventWork State.noticeExpiry
  | bedTransferOrder : EventWork State.orderBedTransfer
  | stationReady (st : Station) : EventWork (State.issueWaiting st)
  | readyWaitExpiry (st : Station) : EventWork (State.readyWaitExpiry st)
  | orderTimeout (st : Station) : EventWork (State.orderTimeout st)
  | bedArrival : EventWork (State.confirm .bedTransfer State.liftArrives)
  | strikeBegin : EventWork State.strikeBegin
  | strokeDone (d : DriveId) : EventWork fun s => (s.strokeDone d).testRest
  | strokeTimeout (d : DriveId) : EventWork (State.strokeTimeout d)
  | outRequest : EventWork State.outRequest
  | outTransferOrder : EventWork State.orderOutTransfer
  | gatherArrival : EventWork (State.confirm .outTransfer State.liftGathered)
  | bedDwellLimitExpiry : EventWork State.testDwell
  | quarterIntervalExpiry (d : DriveId) : EventWork (State.quarterExpiry d)
  | purgeGrant (d : DriveId) : EventWork (State.tryGrant d)
  | purgeEnd (d : DriveId) : EventWork (State.purgeEnd d)
  | temperatureChange (d : DriveId) (t : Temperature) : EventWork (State.setTemperature d t)
  | purgeAirChange (present : Bool) : EventWork (State.setAir present)
  | holdDwellEnd : EventWork State.holdDwellEnd
  | strobeWaitEnd (i : ChannelId) : EventWork (State.strobeWaitEnd i)
  | strobePulseEnd (i : ChannelId) : EventWork (State.strobePulseEnd i)
  | pitchPulseEnd : EventWork State.pitchPulseEnd
  | pitchPeriodBoundary : EventWork State.pitchPeriodBoundary
  | softWaitEnd (i : ChannelId) : EventWork (State.softWaitEnd i)
  | softPulseEnd (i : ChannelId) : EventWork (State.softPulseEnd i)
  | finishTransferOrder : EventWork State.orderFinishTransfer
  | finishTransferDone : EventWork (State.confirm .finishTransfer State.bookArrives)
  | drillDone : EventWork (State.confirm .drill (State.onFinish State.holeDrilled))
  | hangerDone : EventWork (State.confirm .hanger (State.onFinish State.hangerSet))
  | closerDone : EventWork (State.confirm .closer (State.onFinish State.startExit))
  | exitTransferDone : EventWork (State.confirm .exitTransfer (State.onFinish State.bookOnExit))
  | exitRunTimeout : EventWork State.exitRunTimeout
  | exitSensorEdge : EventWork fun s => (s.onFinish State.exitEdge).testRest
  | guardOpen : EventWork (State.addCause .guard)
  | powerWarningAssert : EventWork State.powerWarning
  | powerWarningRelease : EventWork (State.reportLevel .powerWarning false)
  | reportPeriodExpiry : EventWork State.reportPeriodExpiry

theorem RequestWork.works {act : State → State × Reply} (w : RequestWork act) (s : State) :
    Works s (act s).1 := by
  cases w with
  | reply => exact .refl s
  | bookOpen id f d => exact works_bookOpen id f d s
  | bookCancel id => exact (moves_bookCancel id s).works
  | tableWrite x e c => exact works_tableWrite x e c s
  | channelSet c m x k => exact (moves_channelSet c m x k s).works
  | channelCount c k => exact (moves_channelCount c k s).works
  | capture x c => exact (moves_capture x c s).works
  | channelRead c => exact (moves_channelRead c s).works
  | counterTransfer => exact works_counterTransfer s
  | eventSetup a b => exact works_eventSetup a b s
  | eventClear a => exact works_eventClear a s
  | statusRead p => exact works_statusRead p s
  | hold => exact (moves_holdLine s).works
  | resume => exact (moves_resumeLine s).works
  | stop => exact works_addCause _ s
  | stopClear => exact works_stopClear s
  | setMode m => exact works_setMode m s
  | lineReset => exact works_lineReset s
  | bitChanged l => exact (moves_bitChanged l s).works
  | recoveryClear => exact (Work.unfreeze s).works

theorem EventWork.works {act : State → State} (w : EventWork act) (s : State) : Works s (act s) := by
  cases w with
  | none => exact .refl s
  | linkError => exact (Move.occur _ s).moves.works
  | sheetNotice x => exact (moves_sheetNotice x s).works
  | infeedEdge => exact ((moves_infeedEdge s).trans (moves_testRest _)).works
  | noticeExpiry => exact (moves_noticeExpiry s).works
  | bedTransferOrder => exact (moves_orderBedTransfer s).works
  | stationReady st => exact (moves_issueWaiting st s).works
  | readyWaitExpiry st => exact (moves_readyWaitExpiry st s).works
  | orderTimeout st => exact works_addCauseIf _ s
  | bedArrival => exact (moves_confirm moves_liftArrives _ s).works
  | strikeBegin => exact (moves_strikeBegin s).works
  | strokeDone d => exact ((moves_strokeDone d s).trans (moves_testRest _)).works
  | strokeTimeout d => exact works_strokeTimeout d s
  | outRequest => exact (moves_outRequest s).works
  | outTransferOrder => exact (moves_orderOutTransfer s).works
  | gatherArrival => exact (moves_confirm moves_liftGathered _ s).works
  | bedDwellLimitExpiry => exact (moves_testDwell s).works
  | quarterIntervalExpiry d => exact works_quarterExpiry d s
  | purgeGrant d => exact (moves_tryGrant d s).works
  | purgeEnd d => exact (moves_purgeEnd d s).works
  | temperatureChange d t => exact (moves_setTemperature d t s).works
  | purgeAirChange p => exact works_setAir p s
  | holdDwellEnd => exact (moves_holdDwellEnd s).works
  | strobeWaitEnd i => exact (moves_strobeWaitEnd i s).works
  | strobePulseEnd i => exact (moves_strobePulseEnd i s).works
  | pitchPulseEnd => exact (moves_pitchPulseEnd s).works
  | pitchPeriodBoundary => exact (moves_pitchPeriodBoundary s).works
  | softWaitEnd i => exact (moves_softWaitEnd i s).works
  | softPulseEnd i => exact (moves_softPulseEnd i s).works
  | finishTransferOrder => exact (moves_orderFinishTransfer s).works
  | finishTransferDone => exact (moves_confirm moves_bookArrives _ s).works
  | drillDone => exact (moves_confirm (moves_onFinish moves_holeDrilled) _ s).works
  | hangerDone => exact (moves_confirm (moves_onFinish moves_hangerSet) _ s).works
  | closerDone => exact (moves_confirm (moves_onFinish moves_startExit) _ s).works
  | exitTransferDone => exact works_confirm (works_onFinish works_bookOnExit) _ s
  | exitRunTimeout => exact works_addCauseIf _ s
  | exitSensorEdge => exact (works_onFinish works_exitEdge s).trans (moves_testRest _).works
  | guardOpen => exact works_addCause _ s
  | powerWarningAssert => exact works_powerWarning s
  | powerWarningRelease => exact (Move.report _ _ s).moves.works
  | reportPeriodExpiry => exact works_reportPeriodExpiry s

/-! ## The link -/

/-- The Link Port has taken, returned, discarded or sent a frame, or a character: nothing has been reserved, and
its bounds are kept (R190, R195, R199). -/
def LinkMoved (l m : LinkPort) : Prop :=
  m.reserved = l.reserved ∧ (l.placesInUse ≤ 16 → m.placesInUse ≤ 16) ∧ m.noticeCount ≤ l.noticeCount

theorem LinkMoved.of_queue {l m : LinkPort} (reserved : m.reserved = l.reserved) (queue : m.queue = l.queue) :
    LinkMoved l m := by
  simp [LinkMoved, LinkPort.placesInUse, LinkPort.noticeCount, reserved, queue]

theorem LinkMoved.trans {l m n : LinkPort} (a : LinkMoved l m) (b : LinkMoved m n) : LinkMoved l n :=
  ⟨b.1.trans a.1, fun h => b.2.1 (a.2.1 h), b.2.2.trans a.2.2⟩

theorem linkMoved_hunt (l : LinkPort) : LinkMoved l l.hunt := .of_queue rfl rfl

theorem linkMoved_discard (l : LinkPort) : LinkMoved l l.discard := .of_queue rfl rfl

theorem linkMoved_echo (f : Frame) (l : LinkPort) : LinkMoved l (l.echo f) := by
  unfold LinkPort.echo
  split
  · refine ⟨rfl, fun _ => ?_, ?_⟩
    · simp only [LinkPort.placesInUse, List.length_append, List.length_singleton] at *
      omega
    · simp [LinkPort.noticeCount, Upstream.isNotice]
  · exact linkMoved_discard l

theorem linkMoved_sent (l : LinkPort) : LinkMoved l l.sent := by
  unfold LinkPort.sent
  split
  · exact .of_queue rfl rfl
  next u rest e =>
    refine ⟨rfl, fun h => ?_, ?_⟩
    · simp only [LinkPort.placesInUse, e, List.length_cons] at *
      omega
    · simp only [LinkPort.noticeCount, e, List.countP_cons]
      omega

/-! ## Taking a command -/

/-- Command `i` has been taken from `s`, with `t` after it. An input has the level that the command brings. -/
inductive Taken (i : Instr) : State → State → Prop where
  | asserted {s : State} (held : s.resetAsserted = true) : Taken i s (s.setInputs (inputsAfter i s.inputs))
  | event {s : State} {act : State → State} (w : EventWork act) (l : LinkPort) (link : LinkMoved s.lp l)
      (awake : Awake s) : Taken i s (act ((s.setLp l).setInputs (inputsAfter i s.inputs)))
  | served {s : State} {act : State → State × Reply} (kept : inputsAfter i s.inputs = s.inputs)
      (w : RequestWork act) (u : Reply → Upstream) (answers : ∀ r, (u r).isNotice = false) (awake : Awake s)
      (room : s.lp.placesInUse < 16) :
      Taken i s ((act (admitted s)).1.setLp ((act (admitted s)).1.lp.answer (u (act (admitted s)).2)))
  | assertReset {s : State} (kept : inputsAfter i s.inputs = s.inputs) (awake : Awake s) :
      Taken i s s.assertReset
  | releaseReset {s : State} (release : i = .resetInputRelease) (held : s.resetAsserted = true) :
      Taken i s s.releaseReset
  | powerOn {s : State} (x : Inputs) (power : i = .powerOn x) : Taken i s (s.powerOn x)

section

variable {i : Instr} {s t : State} (kept : inputsAfter i s.inputs = s.inputs)

include kept

theorem Taken.work {act : State → State} (w : EventWork act) (l : LinkPort) (moved : LinkMoved s.lp l)
    (awake : Awake s) : Taken i s (act (s.setLp l)) := by
  have taken : Taken i s (act ((s.setLp l).setInputs (inputsAfter i s.inputs))) := .event w l moved awake
  rw [kept] at taken
  exact taken

theorem Taken.link (l : LinkPort) (moved : LinkMoved s.lp l) (awake : Awake s) : Taken i s (s.setLp l) :=
  .work kept .none l moved awake

theorem Taken.nothing : Taken i s s := by
  by_cases h : s.resetAsserted = true
  · have taken : Taken i s (s.setInputs (inputsAfter i s.inputs)) := .asserted h
    rw [kept] at taken
    exact taken
  · exact .link kept s.lp (.of_queue rfl rfl) (Bool.eq_false_iff.2 h)

/-- An event is taken by its owner, or not at all while the part is held in reset. -/
theorem taken_event {act : State → State} (h : takeEvent act s = .next t)
    (owner : Awake s → Taken i s (act s)) : Taken i s t := by
  unfold takeEvent at h
  split at h <;> cases h
  · exact .nothing kept
  · exact owner (Bool.eq_false_iff.2 ‹_›)

theorem taken_work {act : State → State} (w : EventWork act) (h : takeEvent act s = .next t) :
    Taken i s t := taken_event kept h fun awake => .work kept w s.lp (.of_queue rfl rfl) awake

theorem taken_request {f : Frame} {act : State → State × Reply} (w : RequestWork act)
    (h : takeRequest f act s = .next t) : Taken i s t := by
  refine taken_event kept h fun awake => ?_
  unfold State.request
  dsimp only
  split
  · exact .link kept _ ((linkMoved_hunt s.lp).trans (linkMoved_echo f _)) awake
  unfold State.serve
  split
  · exact .served kept w f.answered (fun _ => rfl) awake ‹_›
  · exact .link kept _ ((linkMoved_hunt s.lp).trans (linkMoved_discard _)) awake

theorem taken_linkError (h : takeEvent State.linkError s = .next t) : Taken i s t :=
  taken_event kept h fun awake => .work kept .linkError s.lp.hunt (linkMoved_hunt _) awake

theorem taken_sheetNotice {tag leaf kind flags : Byte} {book thickness : Half}
    (h : execSheetNotice tag book leaf kind thickness flags s = .next t) : Taken i s t := by
  refine taken_event kept h fun awake => ?_
  dsimp only
  split
  · exact .link kept _ ((linkMoved_hunt s.lp).trans (linkMoved_echo _ _)) awake
  · exact .work kept (.sheetNotice _) s.lp.hunt (linkMoved_hunt _) awake

/-- A command as a request has one of the forms, whatever command it is taken for. -/
theorem taken_execRequest {j : Instr} (h : execRequest j s = .next t) : Taken i s t := by
  cases j <;> simp only [execRequest] at h
  case sheetNotice => exact taken_sheetNotice kept h
  case bookOpen => exact taken_request kept (.bookOpen _ _ _) h
  case bookCancel => exact taken_request kept (.bookCancel _) h
  case tableWrite =>
    unfold execTableWrite at h
    split at h
    · exact taken_request kept (.tableWrite _ _ _) h
    · exact taken_linkError kept h
  case tableRead => exact taken_request kept (.reply _) h
  case channelSet => exact taken_request kept (.channelSet _ _ _ _) h
  case channelCount => exact taken_request kept (.channelCount _ _) h
  case capture => exact taken_request kept (.capture _ _) h
  case channelRead => exact taken_request kept (.channelRead _) h
  case counterTransfer => exact taken_request kept .counterTransfer h
  case counterRead => exact taken_request kept (.reply _) h
  case eventSetup => exact taken_request kept (.eventSetup _ _) h
  case eventClear => exact taken_request kept (.eventClear _) h
  case statusRead => exact taken_request kept (.statusRead _) h
  case hold => exact taken_request kept .hold h
  case resume => exact taken_request kept .resume h
  case stop => exact taken_request kept .stop h
  case stopClear => exact taken_request kept .stopClear h
  case setMode => exact taken_request kept (.setMode _) h
  case lineReset => exact taken_request kept .lineReset h
  case bitChanged => exact taken_request kept (.bitChanged _) h
  case recoveryRead => exact taken_request kept (.reply _) h
  case recoveryClear => exact taken_request kept .recoveryClear h
  all_goals
    cases h
    exact .nothing kept

theorem taken_frame {f : Frame} (h : takeFrame f s = .next t) : Taken i s t := by
  unfold takeFrame at h
  split at h
  · exact taken_linkError kept h
  split at h
  · exact taken_execRequest kept h
  · exact taken_request kept (.reply _) h
  · exact taken_linkError kept h
  · exact taken_request kept (.reply _) h

theorem taken_characters {cs : List Byte} {bad : Bool} (h : takeCharacters cs bad s = .next t) :
    Taken i s t := by
  unfold takeCharacters at h
  split at h
  · dsimp only at h
    split at h
    · exact taken_frame kept h
    · exact taken_linkError kept h
  · exact taken_linkError kept h

theorem taken_character {c : Byte} {e : Bool} (h : execRequestLaneCharacter c e s = .next t) :
    Taken i s t := by
  have received : ∀ r, Awake s → Taken i s (s.setReceiver r) :=
    fun r awake => .link kept { s.lp with receiver := r } (.of_queue rfl rfl) awake
  unfold execRequestLaneCharacter at h
  split at h
  · refine taken_event kept h fun awake => ?_
    unfold State.hunt
    split
    · exact received _ awake
    · exact .nothing kept
  · unfold takeInFrame at h
    split at h
    · exact taken_linkError kept h
    dsimp only at h
    split at h
    · exact taken_characters kept h
    · exact taken_event kept h (received _)

end

/-- An event that brings an input level. -/
theorem taken_level {i : Instr} {s t : State} {act record : State → State}
    (recorded : record s = s.setInputs (inputsAfter i s.inputs)) (h : takeLevel record act s = .next t)
    (owner : Awake s → Taken i s (act (s.setInputs (inputsAfter i s.inputs)))) : Taken i s t := by
  unfold takeLevel at h
  split at h <;> cases h
  · exact recorded ▸ .asserted ‹_›
  · exact recorded ▸ owner (Bool.eq_false_iff.2 ‹_›)

theorem taken_levelWork {i : Instr} {s t : State} {act record : State → State} (w : EventWork act)
    (recorded : record s = s.setInputs (inputsAfter i s.inputs)) (h : takeLevel record act s = .next t) :
    Taken i s t := taken_level recorded h fun awake => .event w s.lp (.of_queue rfl rfl) awake

theorem inputsAfter_of_request {i : Instr} (h : isRequest i = true) (x : Inputs) : inputsAfter i x = x := by
  cases i <;> simp_all [isRequest, requestFrame, inputsAfter]

/-- A request has the same meaning wherever its frame came from. -/
theorem exec_eq_execRequest {i : Instr} (h : isRequest i = true) (s : State) : exec i s = execRequest i s := by
  cases i <;> simp_all [isRequest, requestFrame, exec, execRequest]

/-- Every command has one of these forms. -/
theorem exec_taken {i : Instr} {s t : State} (h : exec i s = .next t) : Taken i s t := by
  by_cases request : isRequest i = true
  · exact taken_execRequest (inputsAfter_of_request request _) ((exec_eq_execRequest request s).symm.trans h)
  cases i
  case unknownKindFrame => exact taken_frame rfl h
  case damagedFrame => exact taken_linkError rfl h
  case echoReturn => exact taken_frame rfl h
  case frameBreakTimeout =>
    refine taken_event rfl h fun awake => ?_
    unfold State.frameBreak
    split
    · exact .work rfl .linkError s.lp.hunt (linkMoved_hunt _) awake
    · exact .nothing rfl
  case frameSent => exact taken_event rfl h fun awake => .link rfl _ (linkMoved_sent _) awake
  case infeedEdge => exact taken_work rfl .infeedEdge h
  case noticeExpiry => exact taken_work rfl .noticeExpiry h
  case bedTransferOrder => exact taken_work rfl .bedTransferOrder h
  case stationReady st present =>
    refine taken_level rfl h fun awake => ?_
    cases present
    · exact .event .none s.lp (.of_queue rfl rfl) awake
    · exact .event (.stationReady st) s.lp (.of_queue rfl rfl) awake
  case readyWaitExpiry => exact taken_work rfl (.readyWaitExpiry _) h
  case orderTimeout => exact taken_work rfl (.orderTimeout _) h
  case bedArrival => exact taken_work rfl .bedArrival h
  case strikeBegin => exact taken_work rfl .strikeBegin h
  case strokeDone => exact taken_work rfl (.strokeDone _) h
  case strokeTimeout => exact taken_work rfl (.strokeTimeout _) h
  case outRequest => exact taken_work rfl .outRequest h
  case outTransferOrder => exact taken_work rfl .outTransferOrder h
  case gatherArrival => exact taken_work rfl .gatherArrival h
  case bedDwellLimitExpiry => exact taken_work rfl .bedDwellLimitExpiry h
  case quarterIntervalExpiry => exact taken_work rfl (.quarterIntervalExpiry _) h
  case purgeGrant => exact taken_work rfl (.purgeGrant _) h
  case purgeEnd => exact taken_work rfl (.purgeEnd _) h
  case temperatureChange => exact taken_levelWork (.temperatureChange _ _) rfl h
  case purgeAirChange p =>
    refine taken_level (act := fun s => if s.pc.air = p then s else s.setAir p)
      (record := State.recordAir p) rfl h fun awake => ?_
    split
    · exact .event .none s.lp (.of_queue rfl rfl) awake
    · exact .event (.purgeAirChange p) s.lp (.of_queue rfl rfl) awake
  case holdDwellEnd => exact taken_work rfl .holdDwellEnd h
  case strobeWaitEnd => exact taken_work rfl (.strobeWaitEnd _) h
  case strobePulseEnd => exact taken_work rfl (.strobePulseEnd _) h
  case pitchPulseEnd => exact taken_work rfl .pitchPulseEnd h
  case pitchPeriodBoundary => exact taken_work rfl .pitchPeriodBoundary h
  case softWaitEnd => exact taken_work rfl (.softWaitEnd _) h
  case softPulseEnd => exact taken_work rfl (.softPulseEnd _) h
  case finishTransferOrder => exact taken_work rfl .finishTransferOrder h
  case finishTransferDone => exact taken_work rfl .finishTransferDone h
  case drillDone => exact taken_work rfl .drillDone h
  case hangerDone => exact taken_work rfl .hangerDone h
  case closerDone => exact taken_work rfl .closerDone h
  case exitTransferDone => exact taken_work rfl .exitTransferDone h
  case exitRunTimeout => exact taken_work rfl .exitRunTimeout h
  case exitSensorEdge => exact taken_work rfl .exitSensorEdge h
  case guardOpen =>
    refine taken_level rfl h fun awake => ?_
    split
    · exact .event .guardOpen s.lp (.of_queue rfl rfl) awake
    · exact .event .none s.lp (.of_queue rfl rfl) awake
  case guardClose => exact taken_levelWork .none rfl h
  case powerWarningAssert =>
    refine taken_level (act := fun t => if s.inputs.powerWarning then t else t.powerWarning)
      (record := State.recordWarning true) rfl h fun awake => ?_
    split
    · exact .event .none s.lp (.of_queue rfl rfl) awake
    · exact .event .powerWarningAssert s.lp (.of_queue rfl rfl) awake
  case powerWarningRelease => exact taken_levelWork .powerWarningRelease rfl h
  case resetInputAssert => exact taken_event rfl h (.assertReset rfl)
  case resetInputRelease =>
    cases h
    by_cases held : s.resetAsserted = true
    · simpa [held] using Taken.releaseReset rfl held
    · simpa [held] using Taken.nothing (i := .resetInputRelease) (s := s) rfl
  case powerOn x =>
    cases h
    exact .powerOn x rfl
  case reportPeriodExpiry => exact taken_work rfl .reportPeriodExpiry h
  case requestLaneCharacter => exact taken_character rfl h
  all_goals exact absurd rfl request

end Sys2Proof.Machine

/-! The bounds of the queues and of the debts, kept by every step. -/

namespace Sys2Proof.Machine

open Sys2Proof Sys2Proof.Safety

set_option Elab.async false

/-! ## The forms of a step -/

/-- A step takes a command, waiting or fallen due, or time or travel goes on. -/
theorem step_forms {s t : State} (h : step s = .next t) :
    (∃ i p n, Taken i { s with pending := p, free := n } t)
      ∨ (s.resetAsserted = true ∧ t = s.resetTick) ∨ (Awake s ∧ t = s.goOn) := by
  unfold step at h
  split at h
  case h_2 i rest _ => exact .inl ⟨i, rest, s.free, exec_taken h⟩
  unfold idle at h
  split at h
  · cases h
    exact .inr (.inl ⟨‹_›, rfl⟩)
  next awake =>
  split at h
  next i _ =>
    refine .inl ⟨i, s.pending, s.drawn.free, ?_⟩
    have drawn : s.drawn = { s with pending := s.pending, free := s.drawn.free } := by
      unfold State.drawn
      split <;> rfl
    rw [← drawn]
    exact exec_taken h
  · cases h
    exact .inr (.inr ⟨Bool.eq_false_iff.2 awake, rfl⟩)

/-- What a taken command, a fetch, and time and travel keep, every step keeps. -/
theorem step_keeps {P : State → Prop} {s t : State} (h : step s = .next t)
    (fetch : ∀ p n s, P s → P { s with pending := p, free := n })
    (taken : ∀ {i s t}, Taken i s t → P s → P t) (held : s.resetAsserted = true → P s → P s.resetTick)
    (goOn : P s → P s.goOn) (hs : P s) : P t := by
  obtain ⟨i, p, n, k⟩ | ⟨r, rfl⟩ | ⟨_, rfl⟩ := step_forms h
  · exact taken k (fetch p n s hs)
  · exact held r hs
  · exact goOn hs

/-- What the work of commands keeps, whatever the link and the inputs, and resets establish, a taken command
keeps. -/
theorem Taken.keeps {P : State → Prop} {i : Instr} {s t : State} (k : Taken i s t)
    (outside : ∀ l x s, P s → P ((s.setLp l).setInputs x)) (work : ∀ {s t}, Work s t → P s → P t)
    (assertReset : P s → P s.assertReset)
    (releaseReset : s.resetAsserted = true → P s → P s.releaseReset) (powerOn : ∀ x, P s → P (s.powerOn x))
    (hs : P s) : P t := by
  cases k with
  | asserted held => exact outside s.lp _ s hs
  | event w l _ _ => exact (w.works _).keeps work (outside l _ s hs)
  | @served act _ w u _ _ _ =>
    have owned : P (act (admitted s)).1 := (w.works _).keeps work (outside (admitted s).lp s.inputs s hs)
    exact outside ((act (admitted s)).1.lp.answer _) (act (admitted s)).1.inputs _ owned
  | assertReset _ _ => exact assertReset hs
  | releaseReset _ held => exact releaseReset held hs
  | powerOn x _ => exact powerOn x hs

/-! ## The Return Queue -/

/-- The places of the Return Queue are within their bounds, and the reservation is as given (R195, R197). -/
def LinkPort.Bounded (reserved : Bool) (l : LinkPort) : Prop :=
  (l.placesInUse ≤ 16 ∧ l.noticeCount ≤ 12) ∧ l.reserved = reserved

theorem linkBounds_iff (s : State) : LinkBounds s ↔ s.lp.Bounded false := by
  unfold LinkBounds LinkPort.Bounded LinkPort.placesInUse
  constructor
  · rintro ⟨places, notices, free⟩
    exact ⟨⟨by simpa [free] using places, notices⟩, free⟩
  · rintro ⟨⟨places, notices⟩, free⟩
    exact ⟨by simpa [free] using places, notices, free⟩

theorem NoticesPushed.bounded {l m : LinkPort} (h : NoticesPushed l m) {r : Bool} (b : l.Bounded r) :
    m.Bounded r := by
  refine ⟨h.bounds b.1, ?_⟩
  rw [h.keeps]
  exact b.2

theorem LinkMoved.bounded {l m : LinkPort} (h : LinkMoved l m) {r : Bool} (b : l.Bounded r) :
    m.Bounded r :=
  ⟨⟨h.2.1 b.1.1, h.2.2.trans b.1.2⟩, h.1.trans b.2⟩

theorem LinkPort.reset_bounded : LinkPort.reset.Bounded false := ⟨⟨by decide, by decide⟩, rfl⟩

theorem Work.bounded {s t : State} {r : Bool} (w : Work s t) (b : s.lp.Bounded r) : t.lp.Bounded r := by
  cases w with
  | move m => exact m.pushed.bounded b
  | unfreeze =>
    unfold State.recoveryClear
    split
    · exact b
    · exact b
  | _ => exact b

theorem bringUp_bounded (s : State) : s.bringUp.lp.Bounded false := by
  have reported : ∀ (l : List Condition) (u : State), u.lp.Bounded false →
      (l.foldl (fun s c => s.reportLevel c (s.levelOf c)) u).lp.Bounded false := by
    intro l
    induction l with
    | nil => exact fun _ h => h
    | cons c l ih => exact fun u h => ih _ ((NoticesPushed.optional u.lp _).bounded h)
  exact reported _ _ LinkPort.reset_bounded

theorem powerOn_bounded (x : Inputs) (s : State) : (s.powerOn x).lp.Bounded false := by
  unfold State.powerOn
  dsimp only
  split
  · exact LinkPort.reset_bounded
  · exact bringUp_bounded _

/-- The place reserved for an answer is the one that the answer takes. -/
theorem answer_bounded {l : LinkPort} {u : Upstream} (h : l.Bounded true) (answer : u.isNotice = false) :
    (l.answer u).Bounded false := by
  obtain ⟨⟨places, notices⟩, reserved⟩ := h
  refine ⟨⟨?_, ?_⟩, rfl⟩
  · simp only [LinkPort.placesInUse, reserved, LinkPort.answer, List.length_append] at *
    simpa using places
  · simpa [LinkPort.noticeCount, LinkPort.answer, answer] using notices

theorem admitted_bounded {s : State} (h : s.lp.Bounded false) (room : s.lp.placesInUse < 16) :
    (admitted s).lp.Bounded true := by
  obtain ⟨⟨places, notices⟩, reserved⟩ := h
  refine ⟨⟨?_, notices⟩, rfl⟩
  simp only [LinkPort.placesInUse, reserved, admitted] at *
  simpa using room

theorem Taken.bounded {i : Instr} {s t : State} (k : Taken i s t) (h : s.lp.Bounded false) : t.lp.Bounded false := by
  cases k with
  | asserted held => exact h
  | event w l link _ => exact (w.works _).keeps (P := fun s => s.lp.Bounded false) Work.bounded (link.bounded h)
  | served _ w u answers _ room =>
    exact answer_bounded ((w.works _).keeps (P := fun s => s.lp.Bounded true) Work.bounded
      (admitted_bounded h room)) (answers _)
  | assertReset _ _ => exact LinkPort.reset_bounded
  | releaseReset _ held => exact bringUp_bounded _
  | powerOn x _ => exact powerOn_bounded x s

theorem goOn_lp (s : State) : s.goOn.lp = s.lp := by
  unfold State.goOn State.tick
  dsimp only
  split
  · rfl
  · split <;> rfl

/-! ## The queues of the line -/

theorem pushHistory_bounds {t : Nat} {h : List Nat} (size : h.length ≤ 4) (order : h.Pairwise (· ≤ ·))
    (past : ∀ x ∈ h, x ≤ t) :
    (pushHistory t h).length ≤ 4 ∧ (pushHistory t h).Pairwise (· ≤ ·) ∧ ∀ x ∈ pushHistory t h, x ≤ t := by
  have sorted : (h ++ [t]).Pairwise (· ≤ ·) := by
    simpa [List.pairwise_append] using ⟨order, past⟩
  have below : ∀ x ∈ h ++ [t], x ≤ t := by
    simpa [or_imp, forall_and] using past
  unfold pushHistory
  dsimp only
  split
  · refine ⟨?_, sorted.drop, fun x m => below x (List.mem_of_mem_drop m)⟩
    simp
    omega
  · exact ⟨by omega, sorted, below⟩

/-- The Strike History depends on nothing but itself and the time. -/
theorem historyBounds_of_eq {s t : State} (h : HistoryBounds s) (history : t.ss.history = s.ss.history)
    (time : s.time ≤ t.time) : HistoryBounds t := by
  obtain ⟨size, order, past⟩ := h
  refine ⟨history ▸ size, history ▸ order, fun x m => (past x (history ▸ m)).trans ?_⟩
  exact Nat.div_le_div_right time

theorem collectionBounds_of_eq {s t : State} (h : CollectionBounds s)
    (notices : t.si.notices.length ≤ s.si.notices.length) (queue : t.lb.queue.length ≤ s.lb.queue.length)
    (history : t.ss.history = s.ss.history) (time : s.time ≤ t.time) : CollectionBounds t :=
  ⟨notices.trans h.1, queue.trans h.2.1, historyBounds_of_eq h.2.2 history time⟩

theorem removeBook_notices_length (i : Slot) (s : State) :
    (s.removeBook i).si.notices.length = s.si.notices.length := by
  unfold State.removeBook
  split
  · rfl
  · simp [State.setBook]

theorem Move.collectionBounds {s t : State} (m : Move s t) (h : CollectionBounds s) :
    CollectionBounds t := by
  have kept : t.si.notices.length = s.si.notices.length → t.lb = s.lb → t.ss = s.ss → t.time = s.time →
      CollectionBounds t := fun a b c d =>
    collectionBounds_of_eq h a.le (b ▸ le_rfl) (c ▸ rfl) d.ge
  cases m with
  | intake x _ _ room => exact ⟨by simpa using room.elim h.1.trans' id, h.2⟩
  | builder x _ room => exact ⟨h.1, by simpa using room.elim h.2.1.trans' id, h.2.2⟩
  | scheduler x _ history =>
    refine ⟨h.1, h.2.1, ?_⟩
    obtain ⟨size, order, past⟩ := h.2.2
    unfold HistoryBounds
    obtain same | pushed := history
    · exact ⟨same ▸ size, same ▸ order, same ▸ past⟩
    · dsimp only
      rw [pushed]
      exact pushHistory_bounds size order past
  | remove i => exact kept (removeBook_notices_length i s) (by simp) (by simp) (by simp)
  | _ => exact kept rfl rfl rfl rfl

theorem Work.collectionBounds {s t : State} (w : Work s t) (h : CollectionBounds s) :
    CollectionBounds t := by
  cases w with
  | move m => exact m.collectionBounds h
  | unfreeze =>
    unfold State.recoveryClear
    split
    · exact h
    · exact h
  | reset => exact collectionBounds_of_eq h (Nat.zero_le _) (Nat.zero_le _) rfl le_rfl
  | _ => exact h

theorem bringUp_collectionBounds (s : State) : CollectionBounds s.bringUp := by
  have fresh : CollectionBounds (s.blocksReset s.lsv.record).superviseInputs :=
    ⟨Nat.zero_le _, Nat.zero_le _, Nat.zero_le _, List.Pairwise.nil, by
      intro t m
      cases m⟩
  have reported : ∀ (l : List Condition) (u : State), CollectionBounds u →
      CollectionBounds (l.foldl (fun s c => s.reportLevel c (s.levelOf c)) u) := by
    intro l
    induction l with
    | nil => exact fun _ h => h
    | cons c l ih => exact fun u h => ih _ h
  exact reported _ _ fresh

theorem blocksReset_collectionBounds (r : RecoveryRecord) (s : State) : CollectionBounds (s.blocksReset r) :=
  ⟨Nat.zero_le _, Nat.zero_le _, Nat.zero_le _, List.Pairwise.nil, by
    intro t m
    cases m⟩

theorem assertReset_collectionBounds (s : State) : CollectionBounds s.assertReset :=
  blocksReset_collectionBounds (s.lsv.record.freeze .resetInput) s

theorem powerOn_collectionBounds (x : Inputs) (s : State) : CollectionBounds (s.powerOn x) := by
  unfold State.powerOn
  dsimp only
  split
  · exact blocksReset_collectionBounds _ _
  · exact bringUp_collectionBounds _

theorem goOn_collectionBounds {s : State} (h : CollectionBounds s) : CollectionBounds s.goOn := by
  unfold State.goOn State.tick
  dsimp only
  split
  · exact collectionBounds_of_eq h le_rfl le_rfl rfl le_rfl
  · split
    · exact collectionBounds_of_eq h le_rfl le_rfl rfl (Nat.le_succ _)
    · exact collectionBounds_of_eq h le_rfl le_rfl rfl (Nat.le_succ _)

/-- Settles O53: notices and answers join the Return Queue only at a free place, and no update lengthens the
Notice Queue, the Lift Queue or the Strike History beyond its bound. -/
theorem queueBoundsKept : Obligations.QueueBoundsKept := by
  refine ⟨fun s t h k => ?_, fun s t h k => ?_⟩
  · rw [linkBounds_iff] at h ⊢
    exact step_keeps (P := fun s => s.lp.Bounded false) k (fun _ _ _ h => h) Taken.bounded
      (fun _ h => h) (fun h => (goOn_lp s).symm ▸ h) h
  · refine step_keeps (P := CollectionBounds) k (fun _ _ _ h => h) (fun k => ?_)
      (fun _ h => collectionBounds_of_eq h le_rfl le_rfl rfl (Nat.le_succ _)) goOn_collectionBounds h
    exact k.keeps (fun _ _ _ h => h) Work.collectionBounds (fun _ => assertReset_collectionBounds _)
      (fun _ _ => bringUp_collectionBounds _) (fun x _ => powerOn_collectionBounds x _)

end Sys2Proof.Machine

/-! The debts, the Recovery Record and the format references, kept by every step. -/

namespace Sys2Proof.Machine

open Sys2Proof Sys2Proof.Safety

set_option Elab.async false

/-! ## The banks -/

/-- What a slot holds after another one, or it, took a value. -/
theorem book_setBook (i j : Slot) (b : Option Book) (s : State) :
    (s.setBook i b).book j = if j = i then b else s.book j := Bank.read_write _ _ _ _

@[simp] theorem book_setBook_same (i : Slot) (b : Option Book) (s : State) : (s.setBook i b).book i = b :=
  Bank.read_write_same _ _ _

theorem book_setBook_ne {i j : Slot} (h : j ≠ i) (b : Option Book) (s : State) :
    (s.setBook i b).book j = s.book j := Bank.read_write_ne _ _ h

theorem removeBook_of_free {i : Slot} {s : State} (e : s.book i = none) : s.removeBook i = s := by
  simp only [State.removeBook, e]

/-- Removing a book releases its format and closes its notices, then frees its slot (R7). -/
theorem removeBook_of_book {i : Slot} {s : State} {b : Book} (e : s.book i = some b) :
    s.removeBook i =
      State.setBook i none
        { s with
          ts := s.ts.modifyFormat b.format FormatEntry.release
          si := { s.si with notices := s.si.notices.map (Notice.closeFor i) } } := by
  simp only [State.removeBook, e]

theorem book_removeBook (i j : Slot) (s : State) :
    (s.removeBook i).book j = if j = i then none else s.book j := by
  cases e : s.book i with
  | none =>
    rw [removeBook_of_free e]
    split
    · next h => rw [h, e]
    · rfl
  | some b =>
    rw [removeBook_of_book e]
    exact book_setBook i j none _

/-! ## Debts -/

theorem debtBounds_iff (s : State) : DebtBounds s ↔ ∀ d, (s.account d).Payable := Iff.rfl

theorem debtBounds_of_drives {s t : State} (e : t.pc.drives = s.pc.drives) (h : DebtBounds s) :
    DebtBounds t := by
  intro d
  have same : t.account d = s.account d := congrArg (Bank.read · d) e
  exact same ▸ h d

theorem Move.debtBounds {s t : State} (m : Move s t) (h : DebtBounds s) : DebtBounds t := by
  cases m with
  | accounts v _ pay => exact fun d => pay d (h d)
  | remove i => exact debtBounds_of_drives (by simp) h
  | _ => exact h

theorem Work.debtBounds {s t : State} (w : Work s t) (h : DebtBounds s) : DebtBounds t := by
  cases w with
  | move m => exact m.debtBounds h
  | unfreeze =>
    unfold State.recoveryClear
    split <;> exact h
  | reset =>
    intro d
    have read : (s.resetBlocks.account d) = (s.account d).test := Bank.read_map _ _ _
    rw [read]
    exact h d
  | _ => exact h

theorem DriveAccount.reset_payable (t : Temperature) : (DriveAccount.reset t).Payable :=
  by
  refine ⟨?_, ?_, fun _ h => by cases h⟩
  · simp [DriveAccount.reset]
  · simp [DriveAccount.reset]

theorem blocksReset_debtBounds (r : RecoveryRecord) (s : State) : DebtBounds (s.blocksReset r) := by
  intro d
  have read : (s.blocksReset r).account d = DriveAccount.reset _ := Bank.read_map _ _ _
  rw [read]
  exact DriveAccount.reset_payable _

theorem bringUp_accounts (s : State) : s.bringUp.pc = (s.blocksReset s.lsv.record).pc := by
  have reported : ∀ (l : List Condition) (u : State),
      (l.foldl (fun s c => s.reportLevel c (s.levelOf c)) u).pc = u.pc := by
    intro l
    induction l with
    | nil => exact fun _ => rfl
    | cons c l ih => exact fun u => ih _
  exact reported _ _

theorem bringUp_debtBounds (s : State) : DebtBounds s.bringUp :=
  debtBounds_of_drives (congrArg PurgeController.drives (bringUp_accounts s))
    (blocksReset_debtBounds s.lsv.record s)

theorem assertReset_debtBounds (s : State) : DebtBounds s.assertReset :=
  blocksReset_debtBounds (s.lsv.record.freeze .resetInput) s

theorem powerOn_debtBounds (x : Inputs) (s : State) : DebtBounds (s.powerOn x) := by
  unfold State.powerOn
  dsimp only
  split
  · exact blocksReset_debtBounds _ _
  · exact bringUp_debtBounds _

theorem tickedAccount_payable {d : DriveId} {s : State} (h : (s.account d).Payable) :
    (s.tickedAccount d).Payable := by
  unfold State.tickedAccount
  dsimp only
  split <;> exact h

theorem goOn_debtBounds {s : State} (h : DebtBounds s) : DebtBounds s.goOn := by
  unfold State.goOn State.tick
  dsimp only
  split
  · exact h
  split
  · intro d
    have read : ∀ u : State, u.millisecond.account d = u.tickedAccount d :=
      fun u => Bank.read_tabulate _ _
    rw [read]
    exact tickedAccount_payable (h d)
  · exact h

/-- Settles O54: an account changes only where its debt stays within the bounds and its purge can be paid. -/
theorem debtBoundsKept : Obligations.DebtBoundsKept := by
  intro s t h k
  refine step_keeps (P := DebtBounds) k (fun _ _ _ h => h) (fun k => ?_) (fun _ h => h) goOn_debtBounds h
  exact k.keeps (fun _ _ _ h => h) Work.debtBounds (fun _ => assertReset_debtBounds _)
    (fun _ _ => bringUp_debtBounds _) (fun x _ => powerOn_debtBounds x _)

/-! ## The Recovery Record -/

/-- While it is not frozen the record follows the Book Table and the live last exit (R169). -/
def FollowsTable (s : State) : Prop :=
  s.lsv.record.retentionValid = false →
    (∀ i, Bank.read s.lsv.record.slots i = (s.book i).map RecordSlot.ofBook)
      ∧ s.lsv.record.lastExit = s.lsv.liveExit ∧ s.lsv.record.freezeReason = none

theorem FollowsTable.of_eq {s t : State} (h : FollowsTable s) (record : t.lsv.record = s.lsv.record)
    (exit : t.lsv.liveExit = s.lsv.liveExit) (books : t.si.books = s.si.books) : FollowsTable t := by
  intro v
  rw [record] at v ⊢
  obtain ⟨slots, last, reason⟩ := h v
  refine ⟨fun i => ?_, exit ▸ last, reason⟩
  rw [slots i, show t.book i = s.book i from congrArg (Bank.read · i) books]

theorem FollowsTable.setBook {s : State} (h : FollowsTable s) (i : Slot) (b : Option Book) :
    FollowsTable (s.setBook i b) := by
  have lsv : (s.setBook i b).lsv = s.lsv.mirror i b := rfl
  unfold FollowsTable
  rw [lsv]
  unfold LineSupervisor.mirror
  split
  · next v => exact fun c => absurd (v.symm.trans c) (by decide)
  next v =>
  intro _
  obtain ⟨slots, last, reason⟩ := h (Bool.eq_false_iff.2 v)
  refine ⟨fun j => ?_, last, reason⟩
  rw [book_setBook, Bank.read_write]
  split
  · rfl
  · exact slots j

theorem Move.followsTable {s t : State} (m : Move s t) (h : FollowsTable s) : FollowsTable t := by
  cases m with
  | book i b => exact h.setBook i b
  | remove i =>
    cases e : s.book i with
    | none => exact (removeBook_of_free e).symm ▸ h
    | some b =>
      rw [removeBook_of_book e]
      exact FollowsTable.setBook (h.of_eq rfl rfl rfl) i none
  | intake x _ books => exact h.of_eq rfl rfl books
  | _ => exact h

theorem FollowsTable.of_frozen {s : State} (h : s.lsv.record.retentionValid = true) : FollowsTable s :=
  fun v => absurd (h.symm.trans v) (by decide)

theorem freeze_frozen (why : FreezeReason) (r : RecoveryRecord) : (r.freeze why).retentionValid = true := by
  unfold RecoveryRecord.freeze
  split
  · assumption
  · rfl

theorem Work.followsTable {s t : State} (w : Work s t) (h : FollowsTable s) : FollowsTable t := by
  cases w with
  | move m => exact m.followsTable h
  | exit e =>
    unfold LineSupervisor.recordExit
    split
    · next v => exact .of_frozen v
    next v =>
    intro c
    obtain ⟨slots, _, reason⟩ := h c
    exact ⟨slots, rfl, reason⟩
  | freeze why => exact .of_frozen (freeze_frozen why _)
  | unfreeze =>
    unfold State.recoveryClear
    split
    · exact fun _ => ⟨fun i => Bank.read_map _ _ _, rfl, rfl⟩
    · exact h
  | openBook i b => exact FollowsTable.setBook (h.of_eq rfl rfl rfl) i _
  | reset =>
    have lsv : (s.resetBlocks).lsv.record = s.lsv.mirrorEmpty.record := rfl
    have live : (s.resetBlocks).lsv.liveExit = s.lsv.mirrorEmpty.liveExit := rfl
    unfold FollowsTable
    rw [lsv, live]
    unfold LineSupervisor.mirrorEmpty
    split
    · next v => exact fun c => absurd (v.symm.trans c) (by decide)
    intro c
    obtain ⟨_, last, reason⟩ := h c
    refine ⟨fun i => ?_, last, reason⟩
    rw [show s.resetBlocks.book i = none from Bank.read_replicate _ _]
    exact Bank.read_replicate _ _
  | _ => exact h

/-- No update of a command's work asserts or releases the Reset input. -/
theorem Work.resetAsserted {s t : State} (w : Work s t) : t.resetAsserted = s.resetAsserted := by
  cases w with
  | move m =>
    cases m with
    | remove i => exact State.removeBook_resetAsserted s i
    | _ => rfl
  | unfreeze =>
    unfold State.recoveryClear
    split <;> rfl
  | _ => rfl

theorem Works.resetAsserted {s t : State} (w : Works s t) : t.resetAsserted = s.resetAsserted :=
  w.relates (fun s t => t.resetAsserted = s.resetAsserted) (fun _ => rfl) (fun a b => b.trans a)
    Work.resetAsserted

theorem Works.awake {s t : State} (w : Works s t) (h : Awake s) : Awake t := w.resetAsserted.trans h

theorem FollowsTable.records {s : State} (h : FollowsTable s) (awake : Awake s) : RecordFollows s :=
  ⟨h, fun c => absurd (awake.symm.trans c) (by decide)⟩

theorem bringUp_kept (s : State) :
    s.bringUp.lsv = (s.blocksReset s.lsv.record).superviseInputs.lsv
      ∧ s.bringUp.si = SheetIntake.reset ∧ s.bringUp.resetAsserted = s.resetAsserted := by
  have reported : ∀ (l : List Condition) (u : State),
      (l.foldl (fun s c => s.reportLevel c (s.levelOf c)) u).lsv = u.lsv
        ∧ (l.foldl (fun s c => s.reportLevel c (s.levelOf c)) u).si = u.si
        ∧ (l.foldl (fun s c => s.reportLevel c (s.levelOf c)) u).resetAsserted = u.resetAsserted := by
    intro l
    induction l with
    | nil => exact fun _ => ⟨rfl, rfl, rfl⟩
    | cons c l ih => exact fun u => ih _
  exact reported _ _

/-- A record without books and exits follows the Book Table when the part comes up. -/
theorem bringUp_followsTable {s : State}
    (empty : s.lsv.record.retentionValid = false →
      (∀ i, Bank.read s.lsv.record.slots i = none) ∧ s.lsv.record.lastExit = none
        ∧ s.lsv.record.freezeReason = none) : FollowsTable s.bringUp := by
  obtain ⟨lsv, si, _⟩ := bringUp_kept s
  have record : s.bringUp.lsv.record = freezeFrom s.inputs s.lsv.record := by rw [lsv]; rfl
  have exit : s.bringUp.lsv.liveExit = none := by rw [lsv]; rfl
  unfold FollowsTable
  rw [record, exit]
  unfold freezeFrom
  split
  · exact fun v => absurd ((freeze_frozen _ _).symm.trans v) (by decide)
  intro v
  obtain ⟨slots, last, reason⟩ := empty v
  refine ⟨fun i => ?_, last, reason⟩
  rw [slots i, State.book, si]
  exact (congrArg (Option.map RecordSlot.ofBook) (Bank.read_replicate none i)).symm

theorem atPowerOn_empty (held : Bool) (r : RecoveryRecord)
    (v : (r.atPowerOn held).retentionValid = false) : r.atPowerOn held = RecoveryRecord.cleared := by
  unfold RecoveryRecord.atPowerOn at *
  split
  · next c =>
    rw [if_pos c] at v
    simp [v] at c
  · rfl

theorem powerOn_recordFollows (x : Inputs) (s : State) : RecordFollows (s.powerOn x) := by
  have cleared : ∀ r : RecoveryRecord, (r.atPowerOn x.standbyHeld).retentionValid = false →
      (∀ i, Bank.read (r.atPowerOn x.standbyHeld).slots i = none)
        ∧ (r.atPowerOn x.standbyHeld).lastExit = none
        ∧ (r.atPowerOn x.standbyHeld).freezeReason = none := by
    intro r v
    rw [atPowerOn_empty _ _ v]
    exact ⟨fun i => Bank.read_replicate _ _, rfl, rfl⟩
  unfold State.powerOn
  dsimp only
  split
  · next held =>
    have free : ∀ i, (State.blocksReset (s.lsv.record.atPowerOn x.standbyHeld)
        { s with inputs := x }).book i = none := fun i => Bank.read_replicate _ _
    refine ⟨fun v => ?_, fun _ => ⟨free, rfl⟩⟩
    obtain ⟨slots, last, reason⟩ := cleared s.lsv.record v
    exact ⟨fun i => (slots i).trans (congrArg (Option.map RecordSlot.ofBook) (free i)).symm, last, reason⟩
  · next awake =>
    refine (bringUp_followsTable (cleared _)).records ?_
    exact (bringUp_kept _).2.2.trans (Bool.eq_false_iff.2 awake)

theorem Taken.recordFollows {i : Instr} {s t : State} (k : Taken i s t) (h : RecordFollows s) : RecordFollows t := by
  cases k with
  | asserted held => exact h
  | event w l _ awake =>
    exact FollowsTable.records ((w.works _).keeps Work.followsTable h.1) ((w.works _).awake awake)
  | @served act _ w u _ awake _ =>
    have owned : FollowsTable (act (admitted s)).1 := (w.works _).keeps Work.followsTable h.1
    exact FollowsTable.records owned ((w.works (admitted s)).awake awake)
  | assertReset _ _ =>
    exact ⟨FollowsTable.of_frozen (freeze_frozen _ _), fun _ => ⟨fun i => Bank.read_replicate _ _, rfl⟩⟩
  | releaseReset _ held =>
    refine (bringUp_followsTable fun v => ?_).records ((bringUp_kept _).2.2.trans rfl)
    obtain ⟨slots, last, reason⟩ := h.1 v
    obtain ⟨free, live⟩ := h.2 held
    exact ⟨fun i => (slots i).trans (congrArg (Option.map RecordSlot.ofBook) (free i)), last.trans live, reason⟩
  | powerOn x _ => exact powerOn_recordFollows x s

theorem goOn_recordFollows {s : State} (h : RecordFollows s) : RecordFollows s.goOn := by
  unfold State.goOn State.tick
  dsimp only
  split
  · exact h
  · split <;> exact h

/-- Settles O55: every change of a slot and of the live last exit is mirrored, and a record that is frozen,
emptied or brought up afresh follows. -/
theorem recordFollowsKept : Obligations.RecordFollowsKept := by
  intro s t h k
  exact step_keeps (P := RecordFollows) k (fun _ _ _ h => h) Taken.recordFollows (fun _ h => h)
    goOn_recordFollows h

end Sys2Proof.Machine

/-! The format references and the ids of the books, kept by every step. -/

namespace Sys2Proof.Machine

open Sys2Proof Sys2Proof.Safety

set_option Elab.async false

/-! ## Counting books -/

/-- Two counts over a list without repetition, of tests that differ at one place, differ by one. -/
theorem countP_of_differ {α : Type} {p q : α → Bool} {i : α} {l : List α} (once : l.Nodup) (here : i ∈ l)
    (yes : p i = true) (no : q i = false) (same : ∀ j, j ≠ i → p j = q j) :
    l.countP p = l.countP q + 1 := by
  have apart : ∀ {m : List α}, i ∉ m → m.countP p = m.countP q := by
    intro m out
    refine List.countP_congr fun j mem => ?_
    rw [same j fun e => out (e ▸ mem)]
  induction l with
  | nil => cases here
  | cons a l ih =>
    obtain ⟨new, once⟩ := List.nodup_cons.1 once
    obtain rfl | here := List.mem_cons.1 here
    · simp [yes, no, apart new]
    · have other : a ≠ i := fun e => new (e ▸ here)
      simp only [List.countP_cons, same a other, ih once here]
      omega

theorem boundBooks_of_names {s t : State} (h : ∀ i, (t.book i).map Book.name = (s.book i).map Book.name)
    (f : FormatId) : boundBooks f t = boundBooks f s := by
  have named : ∀ (u : State) (i : Slot), (u.book i).any (fun b => decide (b.format = f))
      = ((u.book i).map Book.name).any (fun n => decide (n.2 = f)) := by
    intro u i
    cases u.book i <;> rfl
  unfold boundBooks
  congr 1
  funext i
  rw [named, named, h]

/-- A slot that takes a book of the format counts one more. -/
theorem boundBooks_of_joined {s t : State} {i : Slot} {b : Book} (free : s.book i = none)
    (taken : t.book i = some b) (same : ∀ j, j ≠ i → t.book j = s.book j) (f : FormatId) :
    boundBooks f t = boundBooks f s + if b.format = f then 1 else 0 := by
  unfold boundBooks
  split
  · next e =>
    exact countP_of_differ (i := i) (List.nodup_finRange 8) (List.mem_finRange i) (by simp [taken, e])
      (by simp [free]) fun j h => by rw [same j h]
  · next e =>
    rw [Nat.add_zero]
    refine List.countP_congr fun j _ => ?_
    by_cases h : j = i
    · simp [h, taken, free, e]
    · rw [same j h]

/-! ## Format entries -/

/-- A staged copy stands only while a book is bound (R52). -/
def FormatEntry.Sound (e : FormatEntry) : Prop := e.refCount = 0 → e.staged = none

theorem FormatEntry.promote_refCount (e : FormatEntry) : e.promote.refCount = e.refCount := by
  unfold FormatEntry.promote
  split <;> rfl

theorem FormatEntry.promote_staged (e : FormatEntry) : e.promote.staged = none := by
  unfold FormatEntry.promote
  split
  · rfl
  · assumption

theorem FormatEntry.release_refCount (e : FormatEntry) : e.release.refCount = e.refCount - 1 := by
  unfold FormatEntry.release
  dsimp only
  split
  · exact FormatEntry.promote_refCount _
  · rfl

theorem FormatEntry.release_sound (e : FormatEntry) : e.release.Sound := by
  unfold FormatEntry.release
  dsimp only
  split
  · exact fun _ => FormatEntry.promote_staged _
  · next h => exact fun c => absurd c h

theorem FormatEntry.bind_sound (e : FormatEntry) : e.bind.Sound := fun c => absurd c (Nat.succ_ne_zero _)

theorem FormatEntry.place_refCount (c : Option Format) (e : FormatEntry) :
    (e.place c).refCount = e.refCount := by
  unfold FormatEntry.place
  split <;> rfl

theorem FormatEntry.place_sound {e : FormatEntry} (h : e.Sound) (c : Option Format) :
    (e.place c).Sound := by
  unfold FormatEntry.Sound FormatEntry.place FormatEntry.target
  intro zero
  by_cases none : e.refCount = 0
  · simpa [none] using h none
  · simp [none] at zero

/-! ## The invariant -/

/-- The references are counted and the books distinct. -/
def BooksReferenced (s : State) : Prop := ReferencesCounted s ∧ BooksDistinct s

theorem BooksReferenced.of_names {s t : State} (h : BooksReferenced s)
    (books : ∀ i, (t.book i).map Book.name = (s.book i).map Book.name) (formats : t.ts.formats = s.ts.formats) :
    BooksReferenced t := by
  refine ⟨fun f => ?_, fun i j b c hb hc same => ?_⟩
  · rw [boundBooks_of_names books, formats]
    exact h.1 f
  · have at_s : ∀ {k : Slot} {x : Book}, t.book k = some x → ∃ y, s.book k = some y ∧ y.id = x.id := by
      intro k x e
      have := books k
      rw [e, Option.map_some, eq_comm, Option.map_eq_some_iff] at this
      obtain ⟨y, read, name⟩ := this
      exact ⟨y, read, congrArg Prod.fst name⟩
    obtain ⟨x, hx, ex⟩ := at_s hb
    obtain ⟨y, hy, ey⟩ := at_s hc
    exact h.2 i j x y hx hy (ex.trans (same.trans ey.symm))

theorem removeBook_referenced {s : State} (h : BooksReferenced s) (i : Slot) :
    BooksReferenced (s.removeBook i) := by
  cases e : s.book i with
  | none => exact (removeBook_of_free e).symm ▸ h
  | some b =>
    have books := book_removeBook i (s := s)
    refine ⟨fun f => ?_, fun j k x y hx hy same => ?_⟩
    · have one : boundBooks f s = boundBooks f (s.removeBook i) + if b.format = f then 1 else 0 :=
        boundBooks_of_joined (by simp [books]) e (fun j ne => by simp [books, ne]) f
      have formats : (s.removeBook i).ts.formats =
          Bank.write s.ts.formats b.format (Bank.read s.ts.formats b.format).release := by
        rw [removeBook_of_book e]
        rfl
      obtain ⟨count, sound⟩ := h.1 f
      rw [formats, Bank.read_write]
      by_cases here : f = b.format
      · subst here
        rw [if_pos rfl, FormatEntry.release_refCount]
        refine ⟨?_, fun zero => FormatEntry.release_sound _ (by rw [FormatEntry.release_refCount, zero])⟩
        rw [count, one, if_pos rfl]
        omega
      · rw [if_neg here]
        refine ⟨?_, sound⟩
        rw [count, one, if_neg (Ne.symm here)]
        omega
    · rw [books] at hx hy
      split at hx
      · cases hx
      split at hy
      · cases hy
      exact h.2 j k x y hx hy same

theorem Move.booksReferenced {s t : State} (m : Move s t) (h : BooksReferenced s) : BooksReferenced t := by
  cases m with
  | book i b _ same =>
    refine h.of_names (fun j => ?_) rfl
    rw [book_setBook]
    split
    · next e => rw [e, same]
    · rfl
  | remove i => exact removeBook_referenced h i
  | intake x _ books =>
    exact h.of_names (fun i => congrArg (fun v => (Bank.read v i).map Book.name) books) rfl
  | _ => exact h

theorem findBook_none {id : Half} {s : State} (h : s.findBook id = none) (i : Slot) {b : Book}
    (e : s.book i = some b) : b.id ≠ id := by
  have := List.find?_eq_none.1 h i (List.mem_finRange i)
  simpa [e] using this

theorem openBook_referenced {s : State} (h : BooksReferenced s) {i : Slot} {b : Book}
    (free : s.book i = none) (fresh : s.findBook b.id = none) : BooksReferenced (s.openBook i b) := by
  have books : ∀ j, (s.openBook i b).book j = if j = i then some b else s.book j :=
    fun j => book_setBook i j (some b) _
  refine ⟨fun f => ?_, fun j k x y hx hy same => ?_⟩
  · have one : boundBooks f (s.openBook i b) = boundBooks f s + if b.format = f then 1 else 0 :=
      boundBooks_of_joined free (by simp [books]) (fun j ne => by simp [books, ne]) f
    have formats : (s.openBook i b).ts.formats =
        Bank.write s.ts.formats b.format (Bank.read s.ts.formats b.format).bind := rfl
    obtain ⟨count, sound⟩ := h.1 f
    rw [formats, Bank.read_write, one]
    by_cases here : f = b.format
    · subst here
      rw [if_pos rfl, if_pos rfl]
      exact ⟨congrArg (· + 1) count, FormatEntry.bind_sound _⟩
    · rw [if_neg here, if_neg (Ne.symm here)]
      exact ⟨count, sound⟩
  · rw [books] at hx hy
    split at hx <;> split at hy
    · next a c => exact a.trans c.symm
    · cases hx
      exact absurd same.symm (findBook_none fresh k hy)
    · cases hy
      exact absurd same (findBook_none fresh j hx)
    · exact h.2 j k x y hx hy same

/-- A part without books has no reference and no two books with one id. -/
theorem BooksReferenced.of_empty {s : State} (free : ∀ i, s.book i = none)
    (formats : ∀ f, (Bank.read s.ts.formats f).refCount = 0 ∧ (Bank.read s.ts.formats f).staged = none) :
    BooksReferenced s := by
  refine ⟨fun f => ⟨?_, fun _ => (formats f).2⟩, fun i j b c e => ?_⟩
  · rw [(formats f).1]
    simp [boundBooks, free]
  · rw [free] at e
    cases e

theorem Work.booksReferenced {s t : State} (w : Work s t) (h : BooksReferenced s) : BooksReferenced t := by
  cases w with
  | move m => exact m.booksReferenced h
  | unfreeze =>
    unfold State.recoveryClear
    split <;> exact h
  | tables x _ formats => exact h.of_names (fun _ => rfl) formats
  | place i c =>
    refine ⟨fun f => ?_, h.2⟩
    obtain ⟨count, sound⟩ := h.1 f
    have formats : (s.ts.modifyFormat i (FormatEntry.place c)).formats =
        Bank.write s.ts.formats i ((Bank.read s.ts.formats i).place c) := rfl
    dsimp only
    rw [formats, Bank.read_write]
    split
    · next e =>
      subst e
      exact ⟨(FormatEntry.place_refCount _ _).trans count, FormatEntry.place_sound sound c⟩
    · exact ⟨count, sound⟩
  | openBook i b _ free fresh => exact openBook_referenced h free fresh
  | reset =>
    refine .of_empty (fun i => Bank.read_replicate _ _) fun f => ?_
    have read : Bank.read s.resetBlocks.ts.formats f = (Bank.read s.ts.formats f).lineReset :=
      Bank.read_map _ _ _
    rw [read]
    exact ⟨FormatEntry.promote_refCount _, FormatEntry.promote_staged _⟩
  | _ => exact h

theorem blocksReset_booksReferenced (r : RecoveryRecord) (s : State) : BooksReferenced (s.blocksReset r) := by
  refine .of_empty (fun i => Bank.read_replicate _ _) fun f => ?_
  rw [show Bank.read (s.blocksReset r).ts.formats f = _ from Bank.read_replicate _ _]
  exact ⟨rfl, rfl⟩

theorem assertReset_booksReferenced (s : State) : BooksReferenced s.assertReset :=
  blocksReset_booksReferenced (s.lsv.record.freeze .resetInput) s

theorem bringUp_booksReferenced (s : State) : BooksReferenced s.bringUp := by
  have reported : ∀ (l : List Condition) (u : State), BooksReferenced u →
      BooksReferenced (l.foldl (fun s c => s.reportLevel c (s.levelOf c)) u) := by
    intro l
    induction l with
    | nil => exact fun _ h => h
    | cons c l ih => exact fun u h => ih _ h
  exact reported _ _ (blocksReset_booksReferenced s.lsv.record s)

theorem powerOn_booksReferenced (x : Inputs) (s : State) : BooksReferenced (s.powerOn x) := by
  unfold State.powerOn
  dsimp only
  split
  · exact blocksReset_booksReferenced _ _
  · exact bringUp_booksReferenced _

theorem goOn_booksReferenced {s : State} (h : BooksReferenced s) : BooksReferenced s.goOn := by
  unfold State.goOn State.tick
  dsimp only
  split
  · exact h
  · split <;> exact h

/-- Settles O58: a book binds to its format where it takes a slot and is released where it leaves one, and it
takes a slot under an id that no other has. -/
theorem bookReferencesKept : Obligations.BookReferencesKept := by
  intro s t counted distinct k
  refine step_keeps (P := BooksReferenced) k (fun _ _ _ h => h) (fun k => ?_) (fun _ h => h)
    goOn_booksReferenced ⟨counted, distinct⟩
  exact k.keeps (fun _ _ _ h => h) Work.booksReferenced (fun _ => assertReset_booksReferenced _)
    (fun _ _ => bringUp_booksReferenced _) (fun x _ => powerOn_booksReferenced x _)

end Sys2Proof.Machine

/-! Safe Stop is quiet: what the shared operations leave quiet in SAFE_STOP, and that the entry of Safe Stop ends
everything in flight. -/

namespace Sys2Proof.Machine

open Sys2Proof Sys2Proof.Safety

set_option Elab.async false

/-- A choice between two states with a property has it. -/
theorem keeps_ite {P : State → Prop} {c : Prop} [Decidable c] {t u : State} (a : c → P t) (b : ¬c → P u) :
    P (if c then t else u) := by
  split
  · exact a ‹_›
  · exact b ‹_›

theorem keeps_bite {P : State → Prop} {c : Bool} {t u : State} (a : P t) (b : P u) :
    P (bif c then t else u) := by
  cases c
  · exact b
  · exact a

/-- The channel is idle and its output inactive. -/
def Channel.Still (c : Channel) : Prop := c.phase = .idle ∧ c.output = false

/-- The line is stopped, and nothing is in flight (R167). -/
structure Calm (s : State) : Prop where
  stopped : s.lsv.lineState = .safeStop
  channels : ∀ i, (s.ch i).Still
  strikes : ∀ d, (s.drive d).strike = none
  purges : ∀ d, (s.account d).purge = none
  orders : ∀ st, s.order st = none

theorem Calm.quiet {s : State} (h : Calm s) : Quiet s := ⟨h.channels, h.strikes, h.purges, h.orders⟩

theorem calm_of_quiet {s : State} (stopped : s.lsv.lineState = .safeStop) (h : Quiet s) : Calm s :=
  ⟨stopped, h.1, h.2.1, h.2.2.1, h.2.2.2⟩

/-- A state with the line state, channels, drives, accounts and orders of a calm one is calm. -/
theorem Calm.of_eq {s t : State} (h : Calm s) (line : t.lsv.lineState = s.lsv.lineState) (tcu : t.tcu = s.tcu)
    (drives : t.ss.drives = s.ss.drives) (accounts : t.pc.drives = s.pc.drives)
    (orders : t.orders = s.orders) : Calm t where
  stopped := line.trans h.stopped
  channels i := by simpa [State.ch, tcu] using h.channels i
  strikes d := by simpa [State.drive, drives] using h.strikes d
  purges d := by simpa [State.account, accounts] using h.purges d
  orders st := by simpa [State.order, orders] using h.orders st

/-! ## The operations in SAFE_STOP -/

theorem calm_notify {s : State} (h : Calm s) (u : Upstream) : Calm (s.notify u) := h.of_eq rfl rfl rfl rfl rfl

theorem calm_report {s : State} (h : Calm s) (c : Condition) (p : Bool) : Calm (s.reportLevel c p) :=
  h.of_eq rfl rfl rfl rfl rfl

theorem calm_occur {s : State} (h : Calm s) (c : Condition) : Calm (s.occur c) := h.of_eq rfl rfl rfl rfl rfl

theorem calm_count {s : State} (h : Calm s) (k : Counter) : Calm (s.count k) := h.of_eq rfl rfl rfl rfl rfl

theorem calm_setHolds {s : State} (h : Calm s) (x : HoldSources) : Calm (s.setHolds x) :=
  h.of_eq rfl rfl rfl rfl rfl

theorem calm_setBook {s : State} (h : Calm s) (i : Slot) (b : Option Book) : Calm (s.setBook i b) :=
  h.of_eq (mirror_lineState i b s.lsv) rfl rfl rfl rfl

theorem calm_modifyBook {s : State} (h : Calm s) (i : Slot) (f : Book → Book) : Calm (s.modifyBook i f) :=
  calm_setBook h i _

theorem calm_removeBook {s : State} (h : Calm s) (i : Slot) : Calm (s.removeBook i) :=
  h.of_eq (removeBook_lineState i s) (by simp) (by simp) (by simp) (by simp)

theorem calm_setFinish {s : State} (h : Calm s) (f : Option Finish) : Calm (s.setFinish f) :=
  h.of_eq rfl rfl rfl rfl rfl

theorem calm_setBed {s : State} (h : Calm s) (b : Option Bed) : Calm (s.setBed b) :=
  h.of_eq rfl rfl rfl rfl rfl

theorem calm_setOpenLift {s : State} (h : Calm s) (l : Option Lift) : Calm (s.setOpenLift l) :=
  h.of_eq rfl rfl rfl rfl rfl

/-- A stopped line is not moved by its hold sources (R160). -/
theorem calm_addHold {s : State} (h : Calm s) (x : HoldSource) : Calm (s.addHold x) :=
  keeps_ite (fun e => nomatch h.stopped.symm.trans e) fun _ => calm_setHolds h _

theorem calm_releaseIfFree {s : State} (h : Calm s) : Calm s.releaseIfFree :=
  keeps_ite (fun e => by simp [h.stopped] at e) fun _ => h

theorem calm_presentHold {s : State} (h : Calm s) (x : HoldSource) (on : Bool) :
    Calm (s.presentHold x on) :=
  keeps_ite (fun _ => h) fun _ => keeps_ite (fun _ => calm_addHold h x)
    fun _ => calm_releaseIfFree (calm_setHolds h _)

theorem calm_follow {s : State} (h : Calm s) (c : Condition) (x : HoldSource) (on : Bool) :
    Calm (s.follow c x on) := calm_presentHold (calm_report h c on) x on

theorem calm_testRest {s : State} (h : Calm s) : Calm s.testRest :=
  keeps_ite (fun e => nomatch h.stopped.symm.trans e.1) fun _ => h

theorem calm_setCh {s : State} (h : Calm s) {i : ChannelId} {c : Channel} (still : c.Still) :
    Calm (s.setCh i c) where
  stopped := h.stopped
  channels j := by
    rw [show (s.setCh i c).ch j = if j = i then c else s.ch j from Bank.read_write _ _ _ _]
    split
    · exact still
    · exact h.channels j
  strikes := h.strikes
  purges := h.purges
  orders := h.orders

/-- In SAFE_STOP no channel hears its owner (R118). -/
theorem Calm.deaf {s : State} (h : Calm s) (i : ChannelId) : s.channelHears i = false := by
  simp [State.channelHears, h.stopped]

theorem triggerStrobe_of_deaf {s : State} {i : ChannelId} (h : s.channelHears i = false) :
    s.triggerStrobe i = s := if_neg (by simp [h])

theorem startFeed_of_deaf {s : State} {n : Nat} (h : s.channelHears 6 = false) : s.startFeed n = s :=
  if_neg (by simp [h])

theorem calm_triggerStrobe {s : State} (h : Calm s) (i : ChannelId) : Calm (s.triggerStrobe i) :=
  (triggerStrobe_of_deaf (h.deaf i)).symm ▸ h

theorem calm_testClamp {s : State} (h : Calm s) : Calm s.testClamp :=
  keeps_ite (fun e => by simp [State.clampNeeded, h.stopped] at e) fun _ => h

theorem calm_setOrder {s : State} (h : Calm s) (st : Station) : Calm (s.setOrder st none) where
  stopped := h.stopped
  channels := h.channels
  strikes := h.strikes
  purges := h.purges
  orders x := by
    show Bank.read (Bank.write s.orders (stationIndex st) none) (stationIndex x) = none
    rw [Bank.read_write]
    split
    · rfl
    · exact h.orders x

theorem calm_endOrder {s : State} (h : Calm s) (st : Station) : Calm (s.endOrder st) :=
  calm_follow (calm_setOrder h st) _ _ _

/-! ### Faults and collections -/

theorem Calm.none_waits {s : State} (h : Calm s) (st : Station) : s.orderWaits st = false := by
  simp [State.orderWaits, h.orders st]

theorem calm_withdrawForExit {s : State} (h : Calm s) (st : Station) (f : Finish) :
    Calm (s.withdrawForExit st f) :=
  keeps_ite (fun e => by simp [h.none_waits] at e) fun _ => h

theorem calm_unblock {s : State} (h : Calm s) (f : Finish) : Calm (s.unblock f) :=
  calm_follow (calm_setFinish h _) _ _ _

theorem calm_reactToFault {s : State} (h : Calm s) (f : Finish) : Calm (s.reactToFault f) := by
  unfold State.reactToFault
  cases f.step <;> dsimp only
  case drill =>
    refine keeps_ite (fun _ => ?_) fun _ => calm_withdrawForExit h _ f
    have unblocked := calm_unblock h f
    exact keeps_ite (fun _ => unblocked) fun e => absurd unblocked.stopped e
  case feed => exact keeps_ite (fun _ => h) fun e => absurd (.inr h.stopped) e
  case hanger => exact calm_withdrawForExit h _ f
  case close => exact calm_withdrawForExit h _ f
  all_goals exact h

theorem calm_raiseFault {s : State} (h : Calm s) (i : Slot) (c : FaultCause) : Calm (s.raiseFault i c) := by
  refine keeps_ite (fun _ => ?_) fun _ => h
  have marked := calm_modifyBook h i (Book.addFault c)
  unfold State.tellFinish
  split
  · exact marked
  · exact keeps_ite (fun _ => calm_reactToFault marked _) fun _ => marked

theorem calm_sendOutcome {s : State} (h : Calm s) (o : BookOutcome) (b : Book) : Calm (s.sendOutcome o b) :=
  keeps_ite (fun _ => calm_notify h _) fun _ => h

theorem calm_collectionEnded {s : State} (h : Calm s) (i : Slot) : Calm (s.collectionEnded i) := by
  have advanced := calm_modifyBook h i (Book.advance .collecting .collected)
  refine keeps_ite (fun _ => ?_) fun _ => keeps_ite (fun _ => calm_modifyBook advanced _ _) fun _ => advanced
  unfold State.removeEmpty
  split
  · exact advanced
  · exact calm_removeBook (calm_count (calm_sendOutcome advanced _ _) _) _

theorem calm_liftJoined {s : State} (h : Calm s) : Calm s.liftJoined :=
  calm_report (s := { s with lb := s.lb.joined }) (h.of_eq rfl rfl rfl rfl rfl) _ _

theorem calm_closeInto {s : State} (h : Calm s) (l : Lift) (b : Book) : Calm (s.closeInto l b) := by
  have short : Calm (if l.short b then s.raiseFault l.slot .short else s) :=
    keeps_ite (fun _ => calm_raiseFault h _ _) fun _ => h
  unfold State.closeInto
  generalize (if l.short b then s.raiseFault l.slot .short else s) = u at short ⊢
  have closed : Calm { u with
      lb := u.lb.append (l.close u.lb.nextNumber b.liftsClosed (u.closingMode l.slot)) } :=
    short.of_eq rfl rfl rfl rfl rfl
  have claimed := calm_modifyBook closed l.slot fun b => { b with liftsClosed := b.liftsClosed + 1 }
  have ended := keeps_ite (P := Calm) (c := l.endsCollection = true)
    (fun _ => calm_collectionEnded claimed l.slot) fun _ => claimed
  exact calm_liftJoined ended

theorem calm_closeLift {s : State} (h : Calm s) : Calm s.closeLift := by
  unfold State.closeLift
  split
  · exact h
  refine keeps_ite (fun _ => ?_) fun _ => calm_raiseFault (calm_setOpenLift h _) _ _
  split
  · exact calm_closeInto h _ _
  · exact h

theorem calm_markLastLift {s : State} (h : Calm s) (i : Slot) : Calm (s.markLastLift i) :=
  h.of_eq rfl rfl rfl rfl rfl

theorem calm_endCollection {s : State} (h : Calm s) (i : Slot) : Calm (s.endCollection i) := by
  have claimed := calm_collectionEnded (calm_markLastLift h i) i
  unfold State.endCollection
  split
  · exact claimed
  refine keeps_ite (fun _ => ?_) fun _ => claimed
  have marked := calm_setOpenLift h
  exact keeps_ite (fun _ => marked _) fun _ => calm_closeLift (marked _)

theorem calm_decline {s : State} (h : Calm s) (x : Sheet) : Calm (s.decline x) :=
  keeps_ite (fun _ => calm_endCollection h _) fun _ => h

theorem calm_joinSheet {s : State} (h : Calm s) (x : Sheet) (f : Format) : Calm (s.joinSheet x f) :=
  calm_count (calm_modifyBook (calm_setOpenLift h _) _ _) _

theorem calm_faultAndDecline {s : State} (h : Calm s) (c : FaultCause) (x : Sheet) :
    Calm ((s.raiseFault x.slot c).decline x) := calm_decline (calm_raiseFault h _ _) x

theorem calm_placeThick {s : State} (h : Calm s) (x : Sheet) (f : Format) : Calm (s.placeThick x f).1 := by
  unfold State.placeThick
  have closed := calm_closeLift (calm_raiseFault h x.slot .tooThick)
  dsimp only
  split
  · exact calm_faultAndDecline closed _ x
  split
  · exact calm_faultAndDecline closed _ x
  · exact calm_closeLift (calm_joinSheet closed x f)

theorem calm_placeThin {s : State} (h : Calm s) (x : Sheet) (f : Format) : Calm (s.placeThin x f).1 := by
  have closed : Calm (if s.lb.openLift.any (Lift.mustClose x f) then s.closeLift else s) :=
    keeps_ite (fun _ => calm_closeLift h) fun _ => h
  unfold State.placeThin
  generalize (if s.lb.openLift.any (Lift.mustClose x f) then s.closeLift else s) = u at closed ⊢
  dsimp only
  split
  · exact calm_faultAndDecline closed _ x
  split
  · exact calm_faultAndDecline closed _ x
  · have joined := calm_joinSheet closed x f
    exact keeps_ite (fun _ => calm_closeLift joined) fun _ => joined

theorem calm_placeSheet {s : State} (h : Calm s) (x : Sheet) : Calm (s.placeSheet x).1 := by
  unfold State.placeSheet
  split
  · split
    · exact calm_faultAndDecline h _ x
    split
    · exact h
    split
    · exact calm_decline h x
    split
    · exact calm_placeThick h x _
    · exact calm_placeThin h x _
  · exact h

/-! ### Notices and sheets -/

theorem calm_intake {s : State} (h : Calm s) (x : SheetIntake) : Calm { s with si := x } :=
  h.of_eq rfl rfl rfl rfl rfl

theorem calm_joinNotice {s : State} (h : Calm s) (n : Notice) : Calm (s.joinNotice n) :=
  calm_report (calm_intake h _) _ _

theorem calm_leaveNotice {s : State} (h : Calm s) (rest : List Notice) : Calm (s.leaveNotice rest) :=
  calm_report (calm_intake h _) _ _

theorem calm_updateRegistration {s : State} (h : Calm s) (e : StreakEvent) :
    Calm (s.updateRegistration e) := calm_report (calm_intake h _) _ _

theorem calm_noticeTaken {s : State} (h : Calm s) (i : Slot) (b : Book) (w : SheetWords) :
    Calm (s.noticeTaken i b w) := by
  have faulted : Calm (s.noticeFaults i b w) :=
    keeps_ite (fun _ => calm_raiseFault (keeps_ite (fun _ => calm_raiseFault (keeps_ite
      (fun _ => calm_raiseFault h _ _) fun _ => h) _ _) fun _ => keeps_ite
      (fun _ => calm_raiseFault h _ _) fun _ => h) _ _) fun _ => keeps_ite (fun _ => calm_raiseFault (keeps_ite
      (fun _ => calm_raiseFault h _ _) fun _ => h) _ _) fun _ => keeps_ite
      (fun _ => calm_raiseFault h _ _) fun _ => h
  exact calm_modifyBook (calm_joinNotice faulted _) _ _

theorem calm_noticeDiverted {s : State} (h : Calm s) (r : DivertReason) (w : SheetWords) :
    Calm (s.noticeDiverted r w) := calm_notify (calm_joinNotice h _) _

theorem calm_sheetNotice {s : State} (h : Calm s) (w : SheetWords) : Calm (s.sheetNotice w) := by
  refine keeps_ite (fun _ => calm_notify h _) fun _ => ?_
  split
  · exact calm_noticeDiverted h _ w
  · split
    · exact h
    · exact keeps_ite (fun _ => calm_noticeTaken h _ _ w) fun _ => calm_noticeDiverted h _ w

theorem calm_bookCancel {s : State} (h : Calm s) (id : Half) : Calm (s.bookCancel id).1 := by
  unfold State.bookCancel
  split
  · exact h
  split
  · exact h
  refine calm_testRest ?_
  unfold State.cancelBook
  split
  · exact calm_removeBook h _
  · exact calm_endCollection (calm_raiseFault h _ _) _
  all_goals exact calm_raiseFault h _ _

theorem calm_expireNotice {s : State} (h : Calm s) (n : Notice) (rest : List Notice) :
    Calm (s.expireNotice n rest) := by
  have left := calm_updateRegistration (calm_count (calm_leaveNotice h rest) .missing) .expiry
  unfold State.expireNotice
  dsimp only
  split
  · exact left
  · have faulted := calm_raiseFault left (by assumption) .missingSheet
    exact keeps_ite (fun _ => calm_endCollection faulted _) fun _ => faulted

theorem calm_expireUpTo {s : State} (h : Calm s) (k : Nat) : Calm (s.expireUpTo k) := by
  induction k generalizing s with
  | zero => exact h
  | succ k ih =>
    unfold State.expireUpTo
    split
    · exact h
    · exact keeps_ite (fun _ => ih (calm_expireNotice h _ _)) fun _ => h

theorem calm_divertSheet {s : State} (h : Calm s) : Calm s.divertSheet :=
  calm_count (calm_triggerStrobe h _) _

theorem calm_disposeSheet {s : State} (h : Calm s) (i : Slot) (n : Notice) : Calm (s.disposeSheet i n) := by
  have diverted := calm_divertSheet (calm_raiseFault h i .registration)
  have placed := calm_placeSheet h (n.sheet i)
  refine keeps_ite (fun _ => keeps_ite (fun _ => ?_) fun _ => ?_) fun _ => calm_divertSheet h
  · exact keeps_ite (fun _ => calm_endCollection diverted _) fun _ => diverted
  · exact keeps_ite (fun _ => placed) fun _ => calm_divertSheet placed

theorem calm_infeedEdge {s : State} (h : Calm s) : Calm s.infeedEdge := by
  unfold State.infeedEdge
  split
  · exact calm_updateRegistration (calm_count (calm_triggerStrobe h _) _) _
  refine calm_expireUpTo ?_ _
  have matched := calm_updateRegistration (calm_leaveNotice h (by assumption)) .matching
  unfold State.matchNotice
  dsimp only
  split
  · exact calm_divertSheet matched
  · exact calm_disposeSheet matched _ _

/-! ### The bed and the drives -/

theorem calm_openGate {s : State} (h : Calm s) : Calm s.openGate := calm_setCh h (h.channels 0)

theorem calm_releaseLift {s : State} (h : Calm s) : Calm s.releaseLift := by
  unfold State.releaseLift
  split
  · exact h
  · exact keeps_ite (fun _ => keeps_ite (fun _ => calm_openGate h) fun _ => calm_setBed h _) fun _ => h

theorem calm_clampOpened {s : State} (h : Calm s) : Calm s.clampOpened := by
  unfold State.clampOpened
  split
  · exact h
  · exact keeps_ite (fun _ => calm_setBed h _) fun _ => h

theorem calm_cutDisabled {s : State} (h : Calm s) : Calm s.cutDisabled := by
  unfold State.cutDisabled
  split
  · exact h
  · exact keeps_ite (fun _ => calm_releaseLift (calm_raiseFault (calm_setBed h _) _ _)) fun _ => h

theorem calm_accounts {s : State} (h : Calm s) {v : Vector DriveAccount 5}
    (none : ∀ d, (Bank.read v d).purge = none) : Calm { s with pc := { s.pc with drives := v } } :=
  ⟨h.stopped, h.channels, h.strikes, none, h.orders⟩

theorem calm_setAccount {s : State} (h : Calm s) {d : DriveId} {a : DriveAccount} (none : a.purge = none) :
    Calm (s.setAccount d a) := by
  refine calm_accounts h fun x => ?_
  rw [Bank.read_write]
  split
  · exact none
  · exact h.purges x

theorem calm_fixTimers {s : State} (h : Calm s) : Calm s.fixTimers := by
  refine calm_accounts h fun d => ?_
  rw [Bank.read_tabulate]
  unfold State.fixedAccount
  dsimp only
  split
  · exact h.purges d
  · exact h.purges d

theorem calm_abandonPurges {s : State} (h : Calm s) : Calm s.abandonPurges :=
  calm_accounts h fun d => by rw [Bank.read_map]

theorem calm_findIncomplete {s : State} (h : Calm s) (g : Gather) : Calm (s.findIncomplete g) := by
  have noted : Calm { s with fu := { s.fu with gather := some { g with incomplete := true } } } :=
    h.of_eq rfl rfl rfl rfl rfl
  have advanced := calm_modifyBook (calm_raiseFault noted g.book .incomplete) g.book
    (Book.advance .collecting .collected)
  have ended := calm_endCollection advanced g.book
  exact keeps_ite (fun _ => calm_modifyBook ended _ _) fun _ => ended

theorem calm_outRequest {s : State} (h : Calm s) : Calm s.outRequest := by
  unfold State.outRequest
  split
  · exact h
  refine keeps_ite (fun _ => calm_testRest ?_) fun _ => h
  unfold State.answerOutRequest
  split
  · exact (calm_setBed h _).of_eq rfl rfl rfl rfl rfl
  · refine keeps_ite (fun _ => calm_setBed h _) fun _ => keeps_ite (fun _ => calm_setBed h _) fun _ => ?_
    exact calm_findIncomplete (calm_setBed h _) _

theorem calm_testDwell {s : State} (h : Calm s) : Calm s.testDwell :=
  keeps_ite (fun _ => calm_occur (calm_setBed h _) _) fun _ => h

/-! ### Channels and the finish position -/

/-- A calm channel has no countdown to end: it is idle. -/
theorem Calm.not_due {s : State} (h : Calm s) (i : ChannelId) (m : ChannelMode) {p : Phase}
    (running : p ≠ .idle) : (s.ch i).due m p = false := by
  simp [Channel.due, (h.channels i).1, Ne.symm running]

theorem calm_showOutputs {s : State} (h : Calm s) : Calm s.showOutputs where
  stopped := h.stopped
  channels i := by
    rw [show s.showOutputs.ch i = s.showOutput i from Bank.read_tabulate _ _]
    obtain ⟨phase, output⟩ := h.channels i
    unfold State.showOutput
    dsimp only
    split
    · exact ⟨phase, by simp [phase]⟩
    · exact ⟨phase, output⟩
  strikes := h.strikes
  purges := h.purges
  orders := h.orders

theorem calm_counted {s : State} (h : Calm s) (i : ChannelId) (k : Counts) : (s.counted i k).Still := by
  unfold State.counted Channel.stage
  dsimp only
  split
  · rw [if_pos h.stopped]
    exact h.channels i
  · rw [if_neg (by simp [(h.channels i).1])]
    exact h.channels i

theorem calm_captureAll {s : State} (h : Calm s) (x : Half) (count status : Bool) :
    Calm (s.captureAll x count status) where
  stopped := h.stopped
  channels i := by
    rw [show (s.captureAll x count status).ch i =
      if x.getLsbD i.val then (s.ch i).capture count status else s.ch i from Bank.read_tabulate _ _]
    split
    · exact h.channels i
    · exact h.channels i
  strikes := h.strikes
  purges := h.purges
  orders := h.orders

theorem calm_feedAfterSet {s : State} (h : Calm s) : Calm s.feedAfterSet := by
  unfold State.feedAfterSet
  split
  · exact h
  · exact keeps_ite (fun e => absurd h.stopped e.2) fun _ => h

theorem calm_setChannel {s : State} (h : Calm s) (i : ChannelId) (m : ChannelMode) (x : Source) (k : Counts) :
    Calm (s.setChannel i m x k) := by
  have quiet : s.reportCut i = s := if_neg (by simp [Channel.reportsCut, Channel.running, (h.channels i).1])
  unfold State.setChannel
  rw [quiet]
  have set : Calm (s.setCh i ((s.ch i).set m x k)) := calm_setCh h ⟨rfl, rfl⟩
  have held : Calm (State.holdForChannels (s.setCh i ((s.ch i).set m x k))) :=
    keeps_ite (fun _ => set) fun _ => calm_addHold set _
  have cut := calm_cutDisabled held
  refine calm_fixTimers (keeps_ite (fun _ => calm_testClamp (calm_clampOpened cut)) fun _ => ?_)
  exact keeps_ite (fun _ => calm_feedAfterSet cut) fun _ => cut

theorem calm_channelSet {s : State} (h : Calm s) (channel mode source : Byte) (k : Counts) :
    Calm (s.channelSet channel mode source k).1 := by
  unfold State.channelSet
  split
  · unfold State.channelSetChecked
    split
    · exact h
    split
    · exact h
    split
    · exact h
    · exact calm_setChannel h _ _ _ _
  · exact h

theorem calm_retryDrill {s : State} (h : Calm s) (f : Finish) : Calm (s.retryDrill f) := by
  have unblocked := calm_unblock h f
  refine keeps_ite (fun _ => unblocked) fun e => ?_
  have short : (s.unblock f).fu.bitLife < (s.unblock f).drillHoles f.book := by
    simpa [unblocked.stopped] using e
  exact keeps_ite (fun _ => calm_follow (calm_setFinish unblocked _) _ _ _) fun e => absurd short e

theorem calm_bitChanged {s : State} (h : Calm s) (life : Half) : Calm (s.bitChanged life).1 := by
  unfold State.bitChanged
  split
  · exact h
  split
  · exact h
  have set : Calm (s.setBitLife life.toNat) := h.of_eq rfl rfl rfl rfl rfl
  refine calm_testRest ?_
  unfold State.retryBlocked
  split
  · exact set
  · exact keeps_ite (fun _ => calm_retryDrill set _) fun _ => set

theorem calm_recordExit {s : State} (h : Calm s) (e : Exit) :
    Calm { s with lsv := s.lsv.recordExit e } := by
  refine h.of_eq ?_ rfl rfl rfl rfl
  dsimp only [LineSupervisor.recordExit]
  split <;> rfl

theorem calm_passOutcome {s : State} (h : Calm s) (i : Slot) (b : Book) (o : BookOutcome) :
    Calm (s.passOutcome i b o) := by
  have gate : Calm (if o = .bound then s else s.triggerStrobe 8) :=
    keeps_ite (fun _ => h) fun _ => calm_triggerStrobe h 8
  have counted : Calm (((if o = .bound then s else s.triggerStrobe 8).sendOutcome o b).countOutcome o) := by
    unfold State.countOutcome
    split
    · exact calm_count (calm_sendOutcome gate _ _) _
    · exact calm_count (calm_sendOutcome gate _ _) _
    · exact calm_sendOutcome gate _ _
  exact calm_setFinish (calm_removeBook (calm_recordExit counted ⟨b.id, o⟩) _) _

theorem calm_passBook {s : State} (h : Calm s) (f : Finish) : Calm (s.passBook f) := by
  unfold State.passBook
  split
  · exact calm_passOutcome h _ _ _
  · exact calm_setFinish h _

theorem calm_exitEdge {s : State} (h : Calm s) (f : Finish) : Calm (s.exitEdge f) := by
  unfold State.exitEdge
  split
  case h_6 => exact keeps_ite (fun _ => calm_setFinish h _) fun _ => h
  case h_7 => exact calm_passBook h f
  all_goals exact h

/-- In SAFE_STOP there is no order to confirm. -/
theorem calm_confirm {s : State} (h : Calm s) (j : Job) (act : State → State) : Calm (s.confirm j act) :=
  keeps_ite (fun e => by simp [State.issued, h.orders j.station] at e) fun _ => h

theorem calm_setOrder_map {s : State} (h : Calm s) (st : Station) (g : Order → Order) :
    Calm (State.syncStationWait (s.setOrder st ((s.order st).map g))) := by
  rw [h.orders st]
  exact calm_follow (calm_setOrder h st) _ _ _

/-! ## The entry of Safe Stop -/

/-- The line is stopped, the channels are idle and no strike is in flight: what the entry of Safe Stop has first
made of the part (R132, R90). -/
structure Hushed (s : State) : Prop where
  stopped : s.lsv.lineState = .safeStop
  channels : ∀ i, (s.ch i).Still
  strikes : ∀ d, (s.drive d).strike = none

theorem Moves.hushed {s t : State} (m : Moves s t) (h : Hushed s) (tcu : t.tcu = s.tcu)
    (drives : t.ss.drives = s.ss.drives) : Hushed t where
  stopped := m.stopped_iff.2 h.stopped
  channels i := by simpa [State.ch, tcu] using h.channels i
  strikes d := by simpa [State.drive, drives] using h.strikes d

theorem reactToFault_bedShuttle (f : Finish) (s : State) :
    (s.reactToFault f).order .bedShuttle = s.order .bedShuttle := by
  have made : ∀ s : State, (s.makeOrder .exitTransfer).order .bedShuttle = s.order .bedShuttle :=
    fun s => Bank.read_write_ne _ _ (by decide)
  have ended : ∀ {st : Station} (s : State), stationIndex .bedShuttle ≠ stationIndex st →
      (s.endOrder st).order .bedShuttle = s.order .bedShuttle := by
    intro st s ne
    have kept : (s.endOrder st).orders = (s.setOrder st none).orders := by
      simp [State.endOrder, State.syncStationWait]
    rw [State.order, kept]
    exact Bank.read_write_ne _ _ ne
  have exited : ∀ (f : Finish) (s : State), (s.startExit f).order .bedShuttle = s.order .bedShuttle :=
    fun f s => made _
  have withdrawn : ∀ (st : Station) (f : Finish) (s : State), stationIndex .bedShuttle ≠ stationIndex st →
      (s.withdrawForExit st f).order .bedShuttle = s.order .bedShuttle := by
    intro st f s ne
    unfold State.withdrawForExit
    split
    · exact (exited f _).trans (ended s ne)
    · rfl
  have unblocked : (s.unblock f).order .bedShuttle = s.order .bedShuttle := by
    simp [State.order, State.unblock]
  unfold State.reactToFault
  cases f.step <;> dsimp only
  case drill =>
    split
    · split
      · exact unblocked
      · exact (exited _ _).trans unblocked
    · exact withdrawn .drill f s (by decide)
  case feed =>
    split
    · rfl
    · exact exited f s
  case hanger => exact withdrawn .hanger f s (by decide)
  case close => exact withdrawn .closer f s (by decide)

/-- A fault of the bed lift's book leaves the bed shuttle's order alone. -/
theorem raiseFault_bedShuttle (i : Slot) (c : FaultCause) (s : State) :
    (s.raiseFault i c).order .bedShuttle = s.order .bedShuttle := by
  unfold State.raiseFault State.tellFinish
  split
  · split
    · rfl
    · split
      · exact reactToFault_bedShuttle _ _
      · rfl
  · rfl

end Sys2Proof.Machine

/-! The entry of Safe Stop ends everything in flight, and no step sets anything in flight in SAFE_STOP. -/

namespace Sys2Proof.Machine

open Sys2Proof Sys2Proof.Safety

set_option Elab.async false

/-! ## The entry of Safe Stop -/

theorem order_setOrder (st x : Station) (o : Option Order) (s : State) :
    (s.setOrder st o).order x = if x = st then o else s.order x := by
  show Bank.read (Bank.write s.orders (stationIndex st) o) (stationIndex x) = _
  have same : stationIndex x = stationIndex st ↔ x = st := by
    cases x <;> cases st <;> decide
  rw [Bank.read_write]
  simp only [same]
  rfl

theorem endOrder_orders (st : Station) (s : State) : (s.endOrder st).orders = (s.setOrder st none).orders := by
  simp [State.endOrder, State.syncStationWait]

/-- An order that ends leaves the orders of the other stations (R68). -/
theorem order_endOrder (st x : Station) (s : State) :
    (s.endOrder st).order x = if x = st then none else s.order x := by
  rw [State.order, endOrder_orders]
  exact order_setOrder st x none s

theorem handOver_drives (b : Bed) (s : State) : (s.handOver b).ss.drives = s.ss.drives := by
  simp [State.handOver, State.setBed]

theorem stopBed_drives (b : Bed) (s : State) : (s.stopBed b).ss.drives = s.ss.drives := by
  unfold State.stopBed State.stopOnBed
  split
  · simp [State.setBed]
  split
  · simpa using handOver_drives b s
  split
  · split
    · simp [State.setBed]
    · split <;> rfl
  · rfl

theorem stopScheduler_hushed {s : State} (stopped : s.lsv.lineState = .safeStop)
    (still : ∀ i, (s.ch i).Still) : Hushed s.stopScheduler := by
  have abandoned : Hushed s.abandonStrikes :=
    ⟨stopped, still, fun d => by rw [State.drive, State.abandonStrikes, Bank.read_map]; rfl⟩
  unfold State.stopScheduler
  generalize s.abandonStrikes = u at abandoned ⊢
  have bed : Hushed (match u.ss.bed with
      | none => u
      | some b => u.stopBed b) := by
    split
    · exact abandoned
    · exact (moves_stopBed _ u).hushed abandoned (by simp) (stopBed_drives _ u)
  exact (moves_endOrder _ _).hushed bed (by simp) (by simp)

theorem stopScheduler_bedShuttle (s : State) : s.stopScheduler.order .bedShuttle = none :=
  (order_endOrder _ _ _).trans (if_pos rfl)

theorem cutDisabled_drives (s : State) : s.cutDisabled.ss.drives = s.ss.drives := by
  have released : ∀ u : State, u.releaseLift.ss.drives = u.ss.drives := by
    intro u
    unfold State.releaseLift
    split
    · rfl
    · split
      · split <;> rfl
      · rfl
  unfold State.cutDisabled
  split
  · rfl
  · split
    · rw [released, State.raiseFault_ss]
      rfl
    · rfl

theorem cutDisabled_bedShuttle (s : State) : s.cutDisabled.order .bedShuttle = s.order .bedShuttle := by
  unfold State.cutDisabled
  split
  · rfl
  · split
    · rw [State.order, State.releaseLift_orders]
      exact raiseFault_bedShuttle _ _ _
    · rfl

/-- Cutting a disabled drive out of the plan starts no channel: at most the clamp's gate is released. -/
theorem cutDisabled_still {s : State} (still : ∀ i, (s.ch i).Still) (i : ChannelId) :
    (s.cutDisabled.ch i).Still := by
  have opened : ∀ u : State, (∀ i, (u.ch i).Still) → ∀ i, (u.openGate.ch i).Still := by
    intro u h i
    rw [show u.openGate.ch i = if i = 0 then { u.ch 0 with gate := false } else u.ch i from
      Bank.read_write _ _ _ _]
    split
    · exact h 0
    · exact h i
  have released : ∀ u : State, (∀ i, (u.ch i).Still) → ∀ i, (u.releaseLift.ch i).Still := by
    intro u h
    unfold State.releaseLift
    split
    · exact h
    · split
      · split
        · exact opened u h
        · exact h
      · exact h
  unfold State.cutDisabled
  split
  · exact still i
  · split
    · refine released _ (fun j => ?_) i
      simpa [State.ch, State.setBed] using still j
    · exact still i

/-- Hushed, with the bed shuttle and the purges at an end: what Safe Stop has made of the part before the Finish
Unit (R90, R108). -/
structure Halted (s : State) : Prop extends Hushed s where
  purges : ∀ d, (s.account d).purge = none
  shuttle : s.order .bedShuttle = none

theorem stopPurges_halted {s : State} (h : Hushed s) (shuttle : s.order .bedShuttle = none) :
    Halted s.stopPurges where
  stopped := (moves_stopPurges s).stopped_iff.2 h.stopped
  channels := cutDisabled_still h.channels
  strikes d := by simpa [State.drive, State.stopPurges, cutDisabled_drives] using h.strikes d
  purges d := by
    rw [State.account, State.stopPurges, State.cutDisabled_pc, State.abandonPurges, Bank.read_map]
  shuttle := (cutDisabled_bedShuttle _).trans shuttle

/-- The Finish Unit withdraws its orders; none is left then. -/
theorem withdrawn_calm {s : State} (h : Halted s) :
    Calm (((((s.endOrder .finishTransfer).endOrder .exitTransfer).endOrder .drill).endOrder
      .hanger).endOrder .closer) := by
  have hushed := (moves_withdrawFinishOrders s).hushed h.toHushed (by simp) (by simp)
  refine ⟨hushed.stopped, hushed.channels, hushed.strikes, fun d => ?_, fun st => ?_⟩
  · simpa [State.account] using h.purges d
  · simp only [order_endOrder]
    cases st
    case bedShuttle => exact h.shuttle
    all_goals rfl

theorem calm_stopStep {s : State} (h : Calm s) (f : Finish) : Calm (s.stopStep f) := by
  have faulted : ∀ {s : State}, Calm s → Calm (s.interruptFinish f) := fun h => calm_raiseFault h _ _
  unfold State.stopStep
  split
  case h_1 => exact faulted (h.of_eq rfl rfl rfl rfl rfl)
  case h_6 => exact calm_passBook (faulted h) f
  case h_7 => exact calm_passBook (faulted h) f
  all_goals exact faulted h

theorem enterSafeStop_calm (s : State) : Calm s.enterSafeStop := by
  have stopped : (s.moveLine .safeStop).quietChannels.lsv.lineState = .safeStop := by
    simp [State.quietChannels]
  have still : ∀ i, ((s.moveLine .safeStop).quietChannels.ch i).Still := fun i => by
    rw [State.ch, State.quietChannels, Bank.read_map]
    exact ⟨rfl, rfl⟩
  have halted := stopPurges_halted (stopScheduler_hushed stopped still) (stopScheduler_bedShuttle _)
  have calm := withdrawn_calm halted
  unfold State.enterSafeStop State.stopFinish
  dsimp only
  split
  · exact calm
  · exact keeps_ite (fun _ => calm) fun _ => calm_stopStep calm _

/-- With the first cause nothing is in flight any more (R167). -/
theorem addCause_quiet {s : State} (h : StoppedIsQuiet s) (x : StopCause) : Calm (s.addCause x) := by
  refine keeps_ite (fun stopped => ?_) fun _ => enterSafeStop_calm _
  exact (calm_of_quiet stopped (h stopped)).of_eq rfl rfl rfl rfl rfl

/-! ## Every step -/

theorem stoppedIsQuiet_of_calm {s : State} (h : Calm s) : StoppedIsQuiet s := fun _ => h.quiet

/-- Work that neither stops the line nor ends its stop, and leaves a calm part calm. -/
theorem stoppedIsQuiet_of {s t : State} (h : StoppedIsQuiet s)
    (line : t.lsv.lineState = .safeStop → s.lsv.lineState = .safeStop) (calm : Calm s → Calm t) :
    StoppedIsQuiet t :=
  fun stopped => (calm (calm_of_quiet (line stopped) (h (line stopped)))).quiet

theorem Moves.stoppedIsQuiet {s t : State} (m : Moves s t) (h : StoppedIsQuiet s) (calm : Calm s → Calm t) :
    StoppedIsQuiet t := stoppedIsQuiet_of h m.stopped_iff.1 calm

theorem addCauseIf_quiet {s : State} (h : StoppedIsQuiet s) {p : Prop} [Decidable p] (x : StopCause) :
    StoppedIsQuiet (if p then s.addCause x else s) :=
  keeps_ite (fun _ => stoppedIsQuiet_of_calm (addCause_quiet h x)) fun _ => h

theorem clearStop_running (s : State) : s.clearStop.lsv.lineState ≠ .safeStop := by
  unfold State.clearStop
  rw [Ne, (moves_afterStop _).stopped_iff]
  simp

theorem lineReset_quiet {s : State} (h : StoppedIsQuiet s) : StoppedIsQuiet s.lineReset := by
  unfold State.lineReset
  refine ((moves_reportAfterReset _).trans (moves_fixTimers _)).stoppedIsQuiet ?_ fun c => ?_
  · intro stopped
    have before : s.lsv.lineState = .safeStop := by
      have after : ((s.freeze .lineReset).resetBlocks).lsv.lineState = s.lsv.lineState.afterReset := rfl
      rw [after] at stopped
      unfold LineState.afterReset at stopped
      split at stopped
      · assumption
      · cases stopped
    obtain ⟨_, strikes, purges, _⟩ := h before
    refine ⟨fun i => ?_, fun d => ?_, fun d => ?_, fun st => Bank.read_replicate _ _⟩
    · rw [show (State.resetBlocks (s.freeze .lineReset)).ch i = (s.ch i).lineReset from Bank.read_map _ _ _]
      exact ⟨rfl, rfl⟩
    · rw [show (State.resetBlocks (s.freeze .lineReset)).drive d = (s.drive d).abandon from
        Bank.read_map _ _ _]
      rfl
    · rw [show (State.resetBlocks (s.freeze .lineReset)).account d = (s.account d).test from
        Bank.read_map _ _ _]
      exact purges d
  · refine calm_fixTimers ?_
    have reported : ∀ s : State, Calm s → Calm s.reportAfterReset := fun s h =>
      calm_report (calm_report (calm_report (calm_report (calm_report h _ _) _ _) _ _) _ _) _ _
    exact reported _ c

theorem setMode_quiet {s : State} (h : StoppedIsQuiet s) (modeByte : Byte) :
    StoppedIsQuiet (s.setMode modeByte).1 := by
  have changed : ∀ m, StoppedIsQuiet (s.changeMode m) := fun m =>
    stoppedIsQuiet_of h id fun c => by
      have mode : Calm { s with lsv := { s.lsv with mode := m } } := c.of_eq rfl rfl rfl rfl rfl
      exact calm_fixTimers (calm_showOutputs mode)
  unfold State.setMode
  split
  · exact h
  unfold State.setModeChecked
  split
  · split
    · exact keeps_ite (fun _ => h) fun _ => changed _
    · exact h
  · exact h

theorem setDriveEntry_quiet {s : State} (h : StoppedIsQuiet s) (d : DriveId) (e : DriveEntry) :
    StoppedIsQuiet (s.setDriveEntry d e) := by
  have line := ((moves_testKind d (s.chosenKind d)
    { s with ts := { s.ts with drives := Bank.write s.ts.drives d e } }).trans
      ((moves_cutDisabled _).trans (moves_fixTimers _))).stopped_iff
  refine stoppedIsQuiet_of h line.1 fun c => calm_fixTimers (calm_cutDisabled ?_)
  have written : Calm { s with ts := { s.ts with drives := Bank.write s.ts.drives d e } } :=
    c.of_eq rfl rfl rfl rfl rfl
  exact keeps_ite (fun _ => written) fun _ => calm_setAccount written (c.purges d)

theorem setSettings_quiet {s : State} (h : StoppedIsQuiet s) (x : LineSettings) :
    StoppedIsQuiet (s.setSettings x) := by
  unfold State.setSettings
  exact (moves_testDwell _).stoppedIsQuiet h calm_testDwell

theorem tableWrite_quiet {s : State} (h : StoppedIsQuiet s) (selector entry : Byte) (contents : List Byte) :
    StoppedIsQuiet (s.tableWrite selector entry contents).1 := by
  unfold State.tableWrite
  split
  · exact h
  · unfold State.writePattern
    split
    · exact h
    · split <;> exact h
  · unfold State.writeFormat
    split <;> exact h
  · unfold State.writeDrive
    split
    · split
      · exact h
      · exact setDriveEntry_quiet h _ _
    · exact h
  · unfold State.writeSettings
    split
    · split
      · exact h
      · exact setSettings_quiet h _
    · exact h

theorem bookOpen_quiet {s : State} (h : StoppedIsQuiet s) (id : Half) (format declared : Byte) :
    StoppedIsQuiet (s.bookOpen id format declared).1 := by
  have opened : ∀ i b, StoppedIsQuiet (s.openBook i b) := fun i b =>
    stoppedIsQuiet_of h (fun e => (mirror_lineState i (some b) s.lsv).symm.trans e)
      fun c => c.of_eq (mirror_lineState i (some b) s.lsv) rfl rfl rfl rfl
  unfold State.bookOpen
  split
  · unfold State.bookOpenChecked
    dsimp only
    split
    · exact h
    split
    · exact h
    split
    · exact h
    split
    · exact h
    · exact opened _ _
  · exact h

theorem recoveryClear_quiet {s : State} (h : StoppedIsQuiet s) : StoppedIsQuiet s.recoveryClear :=
  keeps_ite (fun _ => h) fun _ => h

theorem channelCount_calm {s : State} (h : Calm s) (channel : Byte) (k : Counts) :
    Calm (s.channelCount channel k).1 := by
  unfold State.channelCount
  split
  · exact h
  · exact calm_setCh h (calm_counted h _ k)

theorem capture_calm {s : State} (h : Calm s) (x : Half) (selector : Byte) :
    Calm (s.capture x selector).1 := by
  unfold State.capture
  split
  · exact h
  · split
    · exact calm_captureAll h _ _ _
    · exact h

theorem channelRead_calm {s : State} (h : Calm s) (channel : Byte) : Calm (s.channelRead channel).1 := by
  unfold State.channelRead
  split
  · exact h
  · exact calm_setCh h (h.channels _)

theorem RequestWork.quiet {act : State → State × Reply} (w : RequestWork act) {s : State}
    (h : StoppedIsQuiet s) : StoppedIsQuiet (act s).1 := by
  cases w with
  | reply => exact h
  | bookOpen id f d => exact bookOpen_quiet h id f d
  | bookCancel id => exact (moves_bookCancel id s).stoppedIsQuiet h fun c => calm_bookCancel c id
  | tableWrite x e c => exact tableWrite_quiet h x e c
  | channelSet c m x k =>
    exact (moves_channelSet c m x k s).stoppedIsQuiet h fun calm => calm_channelSet calm c m x k
  | channelCount c k =>
    exact (moves_channelCount c k s).stoppedIsQuiet h fun calm => channelCount_calm calm c k
  | capture x c => exact (moves_capture x c s).stoppedIsQuiet h fun calm => capture_calm calm x c
  | channelRead c => exact (moves_channelRead c s).stoppedIsQuiet h fun calm => channelRead_calm calm c
  | counterTransfer =>
    unfold State.counterTransfer
    split <;> exact h
  | eventSetup a b =>
    unfold State.eventSetup
    split <;> exact h
  | eventClear a =>
    unfold State.eventClear
    split <;> exact h
  | statusRead p =>
    unfold State.statusRead
    split <;> exact h
  | hold => exact (moves_holdLine s).stoppedIsQuiet h fun c => calm_testRest (calm_addHold c _)
  | resume =>
    refine (moves_resumeLine s).stoppedIsQuiet h fun c => ?_
    unfold State.resumeLine
    rw [if_pos (.inl c.stopped)]
    exact c
  | stop => exact stoppedIsQuiet_of_calm (addCause_quiet h _)
  | stopClear =>
    unfold State.stopClear
    split
    · exact fun stopped => absurd stopped (clearStop_running s)
    · exact h
  | setMode m => exact setMode_quiet h m
  | lineReset => exact lineReset_quiet h
  | bitChanged l => exact (moves_bitChanged l s).stoppedIsQuiet h fun c => calm_bitChanged c l
  | recoveryClear => exact recoveryClear_quiet h

theorem setAir_quiet {s : State} (h : StoppedIsQuiet s) (p : Bool) : StoppedIsQuiet (s.setAir p) := by
  have low : StoppedIsQuiet (State.reportLevel .airLow (!p) { s with pc := { s.pc with air := p } }) := h
  unfold State.setAir
  dsimp only
  generalize State.reportLevel .airLow (!p) { s with pc := { s.pc with air := p } } = u at low ⊢
  refine keeps_ite (fun _ => ?_) fun _ => ?_
  · refine (moves_grantAll u).stoppedIsQuiet low fun c => ?_
    have granted : ∀ (l : List DriveId) (u : State), Calm u → Calm (l.foldl (fun s d => s.tryGrant d) u) := by
      intro l
      induction l with
      | nil => exact fun _ c => c
      | cons d l ih =>
        exact fun u c => ih _ (keeps_ite (fun e => by simp [State.grantable, c.stopped] at e) fun _ => c)
    exact granted _ _ c
  · exact ((moves_stopPurges u).trans (moves_testRest _)).stoppedIsQuiet low
      fun c => calm_testRest (calm_cutDisabled (calm_abandonPurges c))

theorem stoppedIsQuiet_of_running {s : State} (h : s.lsv.lineState ≠ .safeStop) : StoppedIsQuiet s :=
  fun stopped => absurd stopped h

theorem quarterExpiry_quiet {s : State} (h : StoppedIsQuiet s) (d : DriveId) :
    StoppedIsQuiet (s.quarterExpiry d) := by
  have set : ∀ debt length, s.lsv.lineState ≠ .safeStop →
      StoppedIsQuiet (s.setDebtAtExpiry d debt length) :=
    fun _ _ running => stoppedIsQuiet_of_running (by simpa [State.setDebtAtExpiry, State.syncForced] using running)
  unfold State.quarterExpiry
  split
  · next due =>
    have running : s.lsv.lineState ≠ .safeStop := by
      intro e
      simp [State.quarterDue, State.timerSuspended, e] at due
    split
    · exact set _ _ running
    · have occurred : StoppedIsQuiet ((s.setDebtAtExpiry d 32 none).occur .purgeOverdue) :=
        set 32 none running
      generalize (s.setDebtAtExpiry d 32 none).occur .purgeOverdue = u at occurred ⊢
      exact stoppedIsQuiet_of_calm (addCause_quiet occurred _)
  · exact h

theorem strokeTimeout_quiet {s : State} (h : StoppedIsQuiet s) (d : DriveId) :
    StoppedIsQuiet (s.strokeTimeout d) := by
  unfold State.strokeTimeout
  split
  · next due =>
    have running : s.lsv.lineState ≠ .safeStop := by
      intro e
      simp [State.strokeDue, (h e).2.1 d] at due
    have faulted : StoppedIsQuiet (s.setDrive d { s.drive d with faulted := true }) :=
      stoppedIsQuiet_of_running running
    generalize s.setDrive d { s.drive d with faulted := true } = u at faulted ⊢
    exact stoppedIsQuiet_of_calm (addCause_quiet faulted _)
  · exact h

theorem strokeDone_calm {s : State} (h : Calm s) (d : DriveId) : Calm (s.strokeDone d) := by
  unfold State.strokeDone
  rw [h.strikes d]
  exact h

theorem strikeBegin_calm {s : State} (h : Calm s) : Calm s.strikeBegin := by
  have none : s.nextStrike = none := by
    simp [State.nextStrike, State.eligible, State.strikable, h.stopped]
  unfold State.strikeBegin
  rw [none]
  exact h

theorem purgeEnd_calm {s : State} (h : Calm s) (d : DriveId) : Calm (s.purgeEnd d) := by
  unfold State.purgeEnd
  rw [h.purges d]
  exact h

theorem orderFinishTransfer_calm {s : State} (h : Calm s) : Calm s.orderFinishTransfer := by
  unfold State.orderFinishTransfer
  split
  · exact h
  · exact keeps_ite (fun e => by simp [State.finishTransferDue, h.stopped] at e) fun _ => h

/-- A countdown that no calm channel has is no event. -/
theorem calm_ite_due {s t : State} (h : Calm s) {i : ChannelId} {m : ChannelMode} {p : Phase}
    (running : p ≠ .idle) : Calm (if (s.ch i).due m p then t else s) :=
  keeps_ite (fun e => by simp [h.not_due i m running] at e) fun _ => h

theorem powerWarning_quiet {s : State} (h : StoppedIsQuiet s) : StoppedIsQuiet s.powerWarning := by
  have warned : StoppedIsQuiet ((s.freeze .powerWarning).reportLevel .powerWarning true) := h
  unfold State.powerWarning
  generalize (s.freeze .powerWarning).reportLevel .powerWarning true = u at warned ⊢
  exact stoppedIsQuiet_of_calm (addCause_quiet warned _)

theorem recordExit_lineState (e : Exit) (l : LineSupervisor) : (l.recordExit e).lineState = l.lineState := by
  unfold LineSupervisor.recordExit
  split <;> rfl

/-- A book that passes the exit sensor does not stop the line, nor end its stop. -/
theorem passBook_stopped_iff (f : Finish) (s : State) :
    (s.passBook f).lsv.lineState = .safeStop ↔ s.lsv.lineState = .safeStop := by
  have passed : ∀ b o, (s.passOutcome f.book b o).lsv.lineState = .safeStop ↔ s.lsv.lineState = .safeStop := by
    intro b o
    have gate : Moves s (if o = .bound then s else s.triggerStrobe 8) :=
      .ite (fun _ => .refl s) fun _ => moves_triggerStrobe 8 s
    unfold State.passOutcome
    dsimp only
    generalize (if o = .bound then s else s.triggerStrobe 8) = u at gate ⊢
    have told := gate.trans ((moves_sendOutcome o b u).trans (moves_countOutcome o _))
    generalize (u.sendOutcome o b).countOutcome o = v at told ⊢
    have left := (Move.remove f.book { v with lsv := v.lsv.recordExit ⟨b.id, o⟩ }).moves.trans
      (moves_setFinish none _)
    refine left.stopped_iff.trans ?_
    rw [← told.stopped_iff]
    dsimp only
    rw [recordExit_lineState]
  unfold State.passBook
  split
  · exact passed _ _
  · exact Iff.rfl

theorem passBook_quiet {s : State} (h : StoppedIsQuiet s) (f : Finish) : StoppedIsQuiet (s.passBook f) :=
  stoppedIsQuiet_of h (passBook_stopped_iff f s).1 fun c => calm_passBook c f

theorem testRest_quiet {s : State} (h : StoppedIsQuiet s) : StoppedIsQuiet s.testRest :=
  (moves_testRest s).stoppedIsQuiet h calm_testRest

theorem exitSensed_quiet {s : State} (h : StoppedIsQuiet s) :
    StoppedIsQuiet (s.onFinish State.exitEdge).testRest := by
  refine testRest_quiet ?_
  unfold State.onFinish
  split
  · exact h
  · unfold State.exitEdge
    split
    case h_6 => exact keeps_ite (fun _ => h) fun _ => h
    case h_7 => exact passBook_quiet h _
    all_goals exact h

theorem exitConfirmed_quiet {s : State} (h : StoppedIsQuiet s) :
    StoppedIsQuiet (s.confirm .exitTransfer (State.onFinish State.bookOnExit)) := by
  refine keeps_ite (fun issued => ?_) fun _ => h
  have running : s.lsv.lineState ≠ .safeStop := by
    intro e
    simp [State.issued, (h e).2.2.2] at issued
  have ended : StoppedIsQuiet (s.endOrder .exitTransfer) :=
    fun stopped => absurd ((moves_endOrder .exitTransfer s).stopped_iff.1 stopped) running
  refine testRest_quiet ?_
  show StoppedIsQuiet ((s.endOrder .exitTransfer).onFinish State.bookOnExit)
  generalize s.endOrder .exitTransfer = u at ended ⊢
  unfold State.onFinish
  split
  · exact ended
  · exact keeps_ite (fun _ => passBook_quiet ended _) fun _ => ended

theorem calm_noticeExpiry {s : State} (h : Calm s) : Calm s.noticeExpiry :=
  keeps_ite (fun _ => calm_testRest (calm_expireUpTo h _)) fun _ => h

theorem calm_orderBedTransfer {s : State} (h : Calm s) : Calm s.orderBedTransfer :=
  keeps_ite (fun e => by simp [State.bedTransferDue, h.stopped] at e) fun _ => h

theorem calm_orderOutTransfer {s : State} (h : Calm s) : Calm s.orderOutTransfer :=
  keeps_ite (fun e => by simp [State.outTransferDue, h.stopped] at e) fun _ => h

theorem calm_readyWaitExpiry {s : State} (h : Calm s) (st : Station) : Calm (s.readyWaitExpiry st) :=
  keeps_ite (fun _ => calm_setOrder_map h st _) fun _ => h

theorem calm_tryGrant {s : State} (h : Calm s) (d : DriveId) : Calm (s.tryGrant d) :=
  keeps_ite (fun e => by simp [State.grantable, h.stopped] at e) fun _ => h

theorem calm_setTemperature {s : State} (h : Calm s) (d : DriveId) (t : Temperature) :
    Calm (s.setTemperature d t) := by
  have set : Calm (s.setAccount d { s.account d with temperature := t }) := calm_setAccount h (h.purges d)
  exact calm_testRest (calm_follow set _ _ _)

theorem calm_holdDwellEnd {s : State} (h : Calm s) : Calm s.holdDwellEnd :=
  keeps_ite (fun e => by simp [State.dwellDue, h.not_due] at e) fun _ => h

theorem calm_strobeWaitEnd {s : State} (h : Calm s) (i : ChannelId) : Calm (s.strobeWaitEnd i) :=
  calm_ite_due h (by decide)

theorem calm_strobePulseEnd {s : State} (h : Calm s) (i : ChannelId) : Calm (s.strobePulseEnd i) :=
  calm_ite_due h (by decide)

theorem calm_pitchPulseEnd {s : State} (h : Calm s) : Calm s.pitchPulseEnd := calm_ite_due h (by decide)

theorem calm_pitchPeriodBoundary {s : State} (h : Calm s) : Calm s.pitchPeriodBoundary :=
  calm_ite_due h (by decide)

theorem calm_softWaitEnd {s : State} (h : Calm s) (i : ChannelId) : Calm (s.softWaitEnd i) :=
  calm_ite_due h (by decide)

theorem calm_softPulseEnd {s : State} (h : Calm s) (i : ChannelId) : Calm (s.softPulseEnd i) :=
  calm_ite_due h (by decide)

theorem confirm_quiet {s : State} (h : StoppedIsQuiet s) {act : State → State}
    (owner : ∀ s, Moves s (act s)) (j : Job) : StoppedIsQuiet (s.confirm j act) :=
  (moves_confirm owner j s).stoppedIsQuiet h fun c => calm_confirm c _ _

theorem EventWork.quiet {act : State → State} (w : EventWork act) {s : State} (h : StoppedIsQuiet s) :
    StoppedIsQuiet (act s) := by
  cases w with
  | none => exact h
  | linkError => exact h
  | sheetNotice x => exact (moves_sheetNotice x s).stoppedIsQuiet h fun c => calm_sheetNotice c x
  | infeedEdge => exact testRest_quiet ((moves_infeedEdge s).stoppedIsQuiet h calm_infeedEdge)
  | noticeExpiry => exact (moves_noticeExpiry s).stoppedIsQuiet h calm_noticeExpiry
  | bedTransferOrder => exact (moves_orderBedTransfer s).stoppedIsQuiet h calm_orderBedTransfer
  | stationReady st => exact (moves_issueWaiting st s).stoppedIsQuiet h fun c => calm_setOrder_map c st _
  | readyWaitExpiry st =>
    exact (moves_readyWaitExpiry st s).stoppedIsQuiet h fun c => calm_readyWaitExpiry c st
  | orderTimeout st => exact addCauseIf_quiet h _
  | bedArrival => exact confirm_quiet h moves_liftArrives _
  | strikeBegin => exact (moves_strikeBegin s).stoppedIsQuiet h strikeBegin_calm
  | strokeDone d => exact testRest_quiet ((moves_strokeDone d s).stoppedIsQuiet h fun c => strokeDone_calm c d)
  | strokeTimeout d => exact strokeTimeout_quiet h d
  | outRequest => exact (moves_outRequest s).stoppedIsQuiet h calm_outRequest
  | outTransferOrder => exact (moves_orderOutTransfer s).stoppedIsQuiet h calm_orderOutTransfer
  | gatherArrival => exact confirm_quiet h moves_liftGathered _
  | bedDwellLimitExpiry => exact (moves_testDwell s).stoppedIsQuiet h calm_testDwell
  | quarterIntervalExpiry d => exact quarterExpiry_quiet h d
  | purgeGrant d => exact (moves_tryGrant d s).stoppedIsQuiet h fun c => calm_tryGrant c d
  | purgeEnd d => exact (moves_purgeEnd d s).stoppedIsQuiet h fun c => purgeEnd_calm c d
  | temperatureChange d t =>
    exact (moves_setTemperature d t s).stoppedIsQuiet h fun c => calm_setTemperature c d t
  | purgeAirChange p => exact setAir_quiet h p
  | holdDwellEnd => exact (moves_holdDwellEnd s).stoppedIsQuiet h calm_holdDwellEnd
  | strobeWaitEnd i => exact (moves_strobeWaitEnd i s).stoppedIsQuiet h fun c => calm_strobeWaitEnd c i
  | strobePulseEnd i => exact (moves_strobePulseEnd i s).stoppedIsQuiet h fun c => calm_strobePulseEnd c i
  | pitchPulseEnd => exact (moves_pitchPulseEnd s).stoppedIsQuiet h calm_pitchPulseEnd
  | pitchPeriodBoundary => exact (moves_pitchPeriodBoundary s).stoppedIsQuiet h calm_pitchPeriodBoundary
  | softWaitEnd i => exact (moves_softWaitEnd i s).stoppedIsQuiet h fun c => calm_softWaitEnd c i
  | softPulseEnd i => exact (moves_softPulseEnd i s).stoppedIsQuiet h fun c => calm_softPulseEnd c i
  | finishTransferOrder => exact (moves_orderFinishTransfer s).stoppedIsQuiet h orderFinishTransfer_calm
  | finishTransferDone => exact confirm_quiet h moves_bookArrives _
  | drillDone => exact confirm_quiet h (moves_onFinish moves_holeDrilled) _
  | hangerDone => exact confirm_quiet h (moves_onFinish moves_hangerSet) _
  | closerDone => exact confirm_quiet h (moves_onFinish moves_startExit) _
  | exitTransferDone => exact exitConfirmed_quiet h
  | exitRunTimeout => exact addCauseIf_quiet h _
  | exitSensorEdge => exact exitSensed_quiet h
  | guardOpen => exact stoppedIsQuiet_of_calm (addCause_quiet h _)
  | powerWarningAssert => exact powerWarning_quiet h
  | powerWarningRelease => exact h
  | reportPeriodExpiry =>
    unfold State.reportPeriodExpiry
    split <;> exact h

theorem blocksReset_quiet (r : RecoveryRecord) (s : State) : Quiet (s.blocksReset r) := by
  refine ⟨fun i => ?_, fun d => ?_, fun d => ?_, fun st => Bank.read_replicate _ _⟩
  · rw [show (s.blocksReset r).ch i = Channel.reset from Bank.read_replicate _ _]
    exact ⟨rfl, rfl⟩
  · rw [show (s.blocksReset r).drive d = _ from Bank.read_replicate _ _]
  · rw [show (s.blocksReset r).account d = DriveAccount.reset _ from Bank.read_map _ _ _]
    rfl

theorem bringUp_quiet (s : State) : StoppedIsQuiet s.bringUp := by
  have reported : ∀ (l : List Condition) (u : State), Quiet u →
      Quiet (l.foldl (fun s c => s.reportLevel c (s.levelOf c)) u) := by
    intro l
    induction l with
    | nil => exact fun _ h => h
    | cons c l ih => exact fun u h => ih _ h
  exact fun _ => reported _ _ (blocksReset_quiet s.lsv.record s)

theorem assertReset_quiet (s : State) : StoppedIsQuiet s.assertReset :=
  fun _ => blocksReset_quiet (s.lsv.record.freeze .resetInput) s

theorem powerOn_quiet (x : Inputs) (s : State) : StoppedIsQuiet (s.powerOn x) := by
  unfold State.powerOn
  dsimp only
  split
  · exact fun _ => blocksReset_quiet _ _
  · exact bringUp_quiet _

theorem Taken.quiet {i : Instr} {s t : State} (k : Taken i s t) (h : StoppedIsQuiet s) : StoppedIsQuiet t := by
  cases k with
  | asserted held => exact h
  | event w l _ _ => exact w.quiet (s := (s.setLp l).setInputs _) h
  | served _ w u _ _ _ => exact w.quiet (s := admitted s) h
  | assertReset _ _ => exact assertReset_quiet s
  | releaseReset _ held => exact bringUp_quiet _
  | powerOn x _ => exact powerOn_quiet x s

/-- A count of a unit sets nothing in flight. -/
theorem countUnit_still (x : Source) (s : State) (i : ChannelId) (h : (s.ch i).Still) :
    ((s.countUnit x).ch i).Still := by
  rw [State.ch, State.countUnit, Bank.read_map]
  unfold Channel.unit
  split
  · exact h
  · exact h

theorem goOn_quiet {s : State} (h : StoppedIsQuiet s) : StoppedIsQuiet s.goOn := by
  have counted : ∀ x, StoppedIsQuiet (s.countUnit x) := fun x stopped => by
    obtain ⟨channels, rest⟩ := h stopped
    exact ⟨fun i => countUnit_still x s i (channels i), rest⟩
  unfold State.goOn State.tick
  dsimp only
  split
  · exact counted .travel
  split
  · intro stopped
    obtain ⟨channels, strikes, purges, orders⟩ := counted .time stopped
    refine ⟨channels, strikes, fun d => ?_, orders⟩
    rw [show ((s.countUnit .time).advance.millisecond).account d
      = (s.countUnit .time).advance.tickedAccount d from Bank.read_tabulate _ _]
    unfold State.tickedAccount
    dsimp only
    split
    · exact purges d
    · exact purges d
  · exact counted .time

/-- Settles O56: outside SAFE_STOP no work but a cause stops the line, the entry of Safe Stop ends everything in
flight, and in SAFE_STOP no operation sets anything in flight. -/
theorem stoppedIsQuietKept : Obligations.StoppedIsQuietKept := by
  intro s t h k
  exact step_keeps (P := StoppedIsQuiet) k (fun _ _ _ h => h) Taken.quiet (fun _ h => h) goOn_quiet h

end Sys2Proof.Machine

/-! Steps and the link: the command at the front, frames that are no request, the bounds of a notice, the streaks of
registration, counts and levels, and the state after a reset. -/

namespace Sys2Proof.Machine

open Sys2Proof Sys2Proof.Safety

set_option Elab.async false

/-- Settles O1: it is the second case of a step's definition. -/
theorem stepRunsFrontCommand : Obligations.StepRunsFrontCommand := by
  intro s c rest e
  unfold step
  rw [e]

/-! ## Reports -/

/-- A condition is in a set when its bit is. -/
theorem isIn_iff (c : Condition) (x : Half) : c.isIn x = true ↔ x.getLsbD c.number = true := Iff.rfl

theorem latch_latches (c : Condition) (m : LineMonitor) : (m.latch c).latches = m.latches ||| c.mask := rfl

/-- The Event Notice of a latch that is set now (R182). -/
theorem latchNotice_eq (c : Condition) (v : EventLevel) (m : LineMonitor) :
    m.latchNotice c v =
      if m.latches.getLsbD c.number = false ∧ (m.enables.getLsbD c.number = true ∨ c.nonMaskable = true) then
        some (.eventNotice c v (m.latches ||| c.mask))
      else none := rfl

theorem nonMaskable_iff (c : Condition) : c.nonMaskable = true ↔ c = .safeStop ∨ c = .powerWarning := by
  cases c <;> simp [Condition.nonMaskable]

theorem pushOptional_ite (l : LinkPort) (c : Prop) [Decidable c] (u : Upstream) :
    l.pushOptional (if c then some u else none) = if c then l.pushNotice u else l := by
  split <;> rfl

/-- Discarding a frame is LINK_ERROR with the receiver hunting (R190, R192). -/
theorem linkError_eq (s : State) : s.linkError = afterLinkError s := by
  unfold State.linkError State.occur afterLinkError
  rw [latchNotice_eq, pushOptional_ite]
  simp only [State.setLp, Condition.number, Condition.nonMaskable, Bool.false_eq_true, or_false]
  rfl

/-! ## Frames that are no request -/

theorem exec_unknownKindFrame {kind tag : Byte} {payload : List Byte}
    (well : (Instr.unknownKindFrame kind tag payload).wellFormed = true) {s : State} (served : Served s) :
    exec (.unknownKindFrame kind tag payload) s = .next { s with lp := answered s.lp tag kind .unknown [] } := by
  have short : ¬56 < payload.length := by
    intro long
    simp [Instr.wellFormed, Instr.defect, unknownDefect, frameDefect, long] at well
  have unknown : (⟨kind, tag, payload⟩ : Frame).received = .unknownKind := by
    by_contra known
    simp [Instr.wellFormed, Instr.defect, unknownDefect, frameDefect, short, known] at well
  show takeFrame ⟨kind, tag, payload⟩ s = _
  unfold takeFrame
  rw [if_neg short, unknown]
  exact take_quiet served s (.refuse .unknown) rfl

theorem exec_frameBreakTimeout {s : State} (awake : Awake s) :
    exec .frameBreakTimeout s =
      .next (if s.lp.receiver.broken s.time then afterLinkError s else s) := by
  show takeEvent State.frameBreak s = _
  rw [takeEvent_awake awake, State.frameBreak, linkError_eq]

theorem exec_frameSent {s : State} (awake : Awake s) :
    exec .frameSent s = .next (s.setLp s.lp.sent) := takeEvent_awake awake

theorem pushNotice_joins {l : LinkPort} {u : Upstream} (notice : u.isNotice = true)
    (room : l.queue.length + l.reserved.toNat < 16 ∧ l.noticeCount < 12) :
    l.pushNotice u = { l with queue := l.queue ++ [u] }
      ∧ (l.pushNotice u).noticeCount = l.noticeCount + 1 := by
  have joins : l.pushNotice u = { l with queue := l.queue ++ [u] } := if_pos room
  refine ⟨joins, ?_⟩
  rw [joins]
  simp [LinkPort.noticeCount, notice]

theorem pushNotice_drops {l : LinkPort} (u : Upstream)
    (full : 16 ≤ l.queue.length + l.reserved.toNat ∨ 12 ≤ l.noticeCount) :
    l.pushNotice u = { l with noticesLost := true } := by
  refine if_neg fun room => ?_
  have places : l.queue.length + l.reserved.toNat < 16 := room.1
  omega

/-- Settles O7: each frame by its command's meaning, and the admission of a notice by its test. -/
theorem framesReportedAdmittedAndSent : Obligations.FramesReportedAdmittedAndSent := by
  refine ⟨fun s awake => ⟨?_, fun cs bad since e => ⟨fun past => ?_, fun early => ?_⟩, fun e => ?_,
    fun kind tag payload well served => exec_unknownKindFrame well served⟩,
    fun s awake => ⟨fun u rest e => ?_, fun e => ?_⟩,
    fun l u notice => ⟨pushNotice_joins notice, pushNotice_drops u⟩⟩
  · exact (takeEvent_awake awake).trans (congrArg _ (linkError_eq s))
  · rw [exec_frameBreakTimeout awake, if_pos (by simpa [e, Receiver.broken] using past)]
  · rw [exec_frameBreakTimeout awake, if_neg (by simpa [e, Receiver.broken] using early)]
  · rw [exec_frameBreakTimeout awake, if_neg (by simp [e, Receiver.broken])]
  · rw [exec_frameSent awake, LinkPort.sent, e]
    rfl
  · rw [exec_frameSent awake, LinkPort.sent, e]
    rfl

/-! ## Registration -/

/-- Settles O8: a matching edge clears the unmatched streak, which is then below the declare count, and the other
events clear the matched one. -/
theorem registrationStreaks : Obligations.RegistrationStreaks := by
  intro x set declare clear
  refine ⟨?_, fun e other => ?_⟩
  · cases r : x.registration with
    | matched => simp [SheetIntake.streak, streakUp, r, Nat.not_le.2 declare]
    | lost =>
      simp only [SheetIntake.streak, streakUp, r, true_and]
      split <;> rfl
  · have same : x.streak e set = x.streak .unannounced set := by
      rcases other with rfl | rfl <;> rfl
    rw [same]
    cases r : x.registration with
    | matched =>
      simp only [SheetIntake.streak, streakUp, r, true_and]
      split <;> rfl
    | lost => simp [SheetIntake.streak, streakUp, r, Nat.not_le.2 clear]

/-! ## Counts and levels -/

/-- Below saturation a count adds one and reports nothing (R175). -/
theorem count_below {s : State} {k : Counter} (below : (Bank.read s.lm.work k.index).value < 65535) :
    s.count k = { s with
      lm := { s.lm with
        work := Bank.write s.lm.work k.index
          { Bank.read s.lm.work k.index with value := (Bank.read s.lm.work k.index).value + 1 } } } := by
  have free : (Bank.read s.lm.work k.index).saturated = false := by
    simpa [Count.saturated] using below
  simp [State.count, LineMonitor.bump, LineMonitor.bumpNotice, Count.bump, free, LinkPort.pushOptional]

/-- At saturation the mark is set and COUNTER_OVERFLOW occurs (R175). -/
theorem count_saturated {s : State} {k : Counter} (full : (Bank.read s.lm.work k.index).value = 65535) :
    s.count k = { s with
      lp := s.lp.pushOptional (s.lm.latchNotice .counterOverflow .momentary)
      lm := { s.lm with
        work := Bank.write s.lm.work k.index { value := 65535, overflow := true }
        latches := s.lm.latches ||| 0x800#16 } } := by
  have saturated : (Bank.read s.lm.work k.index).saturated = true := by
    simp [Count.saturated, full]
  simp [State.count, LineMonitor.bump, LineMonitor.bumpNotice, Count.bump, saturated, full,
    LineMonitor.latch, Condition.put, Condition.mask, Condition.number]

theorem report_of_same {s : State} {c : Condition} {p : Bool} (same : c.isIn s.lm.live = p) :
    s.reportLevel c p = s := by
  simp [State.reportLevel, LineMonitor.report, LineMonitor.reportNotice, same, LinkPort.pushOptional]

/-- A level that changes is live at once, and latched at an edge that sets the latch (R180, R181). -/
theorem report_of_change {s : State} {c : Condition} {p : Bool} (change : c.isIn s.lm.live ≠ p) :
    s.lm.report c p = { s.lm with
      live := c.put p s.lm.live
      latches := if s.lm.edgeSets c p = true then s.lm.latches ||| c.mask else s.lm.latches } := by
  unfold LineMonitor.report
  rw [if_neg change]
  split <;> rfl

theorem reportNotice_of_change {s : State} {c : Condition} {p : Bool} (change : c.isIn s.lm.live ≠ p) :
    s.lm.reportNotice c p =
      if s.lm.edgeSets c p = true ∧ s.lm.latches.getLsbD c.number = false
          ∧ (s.lm.enables.getLsbD c.number = true ∨ c.nonMaskable = true) then
        some (.eventNotice c (if p = true then .present else .absent) (s.lm.latches ||| c.mask))
      else none := by
  unfold LineMonitor.reportNotice
  rw [if_neg change]
  by_cases edge : s.lm.edgeSets c p = true
  · rw [if_pos edge, latchNotice_eq]
    simp only [edge, true_and]
    rfl
  · rw [if_neg edge, if_neg fun h => edge h.1]

theorem edgeSets_iff (m : LineMonitor) (c : Condition) (p : Bool) :
    m.edgeSets c p = true ↔ p = true ∨ m.edges.getLsbD c.number = true := by
  simp [LineMonitor.edgeSets, isIn_iff]

/-- Settles O50: a count by whether it is saturated, a report by whether the level changes and its edge sets the
latch. -/
theorem countsAndLevelsReported : Obligations.CountsAndLevelsReported := by
  refine ⟨fun s k c e => ?_, fun s c p => ⟨report_of_same, fun change => ?_⟩⟩
  · subst e
    refine ⟨count_below, fun full => ?_⟩
    rw [count_saturated full]
    refine ⟨rfl, ?_⟩
    dsimp only
    rw [latchNotice_eq, pushOptional_ite]
    simp [Condition.number, Condition.nonMaskable, Condition.mask]
  · unfold State.reportLevel
    rw [report_of_change change, reportNotice_of_change change, pushOptional_ite]
    simp only [edgeSets_iff, nonMaskable_iff]
    exact ⟨rfl, rfl⟩

/-! ## The state after a reset -/

theorem reset_book (i : Slot) : State.reset.book i = none := Bank.read_replicate _ _

theorem reset_account (d : DriveId) : State.reset.account d = DriveAccount.reset .cool := Bank.read_replicate _ _

theorem reset_ch (i : ChannelId) : State.reset.ch i = Channel.reset := Bank.read_replicate _ _

/-- Settles O60: after a reset every queue and bank is empty, and START holds a line that is HELD. -/
theorem resetSatisfiesInvariants : Obligations.ResetSatisfiesInvariants := by
  have quiet : StoppedIsQuiet State.reset := stoppedIsQuiet_of_running (by decide)
  have references : BooksReferenced State.reset := .of_empty reset_book fun f => by
    rw [show Bank.read State.reset.ts.formats f = _ from Bank.read_replicate _ _]
    exact ⟨rfl, rfl⟩
  have under : ∀ i, liftsUnderWay i State.reset = 0 := fun _ => rfl
  refine ⟨⟨by decide, by decide, rfl⟩,
    ⟨Nat.zero_le _, Nat.zero_le _, Nat.zero_le _, List.Pairwise.nil, fun t m => by cases m⟩,
    (debtBounds_iff _).2 fun d => (reset_account d).symm ▸ DriveAccount.reset_payable _, ?_, quiet, ?_,
    references.1, references.2, ?_⟩
  case refine_1 =>
    refine FollowsTable.records (fun _ => ⟨fun i => ?_, rfl, rfl⟩) rfl
    rw [reset_book]
    exact Bank.read_replicate _ _
  case refine_2 =>
    exact fun _ => ⟨nofun, nofun, fun _ => rfl, rfl, by decide, by decide, fun _ => rfl,
      fun _ => ⟨.inl rfl, rfl, rfl, rfl, by decide⟩⟩
  case refine_3 =>
    refine ⟨nofun, nofun, nofun, fun i => ⟨fun _ => under i, fun b e => ?_⟩, fun b f e => ?_⟩
    · rw [reset_book] at e
      cases e
    · exact absurd (show (none : Option Bed) = some b from e) nofun

end Sys2Proof.Machine

/-! Frames as commands: requests discarded or returned, and the receiver character by character. -/

namespace Sys2Proof.Machine

open Sys2Proof Sys2Proof.Safety

set_option Elab.async false

/-! ## Requests as frames -/

/-- Every request but SHEET NOTICE is carried out by its owner between a reservation and an answer. -/
theorem execRequest_eq_take {i : Instr} {f : Frame} (request : isRequest i = true) (answered : needsAnswer i = true)
    (well : i.wellFormed = true) (frame : requestFrame i = some f) :
    ∃ act, ∀ s, execRequest i s = takeRequest f act s := by
  cases i
  case tableWrite t x e c =>
    cases frame
    have length : contentsLengthOk c.length = true := by
      by_contra bad
      simp [Instr.wellFormed, Instr.defect, bad] at well
    exact ⟨_, fun s => if_pos length⟩
  case sheetNotice => cases answered
  case unknownKindFrame => cases request
  case echoReturn => cases request
  all_goals
    cases frame
    try exact ⟨_, fun s => rfl⟩

/-- In ECHO a well-formed request other than SET MODE is returned (R199). -/
theorem execRequest_echoed {i : Instr} {f : Frame} {s : State} (request : isRequest i = true)
    (well : i.wellFormed = true) (frame : requestFrame i = some f) (other : f.isSetMode = false)
    (awake : Awake s) (echo : s.lsv.mode = .echo) :
    execRequest i s = .next (s.setLp (s.lp.hunt.echo f)) := by
  by_cases answered : needsAnswer i = true
  · obtain ⟨act, same⟩ := execRequest_eq_take request answered well frame
    rw [same]
    exact take_echoed awake echo other
  · cases i
    case sheetNotice t b l k x g =>
      cases frame
      show execSheetNotice t b l k x g s = _
      unfold execSheetNotice
      rw [takeEvent_awake awake]
      exact congrArg _ (if_pos echo)
    all_goals simp_all [needsAnswer, isRequest]

/-! ## What a frame is received as -/

theorem hiByte_join (hi lo : Byte) : hiByte (joinHalf hi lo) = hi := by
  apply BitVec.eq_of_getLsbD_eq
  intro i h
  simp only [hiByte, joinHalf, BitVec.getLsbD_extractLsb', BitVec.getLsbD_append]
  simp [h]

theorem loByte_join (hi lo : Byte) : loByte (joinHalf hi lo) = lo := by
  apply BitVec.eq_of_getLsbD_eq
  intro i h
  simp only [loByte, joinHalf, BitVec.getLsbD_extractLsb', BitVec.getLsbD_append]
  simp [h]

@[simp] theorem halfBytes_join (hi lo : Byte) : halfBytes (joinHalf hi lo) = [hi, lo] := by
  rw [halfBytes, hiByte_join, loByte_join]

theorem readLineControl_request {t sub m : Byte} {i : Instr} (h : readLineControl t sub m = .request i) :
    isRequest i = true ∧ i.wellFormed = true ∧ requestFrame i = some (lineControlFrame sub t m) := by
  have known : ∀ n : Byte, sub.toNat = n.toNat → sub = n := fun n e => BitVec.eq_of_toNat_eq e
  unfold readLineControl at h
  split at h
  · next e =>
    cases h
    exact ⟨rfl, rfl, by rw [known 0 e]; rfl⟩
  · next e =>
    cases h
    exact ⟨rfl, rfl, by rw [known 1 e]; rfl⟩
  · next e =>
    cases h
    exact ⟨rfl, rfl, by rw [known 2 e]; rfl⟩
  · next e =>
    cases h
    exact ⟨rfl, rfl, by rw [known 3 e]; rfl⟩
  · next e =>
    cases h
    exact ⟨rfl, rfl, by rw [known 4 e]; rfl⟩
  · next e =>
    cases h
    exact ⟨rfl, rfl, by rw [known 5 e]; rfl⟩
  · cases h

/-- A frame received as a request is that request's frame, and the request is well-formed. -/
theorem received_request {f : Frame} {i : Instr} (h : f.received = .request i) :
    isRequest i = true ∧ i.wellFormed = true ∧ requestFrame i = some f := by
  obtain ⟨kind, tag, payload⟩ := f
  have known : ∀ n : Nat, kind.toNat = n → kind = BitVec.ofNat 8 n := fun n e => by rw [← e]; simp
  unfold Frame.received at h
  dsimp only at h
  split at h
  case h_1 e | h_2 e | h_3 e | h_5 e | h_6 e | h_7 e | h_8 e | h_9 e | h_10 e | h_11 e | h_12 e | h_13 e
      | h_14 e | h_16 e | h_17 e | h_18 e =>
    split at h
    · cases h
      have same := known _ e
      subst same
      exact ⟨rfl, rfl, by simp [requestFrame]⟩
    · cases h
  case h_4 e =>
    have same := known 4 e
    subst same
    unfold readTableWrite at h
    split at h
    · split at h
      · next ok =>
        cases h
        exact ⟨rfl, by simp [Instr.wellFormed, Instr.defect, ok], rfl⟩
      · cases h
    · cases h
  case h_15 e =>
    have same := known 0x0F e
    subst same
    split at h
    · exact readLineControl_request h
    · cases h
  case h_19 => cases h

theorem takeFrame_echoed {f : Frame} {s : State} (short : f.payload.length ≤ 56)
    (permitted : f.received ≠ .badLength) (other : f.isSetMode = false) (awake : Awake s)
    (echo : s.lsv.mode = .echo) : takeFrame f s = .next (s.setLp (s.lp.hunt.echo f)) := by
  unfold takeFrame
  rw [if_neg (Nat.not_lt.2 short)]
  split
  · next i e =>
    obtain ⟨request, well, frame⟩ := received_request e
    exact execRequest_echoed request well frame other awake echo
  · exact take_echoed awake echo other
  · next e => exact absurd e permitted
  · exact take_echoed awake echo other

theorem unknownKindFrame_wellFormed {kind tag : Byte} {payload : List Byte}
    (well : (Instr.unknownKindFrame kind tag payload).wellFormed = true) :
    payload.length ≤ 56 ∧ (⟨kind, tag, payload⟩ : Frame).received = .unknownKind := by
  have short : ¬56 < payload.length := by
    intro long
    simp [Instr.wellFormed, Instr.defect, unknownDefect, frameDefect, long] at well
  refine ⟨Nat.not_lt.1 short, ?_⟩
  by_contra known
  simp [Instr.wellFormed, Instr.defect, unknownDefect, frameDefect, short, known] at well

theorem echoReturn_wellFormed {kind tag : Byte} {payload : List Byte}
    (well : (Instr.echoReturn kind tag payload).wellFormed = true) :
    payload.length ≤ 56 ∧ (⟨kind, tag, payload⟩ : Frame).received ≠ .badLength := by
  have short : ¬56 < payload.length := by
    intro long
    simp [Instr.wellFormed, Instr.defect, returnDefect, frameDefect, long] at well
  refine ⟨Nat.not_lt.1 short, fun bad => ?_⟩
  simp [Instr.wellFormed, Instr.defect, returnDefect, frameDefect, short, bad] at well

theorem exec_of_unknownKindFrame {kind tag : Byte} {payload : List Byte}
    (well : (Instr.unknownKindFrame kind tag payload).wellFormed = true) (s : State) :
    exec (.unknownKindFrame kind tag payload) s
      = takeRequest ⟨kind, tag, payload⟩ (refuse .unknown) s := by
  obtain ⟨short, unknown⟩ := unknownKindFrame_wellFormed well
  show takeFrame ⟨kind, tag, payload⟩ s = _
  unfold takeFrame
  rw [if_neg (Nat.not_lt.2 short), unknown]

theorem isRequest_of_frame {i : Instr} {f : Frame} (frame : requestFrame i = some f) :
    isRequest i = true ∨ (∃ k t p, i = .unknownKindFrame k t p) ∨ ∃ k t p, i = .echoReturn k t p := by
  cases i
  case unknownKindFrame k t p => exact .inr (.inl ⟨k, t, p, rfl⟩)
  case echoReturn k t p => exact .inr (.inr ⟨k, t, p, rfl⟩)
  all_goals simp_all [isRequest, requestFrame]

/-- Settles O4: a frame with an answer is a request to its owner, discarded when it finds no place; in ECHO every
frame but SET MODE is put back on the queue. -/
theorem requestsDiscardedOrReturned : Obligations.RequestsDiscardedOrReturned := by
  constructor
  · intro i s awake mode full answered well
    obtain ⟨f, frame⟩ : ∃ f, requestFrame i = some f := by
      rw [← Option.isSome_iff_exists]
      cases i <;> first | rfl | cases answered
    obtain request | ⟨k, t, p, rfl⟩ | ⟨k, t, p, rfl⟩ := isRequest_of_frame frame
    · obtain ⟨act, same⟩ := execRequest_eq_take request answered well frame
      rw [exec_eq_execRequest request, same]
      exact take_discarded awake mode full
    · rw [exec_of_unknownKindFrame well]
      exact take_discarded awake mode full
    · cases answered
  · intro i f s awake echo well frame other
    have returned : s.setLp (s.lp.hunt.echo f) = { s with
        lp :=
          if s.lp.placesInUse < 16 then
            { s.lp with receiver := .hunting, queue := s.lp.queue ++ [.echoed f] }
          else { s.lp with receiver := .hunting, requestsDiscarded := true } } := rfl
    rw [← returned]
    obtain request | ⟨k, t, p, rfl⟩ | ⟨k, t, p, rfl⟩ := isRequest_of_frame frame
    · rw [exec_eq_execRequest request]
      exact execRequest_echoed request well frame other awake echo
    · cases frame
      rw [exec_of_unknownKindFrame well]
      exact take_echoed awake echo other
    · cases frame
      obtain ⟨short, permitted⟩ := echoReturn_wellFormed well
      exact takeFrame_echoed short permitted other awake echo

/-! ## The receiver -/

theorem takeLinkError {s : State} (awake : Awake s) :
    takeEvent State.linkError s = .next (afterLinkError s) :=
  (takeEvent_awake awake).trans (congrArg _ (linkError_eq s))

theorem exec_character_hunting {s : State} (awake : Awake s) (hunting : s.lp.receiver = .hunting) (c : Byte)
    (e : Bool) :
    exec (.requestLaneCharacter c e) s = .next
      (if c = 0x5A#8 ∧ e = false then { s with lp := { s.lp with receiver := .receiving [c] false s.time } }
      else s) := by
  show execRequestLaneCharacter c e s = _
  unfold execRequestLaneCharacter
  rw [hunting]
  exact takeEvent_awake awake

theorem exec_character_receiving {s : State} {cs : List Byte} {bad : Bool} {since : Nat}
    (receiving : s.lp.receiver = .receiving cs bad since) (c : Byte) (e : Bool) :
    exec (.requestLaneCharacter c e) s = takeInFrame c e cs bad s := by
  show execRequestLaneCharacter c e s = _
  unfold execRequestLaneCharacter
  rw [receiving]

theorem lengthTooGreat_iff (c : Byte) (cs : List Byte) :
    lengthTooGreat c cs = true ↔ cs.length = 1 ∧ 56 < c.toNat := by
  simp [lengthTooGreat]

theorem frameComplete_iff (l : List Byte) :
    frameComplete l = true ↔ ∃ x len r, l = x :: len :: r ∧ r.length = len.toNat + 4 := by
  unfold frameComplete
  split
  · simp
  · next other =>
    simp only [Bool.false_eq_true, false_iff, not_exists, not_and]
    exact fun x len r e => absurd e (other x len r)

theorem takeInFrame_grows {s : State} (awake : Awake s) {c : Byte} {cs : List Byte} (e bad : Bool)
    (fits : ¬(cs.length = 1 ∧ 56 < c.toNat))
    (more : ∀ x len r, cs ++ [c] = x :: len :: r → r.length ≠ len.toNat + 4) :
    takeInFrame c e cs bad s =
      .next { s with lp := { s.lp with receiver := .receiving (cs ++ [c]) (bad || e) s.time } } := by
  have open_ : ¬frameComplete (cs ++ [c]) = true := by
    rw [frameComplete_iff]
    exact fun ⟨x, len, r, eq, size⟩ => more x len r eq size
  unfold takeInFrame
  rw [if_neg (mt (lengthTooGreat_iff c cs).1 fits)]
  dsimp only
  rw [if_neg open_]
  exact takeEvent_awake awake

/-- A frame with its last character is checked (R190, R192). -/
theorem takeInFrame_complete {c x len kind tag : Byte} {cs rest : List Byte} (e bad : Bool) (s : State)
    (last : cs ++ [c] = x :: len :: kind :: tag :: rest) (size : rest.length = len.toNat + 2) :
    takeInFrame c e cs bad s = takeCharacters (x :: len :: kind :: tag :: rest) (bad || e) s := by
  have long : cs.length = rest.length + 3 := by
    have := congrArg List.length last
    simp only [List.length_append, List.length_cons, List.length_nil] at this
    omega
  have complete : frameComplete (cs ++ [c]) = true := by
    rw [frameComplete_iff]
    exact ⟨x, len, _, last, by simp [size]⟩
  unfold takeInFrame
  rw [if_neg fun tooGreat => by
    have := ((lengthTooGreat_iff c cs).1 tooGreat).1
    omega]
  dsimp only
  rw [if_pos complete, last]

/-- The characters that the check of a received frame covers (R203). -/
theorem covered_received {kind tag len : Byte} {rest : List Byte} (size : rest.length = len.toNat + 2) :
    (⟨kind, tag, rest.take len.toNat⟩ : Frame).covered = len :: kind :: tag :: rest.take len.toNat := by
  have length : (rest.take len.toNat).length = len.toNat := by
    rw [List.length_take]
    omega
  simp [Frame.covered, length, natByte]

theorem takeCharacters_bad {s : State} (awake : Awake s) {x len kind tag : Byte} {rest : List Byte} {bad : Bool}
    (size : rest.length = len.toNat + 2)
    (fails : bad = true ∨
      rest.drop len.toNat ≠ halfBytes (crc (len :: kind :: tag :: rest.take len.toNat))) :
    takeCharacters (x :: len :: kind :: tag :: rest) bad s = .next (afterLinkError s) := by
  unfold takeCharacters
  dsimp only
  rw [covered_received size, if_neg ?_]
  · exact takeLinkError awake
  · rcases fails with rfl | wrong
    · simp
    · simp [wrong]

/-- Settles O6: the receiver's state and the number of characters so far decide what a character does. -/
theorem receiverTakesCharacters : Obligations.ReceiverTakesCharacters := by
  intro s c e awake
  refine ⟨fun hunting => exec_character_hunting awake hunting c e, fun cs bad since receiving => ?_⟩
  rw [exec_character_receiving receiving]
  refine ⟨fun one long => ?_, fun fits more => takeInFrame_grows awake e bad fits more,
    fun x len kind tag rest last size fails => ?_⟩
  · unfold takeInFrame
    rw [if_pos ((lengthTooGreat_iff c cs).2 ⟨one, long⟩)]
    exact takeLinkError awake
  · rw [takeInFrame_complete e bad s last size]
    exact takeCharacters_bad awake size fails

/-! ## The request lane -/

/-- The part with its receiver in a frame, of which these characters have arrived. -/
def receivingNow (cs : List Byte) (s : State) : State :=
  { s with lp := { s.lp with receiver := .receiving cs false s.time } }

theorem execRequest_receiver {i : Instr} {s : State} (request : isRequest i = true) (awake : Awake s)
    (r : Receiver) : execRequest i (s.setLp { s.lp with receiver := r }) = execRequest i s := by
  have awake' : Awake (s.setLp { s.lp with receiver := r }) := awake
  have taken : ∀ f act, takeRequest f act (s.setLp { s.lp with receiver := r }) = takeRequest f act s := by
    intro f act
    unfold takeRequest
    rw [takeEvent_awake awake, takeEvent_awake awake']
    rfl
  cases i
  case sheetNotice =>
    show execSheetNotice _ _ _ _ _ _ _ = execSheetNotice _ _ _ _ _ _ _
    unfold execSheetNotice
    rw [takeEvent_awake awake, takeEvent_awake awake']
    rfl
  case tableWrite t x e c =>
    show execTableWrite _ _ _ _ _ = execTableWrite _ _ _ _ _
    unfold execTableWrite
    split
    · exact taken _ _
    · rw [takeEvent_awake awake, takeEvent_awake awake']
      rfl
  all_goals
    first
    | exact taken _ _
    | cases request

/-- The fate of the last character is that of the lane. -/
theorem laneFeed_last (c : Byte) (s : State) : laneFeed [c] s = exec (.requestLaneCharacter c false) s := by
  unfold laneFeed
  split <;> rename_i h
  · rw [h]
    rfl
  · exact h.symm
  · exact h.symm

/-- A frame whose characters have all arrived, its last one with no framing error, is taken. -/
theorem takeCharacters_frame {f : Frame} (short : f.payload.length ≤ 56) (s : State) :
    takeCharacters f.bytes false s = takeFrame f s := by
  have length : (natByte f.payload.length).toNat = f.payload.length := natByte_toNat (by omega)
  unfold takeCharacters Frame.bytes Frame.covered
  simp [length]

/-- A frame in the middle of arriving, at a receiver that has taken `cs` of it. -/
theorem laneFeed_receiving {f : Frame} {s : State} (awake : Awake s) (short : f.payload.length ≤ 56) {c : Byte}
    (rest cs : List Byte) (begun : cs ≠ []) (frame : cs ++ (rest ++ [c]) = f.bytes) :
    ∃ ds, laneFeed (rest ++ [c]) (receivingNow cs s) = takeFrame f (receivingNow ds s) := by
  have length : (natByte f.payload.length).toNat = f.payload.length := natByte_toNat (by omega)
  obtain ⟨x, cs, rfl⟩ := List.exists_cons_of_ne_nil begun
  induction rest generalizing cs with
  | nil =>
    refine ⟨x :: cs, ?_⟩
    rw [List.nil_append, laneFeed_last,
      exec_character_receiving (s := receivingNow (x :: cs) s) (cs := x :: cs) (bad := false) rfl]
    have size : (f.payload ++ halfBytes (crc f.covered)).length = (natByte f.payload.length).toNat + 2 := by
      simp [length, halfBytes]
    exact (takeInFrame_complete false false _ frame size).trans (takeCharacters_frame short _)
  | cons d rest ih =>
    have whole : f.bytes = x :: cs ++ d :: (rest ++ [c]) := frame.symm
    have fits : ¬((x :: cs).length = 1 ∧ 56 < d.toNat) := by
      rintro ⟨one, long⟩
      have empty : cs = [] := by simpa using one
      subst empty
      have second : d = natByte f.payload.length := by
        simp only [Frame.bytes, Frame.covered, List.cons_append, List.nil_append, List.cons.injEq] at whole
        exact whole.2.1.symm
      rw [second, length] at long
      omega
    have more : ∀ y len r, (x :: cs) ++ [d] = y :: len :: r → r.length ≠ len.toNat + 4 := by
      intro y len r eq size
      have all : f.bytes = y :: len :: (r ++ (rest ++ [c])) := by
        rw [whole]
        simpa using congrArg (· ++ (rest ++ [c])) eq
      simp only [Frame.bytes, Frame.covered, List.cons_append, List.cons.injEq] at all
      obtain ⟨_, same, tail⟩ := all
      have := congrArg List.length tail
      rw [← same, length] at size
      simp [halfBytes] at this
      omega
    have grown := takeInFrame_grows (s := receivingNow (x :: cs) s) awake false false fits more
    obtain ⟨ds, taken⟩ := ih (cs ++ [d]) (by simp) (by simpa using frame)
    refine ⟨ds, ?_⟩
    rw [← taken, List.cons_append]
    conv_lhs => unfold laneFeed
    rw [exec_character_receiving (s := receivingNow (x :: cs) s) (cs := x :: cs) (bad := false) rfl, grown]
    rfl

/-- A well-formed request's frame is received as that request. -/
theorem framing_of_request {i : Instr} (request : isRequest i = true) : Laws.Framing.Statement i := by
  cases i
  case sheetNotice => exact Laws.Framing.sheetNotice _ _ _ _ _ _
  case bookOpen => exact Laws.Framing.bookOpen _ _ _ _
  case bookCancel => exact Laws.Framing.bookCancel _ _
  case tableWrite => exact Laws.Framing.tableWrite _ _ _ _
  case tableRead => exact Laws.Framing.tableRead _ _ _ _
  case channelSet => exact Laws.Framing.channelSet _ _ _ _ _ _ _
  case channelCount => exact Laws.Framing.channelCount _ _ _ _ _
  case capture => exact Laws.Framing.capture _ _ _
  case channelRead => exact Laws.Framing.channelRead _ _
  case counterTransfer => exact Laws.Framing.counterTransfer _
  case counterRead => exact Laws.Framing.counterRead _
  case eventSetup => exact Laws.Framing.eventSetup _ _ _
  case eventClear => exact Laws.Framing.eventClear _ _
  case statusRead => exact Laws.Framing.statusRead _ _
  case hold => exact Laws.Framing.hold _ _
  case resume => exact Laws.Framing.resume _ _
  case stop => exact Laws.Framing.stop _ _
  case stopClear => exact Laws.Framing.stopClear _ _
  case setMode => exact Laws.Framing.setMode _ _
  case lineReset => exact Laws.Framing.lineReset _ _
  case bitChanged => exact Laws.Framing.bitChanged _ _
  case recoveryRead => exact Laws.Framing.recoveryRead _ _
  case recoveryClear => exact Laws.Framing.recoveryClear _
  all_goals cases request

/-- Settles O5: the start character opens the frame, each further one lengthens it, and the last one has it
checked and taken, whatever the receiver holds by then. -/
theorem laneCarriesRequests : Obligations.LaneCarriesRequests := by
  intro i f s request well frame awake hunting
  obtain ⟨short, received⟩ := framing_of_request request well f frame
  have bytes : ∃ rest c, f.bytes = 0x5A#8 :: (rest ++ [c]) :=
    ⟨f.covered ++ [hiByte (crc f.covered)], loByte (crc f.covered), by simp [Frame.bytes, halfBytes]⟩
  obtain ⟨rest, c, bytes⟩ := bytes
  obtain ⟨ds, taken⟩ := laneFeed_receiving awake short rest [0x5A#8] (by simp) bytes.symm
  rw [bytes]
  unfold laneFeed
  rw [exec_character_hunting awake hunting, if_pos ⟨rfl, rfl⟩]
  refine taken.trans ?_
  unfold takeFrame
  rw [if_neg (Nat.not_lt.2 short), received request, exec_eq_execRequest request]
  exact execRequest_receiver request awake _

end Sys2Proof.Machine

/-! What every command leaves, and what a step on an empty queue does. -/

namespace Sys2Proof.Machine

open Sys2Proof Sys2Proof.Safety

set_option Elab.async false

/-! ## Every command answers -/

theorem takeEvent_next (act : State → State) (s : State) : ∃ t, takeEvent act s = .next t := ⟨_, rfl⟩

theorem execRequest_next (i : Instr) (s : State) : ∃ t, execRequest i s = .next t := by
  cases i
  case tableWrite =>
    show ∃ t, execTableWrite _ _ _ _ s = .next t
    unfold execTableWrite
    split <;> exact takeEvent_next _ s
  all_goals exact ⟨_, rfl⟩

theorem takeFrame_next (f : Frame) (s : State) : ∃ t, takeFrame f s = .next t := by
  unfold takeFrame
  split
  · exact takeEvent_next _ s
  · split
    · exact execRequest_next _ s
    all_goals exact takeEvent_next _ s

theorem takeInFrame_next (c : Byte) (e : Bool) (cs : List Byte) (bad : Bool) (s : State) :
    ∃ t, takeInFrame c e cs bad s = .next t := by
  unfold takeInFrame takeCharacters
  split
  · exact takeEvent_next _ s
  dsimp only
  split
  · split
    · split
      · exact takeFrame_next _ s
      · exact takeEvent_next _ s
    · exact takeEvent_next _ s
  · exact takeEvent_next _ s

/-- No command faults or is refused. -/
theorem exec_next (i : Instr) (s : State) : ∃ t, exec i s = .next t := by
  by_cases request : isRequest i = true
  · exact exec_eq_execRequest request s ▸ execRequest_next i s
  cases i
  case unknownKindFrame => exact takeFrame_next _ s
  case echoReturn => exact takeFrame_next _ s
  case requestLaneCharacter =>
    show ∃ t, execRequestLaneCharacter _ _ s = .next t
    unfold execRequestLaneCharacter
    split
    · exact takeEvent_next _ s
    · exact takeInFrame_next _ _ _ _ s
  all_goals
    first
    | exact absurd rfl request
    | exact ⟨_, rfl⟩

/-! ## What commands leave -/

/-- What no work of a command changes: the queue of commands, the clock, the encoder and the inputs. -/
def State.outside (s : State) : List Instr × Nat × List Int × Inputs := (s.pending, s.time, s.encoder, s.inputs)

theorem Work.outside {s t : State} (w : Work s t) : t.outside = s.outside := by
  cases w with
  | move m =>
    cases m with
    | remove i => simp [State.outside]
    | _ => rfl
  | unfreeze =>
    unfold State.recoveryClear
    split <;> rfl
  | _ => rfl

theorem Works.outside {s t : State} (w : Works s t) : t.outside = s.outside :=
  w.relates (fun s t => t.outside = s.outside) (fun _ => rfl) (fun a b => b.trans a) Work.outside

theorem bringUp_outside (s : State) : s.bringUp.outside = s.outside := by
  have reported : ∀ (l : List Condition) (u : State),
      (l.foldl (fun s c => s.reportLevel c (s.levelOf c)) u).outside = u.outside := by
    intro l
    induction l with
    | nil => exact fun _ => rfl
    | cons c l ih => exact fun u => ih _
  exact reported _ _

theorem powerOn_outside (x : Inputs) (s : State) : (s.powerOn x).outside = (s.setInputs x).outside := by
  unfold State.powerOn
  dsimp only
  split
  · rfl
  · exact bringUp_outside _

theorem Taken.outside {i : Instr} {s t : State} (k : Taken i s t) :
    t.outside = (s.setInputs (inputsAfter i s.inputs)).outside := by
  cases k with
  | asserted held => rfl
  | event w l _ _ => exact (w.works _).outside
  | served kept w u _ _ _ =>
    have owned := (w.works (admitted s)).outside
    rw [kept]
    exact owned
  | assertReset kept _ =>
    rw [kept]
    rfl
  | releaseReset release _ =>
    subst release
    exact bringUp_outside _
  | powerOn x power =>
    subst power
    exact powerOn_outside x s

/-- While the Reset input is asserted, only the release and power-on do more than record a level. -/
theorem Taken.of_asserted {i : Instr} {s t : State} (k : Taken i s t) (held : s.resetAsserted = true)
    (release : i ≠ .resetInputRelease) (power : ∀ x, i ≠ .powerOn x) :
    t = s.setInputs (inputsAfter i s.inputs) := by
  have asleep : ¬Awake s := fun awake => absurd (held.symm.trans awake) (by decide)
  cases k with
  | asserted _ => rfl
  | event _ _ _ awake => exact absurd awake asleep
  | served _ _ _ _ awake _ => exact absurd awake asleep
  | assertReset _ awake => exact absurd awake asleep
  | releaseReset is _ => exact absurd is release
  | powerOn x is => exact absurd is (power x)

/-- Settles O3: every command has one of the forms of `Taken`, none of which touches what is outside. -/
theorem everyCommandAnswersNext : Obligations.EveryCommandAnswersNext := by
  refine ⟨fun i s => ?_, fun i s held release power => ?_⟩
  · obtain ⟨t, h⟩ := exec_next i s
    have kept := (exec_taken h).outside
    simp only [State.outside, State.setInputs, Prod.mk.injEq] at kept
    obtain ⟨pending, time, encoder, inputs⟩ := kept
    exact ⟨t, h, pending, time, encoder, inputs⟩
  · obtain ⟨t, h⟩ := exec_next i s
    rw [h, (exec_taken h).of_asserted held release power]
    rfl

/-! ## A step on an empty queue -/

theorem step_idle {s : State} (empty : s.pending = []) : step s = idle s := by
  unfold step
  rw [empty]

theorem idle_of_awake {s : State} (awake : s.resetAsserted = false) :
    idle s = match pickDue s.free s.dueEvents with
      | some i => exec i s.drawn
      | none => .next s.goOn := by
  unfold idle
  rw [awake]
  rfl

theorem dueEvents_single {s : State} {i : Instr} (due : Due i s) (only : ∀ j, Due j s → j = i) :
    s.dueEvents = [i] := by
  have all : ∀ j ∈ s.dueEvents, j = i := fun j m => only j ((mem_dueEvents j s).1 m)
  have here := (mem_dueEvents i s).2 due
  have once := dueEvents_nodup s
  match l : s.dueEvents with
  | [] => simp [l] at here
  | [j] => rw [all j (by simp [l])]
  | j :: k :: rest =>
    have ej := all j (by simp [l])
    have ek := all k (by simp [l])
    simp [l, ej, ek] at once

theorem dueEvents_none {s : State} (none : ∀ i, ¬Due i s) : s.dueEvents = [] :=
  List.eq_nil_iff_forall_not_mem.2 fun i m => none i ((mem_dueEvents i s).1 m)

/-- Of several events one is picked by a free value (log 2). -/
theorem pickDue_several {l : List Instr} (several : 1 < l.length) (n : Nat) :
    ∃ k ∈ l, pickDue n l = some k := by
  match l with
  | [] => simp at several
  | [_] => simp at several
  | a :: b :: rest =>
    have bound : Config.pick n % (a :: b :: rest).length < (a :: b :: rest).length :=
      Nat.mod_lt _ (by simp)
    exact ⟨_, List.getElem_mem bound, List.getElem?_eq_getElem bound⟩

theorem unitCounted_countUnit (x : Source) (s : State) : UnitCounted x s (s.countUnit x) := by
  rintro i c rfl
  have read : (s.countUnit x).ch i = (s.ch i).unit x := Bank.read_map _ _ _
  rw [read]
  constructor
  · intro source running released
    refine if_pos ⟨source, ?_⟩
    have open_ : (decide ((s.ch i).mode = .hold) && (s.ch i).gate) = false := by
      simpa using released
    rcases running with h | h <;> simp [Channel.counting, h, open_]
  · intro not
    refine if_neg ?_
    rintro ⟨source, counting⟩
    simp only [Channel.counting, Bool.and_eq_true, Bool.or_eq_true, decide_eq_true_eq, Bool.not_eq_true',
      Bool.and_eq_false_iff, decide_eq_false_iff_not] at counting
    obtain ⟨running, released⟩ := counting
    rcases not with h | h | h | ⟨hold, gate⟩
    · exact h source
    · simp [h] at running
    · simp [h] at running
    · simp [hold, gate] at released

theorem travelCounted_travelCount (s : State) : TravelCounted s s.travelCount :=
  ⟨rfl, unitCounted_countUnit .travel s⟩

theorem tickedAccount_of_running {d : DriveId} {s : State} (length : (s.account d).length ≠ none)
    (running : ¬Suspended d s) :
    s.tickedAccount d = { s.account d with elapsed := (s.account d).elapsed + 1 } := by
  unfold State.tickedAccount
  rw [if_pos ?_]
  rw [← State.timerSuspended_iff] at running
  simp [running, Option.isSome_iff_ne_none.2 length]

theorem tickedAccount_of_still {d : DriveId} {s : State}
    (still : (s.account d).length = none ∨ Suspended d s) : s.tickedAccount d = s.account d := by
  unfold State.tickedAccount
  rw [if_neg ?_]
  rw [← State.timerSuspended_iff] at still
  rcases still with h | h <;> simp [h]

theorem ticked_tick (s : State) : Ticked s s.tick := by
  have whole : s.tick = if (s.time + 1) % 10 = 0 then ((s.countUnit .time).advance).millisecond
      else (s.countUnit .time).advance := rfl
  have suspended : ∀ d, Suspended d ((s.countUnit .time).advance) ↔ Suspended d s := by
    intro d
    have mode : ∀ i, ((s.countUnit .time).ch i).mode = (s.ch i).mode := by
      intro i
      rw [show (s.countUnit .time).ch i = (s.ch i).unit .time from Bank.read_map _ _ _]
      unfold Channel.unit
      split <;> rfl
    have enabled : ((s.countUnit .time).advance).driveEnabled d = s.driveEnabled d := by
      have same : ((s.countUnit .time).advance).ch (strikeChannel d) = (s.countUnit .time).ch (strikeChannel d) :=
        rfl
      unfold State.driveEnabled
      rw [same, mode]
      rfl
    have state : ((s.countUnit .time).advance).driveState d = s.driveState d := by
      unfold State.driveState
      rw [enabled]
      rfl
    unfold Suspended
    rw [state]
    rfl
  rw [whole]
  split
  · next ms =>
    have account : ∀ d, (((s.countUnit .time).advance).millisecond).account d
        = ((s.countUnit .time).advance).tickedAccount d := fun d => Bank.read_tabulate _ _
    have timer : (((s.countUnit .time).advance).millisecond).lm.timer
        = if s.lsv.mode = .echo then s.lm.timer
          else s.lm.timer.map fun t => { t with elapsed := t.elapsed + 1 } := rfl
    refine ⟨rfl, unitCounted_countUnit .time s, fun d => ⟨fun _ length running => ?_, fun still => ?_⟩,
      fun _ mode => ?_, fun still => ?_⟩
    · rw [account]
      exact tickedAccount_of_running length (mt (suspended d).1 running)
    · rw [account]
      refine tickedAccount_of_still (still.resolve_left (absurd ms) |>.imp id (suspended d).2)
    · rw [timer, if_neg mode]
    · rw [timer, if_pos (still.resolve_left (absurd ms))]
  · next other =>
    exact ⟨rfl, unitCounted_countUnit .time s, fun d => ⟨fun ms => absurd ms other, fun _ => rfl⟩,
      fun ms => absurd ms other, fun _ => rfl⟩

/-- Settles O2: the events listed are those due, a choice among several draws a free value, and with none due
travel or time goes on. -/
theorem idleStepTakesWhatIsDue : Obligations.IdleStepTakesWhatIsDue := by
  intro s empty
  rw [step_idle empty]
  refine ⟨fun held => by simp [idle, held, State.resetTick], fun awake => ?_⟩
  rw [idle_of_awake awake]
  refine ⟨fun i due only => ?_, fun i j di dj ne => ?_, fun none owed => ?_, fun none paid => ?_⟩
  · rw [dueEvents_single due only]
    simp [pickDue, State.drawn, dueEvents_single due only]
  · have several : 1 < s.dueEvents.length := by
      have mi := (mem_dueEvents i s).2 di
      have mj := (mem_dueEvents j s).2 dj
      match l : s.dueEvents with
      | [] => simp [l] at mi
      | [k] =>
        rw [l, List.mem_singleton] at mi mj
        exact absurd (mi.trans mj.symm) ne
      | _ :: _ :: _ => simp
    obtain ⟨k, member, picked⟩ := pickDue_several several s.free
    exact ⟨k, (mem_dueEvents k s).1 member, by rw [picked, State.drawn, if_pos several]⟩
  · rw [dueEvents_none none]
    exact ⟨s.travelCount, by simp [pickDue, State.goOn, owed], travelCounted_travelCount s⟩
  · rw [dueEvents_none none]
    exact ⟨s.tick, by simp [pickDue, State.goOn, paid], ticked_tick s⟩

end Sys2Proof.Machine

/-! Book Open (R3) and Table Write to patterns and formats (R60), check by check. -/

namespace Sys2Proof.Machine

open Sys2Proof Sys2Proof.Safety

set_option Elab.async false

/-! ## Book Open -/

/-- A served request that its owner refuses changes nothing but the link. -/
theorem take_refused {f : Frame} {act : State → State × Reply} {s : State} (served : Served s) {r : Result}
    (refused : act (admitted s) = refuse r (admitted s)) :
    takeRequest f act s = .next { s with lp := answered s.lp f.tag f.kind r [] } :=
  take_quiet served s (.refuse r) refused

theorem findBook_none_iff (id : Half) (s : State) :
    s.findBook id = none ↔ ∀ j c, s.book j = some c → c.id ≠ id := by
  unfold State.findBook
  rw [List.find?_eq_none]
  constructor
  · intro h j c e
    simpa [e] using h j (List.mem_finRange j)
  · intro h j _
    cases e : s.book j with
    | none => simp
    | some c => simpa using h j c e

theorem findBook_isSome_iff (id : Half) (s : State) :
    (s.findBook id).isSome = true ↔ ∃ j c, s.book j = some c ∧ c.id = id := by
  rw [Option.isSome_iff_ne_none, Ne, findBook_none_iff]
  push Not
  rfl

theorem freeSlot_none_iff (s : State) : s.freeSlot = none ↔ ∀ j, s.book j ≠ none := by
  simp [State.freeSlot, List.find?_eq_none]

/-- The first slot of `Fin` with a property is the one before which none has it. -/
theorem find_finRange_of_first {n : Nat} {p : Fin n → Bool} {i : Fin n} (here : p i = true)
    (before : ∀ j, j < i → p j = false) : (List.finRange n).find? p = some i := by
  rw [List.find?_eq_some_iff_getElem]
  refine ⟨here, i.val, by simp, by simp, fun j less => ?_⟩
  have := before ⟨j, by omega⟩ (by simpa [Fin.lt_def] using less)
  simpa using this

theorem freeSlot_of_lowest {i : Slot} {s : State} (free : s.book i = none)
    (lowest : ∀ j, j < i → s.book j ≠ none) : s.freeSlot = some i :=
  find_finRange_of_first (by simp [free]) fun j less => by
    simpa [Option.isSome_iff_ne_none] using lowest j less

theorem readDeclared_of_le {b : Byte} (bound : b.toNat ≤ 64) :
    readDeclared b = some (if b = 0 then none else some b.toNat) := by
  unfold readDeclared
  split
  · rfl
  · next nonzero =>
    have positive : 1 ≤ b.toNat := by
      rw [Nat.one_le_iff_ne_zero]
      exact fun zero => nonzero (BitVec.eq_of_toNat_eq zero)
    simp [readRange, positive, bound]

theorem readDeclared_none {b : Byte} (above : 64 < b.toNat) : readDeclared b = none := by
  have nonzero : b ≠ 0 := by
    rintro rfl
    exact absurd above (by decide)
  have out : ¬(1 ≤ b.toNat ∧ b.toNat ≤ 64) := by omega
  unfold readDeclared
  rw [if_neg nonzero, readRange, if_neg out]
  rfl

theorem bookOpen_out_of_range {id : Half} {format declared : Byte} (s : State)
    (out : 16 ≤ format.toNat ∨ 64 < declared.toNat) : s.bookOpen id format declared = refuse .range s := by
  unfold State.bookOpen
  rcases out with past | above
  · rw [readIndex_none past]
  · rw [readDeclared_none above]
    split
    · next none => cases none
    · rfl

theorem bookOpen_in_range {id : Half} {declared : Byte} (f : FormatId) (s : State)
    (bound : declared.toNat ≤ 64) :
    s.bookOpen id (natByte f.val) declared =
      s.bookOpenChecked id f (if declared = 0 then none else some declared.toNat) := by
  unfold State.bookOpen
  rw [readIndex_natByte (by decide), readDeclared_of_le bound]

section

variable {id : Half} {f : FormatId} {declared : Option Nat} {s : State}

theorem bookOpenChecked_of_invalid (invalid : (Bank.read s.ts.formats f).active = none) :
    s.bookOpenChecked id f declared = refuse .range s := if_pos (by simp [invalid])

variable (valid : (Bank.read s.ts.formats f).active ≠ none)

include valid

theorem bookOpenChecked_of_pending (pending : (Bank.read s.ts.formats f).staged ≠ none) :
    s.bookOpenChecked id f declared = refuse .pending s := by
  unfold State.bookOpenChecked
  dsimp only
  rw [if_neg (by simpa using valid),
    if_pos (by simpa [FormatEntry.pending, Option.isSome_iff_ne_none] using pending)]

variable (settled : (Bank.read s.ts.formats f).staged = none)

include settled

theorem bookOpenChecked_of_duplicate (duplicate : ∃ j c, s.book j = some c ∧ c.id = id) :
    s.bookOpenChecked id f declared = refuse .duplicate s := by
  unfold State.bookOpenChecked
  dsimp only
  rw [if_neg (by simpa using valid), if_neg (by simp [FormatEntry.pending, settled]),
    if_pos ((findBook_isSome_iff id s).2 duplicate)]

variable (fresh : ∀ j c, s.book j = some c → c.id ≠ id)

include fresh

theorem bookOpenChecked_of_full (full : ∀ j, s.book j ≠ none) :
    s.bookOpenChecked id f declared = refuse .full s := by
  unfold State.bookOpenChecked
  dsimp only
  rw [if_neg (by simpa using valid), if_neg (by simp [FormatEntry.pending, settled]),
    if_neg (by simp [(findBook_none_iff id s).2 fresh]), (freeSlot_none_iff s).2 full]

theorem bookOpenChecked_of_free {i : Slot} (free : s.book i = none) (lowest : ∀ j, j < i → s.book j ≠ none) :
    s.bookOpenChecked id f declared = (s.openBook i (Book.new id f declared), ⟨.done, [natByte i.val]⟩) := by
  unfold State.bookOpenChecked
  dsimp only
  rw [if_neg (by simpa using valid), if_neg (by simp [FormatEntry.pending, settled]),
    if_neg (by simp [(findBook_none_iff id s).2 fresh]), freeSlot_of_lowest free lowest]

end

/-- Settles O10: the checks are made in their order, and the book takes the lowest free slot. -/
theorem bookOpenChecksAndCreates : Obligations.BookOpenChecksAndCreates := by
  intro s tag id format declared served
  have opened : exec (.bookOpen tag id format declared) s =
      takeRequest ⟨0x02, tag, halfBytes id ++ [format, declared]⟩ (State.bookOpen id format declared) s := rfl
  rw [opened]
  refine ⟨fun r cases => ?_, ?_⟩
  · obtain ⟨out, rfl⟩ | ⟨f, rfl, bound, checks⟩ := cases
    · exact take_refused served (bookOpen_out_of_range _ out)
    · refine take_refused served ((bookOpen_in_range f _ bound).trans ?_)
      obtain ⟨invalid, rfl⟩ | ⟨valid, pending, rfl⟩ | ⟨valid, settled, ⟨duplicate, rfl⟩ | ⟨fresh, full, rfl⟩⟩ :=
        checks
      · exact bookOpenChecked_of_invalid invalid
      · exact bookOpenChecked_of_pending valid pending
      · exact bookOpenChecked_of_duplicate valid settled duplicate
      · exact bookOpenChecked_of_full (s := admitted s) valid settled fresh full
  · rintro f i rfl bound valid settled fresh free lowest
    refine ⟨_, rfl, ?_⟩
    refine take_quiet served
      { s with
        si := { s.si with books := Bank.write s.si.books i (some (Book.new id f _)) }
        ts := s.ts.modifyFormat f FormatEntry.bind
        lsv := s.lsv.mirror i (some (Book.new id f _)) } ⟨.done, [natByte i.val]⟩ ?_
    rw [bookOpen_in_range f _ bound,
      bookOpenChecked_of_free (s := admitted s) valid settled fresh free lowest]
    rfl

/-! ## Pattern and format writes -/

/-- The model's test for a format with books bound that names the pattern says what the statements say. -/
theorem patternBound_iff (p : Fin 24) (s : State) : s.ts.patternBound p = true ↔ NamedByBound p s := by
  simp only [TableStore.patternBound, List.any_eq_true, List.mem_finRange, true_and, Bool.and_eq_true,
    decide_eq_true_eq, copyNames_iff, NamedByBound]
  constructor
  · rintro ⟨f, bound, c, active, named⟩
    exact ⟨f, c, bound, active, named⟩
  · rintro ⟨f, c, bound, active, named⟩
    exact ⟨f, bound, c, active, named⟩

theorem patternBusy_iff (p : Fin 24) (x : Option Pattern) (s : State) :
    s.ts.patternBusy p x = true ↔ (x ≠ none ∧ NamedByBound p s) ∨ (x = none ∧ NamedByCopy p s) := by
  cases x with
  | none => simp [TableStore.patternBusy, patternNamed_iff]
  | some x => simp [TableStore.patternBusy, patternBound_iff]

theorem writePattern_of_read {p : Fin 24} {contents : List Byte} {x : Option Pattern} {s : State}
    (read : readPattern contents = some x) :
    s.writePattern p contents = if s.ts.patternBusy p x then refuse .busy s else doneWith (s.setPattern p x) := by
  rw [State.writePattern, read]

/-- A Table Write of a permitted length that its owner refuses. -/
theorem exec_tableWrite_refused {s : State} (served : Served s) (tag : Byte) {selector entry : Byte}
    {contents : List Byte} {r : Result} (length : contentsLengthOk contents.length = true)
    (refused : (admitted s).tableWrite selector entry contents = refuse r (admitted s)) :
    exec (.tableWrite tag selector entry contents) s = .next { s with lp := answered s.lp tag 0x04 r [] } :=
  (if_pos length).trans (take_refused served refused)

theorem readWritten_none {selector entry : Byte} {contents : List Byte}
    (unnamed : ¬((selector = 0 ∧ entry.toNat < 24 ∧ contents.length = 8)
      ∨ (selector = 1 ∧ entry.toNat < 16 ∧ contents.length = 10)
      ∨ (selector = 2 ∧ entry.toNat < 5 ∧ contents.length = 14)
      ∨ (selector = 3 ∧ entry = 0 ∧ contents.length = 30))) :
    readWritten selector entry contents = none := by
  simp only [not_or, not_and] at unnamed
  obtain ⟨pattern, format, drive, settings⟩ := unnamed
  have known : ∀ n : Nat, selector.toNat = n → selector = BitVec.ofNat 8 n := fun n e => by rw [← e]; simp
  unfold readWritten readEntry readIndex
  split
  · next e =>
    have fits := pattern (known 0 e)
    split
    · next bound => simp [TableEntry.length, fits bound]
    · rfl
  · next e =>
    have fits := format (known 1 e)
    split
    · next bound => simp [TableEntry.length, fits bound]
    · rfl
  · next e =>
    have fits := drive (known 2 e)
    split
    · next bound => simp [TableEntry.length, fits bound]
    · rfl
  · next e =>
    have fits := settings (known 3 e)
    split
    · next zero => simp [TableEntry.length, fits zero]
    · rfl
  · rfl

theorem contentsLengthOk_iff (n : Nat) : contentsLengthOk n = true ↔ n = 8 ∨ n = 10 ∨ n = 14 ∨ n = 30 := by
  simp [contentsLengthOk, or_assoc]

theorem pattern_write {s : State} (served : Served s) (tag : Byte) (p : Fin 24) {contents : List Byte}
    (length : contents.length = 8) {x : Option Pattern} (read : readPattern contents = some x) :
    exec (.tableWrite tag 0 (natByte p.val) contents) s = .next
      (if s.ts.patternBusy p x then { s with lp := answered s.lp tag 0x04 .busy [] }
      else { s with
        ts := { s.ts with patterns := Bank.write s.ts.patterns p x }
        lp := answered s.lp tag 0x04 .done [] }) := by
  have ok : contentsLengthOk contents.length = true := (contentsLengthOk_iff _).2 (.inl length)
  have written : (admitted s).tableWrite 0 (natByte p.val) contents =
      if s.ts.patternBusy p x then refuse .busy (admitted s) else doneWith ((admitted s).setPattern p x) :=
    (tableWrite_pattern p length _).trans (writePattern_of_read read)
  split <;> rename_i busy
  · exact exec_tableWrite_refused served tag ok (by rw [written, if_pos busy])
  · exact exec_tableWrite_of_stored served tag ok (by rw [written, if_neg busy]; rfl)

theorem format_write {s : State} (served : Served s) (tag : Byte) (f : FormatId) {contents : List Byte}
    (length : contents.length = 10) {c : Option Format} (read : readFormat s.ts.patterns contents = some c) :
    exec (.tableWrite tag 1 (natByte f.val) contents) s = .next { s with
      ts := s.ts.modifyFormat f (FormatEntry.place c)
      lp := answered s.lp tag 0x04 .done [(Bank.read s.ts.formats f).target.code] } :=
  exec_tableWrite_of_stored served tag ((contentsLengthOk_iff _).2 (.inr (.inl length)))
    ((tableWrite_format f length _).trans (writeFormat_of_read (s := admitted s) read))

/-- Settles O17: the entry named decides the reader, and then the pattern's users or the format's references. -/
theorem patternAndFormatWrites : Obligations.PatternAndFormatWrites := by
  refine ⟨fun s tag contents served => ⟨fun p length => ⟨fun bad => ?_, fun x read => ⟨fun busy => ?_, fun free => ?_⟩⟩,
    fun f length => ⟨fun bad => ?_, fun c read => ⟨fun unbound => ?_, fun bound => ?_⟩⟩⟩,
    fun s tag selector entry contents => ⟨fun served lengths unnamed => ?_, fun awake a b c d => ?_⟩⟩
  · refine exec_tableWrite_refused served tag ((contentsLengthOk_iff _).2 (.inl length)) ?_
    rw [tableWrite_pattern p length, State.writePattern, bad]
  · rw [pattern_write served tag p length read, if_pos ((patternBusy_iff p x s).2 busy)]
  · rw [pattern_write served tag p length read, if_neg (mt (patternBusy_iff p x s).1 free)]
  · refine exec_tableWrite_refused served tag ((contentsLengthOk_iff _).2 (.inr (.inl length))) ?_
    rw [tableWrite_format f length, State.writeFormat, show readFormat (admitted s).ts.patterns contents = none from bad]
  · rw [format_write served tag f length read, FormatEntry.target_of_unbound unbound, TableStore.modifyFormat,
      FormatEntry.place_of_unbound c unbound]
    rfl
  · rw [format_write served tag f length read, FormatEntry.target_of_bound bound, TableStore.modifyFormat,
      FormatEntry.place_of_bound c bound]
    rfl
  · refine exec_tableWrite_refused served tag ((contentsLengthOk_iff _).2 lengths) ?_
    rw [State.tableWrite, readWritten_none unnamed]
  · refine (if_neg ?_).trans (takeLinkError awake)
    rw [contentsLengthOk_iff]
    simp [a, b, c, d]

end Sys2Proof.Machine

/-! The bytes of table contents (11.3 to 11.6): each reader of a field takes exactly the bytes that the field is
laid out as, so each reader of contents does. -/

namespace Sys2Proof.Machine

open Sys2Proof Sys2Proof.Safety

set_option Elab.async false

/-! ## Fields -/

theorem joinHalf_bytes (x : Half) : joinHalf (hiByte x) (loByte x) = x := by
  unfold joinHalf hiByte loByte
  ext i inside
  simp only [BitVec.getElem_append, BitVec.getElem_extractLsb']
  split
  · simp [inside]
  · next above => simp [show 8 + (i - 8) = i by omega, inside]

theorem readFlag_iff {b : Byte} {v : Bool} : readFlag b = some v ↔ b = flagByte v := by
  unfold readFlag flagByte
  constructor
  · intro read
    split at read
    · next zero => simpa [← Option.some.inj read] using zero
    · split at read
      · next one => simpa [← Option.some.inj read] using one
      · cases read
  · rintro rfl
    cases v <;> rfl

theorem readRange_iff {lo hi x n : Nat} : readRange lo hi x = some n ↔ x = n ∧ lo ≤ n ∧ n ≤ hi := by
  unfold readRange
  split
  · next inside =>
    rw [Option.some.injEq]
    exact ⟨fun e => ⟨e, e ▸ inside⟩, fun h => h.1⟩
  · next outside =>
    constructor
    · intro none
      cases none
    · rintro ⟨rfl, inside⟩
      exact absurd inside outside

theorem toNat_eq_iff_natByte {b : Byte} {n : Nat} (bound : n < 256) : b.toNat = n ↔ b = natByte n := by
  constructor
  · rintro rfl
    simp [natByte]
  · rintro rfl
    exact natByte_toNat bound

theorem readByte_iff {lo hi : Nat} {b : Byte} {n : Nat} (bound : hi < 256) :
    readRange lo hi b.toNat = some n ↔ b = natByte n ∧ lo ≤ n ∧ n ≤ hi := by
  rw [readRange_iff]
  exact and_congr_left fun inside => toNat_eq_iff_natByte (by omega)

theorem readHalf_iff {lo hi n : Nat} {a b : Byte} (bound : hi < 65536) :
    readHalf lo hi a b = some n ↔
      (a = hiByte (BitVec.ofNat 16 n) ∧ b = loByte (BitVec.ofNat 16 n)) ∧ lo ≤ n ∧ n ≤ hi := by
  rw [readHalf, readRange_iff]
  refine and_congr_left fun inside => ⟨?_, ?_⟩
  · rintro rfl
    simp [hiByte_join, loByte_join]
  · rintro ⟨rfl, rfl⟩
    rw [joinHalf_bytes, BitVec.toNat_ofNat]
    omega

theorem readIndex_iff {n : Nat} (bound : n ≤ 256) {b : Byte} {i : Fin n} :
    readIndex n b = some i ↔ b = natByte i.val := by
  unfold readIndex
  split
  · rw [Option.some.injEq, Fin.ext_iff]
    exact toNat_eq_iff_natByte (by omega)
  · next outside =>
    constructor
    · intro none
      cases none
    · rintro rfl
      exact absurd i.isLt (natByte_toNat (n := i.val) (by omega) ▸ outside)

theorem readHanger_iff {b : Byte} {k : HangerKind} : readHanger b = some k ↔ b = k.code := by
  unfold readHanger
  constructor
  · intro read
    split at read
    · next e => exact Option.some.inj read ▸ e
    · split at read
      · next e => exact Option.some.inj read ▸ e
      · split at read
        · next e => exact Option.some.inj read ▸ e
        · cases read
  · rintro rfl
    cases k <;> rfl

theorem readPurgeMode_iff {b : Byte} {m : PurgeMode} : readPurgeMode b = some m ↔ b = m.code := by
  constructor
  · intro read
    unfold readPurgeMode at read
    iterate 5
      split at read
      · next e => exact Option.some.inj read ▸ e
    cases read
  · rintro rfl
    cases m <;> rfl

theorem readLossAction_iff {b : Byte} {x : LossAction} :
    readLossAction b = some x ↔ b = flagByte (decide (x = .continue)) := by
  rw [readLossAction, Option.map_eq_some_iff]
  constructor
  · rintro ⟨v, read, rfl⟩
    rw [readFlag_iff.1 read]
    cases v <;> rfl
  · rintro rfl
    cases x
    · exact ⟨false, rfl, rfl⟩
    · exact ⟨true, rfl, rfl⟩

theorem readReportMode_iff {b : Byte} {x : ReportMode} :
    readReportMode b = some x ↔ b = flagByte (decide (x = .periodic)) := by
  rw [readReportMode, Option.map_eq_some_iff]
  constructor
  · rintro ⟨v, read, rfl⟩
    rw [readFlag_iff.1 read]
    cases v <;> rfl
  · rintro rfl
    cases x
    · exact ⟨false, rfl, rfl⟩
    · exact ⟨true, rfl, rfl⟩

theorem natBytes_eq (n : Nat) : natBytes n = [BitVec.ofNat 8 (n / 256), BitVec.ofNat 8 n] := by
  have high : hiByte (BitVec.ofNat 16 n) = BitVec.ofNat 8 (n / 256) := by
    apply BitVec.eq_of_toNat_eq
    simp only [hiByte, BitVec.extractLsb'_toNat, BitVec.toNat_ofNat, Nat.shiftRight_eq_div_pow]
    omega
  have low : loByte (BitVec.ofNat 16 n) = BitVec.ofNat 8 n := by
    apply BitVec.eq_of_toNat_eq
    simp only [loByte, BitVec.extractLsb'_toNat, BitVec.toNat_ofNat, Nat.shiftRight_zero]
    omega
  rw [natBytes, halfBytes, high, low]

/-! ## Contents -/

/-- A pin set is its six bytes, the low one first. -/
theorem pins_join (x : BitVec 48) :
    x.extractLsb' 40 8 ++ x.extractLsb' 32 8 ++ x.extractLsb' 24 8 ++ x.extractLsb' 16 8
      ++ x.extractLsb' 8 8 ++ x.extractLsb' 0 8 = x := by
  apply BitVec.eq_of_getLsbD_eq
  intro i inside
  simp only [BitVec.getLsbD_append, BitVec.getLsbD_extractLsb']
  split_ifs <;> simp <;> grind

theorem patternBytes_some (p : Pattern) : patternBytes (some p) =
    [1, flagByte p.notch, p.pins.extractLsb' 0 8, p.pins.extractLsb' 8 8, p.pins.extractLsb' 16 8,
      p.pins.extractLsb' 24 8, p.pins.extractLsb' 32 8, p.pins.extractLsb' 40 8] := rfl

theorem readFlag_flagByte (v : Bool) : readFlag (flagByte v) = some v := readFlag_iff.2 rfl

theorem readPattern_patternBytes {p : Pattern} (ok : p.check = true) :
    readPattern (patternBytes (some p)) = some (some p) := by
  have valid : readFlag 1#8 = some true := rfl
  rw [patternBytes_some]
  unfold readPattern
  simp [valid, readFlag_flagByte, pins_join, ok]

theorem join_pins (p0 p1 p2 p3 p4 p5 : Byte) {x : BitVec 48} (join : p5 ++ p4 ++ p3 ++ p2 ++ p1 ++ p0 = x) :
    [p0, p1, p2, p3, p4, p5] = [x.extractLsb' 0 8, x.extractLsb' 8 8, x.extractLsb' 16 8,
      x.extractLsb' 24 8, x.extractLsb' 32 8, x.extractLsb' 40 8] := by
  subst join
  simp only [List.cons.injEq, and_true]
  refine ⟨?_, ?_, ?_, ?_, ?_, ?_⟩ <;> apply BitVec.eq_of_getLsbD_eq <;> intro i inside <;>
    simp only [BitVec.getLsbD_append, BitVec.getLsbD_extractLsb'] <;> grind

/-- Pattern contents that are read have eight bytes, the first a flag; with it set, the rest hold the pattern. -/
theorem readPattern_some {contents : List Byte} {x : Option Pattern} (read : readPattern contents = some x) :
    contents.length = 8 ∧ ((x = none ∧ contents.head? = some 0)
      ∨ ∃ p, x = some p ∧ p.check = true ∧ contents = patternBytes (some p)) := by
  unfold readPattern at read
  split at read
  · next valid notch p0 p1 p2 p3 p4 p5 =>
    refine ⟨rfl, ?_⟩
    obtain ⟨v, validRead, rest⟩ := Option.bind_eq_some_iff.1 read
    clear read
    rw [readFlag_iff] at validRead
    subst validRead
    cases v
    · exact .inl ⟨(Option.some.inj rest).symm, rfl⟩
    · rw [if_pos rfl] at rest
      obtain ⟨k, notchRead, read⟩ := Option.bind_eq_some_iff.1 rest
      rw [readFlag_iff] at notchRead
      dsimp only at read
      split at read
      · next ok =>
        refine .inr ⟨_, (Option.some.inj read).symm, ok, ?_⟩
        rw [patternBytes_some, notchRead, ← join_pins p0 p1 p2 p3 p4 p5 rfl]
        rfl
      · cases read
  · cases read

theorem Pattern.check_iff (p : Pattern) :
    p.check = true ↔ p.pins ≠ 0 ∧ (p.notch = true → p.pins &&& 0x7E00000#48 = 0) := by
  rw [Pattern.check, Bool.and_eq_true, decide_eq_true_iff, Bool.not_eq_true', Bool.and_eq_false_imp]
  exact and_congr_right fun _ => imp_congr_right fun _ =>
    ⟨fun clear => not_not.1 (of_decide_eq_false clear), fun clear => decide_eq_false (not_not.2 clear)⟩

/-! ### Formats -/

theorem formatBytes_some (f : Format) : formatBytes (some f) =
    [1, natByte f.pattern.val, hiByte (BitVec.ofNat 16 f.capacity), loByte (BitVec.ofNat 16 f.capacity),
      natByte f.maxSheets, flagByte f.boardAlone, f.hanger.code, natByte f.drillHoles,
      natByte f.wireClass, natByte f.feedSteps] := rfl

theorem drillCountOk_le {k : HangerKind} {n : Nat} (ok : drillCountOk k n = true) : n ≤ 2 := by
  cases k <;> simp [drillCountOk] at ok <;> omega

theorem readFormat_formatBytes {patterns : Vector (Option Pattern) 24} {f : Format}
    (inRange : FormatInRange patterns f) : readFormat patterns (formatBytes (some f)) = some (some f) := by
  obtain ⟨named, capacityLow, capacityHigh, sheetsLow, sheetsHigh, holesOk, wireLow, wireHigh, feedLow, feedHigh⟩ :=
    inRange
  have valid : readFlag 1#8 = some true := rfl
  have holesByte : (natByte f.drillHoles).toNat = f.drillHoles := natByte_toNat (by have := drillCountOk_le holesOk; omega)
  rw [formatBytes_some]
  unfold readFormat
  simp [valid, readFlag_flagByte, readIndex_natByte, Option.ne_none_iff_isSome.2 named, holesByte, holesOk,
    (readHalf_iff (n := f.capacity) (by decide : 6000 < 65536)).2 ⟨⟨rfl, rfl⟩, capacityLow, capacityHigh⟩,
    (readByte_iff (by decide : 24 < 256)).2 ⟨rfl, sheetsLow, sheetsHigh⟩, readHanger_iff.2 rfl,
    (readByte_iff (by decide : 8 < 256)).2 ⟨rfl, wireLow, wireHigh⟩,
    (readByte_iff (by decide : 64 < 256)).2 ⟨rfl, feedLow, feedHigh⟩]

/-- Format contents that are read have ten bytes, the first a flag; with it set, the rest hold the format. -/
theorem readFormat_some {patterns : Vector (Option Pattern) 24} {contents : List Byte} {x : Option Format}
    (read : readFormat patterns contents = some x) :
    contents.length = 10 ∧ ((x = none ∧ contents.head? = some 0)
      ∨ ∃ f, x = some f ∧ FormatInRange patterns f ∧ contents = formatBytes (some f)) := by
  unfold readFormat at read
  split at read
  · next valid pattern c1 c0 sheets alone hanger holes wire feed =>
    refine ⟨rfl, ?_⟩
    obtain ⟨v, validRead, rest⟩ := Option.bind_eq_some_iff.1 read
    clear read
    rw [readFlag_iff] at validRead
    subst validRead
    cases v
    · exact .inl ⟨(Option.some.inj rest).symm, rfl⟩
    · rw [if_pos rfl] at rest
      obtain ⟨p, patternRead, read⟩ := Option.bind_eq_some_iff.1 rest
      split at read
      · cases read
      · next named =>
        simp only [Option.bind_eq_bind, Option.bind_eq_some_iff] at read
        obtain ⟨capacity, capacityRead, maxSheets, sheetsRead, boardAlone, aloneRead, kind, hangerRead, wireClass,
          wireRead, feedSteps, feedRead, read⟩ := read
        split at read
        · next holesOk =>
          rw [readIndex_iff (by decide)] at patternRead
          rw [readHalf_iff (by decide)] at capacityRead
          rw [readByte_iff (by decide)] at sheetsRead wireRead feedRead
          rw [readFlag_iff] at aloneRead
          rw [readHanger_iff] at hangerRead
          obtain ⟨⟨rfl, rfl⟩, capacityLow, capacityHigh⟩ := capacityRead
          obtain ⟨rfl, sheetsLow, sheetsHigh⟩ := sheetsRead
          obtain ⟨rfl, wireLow, wireHigh⟩ := wireRead
          obtain ⟨rfl, feedLow, feedHigh⟩ := feedRead
          refine .inr ⟨_, (Option.some.inj read).symm, ⟨?_, capacityLow, capacityHigh, sheetsLow, sheetsHigh, holesOk,
            wireLow, wireHigh, feedLow, feedHigh⟩, ?_⟩
          · simpa [Option.isSome_iff_ne_none] using named
          · rw [formatBytes_some, patternRead, aloneRead, hangerRead]
            simp [natByte, flagByte]
        · cases read
  · cases read

/-! ### Drive entries -/

/-- The readers and the layout of a drive entry agree. -/
theorem readDrive_iff {contents : List Byte} {e : DriveEntry} :
    readDrive contents = some e ↔ DriveInRange e ∧ contents = driveBytes e := by
  constructor
  · intro read
    unfold readDrive at read
    split at read
    · simp only [Option.bind_eq_bind, Option.bind_eq_some_iff] at read
      obtain ⟨enabled, enabledRead, spacing, spacingRead, strokeTimeout, strokeRead, baseInterval, baseRead, mode,
        modeRead, full, fullRead, half, halfRead, quarter, quarterRead, read⟩ := read
      split at read
      · next ok =>
        rw [readHalf_iff (by decide)] at spacingRead strokeRead baseRead fullRead halfRead quarterRead
        rw [readFlag_iff] at enabledRead
        rw [readPurgeMode_iff] at modeRead
        obtain ⟨⟨rfl, rfl⟩, spacingLow, spacingHigh⟩ := spacingRead
        obtain ⟨⟨rfl, rfl⟩, strokeLow, strokeHigh⟩ := strokeRead
        obtain ⟨⟨rfl, rfl⟩, baseLow, baseHigh⟩ := baseRead
        obtain ⟨⟨rfl, rfl⟩, fullLow, fullHigh⟩ := fullRead
        obtain ⟨⟨rfl, rfl⟩, halfLow, halfHigh⟩ := halfRead
        obtain ⟨⟨rfl, rfl⟩, quarterLow, quarterHigh⟩ := quarterRead
        subst enabledRead modeRead
        obtain rfl := Option.some.inj read
        exact ⟨⟨spacingLow, spacingHigh, strokeLow, strokeHigh, baseLow, baseHigh, fullLow, fullHigh, halfLow, halfHigh,
          quarterLow, quarterHigh, ok⟩, rfl⟩
      · cases read
    · cases read
  · rintro ⟨⟨spacingLow, spacingHigh, strokeLow, strokeHigh, baseLow, baseHigh, fullLow, fullHigh, halfLow, halfHigh,
      quarterLow, quarterHigh, ok⟩, rfl⟩
    have timed : ∀ {n : Nat}, 1 ≤ n → n ≤ 7499 →
        readHalf 1 7499 (hiByte (BitVec.ofNat 16 n)) (loByte (BitVec.ofNat 16 n)) = some n := fun low high =>
      (readHalf_iff (by decide)).2 ⟨⟨rfl, rfl⟩, low, high⟩
    unfold readDrive driveBytes natBytes halfBytes
    simp [readFlag_flagByte, readPurgeMode_iff.2 rfl, timed fullLow fullHigh, timed halfLow halfHigh,
      timed quarterLow quarterHigh, ok,
      (readHalf_iff (n := e.spacing) (by decide : 2000 < 65536)).2 ⟨⟨rfl, rfl⟩, spacingLow, spacingHigh⟩,
      (readHalf_iff (n := e.strokeTimeout) (by decide : 5000 < 65536)).2 ⟨⟨rfl, rfl⟩, strokeLow, strokeHigh⟩,
      (readHalf_iff (n := e.baseInterval) (by decide : 60000 < 65536)).2 ⟨⟨rfl, rfl⟩, baseLow, baseHigh⟩]

/-! ### Line Settings -/

/-- The readers and the layout of Line Settings agree. -/
theorem readSettings_iff {contents : List Byte} {x : LineSettings} :
    readSettings contents = some x ↔ SettingsInRange x ∧ contents = settingsBytes x := by
  constructor
  · intro read
    unfold readSettings at read
    split at read
    · obtain ⟨_, matchRead, read⟩ := Option.bind_eq_some_iff.1 read
      obtain ⟨_, declareRead, read⟩ := Option.bind_eq_some_iff.1 read
      obtain ⟨_, clearRead, read⟩ := Option.bind_eq_some_iff.1 read
      obtain ⟨_, lossRead, read⟩ := Option.bind_eq_some_iff.1 read
      obtain ⟨_, crossRead, read⟩ := Option.bind_eq_some_iff.1 read
      obtain ⟨_, strikeRead, read⟩ := Option.bind_eq_some_iff.1 read
      obtain ⟨_, dwellRead, read⟩ := Option.bind_eq_some_iff.1 read
      obtain ⟨_, bedRead, read⟩ := Option.bind_eq_some_iff.1 read
      obtain ⟨_, outRead, read⟩ := Option.bind_eq_some_iff.1 read
      obtain ⟨_, finishRead, read⟩ := Option.bind_eq_some_iff.1 read
      obtain ⟨_, exitRead, read⟩ := Option.bind_eq_some_iff.1 read
      obtain ⟨_, readyRead, read⟩ := Option.bind_eq_some_iff.1 read
      obtain ⟨_, drillRead, read⟩ := Option.bind_eq_some_iff.1 read
      obtain ⟨_, hangerRead, read⟩ := Option.bind_eq_some_iff.1 read
      obtain ⟨_, closerRead, read⟩ := Option.bind_eq_some_iff.1 read
      obtain ⟨_, modeRead, read⟩ := Option.bind_eq_some_iff.1 read
      obtain ⟨_, periodRead, read⟩ := Option.bind_eq_some_iff.1 read
      obtain ⟨_, noticesRead, read⟩ := Option.bind_eq_some_iff.1 read
      obtain rfl := Option.some.inj read
      rw [readHalf_iff (by decide)] at matchRead strikeRead dwellRead bedRead outRead finishRead exitRead readyRead drillRead
      rw [readHalf_iff (by decide)] at hangerRead closerRead periodRead
      rw [readByte_iff (by decide)] at declareRead clearRead crossRead
      rw [readLossAction_iff] at lossRead
      rw [readReportMode_iff] at modeRead
      rw [readFlag_iff] at noticesRead
      obtain ⟨⟨rfl, rfl⟩, matchRange⟩ := matchRead
      obtain ⟨rfl, declareRange⟩ := declareRead
      obtain ⟨rfl, clearRange⟩ := clearRead
      obtain ⟨rfl, crossRange⟩ := crossRead
      obtain ⟨⟨rfl, rfl⟩, strikeRange⟩ := strikeRead
      obtain ⟨⟨rfl, rfl⟩, dwellRange⟩ := dwellRead
      obtain ⟨⟨rfl, rfl⟩, bedRange⟩ := bedRead
      obtain ⟨⟨rfl, rfl⟩, outRange⟩ := outRead
      obtain ⟨⟨rfl, rfl⟩, finishRange⟩ := finishRead
      obtain ⟨⟨rfl, rfl⟩, exitRange⟩ := exitRead
      obtain ⟨⟨rfl, rfl⟩, readyRange⟩ := readyRead
      obtain ⟨⟨rfl, rfl⟩, drillRange⟩ := drillRead
      obtain ⟨⟨rfl, rfl⟩, hangerRange⟩ := hangerRead
      obtain ⟨⟨rfl, rfl⟩, closerRange⟩ := closerRead
      obtain ⟨⟨rfl, rfl⟩, periodRange⟩ := periodRead
      subst lossRead modeRead noticesRead
      exact ⟨⟨matchRange.1, matchRange.2, declareRange.1, declareRange.2, clearRange.1, clearRange.2, crossRange.1,
        crossRange.2, strikeRange.1, strikeRange.2, dwellRange, bedRange, outRange, finishRange, exitRange, readyRange,
        drillRange, hangerRange, closerRange, periodRange.1, periodRange.2⟩, rfl⟩
    · cases read
  · rintro ⟨⟨matchLow, matchHigh, declareLow, declareHigh, clearLow, clearHigh, crossLow, crossHigh, strikeLow, strikeHigh,
      dwell, bed, out, finish, exit, ready, drill, hanger, closer, periodLow, periodHigh⟩, rfl⟩
    have half : ∀ {lo hi n : Nat}, hi < 65536 → lo ≤ n → n ≤ hi →
        readHalf lo hi (hiByte (BitVec.ofNat 16 n)) (loByte (BitVec.ofNat 16 n)) = some n := fun bound low high =>
      (readHalf_iff bound).2 ⟨⟨rfl, rfl⟩, low, high⟩
    have time : ∀ {n : Nat}, TimeInRange n →
        readHalf 100 60000 (hiByte (BitVec.ofNat 16 n)) (loByte (BitVec.ofNat 16 n)) = some n := fun inRange =>
      half (by decide) inRange.1 inRange.2
    have byte : ∀ {lo hi n : Nat}, hi < 256 → lo ≤ n → n ≤ hi → readRange lo hi (natByte n).toNat = some n :=
      fun bound low high => (readByte_iff bound).2 ⟨rfl, low, high⟩
    unfold readSettings settingsBytes natBytes halfBytes
    simp [readFlag_flagByte, readLossAction_iff.2 rfl, readReportMode_iff.2 rfl, time dwell, time bed, time out,
      time finish, time exit, time ready, time drill, time hanger, time closer, half (by decide) matchLow matchHigh,
      half (by decide) strikeLow strikeHigh, half (by decide) periodLow periodHigh, byte (by decide) declareLow declareHigh,
      byte (by decide) clearLow clearHigh, byte (by decide) crossLow crossHigh]

/-- Settles O21: each reader inverts the layout of its contents; the codes are read off. -/
theorem tableContentsReadBack : Obligations.TableContentsReadBack := by
  unfold Obligations.TableContentsReadBack
  refine ⟨⟨⟨fun p ok => readPattern_patternBytes ok, fun patterns f inRange => readFormat_formatBytes inRange,
      fun e inRange => readDrive_iff.2 ⟨inRange, rfl⟩, fun x inRange => readSettings_iff.2 ⟨inRange, rfl⟩⟩,
    fun contents patterns => ⟨fun x read => ?pattern, fun x read => ?format, fun e read => readDrive_iff.1 read,
      fun x read => readSettings_iff.1 read⟩⟩, fun x => rfl, fun n => ⟨natBytes_eq n, rfl⟩, rfl, rfl, rfl, rfl, rfl, rfl, rfl,
    rfl, rfl, rfl, rfl, rfl, rfl, rfl, rfl, rfl, rfl, rfl, rfl, patternBytes_some, fun f => rfl, fun e => rfl, fun x => ?settings,
    fun tag kind result data => rfl, fun book leaf reason => ?refused, fun book o fault format placed punched => rfl,
    fun c level latches => rfl, fun number counts => rfl⟩
  case pattern =>
    obtain ⟨length, ⟨rfl, head⟩ | ⟨p, rfl, ok, laid⟩⟩ := readPattern_some read
    · exact ⟨fun _ => ⟨length, head⟩, fun p valid => (by cases valid)⟩
    · refine ⟨fun invalid => (by cases invalid), fun q same => ?_⟩
      obtain rfl := Option.some.inj same
      obtain ⟨nonempty, clear⟩ := p.check_iff.1 ok
      exact ⟨nonempty, clear, laid⟩
  case format =>
    obtain ⟨length, ⟨rfl, head⟩ | ⟨f, rfl, inRange, laid⟩⟩ := readFormat_some read
    · exact ⟨fun _ => ⟨length, head⟩, fun p valid => (by cases valid)⟩
    · refine ⟨fun invalid => (by cases invalid), fun g same => ?_⟩
      obtain rfl := Option.some.inj same
      exact ⟨inRange, laid⟩
  case settings => simp [settingsBytes, flagByte]
  case refused => cases reason <;> rfl

end Sys2Proof.Machine

/-! Requests to the Timing Channel Unit that touch one channel or the captures alone: Channel Count (R129),
Capture (R130) and Channel Read (R131). -/

namespace Sys2Proof.Machine

open Sys2Proof Sys2Proof.Safety

set_option Elab.async false

/-! ## Channel Count -/

theorem suppressed_eq (i : ChannelId) (s : State) : s.suppressed i = valveDry i s := by
  simp [State.suppressed, valveDry, Bool.and_assoc]

/-- A served request whose owner changes the channels alone. -/
theorem take_channels {f : Frame} {act : State → State × Reply} {s : State} (served : Served s)
    {tcu : Vector Channel 9} {r : Result} {data : List Byte}
    (acted : act (admitted s) = ({ admitted s with tcu := tcu }, ⟨r, data⟩)) :
    takeRequest f act s = .next { s with tcu := tcu, lp := answered s.lp f.tag f.kind r data } :=
  take_quiet served { s with tcu := tcu } ⟨r, data⟩ acted

theorem exec_channelCount {s : State} (served : Served s) (tag : Byte) (i : ChannelId) (n w b : Half) :
    exec (.channelCount tag (natByte i.val) n w b) s = .next { s with
      lp := answered s.lp tag 0x07 .done [], tcu := Bank.write s.tcu i (s.counted i ⟨n, w, b⟩) } := by
  refine take_channels served ?_
  rw [State.channelCount, readIndex_natByte (by decide)]
  rfl

/-- A channel that starts a STROBE or SOFT cycle with counts just staged takes them. -/
theorem stage_startCycle (suppressed : Bool) (n w b : Half) (c : Channel) :
    (c.stage ⟨n, w, b⟩).startCycle suppressed =
      { c with
        live := ⟨n, w, b⟩, staged := ⟨n, w, b⟩, pending := false
        phase := if n = 0 then .active else .waiting
        countdown := if n = 0 then countOf w else n.toNat
        output := decide (n = 0) && !suppressed } := by
  by_cases none : n = 0#16 <;> simp [Channel.stage, Channel.startCycle, Channel.load, Channel.pulse, none]

theorem pitchValid_iff (k : Counts) : k.pitchValid = true ↔ countOf k.w < countOf k.n := decide_eq_true_iff

/-- Settles O23. -/
theorem channelCountStagesAndStarts : Obligations.ChannelCountStagesAndStarts := by
  intro s tag channel n w b served
  refine ⟨fun past => take_refused served (by rw [State.channelCount, readIndex_none past]), ?_⟩
  rintro i rfl
  rw [exec_channelCount served]
  refine ⟨fun notPaused quiet => ?_, fun paused notSoft valid => ?_, fun paused notSoft invalid => ?_,
    fun soft running => ?_⟩
  · have staged : s.counted i ⟨n, w, b⟩ = (s.ch i).stage ⟨n, w, b⟩ := by
      unfold State.counted
      dsimp only [Channel.stage]
      rw [if_neg notPaused]
      split
      · next soft => rw [if_pos (quiet.resolve_left (not_not.2 soft))]
      · rfl
    rw [staged]
    rfl
  · have ok : (⟨n, w, b⟩ : Counts).pitchValid = true := (pitchValid_iff _).2 valid
    unfold State.counted
    dsimp only [Channel.stage]
    rw [if_neg notSoft, if_pos paused, Channel.pitchLoadPoint, if_pos rfl]
    dsimp only
    rw [if_pos ok]
    rfl
  · have bad : ¬(⟨n, w, b⟩ : Counts).pitchValid = true := mt (pitchValid_iff _).1 (not_lt.2 invalid)
    unfold State.counted
    dsimp only [Channel.stage]
    rw [if_neg notSoft, if_pos paused, Channel.pitchLoadPoint, if_pos rfl]
    dsimp only
    rw [if_neg bad, paused]
  · have started : s.counted i ⟨n, w, b⟩ = ((s.ch i).stage ⟨n, w, b⟩).startCycle (s.suppressed i) :=
      (if_pos soft).trans (if_neg running)
    rw [started, stage_startCycle, suppressed_eq]

/-! ## Capture and Channel Read -/

theorem readSelector_none {b : Byte} (out : b = 0 ∨ 4 ≤ b.toNat) : readSelector b = none := by
  unfold readSelector
  rcases out with rfl | above
  · rfl
  · have ne : ∀ k : Byte, k.toNat < 4 → b ≠ k := fun k small same => by rw [same] at above; omega
    rw [if_neg (ne 1 (by decide)), if_neg (ne 2 (by decide)), if_neg (ne 3 (by decide))]

theorem readSelector_of_bits {b : Byte} (nonzero : b ≠ 0) (bound : b.toNat < 4) :
    readSelector b = some (b.getLsbD 0, b.getLsbD 1) := by
  have known : b = 1 ∨ b = 2 ∨ b = 3 := by
    have : b.toNat ≠ 0 := fun zero => nonzero (BitVec.eq_of_toNat_eq zero)
    have cases : b.toNat = 1 ∨ b.toNat = 2 ∨ b.toNat = 3 := by omega
    rcases cases with one | two | three
    · exact .inl (BitVec.eq_of_toNat_eq one)
    · exact .inr (.inl (BitVec.eq_of_toNat_eq two))
    · exact .inr (.inr (BitVec.eq_of_toNat_eq three))
  rcases known with rfl | rfl | rfl <;> rfl

theorem channelSetOk_iff (x : Half) : channelSetOk x = true ↔ x ≠ 0 ∧ x.toNat < 512 := by simp [channelSetOk]

theorem capture_refused {x : Half} {selector : Byte} (s : State)
    (out : x = 0 ∨ 512 ≤ x.toNat ∨ selector = 0 ∨ 4 ≤ selector.toNat) :
    s.capture x selector = refuse .range s := by
  unfold State.capture
  split
  · rfl
  · next p read =>
    refine if_neg fun ok => ?_
    obtain ⟨nonzero, small⟩ := (channelSetOk_iff x).1 ok
    obtain zero | above | unknown := out
    · exact nonzero zero
    · omega
    · rw [readSelector_none unknown] at read
      cases read

theorem capture_done {x : Half} {selector : Byte} (s : State) (nonzero : x ≠ 0) (small : x.toNat < 512)
    (chosen : selector ≠ 0) (known : selector.toNat < 4) :
    s.capture x selector = doneWith (s.captureAll x (selector.getLsbD 0) (selector.getLsbD 1)) := by
  rw [State.capture, readSelector_of_bits chosen known]
  exact if_pos ((channelSetOk_iff x).2 ⟨nonzero, small⟩)

theorem capturedOr {α : Type} (named : Bool) (held : Option α) (now : α) :
    (if named = true then held.or (some now) else held) = if named = true ∧ held = none then some now else held := by
  cases named <;> cases held <;> simp

theorem exec_channelRead {s : State} (served : Served s) (tag : Byte) (i : ChannelId) :
    exec (.channelRead tag (natByte i.val)) s = .next { s with
      tcu := Bank.write s.tcu i { s.ch i with capturedCount := none, capturedStatus := none }
      lp := answered s.lp tag 0x09 .done (s.ch i).data } := by
  refine take_channels served ?_
  rw [State.channelRead, readIndex_natByte (by decide)]
  rfl

/-- Settles O24. -/
theorem captureAndChannelRead : Obligations.CaptureAndChannelRead := by
  intro s tag served
  refine ⟨fun x selector => ⟨fun out => take_refused served (capture_refused _ out),
    fun nonzero small chosen known => ?_⟩, fun channel past => ?_, fun i => ⟨exec_channelRead served tag i, ?_⟩⟩
  · refine ⟨_, take_channels (tcu := (s.captureAll x (selector.getLsbD 0) (selector.getLsbD 1)).tcu) served
      (capture_done _ nonzero small chosen known), rfl, fun i => ?_⟩
    change Bank.read (Bank.tabulate _) i = _
    rw [Bank.read_tabulate]
    cases named : x.getLsbD i.val
    · simp
    · simp only [if_pos, true_and]
      exact congrArg₂ (fun count status => ({ s.ch i with capturedCount := count, capturedStatus := status } : Channel))
        (capturedOr _ _ _) (capturedOr _ _ _)
  · exact take_refused served (by rw [State.channelRead, readIndex_none past])
  · rintro c x k y rfl rfl rfl rfl
    rfl

end Sys2Proof.Machine

/-! What settles after an event: the line may come to rest and conditions may be reported, while everything else
stays. With it, the ends of shaped outputs and what a trigger does to a channel (R117 to R125). -/

namespace Sys2Proof.Machine

open Sys2Proof Sys2Proof.Safety

set_option Elab.async false

/-! ## Settling -/

theorem watched_monitored {s t : State} {work : Vector Count 18} (w : Watched s t) (counted : t.lm.work = work) :
    Monitored work s t := counted ▸ w

theorem Moves.reported {s t : State} (m : Moves s t) (uncounted : t.lm.work = s.lm.work) : Reported s t :=
  ⟨watched_monitored m.watched uncounted, m.noticed⟩

theorem lineFollowed_moved {s t : State} (f : LineFollowed s t) (record : t.lsv.record = s.lsv.record) :
    LineMoved s t := by
  obtain ⟨frame, noted⟩ := f
  refine ⟨frame.trans ?_, noted⟩
  rw [record]

/-- Beside the reports only the line state and the hold sources may have changed. -/
def Settled (s t : State) : Prop :=
  t = { s with lp := t.lp, lm := t.lm, lsv := t.lsv } ∧ Reported s t ∧ LineMoved s t

theorem Settled.refl (s : State) : Settled s s := ⟨rfl, Reported.refl s, LineMoved.refl s⟩

theorem Settled.trans {s t u : State} (a : Settled s t) (b : Settled t u) : Settled s u := by
  obtain ⟨frame, reported, moved⟩ := a
  obtain ⟨frame', reported', moved'⟩ := b
  refine ⟨?_, reported.trans reported', LineMoved.trans moved moved'⟩
  rw [frame', frame]

theorem reportLevel_settled (c : Condition) (p : Bool) (s : State) : Settled s (s.reportLevel c p) :=
  ⟨rfl, reportLevel_reported c p s, .of_holds rfl⟩

theorem occur_settled (c : Condition) (s : State) : Settled s (s.occur c) :=
  ⟨rfl, occur_reported c s, .of_holds rfl⟩

theorem setHolds_settled (h : HoldSources) (s : State) : Settled s (s.setHolds h) :=
  ⟨rfl, setHolds_reported h s, setHolds_moved h s⟩

theorem moveLine_settled (l : LineState) (s : State) : Settled s (s.moveLine l) :=
  ⟨rfl, moveLine_reported l s, moveLine_moved l s⟩

theorem releaseIfFree_settled (s : State) : Settled s s.releaseIfFree := by
  unfold State.releaseIfFree
  split
  · exact moveLine_settled _ s
  · exact .refl s

theorem addHold_settled (x : HoldSource) (s : State) : Settled s (s.addHold x) := by
  unfold State.addHold
  dsimp only
  split
  · exact (setHolds_settled _ s).trans (moveLine_settled _ _)
  · exact setHolds_settled _ s

theorem dropHold_settled (x : HoldSource) (s : State) : Settled s (s.dropHold x) :=
  (setHolds_settled _ s).trans (releaseIfFree_settled _)

theorem presentHold_settled (x : HoldSource) (on : Bool) (s : State) : Settled s (s.presentHold x on) := by
  unfold State.presentHold
  split
  · exact .refl s
  · split
    · exact addHold_settled x s
    · exact dropHold_settled x s

theorem follow_settled (c : Condition) (x : HoldSource) (on : Bool) (s : State) : Settled s (s.follow c x on) :=
  (reportLevel_settled c on s).trans (presentHold_settled x on _)

theorem syncStationWait_settled (s : State) : Settled s s.syncStationWait := follow_settled _ _ _ s

theorem testRest_settled (s : State) : Settled s s.testRest := by
  unfold State.testRest
  split
  · exact moveLine_settled _ s
  · exact .refl s

/-- An order that ends leaves its station free, and the rest settles. -/
theorem endOrder_settled (st : Station) (s : State) :
    Settled { s with orders := Bank.write s.orders (stationIndex st) none } (s.endOrder st) :=
  syncStationWait_settled _

/-! ## Events -/

theorem exec_softPulseEnd (i : ChannelId) {s : State} (awake : Awake s) (due : CountedDown .soft .active (s.ch i)) :
    exec (.softPulseEnd i) s = .next (s.setCh i (s.ch i).toIdle).testRest :=
  (takeEvent_awake awake).trans (congrArg _ (if_pos ((Channel.due_iff _ _ _).2 due)))

theorem exec_strobePulseEnd (i : ChannelId) {s : State} (awake : Awake s) (due : CountedDown .strobe .active (s.ch i)) :
    exec (.strobePulseEnd i) s =
      .next ((s.setCh i ((s.ch i).strobeEnd (s.suppressed i))).cutStrobe i).testRest :=
  (takeEvent_awake awake).trans (congrArg _ (if_pos ((Channel.due_iff _ _ _).2 due)))

theorem channelDrive_strikeChannel (d : DriveId) : channelDrive (strikeChannel d) = some d := by
  have low : 1 ≤ (strikeChannel d).val ∧ (strikeChannel d).val ≤ 5 := by
    constructor <;> simp only [strikeChannel] <;> omega
  rw [channelDrive, dif_pos low]
  rfl

theorem channelDrive_some {i : ChannelId} {d : DriveId} (e : channelDrive i = some d) : i = strikeChannel d := by
  unfold channelDrive at e
  split at e
  · obtain rfl := Option.some.inj e
    apply Fin.ext
    simp only [strikeChannel]
    omega
  · cases e

/-- A channel that strikes no drive, or a drive with no strike in flight, ends no strobe. -/
theorem cutStrobe_of_none {i : ChannelId} {s : State} (none : ∀ d, i = strikeChannel d → (s.drive d).strike = none) :
    s.cutStrobe i = s := by
  unfold State.cutStrobe
  split
  · next d e => rw [State.strobeEnded, none d (channelDrive_some e)]
  · rfl

theorem cutStrobe_strikeChannel (d : DriveId) (s : State) : s.cutStrobe (strikeChannel d) = s.strobeEnded d := by
  rw [State.cutStrobe, channelDrive_strikeChannel]

/-! ## Cycles -/

theorem startCycle_eq (suppressed : Bool) (c : Channel) : c.startCycle suppressed = cycleStarted suppressed c := by
  unfold Channel.startCycle cycleStarted Channel.load Channel.pulse
  cases pending : c.pending with
  | false =>
    by_cases none : c.live.n = 0#16 <;> simp [none, pending]
  | true =>
    by_cases none : c.staged.n = 0#16 <;> simp [none]

theorem strobeEnd_of_free (suppressed : Bool) {c : Channel} (free : c.pendingTrigger = false) :
    c.strobeEnd suppressed = rested c := by
  rw [Channel.strobeEnd, free]
  rfl

theorem strobeEnd_of_pending (suppressed : Bool) {c : Channel} (pending : c.pendingTrigger = true) :
    c.strobeEnd suppressed = cycleStarted suppressed { rested c with pendingTrigger := false } := by
  rw [Channel.strobeEnd, if_pos pending]
  exact startCycle_eq _ _

theorem startTrain_eq (budget : Nat) (c : Channel) : c.startTrain budget = feedStarted budget c := by
  unfold Channel.startTrain Channel.pitchLoadPoint feedStarted Channel.period
  cases pending : c.pending with
  | false => simp
  | true =>
    by_cases valid : countOf c.staged.w < countOf c.staged.n
    · simp [pitchValid_iff, valid]
    · simp [pitchValid_iff, valid, not_lt.1 valid]

theorem channelHears_iff (i : ChannelId) (s : State) :
    s.channelHears i = true ↔ (s.ch i).mode = workingMode i ∧ s.lsv.lineState ≠ .safeStop := by
  simp [State.channelHears]

theorem deaf_of {i : ChannelId} {s : State} (deaf : (s.ch i).mode ≠ workingMode i ∨ s.lsv.lineState = .safeStop) :
    s.channelHears i = false := by
  rw [Bool.eq_false_iff, Ne, channelHears_iff]
  tauto

theorem running_iff (c : Channel) : c.running = true ↔ c.phase ≠ .idle := decide_eq_true_iff

theorem triggerStrobe_of_idle {i : ChannelId} {s : State} (hears : s.channelHears i = true) (idle : (s.ch i).phase = .idle) :
    s.triggerStrobe i = s.setCh i (cycleStarted (valveDry i s) (s.ch i)) := by
  have still : (s.ch i).running = false := by simp [Channel.running, idle]
  rw [State.triggerStrobe, if_pos hears, Channel.triggerLost, still, Bool.false_and, if_neg Bool.false_ne_true,
    Channel.trigger, still, if_neg Bool.false_ne_true, startCycle_eq, suppressed_eq]

theorem triggerStrobe_of_running {i : ChannelId} {s : State} (hears : s.channelHears i = true)
    (running : (s.ch i).phase ≠ .idle) :
    s.triggerStrobe i = if (s.ch i).pendingTrigger = true then s.occur .triggerOverrun
      else s.setCh i { s.ch i with pendingTrigger := true } := by
  have runs := (running_iff _).2 running
  rw [State.triggerStrobe, if_pos hears, Channel.triggerLost, runs, Bool.true_and, Channel.trigger, if_pos runs]

theorem startFeed_of_idle {budget : Nat} {s : State} (hears : s.channelHears 6 = true) (idle : (s.ch 6).phase = .idle) :
    s.startFeed budget = s.setCh 6 (feedStarted budget (s.ch 6)) := by
  have still : (s.ch 6).running = false := by simp [Channel.running, idle]
  rw [State.startFeed, if_pos hears, still, if_neg Bool.false_ne_true, startTrain_eq]

theorem occur_triggerOverrun (s : State) : s.occur .triggerOverrun = { s with
    lp := (s.occur .triggerOverrun).lp, lm := { s.lm with latches := s.lm.latches ||| 0x400#16 } } := rfl

/-! ## Clamp -/

/-- The clamp's opening releases the lift if its strikes are finished. -/
theorem clampOpened_eq (s : State) : s.clampOpened = { s with
    ss := { s.ss with
      bed :=
        if s.ss.bed.any (fun b => b.onBed && b.finished) = true then s.ss.bed.map Bed.release else s.ss.bed } } := by
  unfold State.clampOpened
  split
  · next none =>
    have same : (if s.ss.bed.any (fun b => b.onBed && b.finished) = true then s.ss.bed.map Bed.release
        else s.ss.bed) = s.ss.bed := by simp [none]
    rw [same]
  · next b bed =>
    split
    · next finished => simp [bed, finished, State.setBed]
    · next unfinished =>
      have same : (if s.ss.bed.any (fun b => b.onBed && b.finished) = true then s.ss.bed.map Bed.release
          else s.ss.bed) = s.ss.bed := by simp [bed, unfinished]
      rw [same]

/-- Settles O25. -/
theorem shapedOutputsBeginAndEnd : Obligations.ShapedOutputsBeginAndEnd := by
  refine ⟨?_, ?_⟩
  · rintro s i _ awake rfl
    refine ⟨fun phase zero mode => ?_, fun phase zero mode => ?_, fun phase zero mode => ?_,
      fun phase zero mode none => ?_, ?_⟩
    · have due : CountedDown .strobe .waiting (s.ch i) := ⟨mode, phase, zero⟩
      rw [← suppressed_eq]
      exact (takeEvent_awake awake).trans (congrArg _ (if_pos ((Channel.due_iff _ _ _).2 due)))
    · have due : CountedDown .soft .waiting (s.ch i) := ⟨mode, phase, zero⟩
      rw [← suppressed_eq]
      exact (takeEvent_awake awake).trans (congrArg _ (if_pos ((Channel.due_iff _ _ _).2 due)))
    · exact ⟨_, exec_softPulseEnd i awake ⟨mode, phase, zero⟩, testRest_settled (s.setCh i (rested (s.ch i)))⟩
    · obtain ⟨frame, reported, moved⟩ := testRest_settled (s.setCh i ((s.ch i).strobeEnd (s.suppressed i)))
      have taken := exec_strobePulseEnd i awake ⟨mode, phase, zero⟩
      have uncut : (s.setCh i ((s.ch i).strobeEnd (s.suppressed i))).cutStrobe i = _ := cutStrobe_of_none none
      rw [uncut] at taken
      have channels := congrArg State.tcu frame
      refine ⟨_, taken, frame.trans (by rw [channels]; rfl), reported, moved, fun j other => ?_, fun free => ?_,
        fun pending => ?_⟩
      all_goals rw [State.ch, channels]
      · exact Bank.read_write_ne _ _ other
      · exact (Bank.read_write_same _ _ _).trans (strobeEnd_of_free _ free)
      · rw [← suppressed_eq]
        exact (Bank.read_write_same _ _ _).trans (strobeEnd_of_pending _ pending)
    · rintro rfl phase zero mode gate
      have due : s.dwellDue = true := by
        rw [State.dwellDue, (Channel.due_iff _ _ _).2 ⟨mode, phase, zero⟩, gate]
        rfl
      exact (takeEvent_awake awake).trans (congrArg _ ((if_pos due).trans (clampOpened_eq _)))
  · rintro s i budget _ rfl
    refine ⟨fun deaf => ?_, fun working running => ?_, ?_, occur_triggerOverrun s⟩
    · refine ⟨triggerStrobe_of_deaf (deaf_of deaf), ?_⟩
      rintro rfl
      exact startFeed_of_deaf (deaf_of deaf)
    · have hears := (channelHears_iff i s).2 ⟨working, running⟩
      refine ⟨triggerStrobe_of_idle hears, fun runs free => ?_, fun runs pending => ?_, ?_, ?_⟩
      · rw [triggerStrobe_of_running hears runs, free, if_neg Bool.false_ne_true]
      · rw [triggerStrobe_of_running hears runs, if_pos pending]
      · rintro rfl runs
        rw [State.startFeed, if_pos hears, if_pos ((running_iff _).2 runs)]
      · rintro rfl idle
        exact startFeed_of_idle hears idle
    · change (s.lm.latches ||| 0x400#16).getLsbD 10 = true
      simp

end Sys2Proof.Machine

/-! Strikes begin (R66, R77 to R81): when a drive is eligible, and what its strike begin sets. -/

namespace Sys2Proof.Machine

open Sys2Proof Sys2Proof.Safety

set_option Elab.async false

theorem driveState_eq (d : DriveId) (s : State) : s.driveState d =
    (if (s.drive d).faulted = true then .faulted
    else if (s.drive d).strike ≠ none then .striking
    else if (s.account d).purge ≠ none then .purging
    else if (Bank.read s.ts.drives d).enabled = true ∧ (s.ch (strikeChannel d)).mode = .strobe then .ready
    else .disabled) := by
  simp [State.driveState, State.driveEnabled, Option.isSome_iff_ne_none]

/-- A drive is outstanding when it is planned and neither done nor in flight (R65). -/
theorem has_outstanding_iff (d : DriveId) (b : Bed) : DriveSet.has d b.outstanding = true ↔
    DriveSet.has d b.planned = true ∧ DriveSet.has d b.done = false ∧ DriveSet.has d b.inFlight = false := by
  simp [DriveSet.has, Bed.outstanding]

theorem spaced_iff (begun : Option Nat) (gap t : Nat) :
    spaced begun gap t = true ↔ ∀ b, begun = some b → b + gap ≤ t := by
  cases begun <;> simp [spaced]

theorem strikable_iff (d : DriveId) (s : State) : s.strikable d = true ↔
    s.driveState d = .ready ∧ (s.account d).temperature ≠ .hot ∧ (s.account d).debt < 24
      ∧ (∃ b, s.ss.bed = some b ∧ b.lift.state = some .onBed ∧ b.lift.mode = some .strike
          ∧ DriveSet.has d b.planned = true ∧ DriveSet.has d b.done = false ∧ DriveSet.has d b.inFlight = false)
      ∧ (s.ch 0).mode = .hold ∧ (s.ch 0).output = true ∧ s.lsv.lineState ≠ .safeStop := by
  simp only [State.strikable, State.hot, State.forced, State.clampClosed, Bed.onBed, Bed.isStrike,
    Bool.and_eq_true, decide_eq_true_iff, Bool.not_eq_true', decide_eq_false_iff_not, Option.any_eq_true,
    has_outstanding_iff, not_le, and_assoc, ne_eq]

/-- A strike is held back by the conditions of R78. -/
theorem eligible_iff (d : DriveId) (s : State) : s.eligible d = true ↔
    s.driveState d = .ready ∧ (s.account d).temperature ≠ .hot ∧ (s.account d).debt < 24
      ∧ (∃ b, s.ss.bed = some b ∧ b.lift.state = some .onBed ∧ b.lift.mode = some .strike
          ∧ DriveSet.has d b.planned = true ∧ DriveSet.has d b.done = false ∧ DriveSet.has d b.inFlight = false)
      ∧ (s.ch 0).mode = .hold ∧ (s.ch 0).output = true ∧ s.lsv.lineState ≠ .safeStop
      ∧ (∀ t, (s.drive d).lastBegin = some t → t + (Bank.read s.ts.drives d).spacing ≤ s.nowMs)
      ∧ (∀ t, s.ss.history.getLast? = some t → t + s.ts.settings.crossSpacing ≤ s.nowMs)
      ∧ s.ss.history.countP (fun t => decide (s.nowMs - t ≤ s.ts.settings.strikeWindow)) < 4 := by
  simp only [State.eligible, State.spacingMet, Bool.and_eq_true, strikable_iff, spaced_iff, decide_eq_true_iff,
    and_assoc]
  rfl

theorem nextStrike_of_none {s : State} (none : ∀ d, s.eligible d = false) : s.nextStrike = .none := by
  simp [State.nextStrike, none]

theorem nextStrike_of_first {s : State} {d : DriveId} (here : s.eligible d = true)
    (first : ∀ x, x < d → s.eligible x = false) : s.nextStrike = some d :=
  find_finRange_of_first here first

theorem pushHistory_eq (t : Nat) (h : List Nat) :
    pushHistory t h = (if h.length < 4 then h else h.drop 1) ++ [t] := by
  simp only [pushHistory, List.length_append, List.length_singleton]
  split
  · next full =>
    rw [if_neg (by omega), List.drop_append_of_le_length (by omega)]
  · next room => rw [if_pos (by omega)]

theorem strikeChannel_ready {d : DriveId} {s : State} (ready : s.driveState d = .ready) :
    (s.ch (strikeChannel d)).mode = .strobe := by
  rw [driveState_eq] at ready
  split_ifs at ready with _ _ _ enabled
  exact enabled.2

theorem workingMode_strikeChannel (d : DriveId) : workingMode (strikeChannel d) = .strobe := by
  fin_cases d <;> rfl

/-- Settles O29. -/
theorem strikeBeginsOnLowestEligibleDrive : Obligations.StrikeBeginsOnLowestEligibleDrive := by
  refine ⟨fun s d => ⟨driveState_eq d s, eligible_iff d s⟩, fun s awake => ⟨fun none => ?_, ?_⟩⟩
  · refine (takeEvent_awake awake).trans (congrArg _ ?_)
    rw [State.strikeBegin, nextStrike_of_none none]
  · intro d here first b bed idle
    refine (takeEvent_awake awake).trans (congrArg _ ?_)
    rw [State.strikeBegin, nextStrike_of_first here first]
    obtain ⟨ready, _, _, _, _, _, running, _⟩ := (eligible_iff d s).1 here
    have hears : s.channelHears (strikeChannel d) = true :=
      (channelHears_iff _ s).2 ⟨(strikeChannel_ready ready).trans (workingMode_strikeChannel d).symm, running⟩
    dsimp only
    unfold State.beginStrike
    dsimp only
    rw [bed]
    refine Eq.trans (triggerStrobe_of_idle ?hears ?idle) ?struck
    case hears => exact hears
    case idle => exact idle
    simp only [State.setDrive, State.setBed, State.setCh, Option.map_some, pushHistory_eq]
    rfl

end Sys2Proof.Machine

/-! Effects up to reports: what an operation makes of everything but the Link Port, the Line Monitor's latches and
levels and the Line Supervisor. With them, a fault raised against a book (R4), and what it does to the finish
sequence of the finish book (R148). -/

namespace Sys2Proof.Machine

open Sys2Proof Sys2Proof.Safety

set_option Elab.async false

/-! ## Effects up to reports -/

/-- Beside reports and the Line Supervisor, `t` is `v`, and both have counted the same. -/
def Alike (v t : State) : Prop := t = { v with lp := t.lp, lm := t.lm, lsv := t.lsv } ∧ t.lm.work = v.lm.work

theorem Alike.refl (s : State) : Alike s s := ⟨rfl, rfl⟩

theorem Alike.trans {s t u : State} (a : Alike s t) (b : Alike t u) : Alike s u := by
  obtain ⟨frame, counts⟩ := a
  obtain ⟨frame', counts'⟩ := b
  refine ⟨?_, counts'.trans counts⟩
  rw [frame', frame]

theorem Settled.alike {s t : State} (h : Settled s t) : Alike s t := ⟨h.1, h.2.1.1.work_eq⟩

theorem Alike.tcu {v t : State} (a : Alike v t) : t.tcu = v.tcu := (congrArg State.tcu a.1 :)
theorem Alike.si {v t : State} (a : Alike v t) : t.si = v.si := (congrArg State.si a.1 :)
theorem Alike.lb {v t : State} (a : Alike v t) : t.lb = v.lb := (congrArg State.lb a.1 :)
theorem Alike.ts {v t : State} (a : Alike v t) : t.ts = v.ts := (congrArg State.ts a.1 :)
theorem Alike.ss {v t : State} (a : Alike v t) : t.ss = v.ss := (congrArg State.ss a.1 :)
theorem Alike.orders {v t : State} (a : Alike v t) : t.orders = v.orders := (congrArg State.orders a.1 :)
theorem Alike.pc {v t : State} (a : Alike v t) : t.pc = v.pc := (congrArg State.pc a.1 :)
theorem Alike.fu {v t : State} (a : Alike v t) : t.fu = v.fu := (congrArg State.fu a.1 :)

theorem Alike.book {v t : State} (a : Alike v t) (i : Slot) : t.book i = v.book i := by rw [State.book, a.si]; rfl

theorem Alike.order {v t : State} (a : Alike v t) (st : Station) : t.order st = v.order st := by
  rw [State.order, a.orders]; rfl

theorem Alike.ch {v t : State} (a : Alike v t) (i : ChannelId) : t.ch i = v.ch i := by rw [State.ch, a.tcu]; rfl

/-! ## A book revised -/

/-- The book of a slot changed, the Recovery Record left aside. -/
def State.reviseBook (i : Slot) (f : Book → Book) (s : State) : State :=
  { s with si := { s.si with books := Bank.write s.si.books i ((s.book i).map f) } }

theorem modifyBook_alike (i : Slot) (f : Book → Book) (s : State) : Alike (s.reviseBook i f) (s.modifyBook i f) :=
  ⟨rfl, rfl⟩

theorem book_reviseBook_same (i : Slot) (f : Book → Book) (s : State) :
    (s.reviseBook i f).book i = (s.book i).map f := Bank.read_write_same _ _ _

theorem book_reviseBook_ne {i j : Slot} (other : j ≠ i) (f : Book → Book) (s : State) :
    (s.reviseBook i f).book j = s.book j := Bank.read_write_ne _ _ other

theorem reviseBook_onlyBook (i : Slot) (f : Book → Book) (s : State) : OnlyBook i s (s.reviseBook i f) :=
  ⟨rfl, fun _ other => book_reviseBook_ne other f s⟩

theorem reviseBook_of_fixed {i : Slot} {f : Book → Book} {s : State} (fixed : (s.book i).map f = s.book i) :
    s.reviseBook i f = s := by
  rw [State.reviseBook, fixed, State.book, Bank.write_read]

theorem reviseBook_reviseBook (i : Slot) (f g : Book → Book) (s : State) :
    (s.reviseBook i f).reviseBook i g = s.reviseBook i (g ∘ f) := by
  have twice : ((s.reviseBook i f).book i).map g = (s.book i).map (g ∘ f) := by
    rw [book_reviseBook_same, Option.map_map]
  rw [State.reviseBook, twice]
  unfold State.reviseBook
  dsimp only
  rw [Bank.write_write]

theorem Alike.onlyBook {i : Slot} {s v t : State} (a : Alike v t) (only : OnlyBook i s v) : OnlyBook i s t := by
  obtain ⟨frame, others⟩ := only
  refine ⟨?_, fun j other => (a.book j).trans (others j other)⟩
  rw [a.si]
  exact frame

/-! ## Faults (R4) -/

theorem addFault_eq (c : FaultCause) (k : Book) : k.addFault c = faulted c k := by
  obtain ⟨_, _, _, _, _, _, _, _, _, fault⟩ := k
  cases fault <;> rfl

theorem faulted_of_faulted {c : FaultCause} {k : Book} (fault : k.fault ≠ none) : faulted c k = k := by
  obtain ⟨_, _, _, _, _, _, _, _, _, _ | x⟩ := k
  · exact absurd rfl fault
  · rfl

theorem faultFree_iff (i : Slot) (s : State) : s.faultFree i = true ↔ ∃ b, s.book i = some b ∧ b.fault = none := by
  simp [State.faultFree, Option.any_eq_true]

theorem raiseFault_of_faulted {i : Slot} {c : FaultCause} {s : State} (free : s.faultFree i = false) :
    s.raiseFault i c = s := if_neg (by rw [free]; exact Bool.false_ne_true)

theorem raiseFault_of_free {i : Slot} {c : FaultCause} {s : State} (free : s.faultFree i = true) :
    s.raiseFault i c = (s.modifyBook i (faulted c)).tellFinish i := by
  have same : Book.addFault c = faulted c := funext (addFault_eq c)
  rw [State.raiseFault, if_pos free, same]

theorem tellFinish_of_notFinishing {i : Slot} {s : State} (apart : NotFinishing i s) : s.tellFinish i = s := by
  unfold State.tellFinish
  split
  · rfl
  · next f e => exact if_neg (apart f e)

theorem tellFinish_of_finish {s : State} {f : Finish} (e : s.fu.finish = some f) :
    s.tellFinish f.book = s.reactToFault f := by
  rw [State.tellFinish, e]
  exact if_pos rfl

/-- Where no book of the slot is without a fault, marking one changes nothing. -/
theorem reviseBook_faulted {i : Slot} {c : FaultCause} {s : State} (free : s.faultFree i = false) :
    s.reviseBook i (faulted c) = s := by
  apply reviseBook_of_fixed
  cases e : s.book i with
  | none => rfl
  | some k =>
    refine congrArg some (faulted_of_faulted fun fault => ?_)
    rw [(faultFree_iff i s).2 ⟨k, e, fault⟩] at free
    cases free

/-- A fault of a book that is not the finish book is recorded and does nothing else. -/
theorem raiseFault_alike {i : Slot} {s : State} (c : FaultCause) (apart : NotFinishing i s) :
    Alike (s.reviseBook i (faulted c)) (s.raiseFault i c) := by
  cases free : s.faultFree i with
  | false =>
    rw [reviseBook_faulted free, raiseFault_of_faulted free]
    exact .refl s
  | true =>
    rw [raiseFault_of_free free, tellFinish_of_notFinishing (s := s.modifyBook i (faulted c)) apart]
    exact modifyBook_alike i _ s

/-! ## The finish book -/

/-- EXIT starts. -/
theorem startExit_alike (f : Finish) (s : State) : Alike
    { s.reviseBook f.book (Book.advance .finishing .leaving) with
      fu := { s.fu with finish := some { f with step := .exit } }
      orders := Bank.write s.orders (stationIndex .exitTransfer) (some (orderMade .exitTransfer s)) }
    (s.startExit f) := ⟨rfl, rfl⟩

theorem withdrawForExit_of_waiting {st : Station} {f : Finish} {s : State} (waits : s.orderWaits st = true) :
    s.withdrawForExit st f = (s.endOrder st).startExit f := if_pos waits

theorem withdrawForExit_of_issued {st : Station} {f : Finish} {s : State} (issued : s.orderWaits st = false) :
    s.withdrawForExit st f = s := if_neg (by rw [issued]; exact Bool.false_ne_true)

theorem feedInFlight_iff (s : State) : s.feedInFlight = true ↔ (s.ch 6).mode = .pitch ∧ (s.ch 6).phase ≠ .idle := by
  simp [State.feedInFlight, Channel.running]

/-- What of the finish sequence a fault does not disturb. -/
theorem reactToFault_of_undisturbed {f : Finish} {s : State}
    (undisturbed : f.step = .transferIn ∨ f.step = .exit ∨ f.step = .exitRun
      ∨ (f.step = .drill ∧ f.bitWait = false ∧ s.orderWaits .drill = false)
      ∨ (f.step = .hanger ∧ s.orderWaits .hanger = false) ∨ (f.step = .close ∧ s.orderWaits .closer = false)
      ∨ (f.step = .feed ∧ (((s.ch 6).mode = .pitch ∧ (s.ch 6).phase ≠ .idle) ∨ s.lsv.lineState = .safeStop))) :
    s.reactToFault f = s := by
  unfold State.reactToFault
  rcases undisturbed with e | e | e | ⟨e, unblocked, issued⟩ | ⟨e, issued⟩ | ⟨e, issued⟩ | ⟨e, runs⟩ <;> simp only [e]
  · rw [if_neg (by rw [unblocked]; exact Bool.false_ne_true), withdrawForExit_of_issued issued]
  · exact withdrawForExit_of_issued issued
  · exact withdrawForExit_of_issued issued
  · exact if_pos (runs.imp_left (feedInFlight_iff s).2)

/-- An order of its step that waits for Ready is withdrawn. -/
theorem reactToFault_of_waiting {f : Finish} {s : State} {st : Station} (waits : s.orderWaits st = true)
    (step : (f.step = .drill ∧ f.bitWait = false ∧ st = .drill) ∨ (f.step = .hanger ∧ st = .hanger)
      ∨ (f.step = .close ∧ st = .closer)) : s.reactToFault f = (s.endOrder st).startExit f := by
  unfold State.reactToFault
  rcases step with ⟨e, unblocked, rfl⟩ | ⟨e, rfl⟩ | ⟨e, rfl⟩ <;> simp only [e]
  · rw [if_neg (by rw [unblocked]; exact Bool.false_ne_true), withdrawForExit_of_waiting waits]
  · exact withdrawForExit_of_waiting waits
  · exact withdrawForExit_of_waiting waits

end Sys2Proof.Machine

/-! Levels and hold sources as they stand after a report, and requests whose work is made of primitive updates.
With them, faults raised against the finish book by Book Cancel (R8, R148). -/

namespace Sys2Proof.Machine

open Sys2Proof Sys2Proof.Safety

set_option Elab.async false

/-! ## Levels -/

theorem Condition.number_lt (c : Condition) : c.number < 16 := by cases c <;> decide

theorem put_getLsbD (c : Condition) (p : Bool) (x : Half) (n : Nat) :
    (c.put p x).getLsbD n = if n = c.number then p else x.getLsbD n := by
  have bound := c.number_lt
  have mask : c.mask.getLsbD n = decide (n = c.number) := by
    simp only [Condition.mask, BitVec.getLsbD_shiftLeft, BitVec.getLsbD_one]
    grind
  unfold Condition.put
  split
  · next on =>
    rw [BitVec.getLsbD_or, mask]
    by_cases same : n = c.number <;> simp [same, on]
  · next off =>
    rw [BitVec.getLsbD_and, BitVec.getLsbD_not, mask]
    by_cases same : n = c.number
    · simp [same, off]
    · simp only [same, decide_false, Bool.not_false, Bool.and_true, if_false]
      by_cases inside : n < 16
      · simp [inside]
      · simp [BitVec.getLsbD_of_ge _ _ (not_lt.1 inside)]

/-- A reported level is live, and no other changes. -/
theorem live_reportLevel (c : Condition) (p : Bool) (s : State) (n : Nat) :
    (s.reportLevel c p).lm.live.getLsbD n = if n = c.number then p else s.lm.live.getLsbD n := by
  change (s.lm.report c p).live.getLsbD n = _
  unfold LineMonitor.report
  split
  · next same =>
    split
    · next e => rw [e]; exact same
    · rfl
  · split <;> exact put_getLsbD c p _ n

theorem live_reportLevel_ne {c : Condition} {n : Nat} (other : n ≠ c.number) (p : Bool) (s : State) :
    (s.reportLevel c p).lm.live.getLsbD n = s.lm.live.getLsbD n := by
  rw [live_reportLevel, if_neg other]

/-- The levels that a move of the line state does not report. -/
def OffLine (n : Nat) : Prop := n ≠ 1 ∧ n ≠ 2 ∧ n ≠ 13

theorem live_moveLine {n : Nat} (off : OffLine n) (l : LineState) (s : State) :
    (s.moveLine l).lm.live.getLsbD n = s.lm.live.getLsbD n := by
  obtain ⟨pause, held, stop⟩ := off
  unfold State.moveLine State.syncPause
  dsimp only
  rw [live_reportLevel_ne (c := .pause) pause, live_reportLevel_ne (c := .safeStop) stop,
    live_reportLevel_ne (c := .held) held]

theorem live_releaseIfFree {n : Nat} (off : OffLine n) (s : State) :
    s.releaseIfFree.lm.live.getLsbD n = s.lm.live.getLsbD n := by
  unfold State.releaseIfFree
  split
  · exact live_moveLine off _ s
  · rfl

theorem live_presentHold {n : Nat} (off : OffLine n) (x : HoldSource) (on : Bool) (s : State) :
    (s.presentHold x on).lm.live.getLsbD n = s.lm.live.getLsbD n := by
  unfold State.presentHold
  split
  · rfl
  · split
    · unfold State.addHold
      dsimp only
      split
      · exact live_moveLine off _ _
      · rfl
    · exact live_releaseIfFree off _

theorem live_testRest {n : Nat} (off : OffLine n) (s : State) :
    s.testRest.lm.live.getLsbD n = s.lm.live.getLsbD n := by
  unfold State.testRest
  split
  · exact live_moveLine off _ s
  · rfl

theorem live_follow {n : Nat} (off : OffLine n) (c : Condition) (x : HoldSource) (on : Bool) (s : State) :
    (s.follow c x on).lm.live.getLsbD n = if n = c.number then on else s.lm.live.getLsbD n := by
  rw [State.follow, live_presentHold off, live_reportLevel]

/-! ## Hold sources -/

theorem holds_releaseIfFree (s : State) : s.releaseIfFree.lsv.holds = s.lsv.holds := by
  unfold State.releaseIfFree
  split <;> rfl

theorem holds_testRest (s : State) : s.testRest.lsv.holds = s.lsv.holds := by
  unfold State.testRest
  split <;> rfl

theorem holds_addHold (x : HoldSource) (s : State) : (s.addHold x).lsv.holds = s.lsv.holds.put x true := by
  unfold State.addHold
  dsimp only
  split <;> rfl

theorem HoldSources.put_has (x : HoldSource) (h : HoldSources) : h.put x (h.has x) = h := by cases x <;> rfl

theorem HoldSources.has_put (x y : HoldSource) (on : Bool) (h : HoldSources) :
    (h.put x on).has y = if y = x then on else h.has y := by cases x <;> cases y <;> rfl

theorem holds_presentHold (x : HoldSource) (on : Bool) (s : State) :
    (s.presentHold x on).lsv.holds = s.lsv.holds.put x on := by
  unfold State.presentHold
  split
  · next same =>
    subst same
    exact (HoldSources.put_has x _).symm
  · split
    · next set =>
      subst set
      exact holds_addHold x s
    · next unset =>
      obtain rfl := Bool.eq_false_iff.2 unset
      exact holds_releaseIfFree _

theorem holds_follow (c : Condition) (x : HoldSource) (on : Bool) (s : State) :
    (s.follow c x on).lsv.holds = s.lsv.holds.put x on := holds_presentHold x on _

theorem holds_endOrder (st : Station) (s : State) :
    (s.endOrder st).lsv.holds = s.lsv.holds.put .stationWait (s.setOrder st none).anyOverdue := holds_follow _ _ _ _

/-! ## Requests made of primitive updates -/

theorem answeredLast_of_noticed {s w : State} (noticed : Noticed (admitted s) w) (tag kind : Byte) (r : Result)
    (data : List Byte) :
    AnsweredLast tag kind r data s (w.setLp (w.lp.answer (.answer tag kind r.code data))) := by
  refine ⟨by simp [State.setLp, LinkPort.answer], ?_⟩
  unfold Noticed at noticed
  simp only [State.setLp, LinkPort.answer]
  rw [noticed]
  rfl

/-- A served request whose owner's work is made of primitive updates is answered last; the rest is as the owner
left it. -/
theorem take_moves {f : Frame} {act : State → State × Reply} {s w : State} {r : Reply} (served : Served s)
    (acted : act (admitted s) = (w, r)) (m : Moves (admitted s) w) :
    ∃ t, takeRequest f act s = .next t ∧ AnsweredLast f.tag f.kind r.result r.data s t
      ∧ LineFollowed s t ∧ Watched s t ∧ t = { w with lp := t.lp } := by
  refine ⟨_, take_served served, ?_⟩
  rw [acted]
  exact ⟨answeredLast_of_noticed m.noticed _ _ _ _, m.followed, m.watched, rfl⟩

theorem Alike.of_link {v w t : State} (a : Alike v w) (e : t = { w with lp := t.lp }) : Alike v t := by
  obtain ⟨frame, counts⟩ := a
  refine ⟨?_, (congrArg (fun x => x.lm.work) e).trans counts⟩
  rw [e, frame]

/-! ## Book Cancel of a book past COLLECTING -/

theorem bookCancel_of_book {id : Half} {i : Slot} {b : Book} {s : State} (found : s.findBook id = some i)
    (book : s.book i = some b) : s.bookCancel id = doneWith (s.cancelBook i b).testRest := by
  rw [State.bookCancel, found]
  dsimp only
  rw [book]

theorem cancelBook_of_past {b : Book} (opened : b.stage ≠ .opened) (collecting : b.stage ≠ .collecting) (i : Slot)
    (s : State) : s.cancelBook i b = s.raiseFault i .cancelled := by
  unfold State.cancelBook
  split
  · next e => exact absurd e opened
  · next e => exact absurd e collecting
  all_goals rfl

/-- The Cancel of a book past COLLECTING raises its fault and tests for rest. -/
theorem exec_bookCancel_past {s : State} (served : Served s) (tag : Byte) {id : Half} {i : Slot} {b : Book}
    (found : s.findBook id = some i) (book : s.book i = some b) (opened : b.stage ≠ .opened)
    (collecting : b.stage ≠ .collecting) :
    ∃ t, exec (.bookCancel tag id) s = .next t ∧ AnsweredLast tag 0x03 .done [] s t
      ∧ LineFollowed s t ∧ Watched s t ∧ t = { ((admitted s).raiseFault i .cancelled).testRest with lp := t.lp } := by
  refine take_moves (f := ⟨0x03, tag, halfBytes id⟩) (act := State.bookCancel id) served (r := .done) ?_
    ((moves_raiseFault _ _ _).trans (moves_testRest _))
  rw [bookCancel_of_book (s := admitted s) found book, cancelBook_of_past opened collecting]
  rfl

/-! ## Faults of the finish book -/

theorem modifyBook_lineState (i : Slot) (f : Book → Book) (s : State) :
    (s.modifyBook i f).lsv.lineState = s.lsv.lineState := mirror_lineState _ _ _

theorem modifyBook_holds (i : Slot) (f : Book → Book) (s : State) : (s.modifyBook i f).lsv.holds = s.lsv.holds := by
  change (s.lsv.mirror i _).holds = _
  rw [mirror_keeps]

theorem unblock_settled (f : Finish) (s : State) :
    Settled (s.setFinish (some { f with bitWait := false })) (s.unblock f) := follow_settled _ _ _ _

/-- What EXIT makes of two states that differ in reports is alike. -/
theorem startExit_of_alike {v t : State} (a : Alike v t) (f : Finish) : Alike
    { v.reviseBook f.book (Book.advance .finishing .leaving) with
      fu := { v.fu with finish := some { f with step := .exit } }
      orders := Bank.write v.orders (stationIndex .exitTransfer) (some (orderMade .exitTransfer v)) }
    (t.startExit f) := by
  obtain ⟨frame, counts⟩ := a
  refine Alike.trans ⟨?_, ?_⟩ (startExit_alike f t)
  · rw [frame]
    rfl
  · exact counts

theorem raiseFault_of_finish {c : FaultCause} {s : State} {f : Finish} {b : Book} (finish : s.fu.finish = some f)
    (book : s.book f.book = some b) (free : b.fault = none) :
    s.raiseFault f.book c = (s.modifyBook f.book (faulted c)).reactToFault f :=
  (raiseFault_of_free ((faultFree_iff _ _).2 ⟨b, book, free⟩)).trans
    (tellFinish_of_finish (s := s.modifyBook f.book (faulted c)) finish)

/-- A fault that does not disturb the finish sequence is recorded and does nothing else. -/
theorem raiseFault_of_undisturbed {c : FaultCause} {s : State} {f : Finish} {b : Book} (finish : s.fu.finish = some f)
    (book : s.book f.book = some b)
    (undisturbed : b.fault ≠ none ∨ f.step = .transferIn ∨ f.step = .exit ∨ f.step = .exitRun
      ∨ (f.step = .drill ∧ f.bitWait = false ∧ s.orderWaits .drill = false)
      ∨ (f.step = .hanger ∧ s.orderWaits .hanger = false) ∨ (f.step = .close ∧ s.orderWaits .closer = false)
      ∨ (f.step = .feed ∧ (((s.ch 6).mode = .pitch ∧ (s.ch 6).phase ≠ .idle) ∨ s.lsv.lineState = .safeStop))) :
    Alike (s.reviseBook f.book (faulted c)) (s.raiseFault f.book c) := by
  by_cases fault : b.fault = none
  · have calm := undisturbed.resolve_left (not_not.2 fault)
    rw [raiseFault_of_finish finish book fault, reactToFault_of_undisturbed]
    · exact modifyBook_alike _ _ s
    · rw [modifyBook_lineState]
      exact calm
  · have free : s.faultFree f.book = false := by
      rw [Bool.eq_false_iff, Ne, faultFree_iff]
      rintro ⟨k, e, none⟩
      rw [book] at e
      exact fault (Option.some.inj e ▸ none)
    rw [reviseBook_faulted free, raiseFault_of_faulted free]
    exact .refl s

/-- The book of a state in which it was faulted and then advanced to LEAVING. -/
theorem book_faulted_leaving {c : FaultCause} {i : Slot} {s : State} {b : Book} (book : s.book i = some b)
    (stage : b.stage = .finishing ∨ b.stage = .leaving) :
    ((s.reviseBook i (faulted c)).reviseBook i (Book.advance .finishing .leaving)).book i =
      some { faulted c b with stage := .leaving } := by
  rw [reviseBook_reviseBook, book_reviseBook_same, book]
  rcases stage with e | e
  · simp [Book.advance, faulted, e]
  · simp [Book.advance, faulted, e]

theorem twice_onlyBook (i : Slot) (f g : Book → Book) (s : State) : OnlyBook i s ((s.reviseBook i f).reviseBook i g) := by
  rw [reviseBook_reviseBook]
  exact reviseBook_onlyBook i _ s

theorem order_write (st x : Station) (o : Option Order) (s : State) :
    State.order x { s with orders := Bank.write s.orders (stationIndex st) o } = if x = st then o else s.order x :=
  order_setOrder st x o s

theorem onlyOrder_write (st : Station) (o : Option Order) (s : State) :
    OnlyOrder st s { s with orders := Bank.write s.orders (stationIndex st) o } := fun x other => by
  rw [order_write, if_neg other]

end Sys2Proof.Machine

/-! Faults during the finish sequence (R148), raised by Book Cancel. -/

namespace Sys2Proof.Machine

open Sys2Proof Sys2Proof.Safety

set_option Elab.async false

/-- The state in which the finish book has been faulted and goes to EXIT, its step's orders as `orders`. -/
def State.sentToExit (c : FaultCause) (f : Finish) (orders : Vector (Option Order) 6) (s : State) : State :=
  { (s.reviseBook f.book (faulted c)).reviseBook f.book (Book.advance .finishing .leaving) with
    fu := { s.fu with finish := some { f with step := .exit } }
    orders := Bank.write orders (stationIndex .exitTransfer) (some (orderMade .exitTransfer s)) }

/-- A block for the bit has ended before a fault sends the book on. -/
theorem unblock_faulted_alike (c : FaultCause) (f : Finish) (s : State) : Alike
    { s.reviseBook f.book (faulted c) with fu := { s.fu with finish := some { f with bitWait := false } } }
    ((s.modifyBook f.book (faulted c)).unblock f) :=
  Alike.trans ⟨rfl, rfl⟩ (unblock_settled f _).alike

section

variable {c : FaultCause} {s : State} {f : Finish} {b : Book} (finish : s.fu.finish = some f)
  (book : s.book f.book = some b) (free : b.fault = none)

include finish book free

/-- An order of the book's step that waits for Ready is withdrawn, and the book goes to EXIT. -/
theorem raiseFault_of_waiting {st : Station} (waits : s.orderWaits st = true)
    (step : (f.step = .drill ∧ f.bitWait = false ∧ st = .drill) ∨ (f.step = .hanger ∧ st = .hanger)
      ∨ (f.step = .close ∧ st = .closer)) :
    Alike (s.sentToExit c f (Bank.write s.orders (stationIndex st) none)) (s.raiseFault f.book c) := by
  have reacts : (s.modifyBook f.book (faulted c)).reactToFault f =
      ((s.modifyBook f.book (faulted c)).endOrder st).startExit f := reactToFault_of_waiting waits step
  rw [raiseFault_of_finish finish book free, reacts]
  refine startExit_of_alike (v := { s.reviseBook f.book (faulted c) with
    orders := Bank.write s.orders (stationIndex st) none }) ?_ f
  exact Alike.trans ⟨rfl, rfl⟩ (endOrder_settled st (s.modifyBook f.book (faulted c))).alike

/-- A feed that waits for PITCH is given up. -/
theorem raiseFault_of_feed (step : f.step = .feed) (waits : (s.ch 6).mode ≠ .pitch ∨ (s.ch 6).phase = .idle)
    (running : s.lsv.lineState ≠ .safeStop) :
    Alike (s.sentToExit c f s.orders) (s.raiseFault f.book c) := by
  have reacts : (s.modifyBook f.book (faulted c)).reactToFault f =
      (s.modifyBook f.book (faulted c)).startExit f := by
    simp only [State.reactToFault, step]
    refine if_neg ?_
    rw [modifyBook_lineState, feedInFlight_iff]
    rintro (⟨mode, phase⟩ | stopped)
    · exact waits.elim (absurd mode) (fun idle => phase idle)
    · exact running stopped
  rw [raiseFault_of_finish finish book free, reacts]
  exact startExit_of_alike (modifyBook_alike _ _ s) f

theorem raiseFault_of_blocked (step : f.step = .drill) (blocked : f.bitWait = true) :
    s.raiseFault f.book c =
      if s.lsv.lineState = .safeStop then (s.modifyBook f.book (faulted c)).unblock f
      else ((s.modifyBook f.book (faulted c)).unblock f).startExit { f with bitWait := false } := by
  have stopped : ((s.modifyBook f.book (faulted c)).unblock f).lsv.lineState = .safeStop ↔ s.lsv.lineState = .safeStop :=
    (moves_unblock f _).stopped_iff.trans (by rw [modifyBook_lineState])
  rw [raiseFault_of_finish finish book free]
  simp only [State.reactToFault, step, blocked, if_true, stopped]

/-- In SAFE_STOP the block alone ends. -/
theorem raiseFault_of_blocked_stopped (step : f.step = .drill) (blocked : f.bitWait = true)
    (stopped : s.lsv.lineState = .safeStop) : Alike
    { s.reviseBook f.book (faulted c) with fu := { s.fu with finish := some { f with bitWait := false } } }
    (s.raiseFault f.book c) := by
  rw [raiseFault_of_blocked finish book free step blocked, if_pos stopped]
  exact unblock_faulted_alike c f s

/-- Outside SAFE_STOP the block ends and the book goes to EXIT. -/
theorem raiseFault_of_blocked_running (step : f.step = .drill) (blocked : f.bitWait = true)
    (running : s.lsv.lineState ≠ .safeStop) :
    Alike (s.sentToExit c { f with bitWait := false } s.orders) (s.raiseFault f.book c) := by
  rw [raiseFault_of_blocked finish book free step blocked, if_neg running]
  exact startExit_of_alike (unblock_faulted_alike c f s) _

/-- The end of a block withdraws BIT_WORN, condition and hold source. -/
theorem raiseFault_of_blocked_bitWorn (step : f.step = .drill) (blocked : f.bitWait = true) :
    (s.raiseFault f.book c).lsv.holds.bitWorn = false ∧ (s.raiseFault f.book c).lm.live.getLsbD 6 = false := by
  have holds : ((s.modifyBook f.book (faulted c)).unblock f).lsv.holds.bitWorn = false :=
    congrArg HoldSources.bitWorn (holds_follow .bitWorn .bitWorn false _)
  have live : ((s.modifyBook f.book (faulted c)).unblock f).lm.live.getLsbD 6 = false :=
    live_follow ⟨by decide, by decide, by decide⟩ .bitWorn .bitWorn false _
  rw [raiseFault_of_blocked finish book free step blocked]
  split
  · exact ⟨holds, live⟩
  · exact ⟨(congrArg HoldSources.bitWorn (modifyBook_holds _ _ _)).trans holds, live⟩

end

section

variable {c : FaultCause} {s : State} {f : Finish} {b : Book} (book : s.book f.book = some b)
  (stage : b.stage = .finishing ∨ b.stage = .leaving) (orders : Vector (Option Order) 6)

theorem sentToExit_onlyBook : OnlyBook f.book s (s.sentToExit c f orders) := twice_onlyBook f.book _ _ s

theorem sentToExit_exitTransfer :
    (s.sentToExit c f orders).order .exitTransfer = some (orderMade .exitTransfer s) :=
  (order_write _ _ _ { s with orders := orders }).trans (if_pos rfl)

theorem sentToExit_order {x : Station} (other : x ≠ .exitTransfer) :
    (s.sentToExit c f orders).order x = Bank.read orders (stationIndex x) :=
  (order_write _ _ _ { s with orders := orders }).trans (if_neg other)

include book stage

theorem sentToExit_book : (s.sentToExit c f orders).book f.book = some { faulted c b with stage := .leaving } :=
  book_faulted_leaving book stage

end

/-- Settles O39: the finish step and its order decide what the fault does. -/
theorem faultsDuringFinish : Obligations.FaultsDuringFinish := by
  rintro s tag id i b f served found book finish rfl stage
  have opened : b.stage ≠ .opened := by rcases stage with e | e <;> rw [e] <;> decide
  have collecting : b.stage ≠ .collecting := by rcases stage with e | e <;> rw [e] <;> decide
  obtain ⟨t, taken, answered, followed, watched, e⟩ := exec_bookCancel_past served tag found book opened collecting
  have reached : ∀ {v}, Alike v ((admitted s).raiseFault f.book .cancelled) → Alike v t := fun a =>
    (a.trans (testRest_settled _).alike).of_link e
  refine ⟨fun undisturbed => ?_, fun free st o order waits step => ?_, fun free step blocked => ?_,
    fun free step waits running => ?_⟩
  · have a := reached (raiseFault_of_undisturbed (s := admitted s) finish book undisturbed)
    refine ⟨t, taken, a.1.trans (by rw [a.si]; rfl), (a.book _).trans ?_, a.onlyBook (reviseBook_onlyBook _ _ s),
      answered, watched_monitored watched a.2, followed⟩
    rw [book_reviseBook_same]
    exact congrArg _ book
  · have waiting : s.orderWaits st = true := by simp [State.orderWaits, order, waits]
    have a := reached (raiseFault_of_waiting (s := admitted s) finish book free waiting step)
    have apart : st ≠ .exitTransfer := by rcases step with ⟨_, _, rfl⟩ | ⟨_, rfl⟩ | ⟨_, rfl⟩ <;> decide
    refine ⟨t, taken, a.1.trans (by rw [a.si, a.orders]; rfl), (a.order _).trans ?_,
      (a.order _).trans (sentToExit_exitTransfer _), fun x other notExit => (a.order _).trans ?_,
      (a.book _).trans (sentToExit_book (s := admitted s) book stage _), a.onlyBook (sentToExit_onlyBook _), answered,
      watched_monitored watched a.2, followed⟩
    · exact (sentToExit_order _ apart).trans (Bank.read_write_same _ _ _)
    · exact (sentToExit_order _ notExit).trans ((order_write st x none (admitted s)).trans (if_neg other))
  · obtain ⟨holds, live⟩ := raiseFault_of_blocked_bitWorn (c := .cancelled) (s := admitted s) finish book free step blocked
    have withdrawn : t.lsv.holds.bitWorn = false ∧ t.lm.live.getLsbD 6 = false := by
      rw [e]
      exact ⟨(congrArg HoldSources.bitWorn (holds_testRest _)).trans holds,
        (live_testRest ⟨by decide, by decide, by decide⟩ _).trans live⟩
    by_cases stopped : s.lsv.lineState = .safeStop
    · have a := reached (raiseFault_of_blocked_stopped (s := admitted s) finish book free step blocked stopped)
      refine ⟨t, taken, a.1.trans ?_, withdrawn.1, withdrawn.2, fun _ => ⟨a.orders, (a.book _).trans ?_⟩,
        fun running => absurd stopped running, a.onlyBook (reviseBook_onlyBook _ _ s), answered,
        watched_monitored watched a.2, followed⟩
      · rw [a.si, a.orders, if_pos stopped, ← step]
        rfl
      · exact (book_reviseBook_same _ _ _).trans (congrArg _ book)
    · have a := reached (raiseFault_of_blocked_running (s := admitted s) finish book free step blocked stopped)
      refine ⟨t, taken, a.1.trans ?_, withdrawn.1, withdrawn.2, fun held => absurd held stopped, fun _ =>
        ⟨(a.order _).trans (sentToExit_exitTransfer _), fun x other => (a.order _).trans (sentToExit_order _ other),
        (a.book _).trans (sentToExit_book (s := admitted s) (f := { f with bitWait := false }) book stage _)⟩,
        a.onlyBook (sentToExit_onlyBook _), answered, watched_monitored watched a.2, followed⟩
      rw [a.si, a.orders, if_neg stopped]
      rfl
  · have a := reached (raiseFault_of_feed (s := admitted s) finish book free step waits running)
    refine ⟨t, taken, a.1.trans (by rw [a.si, a.orders]; rfl), (a.order _).trans (sentToExit_exitTransfer _),
      fun x other => (a.order _).trans (sentToExit_order _ other),
      (a.book _).trans (sentToExit_book (s := admitted s) book stage _), a.onlyBook (sentToExit_onlyBook _), answered,
      watched_monitored watched a.2, followed⟩

end Sys2Proof.Machine

/-! HOLD and RESUME (R162, R163), what rest is (R161), and SET MODE (R158). -/

namespace Sys2Proof.Machine

open Sys2Proof Sys2Proof.Safety

set_option Elab.async false

/-! ## Rest -/

theorem atRest_iff (s : State) : s.atRest = true ↔
    (∀ st, s.order st = none) ∧ (∀ d, (s.drive d).strike = none) ∧ (s.ch 6).phase = .idle
      ∧ (∀ f, s.fu.finish = some f → f.bitWait = true ∧ f.step ≠ .feed)
      ∧ ∀ b, s.ss.bed = some b → ∀ d, DriveSet.has d b.planned = true → DriveSet.has d b.done = false →
          DriveSet.has d b.inFlight = false → (s.account d).temperature = .hot := by
  have orders : s.noOrders = true ↔ ∀ st, s.order st = none := by
    simp only [State.noOrders, List.all_eq_true, Option.isNone_iff_eq_none]
    exact ⟨fun all st => all st (mem_stations st), fun all st _ => all st⟩
  have strikes : s.noStrikes = true ↔ ∀ d, (s.drive d).strike = none := by simp [State.noStrikes]
  have still : (s.ch 6).running = false ↔ (s.ch 6).phase = .idle := by simp [Channel.running]
  have bed : (s.ss.bed.all fun b => !b.anyOutstanding fun d => !s.hot d) = true ↔
      ∀ b, s.ss.bed = some b → ∀ d, DriveSet.has d b.planned = true → DriveSet.has d b.done = false →
        DriveSet.has d b.inFlight = false → (s.account d).temperature = .hot := by
    cases s.ss.bed <;> simp [Bed.anyOutstanding, has_outstanding_iff, State.hot, not_and]
  have finish : s.feeding = false ∧ (s.fu.finish.all fun f => f.bitWait) = true ↔
      ∀ f, s.fu.finish = some f → f.bitWait = true ∧ f.step ≠ .feed := by
    unfold State.feeding
    cases s.fu.finish <;> simp [and_comm]
  simp only [State.atRest, Bool.and_eq_true, Bool.not_eq_true', orders, strikes, still, bed, ← finish, and_assoc]
  tauto

theorem Alike.account {v t : State} (a : Alike v t) (d : DriveId) : t.account d = v.account d := by
  rw [State.account, a.pc]
  rfl

theorem Alike.drive {v t : State} (a : Alike v t) (d : DriveId) : t.drive d = v.drive d := by
  rw [State.drive, a.ss]
  rfl

theorem Alike.atRest {v t : State} (a : Alike v t) : t.atRest = v.atRest := by
  rw [Bool.eq_iff_iff, atRest_iff, atRest_iff, a.ss, a.fu]
  simp only [a.order, a.drive, a.ch, a.account]

/-! ## HOLD -/

theorem testRest_of_rest {s : State} (pending : s.lsv.lineState = .holdPending) (rest : s.atRest = true) :
    s.testRest = s.moveLine .held := if_pos ⟨pending, rest⟩

theorem testRest_of_busy {s : State} (busy : s.lsv.lineState ≠ .holdPending ∨ s.atRest = false) : s.testRest = s := by
  refine if_neg fun h => ?_
  rcases busy with other | active
  · exact other h.1
  · rw [h.2] at active
    cases active

theorem addHold_of_running {x : HoldSource} {s : State} (running : s.lsv.lineState = .running) :
    s.addHold x = (s.setHolds (s.lsv.holds.put x true)).moveLine .holdPending := if_pos running

theorem addHold_of_held {x : HoldSource} {s : State} (held : s.lsv.lineState ≠ .running) :
    s.addHold x = s.setHolds (s.lsv.holds.put x true) := if_neg held

/-- The line state once REQUEST has been added (R160 to R162). -/
theorem holdLine_lsv (s : State) : s.holdLine.lsv = { s.lsv with
    holds := { s.lsv.holds with request := true }
    moved := s.lsv.moved || decide (s.holdLine.lsv.lineState ≠ s.lsv.lineState)
    lineState :=
      if s.lsv.lineState = .running ∨ s.lsv.lineState = .holdPending then
        (if s.atRest = true then .held else .holdPending)
      else s.lsv.lineState } := by
  have rest : (s.addHold .request).atRest = s.atRest := (addHold_settled .request s).alike.atRest
  by_cases running : s.lsv.lineState = .running
  · have added : (s.addHold .request).lsv = { s.lsv with
        holds := { s.lsv.holds with request := true }, lineState := .holdPending, moved := true } :=
      congrArg State.lsv (addHold_of_running running)
    unfold State.holdLine
    by_cases still : s.atRest = true
    · rw [testRest_of_rest (congrArg LineSupervisor.lineState added) (rest.trans still), moveLine_lsv, added]
      simp [running, still]
    · rw [testRest_of_busy (.inr (rest.trans (Bool.eq_false_iff.2 still))), added]
      simp [running, still]
  · have added : (s.addHold .request).lsv = { s.lsv with holds := { s.lsv.holds with request := true } } :=
      congrArg State.lsv (addHold_of_held running)
    have line : (s.addHold .request).lsv.lineState = s.lsv.lineState := (congrArg LineSupervisor.lineState added :)
    unfold State.holdLine
    by_cases settles : s.lsv.lineState = .holdPending ∧ s.atRest = true
    · rw [testRest_of_rest (line.trans settles.1) (rest.trans settles.2), moveLine_lsv, added]
      simp [settles.1, settles.2]
    · rw [not_and_or, Bool.not_eq_true] at settles
      rw [testRest_of_busy (by rw [line, rest]; exact settles), added]
      by_cases pending : s.lsv.lineState = .holdPending
      · have busy : s.atRest = false := settles.resolve_left (not_not.2 pending)
        simp [pending, busy]
      · simp [running, pending]

theorem holdLine_settled (s : State) : Settled s s.holdLine := (addHold_settled _ s).trans (testRest_settled _)

/-! ## RESUME -/

theorem channelsWorking_iff (s : State) : s.channelsWorking = true ↔ ∀ i, (s.ch i).mode = workingMode i := by
  simp [State.channelsWorking]

/-- The line state once START and REQUEST have been withdrawn (R160, R163). -/
theorem withdrawRequests_lsv {s : State} (running : s.lsv.lineState ≠ .safeStop) : s.withdrawRequests.lsv = { s.lsv with
    holds := { s.lsv.holds with start := false, request := false }
    moved := s.lsv.moved || decide (s.withdrawRequests.lsv.lineState ≠ s.lsv.lineState)
    lineState :=
      if s.lsv.holds.bitWorn = false ∧ s.lsv.holds.driveHot = false ∧ s.lsv.holds.stationWait = false then .running
      else s.lsv.lineState } := by
  have free : ({ s.lsv.holds with start := false, request := false } : HoldSources).any = false ↔
      s.lsv.holds.bitWorn = false ∧ s.lsv.holds.driveHot = false ∧ s.lsv.holds.stationWait = false := by
    simp [HoldSources.any, and_assoc]
  unfold State.withdrawRequests State.releaseIfFree
  simp only [State.setHolds, free]
  by_cases none : s.lsv.holds.bitWorn = false ∧ s.lsv.holds.driveHot = false ∧ s.lsv.holds.stationWait = false
  · cases line : s.lsv.lineState with
    | safeStop => exact absurd line running
    | _ => simp [none]
  · simp [none]

theorem withdrawRequests_settled (s : State) : Settled s s.withdrawRequests :=
  (setHolds_settled _ s).trans (releaseIfFree_settled _)

/-- Settles O41. -/
theorem holdAndResume : Obligations.HoldAndResume := by
  refine ⟨fun s tag modeByte served => ⟨?_, fun barred => ?_, fun running working => ?_⟩, atRest_iff⟩
  · obtain ⟨t, taken, answered, _, watched, e⟩ := take_moves (f := lineControlFrame 0 tag modeByte)
      (act := fun s => doneWith s.holdLine) served rfl (moves_holdLine _)
    have a := (holdLine_settled (admitted s)).alike.of_link e
    have line : t.lsv = (admitted s).holdLine.lsv := (congrArg State.lsv e :)
    refine ⟨t, taken, a.1.trans ?_, answered, watched_monitored watched a.2⟩
    rw [line]
    have lsv := holdLine_lsv (admitted s)
    exact congrArg (fun x => ({ s with lp := t.lp, lm := t.lm, lsv := x } : State)) lsv
  · refine take_refused served (if_pos (barred.imp_right fun idle => ?_))
    rw [Bool.eq_false_iff, Ne, channelsWorking_iff, not_forall]
    exact idle
  · have act : (admitted s).resumeLine = doneWith (admitted s).withdrawRequests :=
      if_neg (not_or.2 ⟨running, by rw [Bool.not_eq_false, channelsWorking_iff]; exact working⟩)
    obtain ⟨t, taken, answered, _, watched, e⟩ := take_moves (f := lineControlFrame 1 tag modeByte) served act
      ((Move.holds _ _).moves.trans (moves_releaseIfFree _))
    have a := (withdrawRequests_settled (admitted s)).alike.of_link e
    have line : t.lsv = (admitted s).withdrawRequests.lsv := (congrArg State.lsv e :)
    refine ⟨t, taken, a.1.trans ?_, answered, watched_monitored watched a.2⟩
    rw [line]
    have lsv := withdrawRequests_lsv (s := admitted s) running
    exact congrArg (fun x => ({ s with lp := t.lp, lm := t.lm, lsv := x } : State)) lsv

end Sys2Proof.Machine

/-! Quarter timers that first run (R96), and SET MODE (R158). -/

namespace Sys2Proof.Machine

open Sys2Proof Sys2Proof.Safety

set_option Elab.async false

/-! ## Quarter timers -/

theorem account_fixTimers (d : DriveId) (s : State) : s.fixTimers.account d = s.fixedAccount d :=
  Bank.read_tabulate _ d

theorem fixedAccount_purge (d : DriveId) (s : State) : (s.fixedAccount d).purge = (s.account d).purge := by
  unfold State.fixedAccount
  dsimp only
  split <;> rfl

theorem driveState_fixTimers (d : DriveId) (s : State) : s.fixTimers.driveState d = s.driveState d := by
  have purge : (s.fixTimers.account d).purge = (s.account d).purge := by rw [account_fixTimers, fixedAccount_purge]
  unfold State.driveState
  rw [purge]
  rfl

theorem suspended_fixTimers (d : DriveId) (s : State) : Suspended d s.fixTimers ↔ Suspended d s := by
  unfold Suspended
  rw [driveState_fixTimers]
  rfl

/-- The intervals of a state with the accounts of `s` that first run take their length. -/
theorem fixTimers_timersFixed {s w : State} (pc : w.pc = s.pc) : TimersFixed s w.fixTimers := by
  have account : ∀ d, w.account d = s.account d := fun d => by rw [State.account, pc]; rfl
  refine ⟨(congrArg PurgeController.air pc :), fun d => ?_⟩
  rw [account_fixTimers, suspended_fixTimers, ← w.timerSuspended_iff d, State.fixedAccount, account]
  dsimp only
  refine ⟨fun unset runs => ?_, fun kept => ?_⟩
  · rw [if_pos (by simp [unset, runs])]
    rfl
  · refine if_neg fun takes => ?_
    simp only [Bool.and_eq_true, Option.isNone_iff_eq_none, Bool.not_eq_true'] at takes
    rcases kept with set | suspended
    · exact set takes.1
    · rw [takes.2] at suspended
      cases suspended

/-- The Link Port has no part in it. -/
theorem timersFixed_link {s w : State} (fixed : TimersFixed s w) (l : LinkPort) : TimersFixed s { w with lp := l } := fixed

theorem fixTimers_alike (s : State) : Alike { s with pc := s.fixTimers.pc } s.fixTimers := ⟨rfl, rfl⟩

/-! ## SET MODE -/

theorem readLineMode_none {b : Byte} (above : 3 ≤ b.toNat) : readLineMode b = none := by
  have ne : ∀ k : Byte, k.toNat < 3 → b ≠ k := fun k small same => by rw [same] at above; omega
  rw [readLineMode, if_neg (ne 0 (by decide)), if_neg (ne 1 (by decide)), if_neg (ne 2 (by decide))]

theorem readLineMode_code (m : LineMode) : readLineMode m.code = some m := by cases m <;> rfl

/-- SET MODE is carried out in every line mode. -/
theorem take_setMode {tag modeByte : Byte} {s : State} (awake : Awake s) (room : s.lp.placesInUse < 16) (w : State)
    (r : Result)
    (acted : State.setMode modeByte (admitted s) =
      ({ w with lp := { s.lp with receiver := .hunting, reserved := true } }, .refuse r)) :
    exec (.setMode tag modeByte) s = .next { w with lp := answered s.lp tag 0x0F r [] } := by
  refine (takeEvent_awake awake).trans (congrArg _ ?_)
  rw [request_served (lineControlFrame 4 tag modeByte) _ s (.inr rfl) room, acted]
  rfl

theorem modeHeld_iff (m : LineMode) (h : HoldSources) :
    modeHeld m h = true ↔ (m = .echo → h.start = true ∨ h.request = true) := by
  simp only [modeHeld, Bool.or_eq_true, decide_eq_true_iff, ne_eq, or_assoc]
  tauto

theorem bookCount_zero_iff (s : State) : s.bookCount = 0 ↔ ∀ i, s.book i = none := by
  simp [State.bookCount, List.countP_eq_zero]

theorem showOutput_eq (i : ChannelId) (s : State) : s.showOutput i =
    if 1 ≤ i.val ∧ i.val ≤ 5 then
      { s.ch i with output := decide ((s.ch i).phase = .active) && decide (s.lsv.mode ≠ .dry) }
    else s.ch i := by
  unfold State.showOutput State.suppressed
  dsimp only
  split
  · next strikes => simp [strikes]
  · rfl

/-- Settles O44: the checks of `setModeChecked` in their order. -/
theorem modeSet : Obligations.ModeSet := by
  intro s tag modeByte awake room
  refine ⟨fun above => take_setMode awake room s .range (by rw [State.setMode, readLineMode_none above]; rfl), ?_⟩
  rintro m rfl
  have checked : State.setMode m.code (admitted s) = (admitted s).setModeChecked m := by
    rw [State.setMode, readLineMode_code]
  refine ⟨fun barred => take_setMode awake room s .state (checked.trans ?_), fun held echo empty => ⟨fun same => ?_,
    fun other => ?_⟩⟩
  · unfold State.setModeChecked
    split
    · next allowed =>
      refine if_neg fun empty => barred ⟨allowed.1, (modeHeld_iff m _).1 allowed.2, ?_⟩
      exact (bookCount_zero_iff _).1 empty
    · rfl
  all_goals
    have done : (admitted s).setModeChecked m =
        doneWith (if s.lsv.mode = m then admitted s else (admitted s).changeMode m) :=
      (if_pos ⟨held, (modeHeld_iff m _).2 echo⟩).trans (if_pos ((bookCount_zero_iff (admitted s)).2 empty))
  · exact take_setMode awake room s .done (checked.trans (done.trans (by rw [if_pos same]; rfl)))
  · refine ⟨_, take_setMode awake room (s.changeMode m) .done (checked.trans (done.trans (by rw [if_neg other]; rfl))), rfl,
      fun i => ?_, ?_⟩
    · exact (Bank.read_tabulate _ i).trans (showOutput_eq i _)
    · exact timersFixed_link (w := s.changeMode m) (fixTimers_timersFixed rfl) _

end Sys2Proof.Machine

/-! BIT CHANGED (R143 to R145) and STOP CLEAR (R165). -/

namespace Sys2Proof.Machine

open Sys2Proof Sys2Proof.Safety

set_option Elab.async false

/-! ## The block for the bit -/

theorem Settled.record {s t : State} (h : Settled s t) : t.lsv.record = s.lsv.record := by rw [h.2.2.1]

theorem testRest_of_stopped {s : State} (stopped : s.lsv.lineState = .safeStop) : s.testRest = s :=
  testRest_of_busy (.inl (by rw [stopped]; decide))

/-- In SAFE_STOP a withdrawn hold source leaves the line state as it is. -/
theorem follow_lsv_of_stopped {s : State} (stopped : s.lsv.lineState = .safeStop) (c : Condition) (x : HoldSource) :
    (s.follow c x false).lsv = { s.lsv with holds := s.lsv.holds.put x false } := by
  unfold State.follow State.presentHold
  split
  · next same =>
    have kept : s.lsv.holds.put x false = s.lsv.holds := by
      have has : s.lsv.holds.has x = false := same
      rw [← has, HoldSources.put_has]
    rw [kept]
    rfl
  · rw [if_neg Bool.false_ne_true, State.dropHold, State.releaseIfFree, if_neg]
    · rfl
    · rintro ⟨_, pending | held⟩
      · exact absurd (stopped.symm.trans pending) (by decide)
      · exact absurd (stopped.symm.trans held) (by decide)

theorem unblock_lsv_of_stopped {s : State} (stopped : s.lsv.lineState = .safeStop) (f : Finish) :
    (s.unblock f).lsv = { s.lsv with holds := { s.lsv.holds with bitWorn := false } } :=
  follow_lsv_of_stopped (s := s.setFinish (some { f with bitWait := false })) stopped .bitWorn .bitWorn

/-- The DRILL step starts with an order for the drill where the bit life allows. -/
theorem startDrill_of_life {f : Finish} {s : State} {k : Format} (format : s.bookFormat f.book = some k)
    (life : k.drillHoles ≤ s.fu.bitLife) :
    s.startDrill f = { s with
      fu := { s.fu with finish := some { f with step := .drill } }
      orders := Bank.write s.orders (stationIndex .drill) (some (orderMade .drill s)) } := by
  unfold State.startDrill
  dsimp only
  rw [format, if_neg (by simpa using life)]
  rfl

/-- Otherwise it is blocked for the bit, and BIT_WORN is presented. -/
theorem startDrill_of_worn {f : Finish} {s : State} {k : Format} (format : s.bookFormat f.book = some k)
    (worn : s.fu.bitLife < k.drillHoles) :
    s.startDrill f = (s.setFinish (some { f with step := .drill, bitWait := true })).follow .bitWorn .bitWorn true := by
  unfold State.startDrill
  dsimp only
  rw [format]
  exact if_pos worn

theorem Alike.bookFormat {v t : State} (a : Alike v t) (i : Slot) : t.bookFormat i = v.bookFormat i := by
  rw [State.bookFormat, a.book, a.ts]
  rfl

theorem retryBlocked_of_none {s : State} (none : ∀ f, s.fu.finish = some f → f.bitWait = false) : s.retryBlocked = s := by
  unfold State.retryBlocked
  split
  · rfl
  · next f e => rw [none f e, if_neg Bool.false_ne_true]

theorem retryBlocked_of_blocked {s : State} {f : Finish} (e : s.fu.finish = some f) (blocked : f.bitWait = true) :
    s.retryBlocked = s.retryDrill f := by
  rw [State.retryBlocked, e]
  exact if_pos blocked

/-- BIT_WORN has been withdrawn, condition and hold source. -/
def BitWornGone (s : State) : Prop := s.lsv.holds.bitWorn = false ∧ s.lm.live.getLsbD 6 = false

theorem unblock_bitWornGone (f : Finish) (s : State) : BitWornGone (s.unblock f) :=
  ⟨congrArg HoldSources.bitWorn (holds_follow .bitWorn .bitWorn false _),
    live_follow ⟨by decide, by decide, by decide⟩ .bitWorn .bitWorn false _⟩

theorem testRest_bitWornGone {s : State} (gone : BitWornGone s) : BitWornGone s.testRest :=
  ⟨(congrArg HoldSources.bitWorn (holds_testRest s)).trans gone.1,
    (live_testRest ⟨by decide, by decide, by decide⟩ s).trans gone.2⟩

theorem unblock_stopped_iff (f : Finish) (s : State) :
    (s.unblock f).lsv.lineState = .safeStop ↔ s.lsv.lineState = .safeStop := (moves_unblock f s).stopped_iff

theorem unblock_bitLife (f : Finish) (s : State) : (s.unblock f).fu.bitLife = s.fu.bitLife := 
  (congrArg FinishUnit.bitLife (unblock_settled f s).alike.fu :)

/-- Outside SAFE_STOP a block is dealt with by starting the step again. -/
theorem retryDrill_of_running {s : State} (running : s.lsv.lineState ≠ .safeStop) (f : Finish) :
    s.retryDrill f = (s.unblock f).startDrill { f with bitWait := false } :=
  if_neg fun h => running ((unblock_stopped_iff f s).1 h.1)

section

variable {s : State} {f : Finish} {k : Format} (format : s.bookFormat f.book = some k)

include format

theorem unblock_bookFormat : (s.unblock f).bookFormat f.book = some k :=
  ((unblock_settled f s).alike.bookFormat f.book).trans format

theorem unblock_drillHoles : (s.unblock f).drillHoles f.book = k.drillHoles := by
  rw [State.drillHoles, unblock_bookFormat format]
  rfl

theorem retryDrill_of_stopped (life : k.drillHoles ≤ s.fu.bitLife) (stopped : s.lsv.lineState = .safeStop) :
    s.retryDrill f = s.unblock f := by
  refine if_pos ⟨(unblock_stopped_iff f s).2 stopped, ?_⟩
  rw [unblock_drillHoles format, unblock_bitLife]
  exact life

theorem retryDrill_of_worn (worn : s.fu.bitLife < k.drillHoles) :
    s.retryDrill f = (s.unblock f).startDrill { f with bitWait := false } := by
  refine if_neg fun h => ?_
  rw [unblock_drillHoles format, unblock_bitLife] at h
  omega

end

/-! ## BIT CHANGED -/

/-- A BIT CHANGED that is taken sets the bit life, deals with a block and tests for rest. -/
theorem exec_bitChanged {s : State} (served : Served s) (tag : Byte) {life : Half} (bound : life.toNat ≤ 20000)
    (idle : s.issued .drill = false) :
    ∃ t, exec (.bitChanged tag life) s = .next t ∧ AnsweredLast tag 0x10 .done [] s t
      ∧ LineFollowed s t ∧ Watched s t
      ∧ t = { ((admitted s).setBitLife life.toNat).retryBlocked.testRest with lp := t.lp } := by
  refine take_moves (f := ⟨0x10, tag, halfBytes life⟩) (act := State.bitChanged life) served (r := .done) ?_
    (((Move.finish _ _).moves.trans (moves_retryBlocked _)).trans (moves_testRest _))
  rw [State.bitChanged, if_neg (not_lt.2 bound), if_neg (by rw [Bool.not_eq_true]; exact idle)]
  rfl

/-- Settles O46. -/
theorem bitChangedTaken : Obligations.BitChangedTaken := by
  intro s tag life served
  refine ⟨fun above => take_refused served (if_pos above), fun bound issued => take_refused served ?_, fun bound idle => ?_⟩
  · exact (if_neg (not_lt.2 bound)).trans (if_pos issued)
  obtain ⟨t, taken, answered, followed, watched, e⟩ := exec_bitChanged served tag bound idle
  have settled := testRest_settled ((admitted s).setBitLife life.toNat).retryBlocked
  have record : t.lsv.record = ((admitted s).setBitLife life.toNat).retryBlocked.lsv.record :=
    (congrArg (fun x => x.lsv.record) e :).trans settled.record
  refine ⟨fun unblocked => ?_, fun f finish blocked k format => ⟨fun enough running => ?_, fun enough stopped => ?_,
    fun worn => ?_⟩⟩
  · have same : ((admitted s).setBitLife life.toNat).retryBlocked = _ := retryBlocked_of_none unblocked
    rw [same] at settled record
    have a : Alike _ t := settled.alike.of_link (by rw [← same]; exact e)
    exact ⟨t, taken, a.1, answered, watched_monitored watched a.2, lineFollowed_moved followed record⟩
  all_goals
    have retried : ((admitted s).setBitLife life.toNat).retryBlocked = _ := retryBlocked_of_blocked finish blocked
    rw [retried] at settled record e
    have unblocked := unblock_settled f ((admitted s).setBitLife life.toNat)
  · have started : ((admitted s).setBitLife life.toNat).retryDrill f = _ :=
      (retryDrill_of_running (s := (admitted s).setBitLife life.toNat) running f).trans
        (startDrill_of_life (f := { f with bitWait := false })
          (unblock_bookFormat (s := (admitted s).setBitLife life.toNat) format) (by rw [unblock_bitLife]; exact enough))
    rw [started] at settled record e
    have a : Alike { s with
        fu := { s.fu with bitLife := life.toNat, finish := some { f with bitWait := false, step := .drill } }
        orders := Bank.write s.orders (stationIndex .drill) (some (orderMade .drill s)) } t := by
      refine Alike.trans ⟨?_, ?_⟩ (settled.alike.of_link e)
      · rw [unblocked.1]
        rfl
      · exact unblocked.alike.2
    have gone : BitWornGone t := by
      rw [e]
      exact testRest_bitWornGone (unblock_bitWornGone f _)
    refine ⟨t, taken, a.1.trans (by rw [a.orders]), (a.order _).trans ?_, fun x other => (a.order _).trans ?_, gone.1,
      gone.2, answered, watched_monitored watched a.2, lineFollowed_moved followed (record.trans unblocked.record)⟩
    · exact (order_write _ _ _ s).trans (if_pos rfl)
    · exact (order_write _ _ _ s).trans (if_neg other)
  · have kept : ((admitted s).setBitLife life.toNat).retryDrill f = _ :=
      retryDrill_of_stopped (s := (admitted s).setBitLife life.toNat) format enough stopped
    rw [kept] at settled e
    have still : (((admitted s).setBitLife life.toNat).unblock f).testRest = _ :=
      testRest_of_stopped ((unblock_stopped_iff f _).2 stopped)
    rw [still] at e
    have a : Alike _ t := unblocked.alike.of_link e
    have line : t.lsv = { s.lsv with holds := { s.lsv.holds with bitWorn := false } } :=
      (congrArg State.lsv e :).trans (unblock_lsv_of_stopped (s := (admitted s).setBitLife life.toNat) stopped f)
    have live : t.lm.live.getLsbD 6 = false := by
      rw [e]
      exact (unblock_bitWornGone f _).2
    exact ⟨t, taken, a.1.trans (by rw [line]; rfl), live, answered, watched_monitored watched a.2⟩
  · have started : ((admitted s).setBitLife life.toNat).retryDrill f = _ :=
      (retryDrill_of_worn (s := (admitted s).setBitLife life.toNat) format worn).trans
        (startDrill_of_worn (f := { f with bitWait := false })
          (unblock_bookFormat (s := (admitted s).setBitLife life.toNat) format) (by rw [unblock_bitLife]; exact worn))
    rw [started] at settled record e
    have presented := follow_settled .bitWorn .bitWorn true ((((admitted s).setBitLife life.toNat).unblock f).setFinish
      (some { f with step := .drill, bitWait := true }))
    have a : Alike { s with
        fu := { s.fu with bitLife := life.toNat, finish := some { f with bitWait := true, step := .drill } } } t := by
      refine Alike.trans ⟨?_, ?_⟩ ((presented.trans settled).alike.of_link e)
      · rw [State.setFinish, unblocked.1]
        rfl
      · exact unblocked.alike.2
    have held : t.lsv.holds.bitWorn = true := by
      rw [e]
      refine (congrArg HoldSources.bitWorn (holds_testRest _)).trans ?_
      rw [holds_follow]
      rfl
    have live : t.lm.live.getLsbD 6 = true := by
      rw [e]
      refine (live_testRest ⟨by decide, by decide, by decide⟩ _).trans ?_
      exact live_follow ⟨by decide, by decide, by decide⟩ .bitWorn .bitWorn true _
    exact ⟨t, taken, a.1, held, live, answered, watched_monitored watched a.2,
      lineFollowed_moved followed (record.trans (presented.record.trans unblocked.record))⟩

end Sys2Proof.Machine

/-! STOP CLEAR (R165): the line leaves SAFE_STOP, and clamp, finish book and timers go on. -/

namespace Sys2Proof.Machine

open Sys2Proof Sys2Proof.Safety

set_option Elab.async false

/-! ## The finish book goes on (R154) -/

/-- What the finish book's going on may change while the line is HELD. -/
def ResumeKept (s t : State) : Prop :=
  t = { s with
      lp := t.lp, lm := t.lm, lsv := t.lsv, orders := t.orders
      si := { s.si with books := t.si.books }, fu := { s.fu with finish := t.fu.finish } }
    ∧ t.lm.work = s.lm.work ∧ t.lsv.lineState = .held ∧ t.lsv.holds.start = s.lsv.holds.start
    ∧ t.lsv.holds.request = s.lsv.holds.request

theorem presentHold_lineState_of_held {s : State} (held : s.lsv.lineState = .held) (x : HoldSource) :
    (s.presentHold x true).lsv.lineState = .held := by
  unfold State.presentHold
  split
  · exact held
  · rw [if_pos rfl, addHold_of_held (by rw [held]; decide)]
    exact held

theorem follow_lineState_of_held {s : State} (held : s.lsv.lineState = .held) (c : Condition) (x : HoldSource) :
    (s.follow c x true).lsv.lineState = .held := presentHold_lineState_of_held (s := s.reportLevel c true) held x

theorem startExit_kept {s : State} (held : s.lsv.lineState = .held) (f : Finish) : ResumeKept s (s.startExit f) :=
  ⟨rfl, rfl, (modifyBook_lineState _ _ _).trans held, congrArg HoldSources.start (modifyBook_holds _ _ _),
    congrArg HoldSources.request (modifyBook_holds _ _ _)⟩

theorem startDrill_kept {s : State} (held : s.lsv.lineState = .held) (f : Finish) : ResumeKept s (s.startDrill f) := by
  unfold State.startDrill
  dsimp only
  split
  · have presented := follow_settled .bitWorn .bitWorn true (s.setFinish (some { f with step := .drill, bitWait := true }))
    have holds := holds_follow .bitWorn .bitWorn true (s.setFinish (some { f with step := .drill, bitWait := true }))
    have line := follow_lineState_of_held (s := s.setFinish (some { f with step := .drill, bitWait := true })) held
      .bitWorn .bitWorn
    generalize State.follow .bitWorn .bitWorn true _ = t at presented holds line
    refine ⟨presented.1.trans ?_, presented.alike.2, line, ?_, ?_⟩
    · rw [presented.alike.fu, presented.alike.si, presented.alike.orders]
      rfl
    · rw [holds]
      rfl
    · rw [holds]
      rfl
  · exact ⟨rfl, rfl, held, rfl, rfl⟩

theorem resumeFinish_kept {s : State} (held : s.lsv.lineState = .held) : ResumeKept s s.resumeFinish := by
  have same : ResumeKept s s := ⟨rfl, rfl, held, rfl, rfl⟩
  unfold State.resumeFinish
  split
  · exact same
  · split
    · exact same
    · split
      · exact startExit_kept held _
      · split
        · exact startDrill_kept held _
        · exact same

theorem resumeFinish_of_none {s : State} (none : s.fu.finish = none) : s.resumeFinish = s := by
  rw [State.resumeFinish, none]

theorem bookFaulted_iff (i : Slot) (s : State) : s.bookFaulted i = true ↔ ∃ b, s.book i = some b ∧ b.fault ≠ none := by
  simp [State.bookFaulted, Option.any_eq_true, Option.isSome_iff_ne_none]

theorem resumeFinish_of_faulted {s : State} {f : Finish} (finish : s.fu.finish = some f) (unblocked : f.bitWait = false)
    (faulted : s.bookFaulted f.book = true) : s.resumeFinish = s.startExit f := by
  rw [State.resumeFinish, finish]
  dsimp only
  rw [unblocked, if_neg Bool.false_ne_true, if_pos faulted]

/-- What an order is made from. -/
theorem orderMade_congr {s t : State} (time : t.time = s.time) (inputs : t.inputs = s.inputs) (ts : t.ts = s.ts)
    (j : Job) : orderMade j t = orderMade j s := by
  have ready : t.ready j.station = s.ready j.station := by rw [State.ready, State.ready, inputs]
  have now : t.nowMs = s.nowMs := by rw [State.nowMs, State.nowMs, time]
  rw [orderMade, orderMade, ready, now, ts]

/-- EXIT has its order, and the book is LEAVING. -/
theorem startExit_ordered (s : State) (f : Finish) {b : Book} (book : s.book f.book = some b) :
    (s.startExit f).order .exitTransfer = some (orderMade .exitTransfer s)
      ∧ (s.startExit f).book f.book = some (Book.advance .finishing .leaving b) := by
  have a := startExit_alike f s
  exact ⟨(a.order _).trans ((order_write _ _ _ s).trans (if_pos rfl)),
    (a.book _).trans ((book_reviseBook_same _ _ s).trans (congrArg _ book))⟩

/-! ## The clamp -/

theorem testClamp_frame (s : State) :
    s.testClamp = { s with tcu := s.testClamp.tcu } ∧ ∀ i, i ≠ 0 → s.testClamp.ch i = s.ch i := by
  unfold State.testClamp State.triggerClamp
  split
  · split
    · exact ⟨rfl, fun i other => Bank.read_write_ne _ _ other⟩
    · exact ⟨rfl, fun _ _ => rfl⟩
  · exact ⟨rfl, fun _ _ => rfl⟩

/-- The clamp is closed on a STRIKE lift with drives outstanding (R75). -/
theorem testClamp_of_needed {s : State} {b : Bed} (bed : s.ss.bed = some b) (onBed : b.lift.state = some .onBed)
    (strike : b.lift.mode = some .strike) (outstanding : b.outstanding ≠ 0) (mode : (s.ch 0).mode = .hold)
    (open_ : (s.ch 0).output = false) (running : s.lsv.lineState ≠ .safeStop) :
    s.testClamp = s.setCh 0 (s.ch 0).clamp := by
  have needed : s.clampNeeded = true := by
    simp [State.clampNeeded, bed, Bed.onBed, Bed.isStrike, onBed, strike, mode, open_, running]
    exact outstanding
  rw [State.testClamp, if_pos needed, State.triggerClamp, if_pos ((channelHears_iff 0 s).2 ⟨mode, running⟩)]

/-! ## STOP CLEAR -/

/-- A served request whose owner, beside the rest, leaves notices alone is answered last. -/
theorem take_noticed {f : Frame} {act : State → State × Reply} {s w : State} {r : Reply} (served : Served s)
    (acted : act (admitted s) = (w, r)) (noticed : Noticed (admitted s) w) :
    ∃ t, takeRequest f act s = .next t ∧ AnsweredLast f.tag f.kind r.result r.data s t ∧ t = { w with lp := t.lp } := by
  refine ⟨_, take_served served, ?_⟩
  rw [acted]
  exact ⟨answeredLast_of_noticed noticed _ _ _ _, rfl⟩

/-- The part as the line leaves SAFE_STOP: no cause, no FAULTED drive, START set, and HELD. -/
def State.stopLeft (s : State) : State :=
  (({ s with lsv := { s.lsv with causes := StopCauses.none } }.clearFaultedDrives).setHolds
    (s.lsv.holds.put .start true)).moveLine .held

theorem clearStop_eq (s : State) : s.clearStop = s.stopLeft.testClamp.resumeFinish.fixTimers := rfl

theorem stopLeft_alike (s : State) : Alike s.clearFaultedDrives s.stopLeft :=
  Alike.trans ⟨rfl, rfl⟩ (moveLine_settled .held _).alike

theorem noticed_of_lp {s v t : State} (same : v.lp = s.lp) (noticed : Noticed v t) : Noticed s t := by
  unfold Noticed at *
  rw [← same]
  exact noticed

theorem clearStop_noticed (s : State) : Noticed s s.clearStop := by
  have left : Noticed s s.stopLeft := noticed_of_lp rfl (moveLine_reported .held _).2
  rw [clearStop_eq]
  exact left.trans (((moves_testClamp _).trans (moves_resumeFinish _)).trans (moves_fixTimers _)).noticed

/-- The frames of the four steps of STOP CLEAR, put together. -/
theorem clearStop_frame {s u c v t : State} (left : Alike s.clearFaultedDrives u) (clamp : c = { u with tcu := c.tcu })
    (resumed : ResumeKept c v) (last : t = { v.fixTimers with lp := t.lp }) :
    t = { s with
      lp := t.lp, lm := t.lm, lsv := t.lsv, pc := t.pc, tcu := t.tcu, orders := t.orders
      si := { s.si with books := t.si.books }
      ss := { s.ss with drives := t.ss.drives }
      fu := { s.fu with finish := t.fu.finish } } := by
  obtain ⟨frame, -⟩ := left
  obtain ⟨kept, -⟩ := resumed
  generalize u.lp = lp, u.lm = lm, u.lsv = lsv at frame
  subst frame
  generalize c.tcu = tcu at clamp
  subst clamp
  generalize v.lp = lp', v.lm = lm', v.lsv = lsv', v.orders = orders, v.si.books = books, v.fu.finish = finish at kept
  subst kept
  generalize t.lp = lp'' at last
  subst last
  rfl

/-- Settles O43: the line is HELD once it has left SAFE_STOP, and what goes on then keeps it so. -/
theorem stopCleared : Obligations.StopCleared := by
  intro s tag modeByte served
  refine ⟨fun barred => take_refused served (if_neg barred), fun stopped guard warning => ?_⟩
  obtain ⟨t, taken, answered, e⟩ := take_noticed (f := lineControlFrame 3 tag modeByte) (act := State.stopClear)
    (r := .done) served (if_pos ⟨stopped, guard, warning⟩) (clearStop_noticed _)
  rw [clearStop_eq] at e
  have held : (admitted s).stopLeft.lsv.lineState = .held := rfl
  have left := (moveLine_reported .held ((({ admitted s with lsv := { s.lsv with
    causes := StopCauses.none } }).clearFaultedDrives).setHolds (s.lsv.holds.put .start true))).1.watched
  have watchedLeft : Watched s (admitted s).stopLeft := left
  have line : (admitted s).stopLeft.lsv = { s.lsv with
    causes := StopCauses.none, holds := s.lsv.holds.put .start true, lineState := .held, moved := true } := rfl
  obtain ⟨frame, counts⟩ := stopLeft_alike (admitted s)
  generalize (admitted s).stopLeft = u at e held watchedLeft line frame counts
  have watched := watchedLeft.trans ((moves_testClamp u).trans (moves_resumeFinish _)).watched
  obtain ⟨keeps, noted, _⟩ := ((moves_testClamp u).trans (moves_resumeFinish _)).followed
  have closes := fun b bed onBed strike outstanding mode idle =>
    congrArg (State.ch 0) (testClamp_of_needed (s := u) (b := b) bed onBed strike outstanding mode idle
      (by rw [held]; decide))
  obtain ⟨clamp, others⟩ := testClamp_frame u
  generalize u.testClamp = c at e watched keeps noted closes clamp others
  have stays := resumeFinish_of_none (s := c)
  have exits := fun f => resumeFinish_of_faulted (s := c) (f := f)
  obtain ⟨resumed, counts', held', start, request⟩ := resumeFinish_kept (s := c) (by rw [clamp]; exact held)
  generalize c.resumeFinish = v at e watched keeps noted stays exits resumed counts' held' start request
  have lsv : t.lsv = v.lsv := (congrArg State.lsv e :)
  have lm : t.lm = v.lm := (congrArg State.lm e :)
  have orders : t.orders = v.orders := (congrArg State.orders e :)
  have si : t.si = v.si := (congrArg State.si e :)
  have fu : t.fu = v.fu := (congrArg State.fu e :)
  have tcu : t.tcu = c.tcu := (congrArg State.tcu e :).trans (congrArg State.tcu resumed :)
  have ss : t.ss = s.clearFaultedDrives.ss := (congrArg State.ss e :).trans <|
    (congrArg State.ss resumed :).trans <| (congrArg State.ss clamp :).trans (congrArg State.ss frame :)
  have book : ∀ i, c.book i = s.book i := fun i =>
    (congrArg (State.book i) clamp :).trans (congrArg (State.book i) frame :)
  have finish : c.fu.finish = s.fu.finish :=
    (congrArg (fun x => x.fu.finish) clamp :).trans (congrArg (fun x => x.fu.finish) frame :)
  have cOrders : c.orders = s.orders := (congrArg State.orders clamp :).trans (congrArg State.orders frame :)
  have cSi : c.si = s.si := (congrArg State.si clamp :).trans (congrArg State.si frame :)
  have cFu : c.fu = s.fu := (congrArg State.fu clamp :).trans (congrArg State.fu frame :)
  have whole := clearStop_frame ⟨frame, counts⟩ clamp ⟨resumed, counts', held', start, request⟩ e
  refine ⟨t, taken, answered, ?monitored, ?causes, lsv ▸ held', ?moved, ?start, ?request, fun d => ?drive, fun i other => ?ch,
    ?frame, fun none => ?none, fun f present unblocked b present' fault stage => ?exit,
    fun b bed onBed strike outstanding mode idle => ?clamp⟩
  case monitored =>
    refine watched_monitored (by unfold Watched Monitored; rw [lm]; exact watched) ?_
    rw [lm, counts']
    exact (congrArg (fun x => x.lm.work) clamp :).trans counts
  case causes => rw [lsv, keeps, line]; rfl
  case moved => exact lsv ▸ noted (by rw [line])
  case start => rw [lsv, start, congrArg State.lsv clamp, line]; rfl
  case request => rw [lsv, request, congrArg State.lsv clamp, line]; rfl
  case drive => rw [State.drive, ss]; exact Bank.read_map _ _ d
  case ch =>
    rw [State.ch, tcu]
    exact (others i other).trans (congrArg (State.ch i) frame :)
  case frame => exact whole
  case none =>
    obtain rfl := stays (finish.trans none)
    exact ⟨si.trans cSi, orders.trans cOrders, fu.trans cFu⟩
  case exit =>
    obtain rfl := exits f (finish.trans present) unblocked ((bookFaulted_iff _ _).2 ⟨b, (book _).trans present', fault⟩)
    obtain ⟨order, inBook⟩ := startExit_ordered c f ((book _).trans present')
    refine ⟨congrArg FinishUnit.finish fu, ?_, ?_⟩
    · rw [State.order, orders]
      refine order.trans (congrArg some (orderMade_congr ?_ ?_ ?_ .exitTransfer))
      · exact (congrArg State.time clamp :).trans (congrArg State.time frame :)
      · exact (congrArg State.inputs clamp :).trans (congrArg State.inputs frame :)
      · exact (congrArg State.ts clamp :).trans (congrArg State.ts frame :)
    · rw [State.book, si]
      exact inBook.trans (by simp [Book.advance, stage])
  case clamp =>
    have closed := closes b ((congrArg (fun x => x.ss.bed) frame :).trans bed) onBed strike outstanding
      ((congrArg (fun x => (State.ch 0 x).mode) frame :).trans mode) ((congrArg (fun x => (State.ch 0 x).output) frame :).trans idle)
    rw [State.ch, tcu]
    change (c.ch 0).output = true ∧ (c.ch 0).gate = true ∧ (c.ch 0).phase = .active
    rw [closed]
    simp [State.ch, State.setCh, Channel.clamp]

end Sys2Proof.Machine

/-! What a step of the finish sequence starts with, and the steps that follow Done (R68, R141 to R148). -/

namespace Sys2Proof.Machine

open Sys2Proof Sys2Proof.Safety

set_option Elab.async false

/-! ## Updates that read no report -/

/-- The update neither reads nor changes the Link Port, the Line Monitor and the Line Supervisor. -/
def Unreporting (g : State → State) : Prop :=
  ∀ (s : State) (l : LinkPort) (m : LineMonitor) (n : LineSupervisor),
    g { s with lp := l, lm := m, lsv := n } = { g s with lp := l, lm := m, lsv := n }

/-- Alike states stay so under such an update. -/
theorem Alike.apply {v t : State} (a : Alike v t) {g : State → State} (plain : Unreporting g) :
    Alike (g v) (g t) := by
  obtain ⟨frame, counts⟩ := a
  have left : g v = { g v with lp := v.lp, lm := v.lm, lsv := v.lsv } := plain v v.lp v.lm v.lsv
  have right : g t = { g v with lp := t.lp, lm := t.lm, lsv := t.lsv } :=
    (congrArg g frame).trans (plain v t.lp t.lm t.lsv)
  refine ⟨?_, ?_⟩
  · rw [right]
  · rw [right, left]
    exact counts

theorem unreporting_makeOrder (j : Job) : Unreporting (State.makeOrder j) := fun _ _ _ _ => rfl
theorem unreporting_setOrder (st : Station) (o : Option Order) : Unreporting (State.setOrder st o) := fun _ _ _ _ => rfl
theorem unreporting_setFinish (f : Option Finish) : Unreporting (State.setFinish f) := fun _ _ _ _ => rfl
theorem unreporting_setCh (i : ChannelId) (c : Channel) : Unreporting (State.setCh i c) := fun _ _ _ _ => rfl
theorem unreporting_emptyGather : Unreporting State.emptyGather := fun _ _ _ _ => rfl
theorem unreporting_reviseBook (i : Slot) (f : Book → Book) : Unreporting (State.reviseBook i f) := fun _ _ _ _ => rfl

theorem endOrder_alike (st : Station) (s : State) : Alike (s.setOrder st none) (s.endOrder st) :=
  (endOrder_settled st s).alike

/-! ## Done (R68) -/

theorem issued_order {j : Job} {s : State} (issued : s.issued j = true) : s.order j.station ≠ none := by
  intro none
  rw [State.issued, none] at issued
  cases issued

/-- A confirmation of an issued order: the order ends, its owner acts, and the line may come to rest. -/
theorem confirm_issued {j : Job} {act : State → State} {s v : State} (issued : s.issued j = true)
    (owner : ∀ s, Moves s (act s)) (acts : Alike v (act (s.endOrder j.station))) :
    Alike v (State.confirm j act s) ∧ Moves s (State.confirm j act s) := by
  refine ⟨?_, moves_confirm owner j s⟩
  rw [State.confirm, if_pos issued]
  exact acts.trans (testRest_settled _).alike

/-- The Recovery Record stays where the owner leaves it. -/
theorem confirm_record {j : Job} {act : State → State} {s : State} (issued : s.issued j = true)
    (owner : (act (s.endOrder j.station)).lsv.record = (s.endOrder j.station).lsv.record) :
    (State.confirm j act s).lsv.record = s.lsv.record := by
  rw [State.confirm, if_pos issued, (testRest_settled _).record, owner]
  exact (endOrder_settled j.station s).record

/-- The event of a Done. -/
theorem exec_confirm {s : State} (awake : Awake s) (j : Job) (act : State → State) :
    takeEvent (State.confirm j act) s = .next (State.confirm j act s) := takeEvent_awake awake

theorem onFinish_of_some {act : Finish → State → State} {s : State} {f : Finish} (finish : s.fu.finish = some f) :
    s.onFinish act = act f s := by
  rw [State.onFinish, finish]

/-- A confirmation whose owner acts on the finish book. -/
theorem confirm_onFinish {j : Job} {act : Finish → State → State} {s v : State} {f : Finish}
    (finish : s.fu.finish = some f) (issued : s.issued j = true) (owner : ∀ f s, Moves s (act f s))
    (acts : Alike v (act f (s.endOrder j.station))) :
    Alike v (State.confirm j (State.onFinish act) s) ∧ Moves s (State.confirm j (State.onFinish act) s) := by
  refine confirm_issued issued (moves_onFinish owner) ?_
  rw [onFinish_of_some (f := f) (by rw [(endOrder_alike j.station s).fu]; exact finish)]
  exact acts

/-! ## The beginning of a step -/

section

variable {v t : State} (a : Alike v t) (f : Finish)

include a

theorem bookFaulted_alike (i : Slot) : t.bookFaulted i = v.bookFaulted i := by
  rw [State.bookFaulted, a.book]
  rfl

theorem startHanger_alike :
    Alike ((v.setFinish (some { f with step := .hanger })).makeOrder .hanger) (t.startHanger f) :=
  (a.apply (unreporting_setFinish _)).apply (unreporting_makeOrder _)

theorem startClose_alike : Alike ((v.setFinish (some { f with step := .close })).makeOrder .closer) (t.startClose f) :=
  (a.apply (unreporting_setFinish _)).apply (unreporting_makeOrder _)

variable {f} {k : Format} (format : v.bookFormat f.book = some k)

include format

theorem startDrill_alike_of_life (life : k.drillHoles ≤ v.fu.bitLife) :
    Alike ((v.setFinish (some { f with step := .drill })).makeOrder .drill) (t.startDrill f) := by
  rw [startDrill_of_life ((a.bookFormat _).trans format) (by rw [a.fu]; exact life)]
  exact (a.apply (unreporting_setFinish _)).apply (unreporting_makeOrder _)

theorem startDrill_alike_of_worn (worn : v.fu.bitLife < k.drillHoles) :
    Alike (v.setFinish (some { f with step := .drill, bitWait := true })) (t.startDrill f) := by
  rw [startDrill_of_worn ((a.bookFormat _).trans format) (by rw [a.fu]; exact worn)]
  exact (a.apply (unreporting_setFinish _)).trans (follow_settled _ _ _ _).alike

variable {p : Pattern} (pattern : v.bookPattern f.book = some p)

include pattern

theorem startFeedStep_eq : t.startFeedStep f =
    (t.setFinish (some { f with step := .feed, feedOwed := holes p * k.feedSteps })).runFeed (holes p * k.feedSteps) := by
  have same : t.bookPattern f.book = some p := by
    rw [← pattern, State.bookPattern, State.bookPattern, a.bookFormat, a.ts]
  rw [State.startFeedStep, State.feedBudget, same, (a.bookFormat _).trans format, ← holeCount_eq_holes]
  rfl

end

/-! ## The wire feed (R146) -/

section

variable {v t : State} (a : Alike v t) (n : Nat)

include a

theorem runFeed_alike_of_pitch (mode : (v.ch 6).mode = .pitch) (idle : (v.ch 6).phase = .idle)
    (running : t.lsv.lineState ≠ .safeStop) : Alike (v.setCh 6 (feedStarted n (v.ch 6))) (t.runFeed n) := by
  rw [← a.ch] at mode idle
  rw [State.runFeed, if_pos mode, startFeed_of_idle ((channelHears_iff 6 t).2 ⟨mode, running⟩) idle, a.ch]
  exact a.apply (unreporting_setCh _ _)

theorem runFeed_alike_of_other (mode : (v.ch 6).mode ≠ .pitch) : Alike v (t.runFeed n) := by
  rw [← a.ch] at mode
  rw [State.runFeed, if_neg mode]
  exact a

/-- Whatever CH6 does, the wire feed is its own. -/
theorem runFeed_alike : Alike { v with tcu := (t.runFeed n).tcu } (t.runFeed n)
    ∧ ∀ i, i ≠ 6 → (t.runFeed n).ch i = v.ch i := by
  have feeds : Alike { t with tcu := (t.runFeed n).tcu } (t.runFeed n) ∧ ∀ i, i ≠ 6 → (t.runFeed n).ch i = t.ch i := by
    unfold State.runFeed State.startFeed
    split
    · split
      · split
        · exact ⟨(occur_settled _ t).alike, fun _ _ => rfl⟩
        · exact ⟨⟨rfl, rfl⟩, fun i other => Bank.read_write_ne _ _ other⟩
      · exact ⟨.refl t, fun _ _ => rfl⟩
    · exact ⟨.refl t, fun _ _ => rfl⟩
  exact ⟨(a.apply (g := fun x => { x with tcu := (t.runFeed n).tcu }) fun _ _ _ _ => rfl).trans feeds.1,
    fun i other => (feeds.2 i other).trans (a.ch i)⟩

end

/-! ## The finish steps (R142 to R148) -/

theorem stageMoved_of {s v t : State} (a : Alike v t) (m : Moves s t)
    (frame : v = { s with si := v.si, orders := v.orders, tcu := v.tcu, fu := v.fu, ss := { s.ss with bed := v.ss.bed } })
    (bed : v.ss.bed = s.ss.bed ∨ v.ss.bed = s.ss.bed.map fun b => { b with ask := b.outRequest && !b.accepted })
    (channels : ∀ i, i ≠ 6 → v.ch i = s.ch i) : StageMoved s t := by
  refine ⟨?_, ?_, fun i other => (a.ch i).trans (channels i other), m.reported ?_, m.followed⟩
  · rw [a.si, a.orders, a.tcu, a.fu, a.ss]
    exact a.1.trans (congrArg (fun x => { x with lp := t.lp, lm := t.lm, lsv := t.lsv }) frame)
  · rw [a.ss]
    exact bed
  · exact a.2.trans (congrArg (fun x => x.lm.work) frame :)

/-- The worn bit is presented: condition, hold source and a line that no longer runs. -/
theorem startDrill_worn_presents {f : Finish} {s : State} {k : Format} (format : s.bookFormat f.book = some k)
    (worn : s.fu.bitLife < k.drillHoles) (free : s.lsv.holds.bitWorn = false) :
    (s.startDrill f).lsv.lineState ≠ .running := by
  rw [startDrill_of_worn format worn]
  unfold State.follow State.presentHold
  rw [if_neg (by change ¬s.lsv.holds.bitWorn = true; rw [free]; exact Bool.false_ne_true), if_pos rfl]
  unfold State.addHold
  dsimp only
  split
  · exact fun h => by cases h
  · next other => exact other

theorem order_makeOrder (j : Job) (x : Station) (s : State) :
    (s.makeOrder j).order x = if x = j.station then some (orderMade j s) else s.order x := order_setOrder _ _ _ s

theorem order_makeOrder_same (j : Job) (s : State) : (s.makeOrder j).order j.station = some (orderMade j s) := by
  rw [order_makeOrder, if_pos rfl]

theorem order_makeOrder_ne {j : Job} {x : Station} (other : x ≠ j.station) (s : State) :
    (s.makeOrder j).order x = s.order x := by
  rw [order_makeOrder, if_neg other]

theorem order_setOrder_none (st : Station) (s : State) : (s.setOrder st none).order st = none := by
  rw [order_setOrder, if_pos rfl]

/-- EXIT has started, beside reports. -/
def State.exiting (f : Finish) (v : State) : State :=
  ((v.setFinish (some { f with step := .exit })).reviseBook f.book (Book.advance .finishing .leaving)).makeOrder .exitTransfer

theorem exiting_exitTransfer (f : Finish) (v : State) :
    (v.exiting f).order .exitTransfer = some (orderMade .exitTransfer v) := order_makeOrder_same .exitTransfer _

theorem exiting_order {x : Station} (other : x ≠ .exitTransfer) (f : Finish) (v : State) :
    (v.exiting f).order x = v.order x := order_makeOrder_ne other _

theorem exiting_si (f : Finish) (v : State) :
    (v.exiting f).si = (v.reviseBook f.book (Book.advance .finishing .leaving)).si := rfl

theorem exiting_ch (f : Finish) (v : State) (i : ChannelId) : (v.exiting f).ch i = v.ch i := rfl

theorem exiting_ss (f : Finish) (v : State) : (v.exiting f).ss = v.ss := rfl

theorem exiting_frame (f : Finish) (v : State) : v.exiting f = { v with
    si := (v.exiting f).si, orders := (v.exiting f).orders
    fu := { v.fu with finish := some { f with step := .exit } } } := rfl

theorem exiting_book {f : Finish} {v : State} {b : Book} (book : v.book f.book = some b) (stage : b.stage = .finishing) :
    (v.exiting f).book f.book = some { b with stage := .leaving } := by
  rw [State.book, exiting_si]
  refine (book_reviseBook_same _ _ v).trans ?_
  rw [book]
  simp [Book.advance, stage]

theorem exiting_onlyBook (f : Finish) (v : State) : OnlyBook f.book v (v.exiting f) :=
  ⟨rfl, fun j other => by
    rw [State.book, exiting_si]
    exact book_reviseBook_ne other _ v⟩

theorem startExit_exiting {v t : State} (a : Alike v t) (f : Finish) : Alike (v.exiting f) (t.startExit f) :=
  startExit_of_alike a f

theorem bookFaulted_of_book {i : Slot} {s : State} {b : Book} (book : s.book i = some b) :
    s.bookFaulted i = b.fault.isSome := by
  rw [State.bookFaulted, book]
  rfl

theorem hangerIs_of_format {i : Slot} {s : State} {k : Format} (format : s.bookFormat i = some k) (h : HangerKind) :
    s.hangerIs h i = decide (k.hanger = h) := by
  rw [State.hangerIs, format]
  rfl

theorem testRest_not_running {s : State} (stays : s.lsv.lineState ≠ .running) : s.testRest.lsv.lineState ≠ .running := by
  unfold State.testRest
  split
  · exact fun h => by cases h
  · exact stays

/-! ## The finish transfer (R142) -/

/-- The part when the finish transfer's order has ended and the gather position is empty, beside reports. -/
def State.gatherLeft (s : State) : State := (s.setOrder .finishTransfer none).emptyGather

theorem gatherLeft_alike (s : State) : Alike s.gatherLeft (s.endOrder .finishTransfer).emptyGather :=
  (endOrder_alike .finishTransfer s).apply unreporting_emptyGather

theorem gatherLeft_mode (s : State) : (s.endOrder .finishTransfer).emptyGather.lsv.mode = s.lsv.mode :=
  (congrArg LineSupervisor.mode (endOrder_settled .finishTransfer s).2.2.1 :)

theorem gatherLeft_stopped (s : State) :
    (s.endOrder .finishTransfer).emptyGather.lsv.lineState = .safeStop ↔ s.lsv.lineState = .safeStop :=
  ((moves_endOrder .finishTransfer s).trans (moves_emptyGather _)).stopped_iff

/-- The finish book arrives, and its first step starts. -/
theorem exec_finishTransferDone {s v : State} {f : Finish} (awake : Awake s) (finish : s.fu.finish = some f)
    (issued : s.issued .finishTransfer = true)
    (begun : Alike v ((s.endOrder .finishTransfer).emptyGather.enterFinish f)) :
    ∃ t, exec .finishTransferDone s = .next t ∧ Alike v t ∧ Moves s t
      ∧ t = ((s.endOrder .finishTransfer).emptyGather.enterFinish f).testRest := by
  have arrives : (s.endOrder .finishTransfer).bookArrives = (s.endOrder .finishTransfer).emptyGather.enterFinish f :=
    onFinish_of_some (by rw [(gatherLeft_alike s).fu]; exact finish)
  rw [← arrives] at begun ⊢
  obtain ⟨a, m⟩ := confirm_issued issued moves_bookArrives begun
  exact ⟨_, exec_confirm awake .finishTransfer _, a, m, if_pos issued⟩

section

variable {s : State} {f : Finish} {b : Book} (book : s.book f.book = some b)

include book

theorem enterFinish_exit (through : b.fault ≠ none ∨ s.lsv.mode = .dry) :
    (s.endOrder .finishTransfer).emptyGather.enterFinish f = (s.endOrder .finishTransfer).emptyGather.startExit f := by
  refine if_pos ?_
  rw [bookFaulted_alike (gatherLeft_alike s), gatherLeft_mode, bookFaulted_of_book (s := s.gatherLeft) book,
    Option.isSome_iff_ne_none]
  exact through

theorem enterFinish_binding {k : Format} (format : s.bookFormat f.book = some k) (sound : b.fault = none)
    (run : s.lsv.mode ≠ .dry) :
    (s.endOrder .finishTransfer).emptyGather.enterFinish f =
      if k.hanger = .drilled then (s.endOrder .finishTransfer).emptyGather.startDrill f
      else (s.endOrder .finishTransfer).emptyGather.startFeedStep f := by
  have stays : ¬((s.endOrder .finishTransfer).emptyGather.bookFaulted f.book = true
      ∨ (s.endOrder .finishTransfer).emptyGather.lsv.mode = .dry) := by
    rw [bookFaulted_alike (gatherLeft_alike s), gatherLeft_mode, bookFaulted_of_book (s := s.gatherLeft) book, sound]
    simpa using run
  rw [State.enterFinish, if_neg stays, State.startBinding,
    hangerIs_of_format (((gatherLeft_alike s).bookFormat f.book).trans format)]
  simp

end

/-- The step FEED with its steps owed. -/
def Finish.feeding (owed : Nat) (f : Finish) : Finish := { f with step := .feed, feedOwed := owed }

section

variable {s : State} {f : Finish} {b : Book} {k : Format} (awake : Awake s) (finish : s.fu.finish = some f)
  (book : s.book f.book = some b) (format : s.bookFormat f.book = some k)
  (issued : s.issued .finishTransfer = true)

include awake finish book issued

theorem finishTransfer_exit (through : b.fault ≠ none ∨ s.lsv.mode = .dry) :
    ∃ t, exec .finishTransferDone s = .next t ∧ Alike (s.gatherLeft.exiting f) t ∧ StageMoved s t := by
  have begun := startExit_exiting (gatherLeft_alike s) f
  rw [← enterFinish_exit book through] at begun
  obtain ⟨t, taken, a, m, -⟩ := exec_finishTransferDone awake finish issued begun
  refine ⟨t, taken, a, stageMoved_of a m ?_ (.inr (by rw [exiting_ss]; rfl)) fun i _ => (exiting_ch f _ i).trans rfl⟩
  rw [exiting_frame]
  rfl

include format

variable (sound : b.fault = none) (run : s.lsv.mode ≠ .dry)

include sound run

theorem finishTransfer_drill (hanger : k.hanger = .drilled) (life : k.drillHoles ≤ s.fu.bitLife) :
    ∃ t, exec .finishTransferDone s = .next t
      ∧ Alike ((s.gatherLeft.setFinish (some { f with step := .drill })).makeOrder .drill) t ∧ StageMoved s t := by
  have begun := startDrill_alike_of_life (gatherLeft_alike s) (f := f) format life
  rw [← (enterFinish_binding book format sound run).trans (if_pos hanger)] at begun
  obtain ⟨t, taken, a, m, -⟩ := exec_finishTransferDone awake finish issued begun
  exact ⟨t, taken, a, stageMoved_of a m rfl (.inr rfl) fun _ _ => rfl⟩

theorem finishTransfer_worn (hanger : k.hanger = .drilled) (worn : s.fu.bitLife < k.drillHoles) :
    ∃ t, exec .finishTransferDone s = .next t
      ∧ Alike (s.gatherLeft.setFinish (some { f with step := .drill, bitWait := true })) t ∧ StageMoved s t
      ∧ t.lsv.holds.bitWorn = true ∧ t.lm.live.getLsbD 6 = true
      ∧ (s.lsv.holds.bitWorn = false → t.lsv.lineState ≠ .running) := by
  have begun := startDrill_alike_of_worn (gatherLeft_alike s) (f := f) format worn
  have starts := (enterFinish_binding book format sound run).trans (if_pos hanger)
  rw [← starts] at begun
  obtain ⟨t, taken, a, m, e⟩ := exec_finishTransferDone awake finish issued begun
  refine ⟨t, taken, a, stageMoved_of a m rfl (.inr rfl) fun _ _ => rfl, ?_⟩
  rw [starts, startDrill_of_worn (((gatherLeft_alike s).bookFormat _).trans format) (by rw [(gatherLeft_alike s).fu]; exact worn)] at e
  rw [e, holds_testRest, holds_follow, live_testRest ⟨by decide, by decide, by decide⟩, live_follow ⟨by decide, by decide, by decide⟩]
  refine ⟨rfl, rfl, fun free => testRest_not_running ?_⟩
  rw [← startDrill_of_worn (((gatherLeft_alike s).bookFormat _).trans format)
    (by rw [(gatherLeft_alike s).fu]; exact worn)]
  refine startDrill_worn_presents (((gatherLeft_alike s).bookFormat _).trans format)
    (by rw [(gatherLeft_alike s).fu]; exact worn) ?_
  exact (congrArg HoldSources.bitWorn (holds_endOrder .finishTransfer s)).trans free

variable {p : Pattern} (pattern : s.bookPattern f.book = some p) (hanger : k.hanger ≠ .drilled)

include pattern hanger

theorem finishTransfer_feed (mode : (s.ch 6).mode = .pitch) (idle : (s.ch 6).phase = .idle)
    (running : s.lsv.lineState ≠ .safeStop) :
    ∃ t, exec .finishTransferDone s = .next t
      ∧ Alike ((s.gatherLeft.setFinish (some (f.feeding (holes p * k.feedSteps)))).setCh 6
          (feedStarted (holes p * k.feedSteps) (s.ch 6))) t
      ∧ StageMoved s t := by
  have begun := runFeed_alike_of_pitch ((gatherLeft_alike s).apply (unreporting_setFinish (some (f.feeding (holes p * k.feedSteps)))))
    (holes p * k.feedSteps) mode idle (mt (gatherLeft_stopped s).1 running)
  have starts := (enterFinish_binding book format sound run).trans (if_neg hanger)
  rw [Finish.feeding, ← startFeedStep_eq (gatherLeft_alike s) format pattern, ← starts] at begun
  obtain ⟨t, taken, a, m, -⟩ := exec_finishTransferDone awake finish issued begun
  exact ⟨t, taken, a, stageMoved_of a m rfl (.inr rfl) fun i other => Bank.read_write_ne _ _ other⟩

theorem finishTransfer_wait (mode : (s.ch 6).mode ≠ .pitch) :
    ∃ t, exec .finishTransferDone s = .next t
      ∧ Alike (s.gatherLeft.setFinish (some (f.feeding (holes p * k.feedSteps)))) t ∧ StageMoved s t := by
  have begun := runFeed_alike_of_other ((gatherLeft_alike s).apply (unreporting_setFinish (some (f.feeding (holes p * k.feedSteps)))))
    (holes p * k.feedSteps) mode
  have starts := (enterFinish_binding book format sound run).trans (if_neg hanger)
  rw [Finish.feeding, ← startFeedStep_eq (gatherLeft_alike s) format pattern, ← starts] at begun
  obtain ⟨t, taken, a, m, -⟩ := exec_finishTransferDone awake finish issued begun
  exact ⟨t, taken, a, stageMoved_of a m rfl (.inr rfl) fun _ _ => rfl⟩

end

end Sys2Proof.Machine

/-! The finish steps that follow Drill, Hanger and Closer Done (R143 to R149). -/

namespace Sys2Proof.Machine

open Sys2Proof Sys2Proof.Safety

set_option Elab.async false

theorem confirm_onFinish_record {j : Job} {act : Finish → State → State} {s : State} {f : Finish}
    (finish : s.fu.finish = some f) (issued : s.issued j = true)
    (owner : (act f (s.endOrder j.station)).lsv.record = (s.endOrder j.station).lsv.record) :
    (State.confirm j (State.onFinish act) s).lsv.record = s.lsv.record := by
  refine confirm_record issued ?_
  rw [onFinish_of_some (f := f) (by rw [(endOrder_alike j.station s).fu]; exact finish)]
  exact owner

/-- A hole more has been drilled. -/
def Finish.drilled (f : Finish) : Finish := { f with holesDrilled := f.holesDrilled + 1 }

/-- The part when a drill order has ended: the bit life has fallen, and a hole more has been drilled. -/
def State.holeLeft (f : Finish) (s : State) : State :=
  { s.setOrder .drill none with fu := { s.fu with bitLife := s.fu.bitLife - 1, finish := some f.drilled } }

/-- The same, with the reports of the order's end. -/
def State.drillEnded (f : Finish) (s : State) : State :=
  { s.endOrder .drill with
    fu := { (s.endOrder .drill).fu with bitLife := (s.endOrder .drill).fu.bitLife - 1, finish := some f.drilled } }

theorem holeLeft_alike (f : Finish) (s : State) : Alike (s.holeLeft f) (s.drillEnded f) :=
  (endOrder_alike .drill s).apply
    (g := fun x => { x with fu := { x.fu with bitLife := x.fu.bitLife - 1, finish := some f.drilled } })
    fun _ _ _ _ => rfl

theorem drillEnded_stopped (f : Finish) (s : State) :
    (s.drillEnded f).lsv.lineState = .safeStop ↔ s.lsv.lineState = .safeStop := (moves_endOrder .drill s).stopped_iff

theorem holeDrilled_eq (f : Finish) (s : State) : (s.endOrder .drill).holeDrilled f =
    if (s.drillEnded f).bookFaulted f.book = true then (s.drillEnded f).startExit f.drilled
    else if f.holesDrilled + 1 < ((s.drillEnded f).bookFormat f.book).elim 0 Format.drillHoles then
      (s.drillEnded f).makeOrder .drill
    else (s.drillEnded f).startFeedStep f.drilled := rfl

section

variable {s : State} {f : Finish} {b : Book} {k : Format} (awake : Awake s) (finish : s.fu.finish = some f)
  (book : s.book f.book = some b) (issued : s.issued .drill = true)

include awake finish issued

theorem exec_drillDone {v : State} (begun : Alike v ((s.endOrder .drill).holeDrilled f)) :
    ∃ t, exec .drillDone s = .next t ∧ Alike v t ∧ Moves s t := by
  obtain ⟨a, m⟩ := confirm_onFinish finish issued moves_holeDrilled begun
  exact ⟨_, exec_confirm awake .drill _, a, m⟩

include book

theorem drillDone_exit (fault : b.fault ≠ none) :
    ∃ t, exec .drillDone s = .next t ∧ Alike ((s.holeLeft f).exiting f.drilled) t ∧ StageMoved s t := by
  have begun := startExit_exiting (holeLeft_alike f s) f.drilled
  have faulted : (s.drillEnded f).bookFaulted f.book = true := by
    rw [bookFaulted_alike (holeLeft_alike f s), bookFaulted_of_book (s := s.holeLeft f) book, Option.isSome_iff_ne_none]
    exact fault
  rw [← (holeDrilled_eq f s).trans (if_pos faulted)] at begun
  obtain ⟨t, taken, a, m⟩ := exec_drillDone awake finish issued begun
  refine ⟨t, taken, a, stageMoved_of a m ?_ (.inl (by rw [exiting_ss]; rfl)) fun i _ => (exiting_ch f.drilled _ i).trans rfl⟩
  rw [exiting_frame]
  rfl

variable (format : s.bookFormat f.book = some k) (sound : b.fault = none)

include format sound

omit awake finish issued in
theorem holeDrilled_of_sound : (s.endOrder .drill).holeDrilled f =
    if f.holesDrilled + 1 < k.drillHoles then (s.drillEnded f).makeOrder .drill
    else (s.drillEnded f).startFeedStep f.drilled := by
  have stays : (s.drillEnded f).bookFaulted f.book = false := by
    rw [bookFaulted_alike (holeLeft_alike f s), bookFaulted_of_book (s := s.holeLeft f) book, sound]
    rfl
  have holes : (s.drillEnded f).bookFormat f.book = some k := ((holeLeft_alike f s).bookFormat _).trans format
  rw [holeDrilled_eq, stays, holes, if_neg Bool.false_ne_true]
  rfl

theorem drillDone_hole (more : f.holesDrilled + 1 < k.drillHoles) :
    ∃ t, exec .drillDone s = .next t ∧ Alike ((s.holeLeft f).makeOrder .drill) t ∧ StageMoved s t := by
  have begun := (holeLeft_alike f s).apply (unreporting_makeOrder .drill)
  rw [← (holeDrilled_of_sound book format sound).trans (if_pos more)] at begun
  obtain ⟨t, taken, a, m⟩ := exec_drillDone awake finish issued begun
  exact ⟨t, taken, a, stageMoved_of a m rfl (.inl rfl) fun _ _ => rfl⟩

theorem drillDone_feed {p : Pattern} (pattern : s.bookPattern f.book = some p)
    (last : k.drillHoles ≤ f.holesDrilled + 1) :
    ∃ t, exec .drillDone s = .next t
      ∧ Alike { (s.holeLeft f).setFinish (some (f.drilled.feeding (holes p * k.feedSteps))) with tcu := t.tcu } t
      ∧ StageMoved s t
      ∧ ((s.ch 6).mode = .pitch → (s.ch 6).phase = .idle → s.lsv.lineState ≠ .safeStop →
          t.tcu = Bank.write s.tcu 6 (feedStarted (holes p * k.feedSteps) (s.ch 6)))
      ∧ ((s.ch 6).mode ≠ .pitch → t.tcu = s.tcu) := by
  have begins := (holeLeft_alike f s).apply
    (unreporting_setFinish (some (f.drilled.feeding (holes p * k.feedSteps))))
  have pitch := runFeed_alike_of_pitch begins (holes p * k.feedSteps)
  have other := runFeed_alike_of_other begins (holes p * k.feedSteps)
  obtain ⟨begun, channels⟩ := runFeed_alike begins (holes p * k.feedSteps)
  have starts := (holeDrilled_of_sound book format sound).trans (if_neg (not_lt.2 last))
  rw [startFeedStep_eq (holeLeft_alike f s) (f := f.drilled) format pattern] at starts
  rw [Finish.feeding, ← starts] at begun channels pitch other
  obtain ⟨t, taken, a, m⟩ := exec_drillDone awake finish issued begun
  have tcu := a.tcu
  refine ⟨t, taken, ?_, stageMoved_of a m rfl (.inl rfl) channels, fun mode idle running => ?_, fun mode => ?_⟩
  · rw [tcu]
    exact a
  · exact tcu.trans (pitch mode idle (mt (drillEnded_stopped f s).1 running)).tcu
  · exact tcu.trans (other mode).tcu

end

/-! ## The hanger and the closer (R147) -/

section

variable {s : State} {f : Finish} {b : Book} (awake : Awake s) (finish : s.fu.finish = some f)
  (book : s.book f.book = some b)

include awake finish

theorem closerDone_exit (issued : s.issued .closer = true) :
    ∃ t, exec .closerDone s = .next t ∧ Alike ((s.setOrder .closer none).exiting f) t ∧ Moves s t := by
  obtain ⟨a, m⟩ := confirm_onFinish (j := .closer) finish issued moves_startExit
    (startExit_exiting (endOrder_alike .closer s) f)
  exact ⟨_, exec_confirm awake .closer _, a, m⟩

variable (issued : s.issued .hanger = true)

include book issued

theorem hangerDone_exit (fault : b.fault ≠ none) :
    ∃ t, exec .hangerDone s = .next t ∧ Alike ((s.setOrder .hanger none).exiting f) t ∧ Moves s t := by
  have begun := startExit_exiting (endOrder_alike .hanger s) f
  have faulted : (s.endOrder .hanger).bookFaulted f.book = true := by
    rw [bookFaulted_alike (endOrder_alike .hanger s), bookFaulted_of_book (s := s.setOrder .hanger none) book,
      Option.isSome_iff_ne_none]
    exact fault
  have sets : (s.endOrder .hanger).hangerSet f = _ := if_pos faulted
  rw [← sets] at begun
  obtain ⟨a, m⟩ := confirm_onFinish (j := .hanger) finish issued moves_hangerSet begun
  exact ⟨_, exec_confirm awake .hanger _, a, m⟩

theorem hangerDone_close (sound : b.fault = none) :
    ∃ t, exec .hangerDone s = .next t
      ∧ Alike (((s.setOrder .hanger none).setFinish (some { f with step := .close })).makeOrder .closer) t
      ∧ Moves s t ∧ LineMoved s t := by
  have begun := startClose_alike (endOrder_alike .hanger s) f
  have stays : ¬(s.endOrder .hanger).bookFaulted f.book = true := by
    rw [bookFaulted_alike (endOrder_alike .hanger s), bookFaulted_of_book (s := s.setOrder .hanger none) book, sound]
    exact Bool.false_ne_true
  have sets : (s.endOrder .hanger).hangerSet f = (s.endOrder .hanger).startClose f := if_neg stays
  rw [← sets] at begun
  obtain ⟨a, m⟩ := confirm_onFinish (j := .hanger) finish issued moves_hangerSet begun
  refine ⟨_, exec_confirm awake .hanger _, a, m, lineFollowed_moved m.followed (confirm_onFinish_record finish issued ?_)⟩
  exact (congrArg (fun x => x.lsv.record) sets :)

end

/-- What the end of an order and the start of EXIT change together. -/
theorem exiting_ended_frame {s t : State} {st : Station} {f : Finish} (a : Alike ((s.setOrder st none).exiting f) t) :
    t = { s with
      lp := t.lp, lm := t.lm, lsv := t.lsv, orders := t.orders, si := t.si
      fu := { s.fu with finish := some { f with step := .exit } } } := by
  rw [a.orders, a.si]
  exact a.1

/-- What EXIT finds and leaves when the order of a step has ended. -/
theorem exiting_ended {s t : State} {st : Station} {f : Finish} {b : Book}
    (a : Alike ((s.setOrder st none).exiting f) t) (other : st ≠ .exitTransfer) (book : s.book f.book = some b)
    (stage : b.stage = .finishing) :
    t.order .exitTransfer = some (orderMade .exitTransfer s) ∧ t.order st = none
      ∧ t.book f.book = some { b with stage := .leaving } ∧ OnlyBook f.book s t :=
  ⟨(a.order _).trans (exiting_exitTransfer f (s.setOrder st none)),
    (a.order _).trans ((exiting_order other f _).trans (order_setOrder_none st s)),
    (a.book _).trans (exiting_book (v := s.setOrder st none) book stage),
    a.onlyBook (exiting_onlyBook f (s.setOrder st none))⟩

/-- Settles O38. -/
theorem finishStepsFollow : Obligations.FinishStepsFollow := by
  intro s f b k awake finish book stage format
  refine ⟨fun issued => ⟨fun through => ?_, fun sound run hanger life => ?_, fun sound run hanger worn => ?_,
    fun sound run hanger p pattern mode idle running => ?_⟩, fun issued sound run hanger p pattern mode => ?_,
    fun issued sound more => ?_, fun issued sound last p pattern => ?_, fun issued fault => ?_,
    fun issued sound => ?_, fun issued fault => ?_, fun issued => ?_⟩
  · obtain ⟨t, taken, a, moved⟩ := finishTransfer_exit awake finish book issued through
    exact ⟨t, taken, a.fu, (a.book _).trans (exiting_book (v := s.gatherLeft) book stage),
      a.onlyBook (exiting_onlyBook f s.gatherLeft), (a.order _).trans (exiting_exitTransfer f s.gatherLeft),
      (a.order _).trans ((exiting_order (by decide) f _).trans (order_setOrder_none .finishTransfer s)), moved⟩
  · obtain ⟨t, taken, a, moved⟩ := finishTransfer_drill awake finish book format issued sound run hanger life
    exact ⟨t, taken, a.fu, (a.order _).trans (order_makeOrder_same .drill _),
      (a.order _).trans ((order_makeOrder_ne (by decide) _).trans (order_setOrder_none .finishTransfer s)), a.si, a.tcu,
      moved⟩
  · obtain ⟨t, taken, a, moved, holds, live, line⟩ :=
      finishTransfer_worn awake finish book format issued sound run hanger worn
    exact ⟨t, taken, a.fu, (a.order _).trans (order_setOrder_none .finishTransfer s), a.si, a.tcu, holds, live, line,
      moved⟩
  · obtain ⟨t, taken, a, moved⟩ :=
      finishTransfer_feed awake finish book format issued sound run pattern hanger mode idle running
    exact ⟨t, taken, a.fu, a.tcu, (a.order _).trans (order_setOrder_none .finishTransfer s), a.si, moved⟩
  · obtain ⟨t, taken, a, moved⟩ := finishTransfer_wait awake finish book format issued sound run pattern hanger mode
    exact ⟨t, taken, a.fu, a.tcu, (a.order _).trans (order_setOrder_none .finishTransfer s), a.si, moved⟩
  · obtain ⟨t, taken, a, moved⟩ := drillDone_hole awake finish book issued format sound more
    exact ⟨t, taken, a.fu, (a.order _).trans (order_makeOrder_same .drill _), fun x other => (a.order _).trans
      ((order_makeOrder_ne other _).trans (onlyOrder_write .drill none s x other)), a.si, a.tcu, moved⟩
  · obtain ⟨t, taken, a, moved, fed, kept⟩ := drillDone_feed awake finish book issued format sound pattern last
    exact ⟨t, taken, a.fu, (a.order _).trans (order_setOrder_none .drill s),
      fun x other => (a.order _).trans (onlyOrder_write .drill none s x other), a.si, fed, kept, moved⟩
  · obtain ⟨t, taken, a, moved⟩ := drillDone_exit awake finish book issued fault
    exact ⟨t, taken, a.fu, (a.order _).trans (exiting_exitTransfer _ (s.holeLeft f)),
      (a.order _).trans ((exiting_order (by decide) _ _).trans (order_setOrder_none .drill s)),
      (a.book _).trans (exiting_book (f := f.drilled) (v := s.holeLeft f) book stage),
      a.onlyBook (exiting_onlyBook f.drilled (s.holeLeft f)), moved⟩
  · obtain ⟨t, taken, a, m, moved⟩ := hangerDone_close awake finish book issued sound
    refine ⟨t, taken, a.1.trans (by rw [a.orders]; rfl), (a.order _).trans (order_makeOrder_same .closer _),
      (a.order _).trans ((order_makeOrder_ne (by decide) _).trans (order_setOrder_none .hanger s)), m.reported a.2, moved⟩
  · obtain ⟨t, taken, a, m⟩ := hangerDone_exit awake finish book issued fault
    obtain ⟨exit, ended, left, only⟩ := exiting_ended a (by decide) book stage
    exact ⟨t, taken, exiting_ended_frame a, exit, ended, left, only, m.reported a.2, m.followed⟩
  · obtain ⟨t, taken, a, m⟩ := closerDone_exit awake finish issued
    obtain ⟨exit, ended, left, only⟩ := exiting_ended a (by decide) book stage
    exact ⟨t, taken, exiting_ended_frame a, exit, ended, left, only, m.reported a.2, m.followed⟩

end Sys2Proof.Machine

/-! The exit (R149 to R152): triggers, counts and removals beside reports, and the book that passes. -/

namespace Sys2Proof.Machine

open Sys2Proof Sys2Proof.Safety

set_option Elab.async false

/-- What settles settles beside an update that reads no report. -/
theorem Settled.apply {v t : State} (h : Settled v t) {g : State → State} (plain : Unreporting g) :
    Settled (g v) (g t) := by
  obtain ⟨frame, reported, moved⟩ := h
  have left : g v = { g v with lp := v.lp, lm := v.lm, lsv := v.lsv } := plain v v.lp v.lm v.lsv
  have right : g t = { g v with lp := t.lp, lm := t.lm, lsv := t.lsv } :=
    (congrArg g frame).trans (plain v t.lp t.lm t.lsv)
  rw [right, left]
  exact ⟨rfl, reported, moved⟩

/-! ## Places taken in the Return Queue -/

/-- At most `n` frames have joined the Return Queue; no place has been reserved or left. -/
def Joined (n : Nat) (s t : State) : Prop :=
  t.lp.queue.length ≤ s.lp.queue.length + n ∧ t.lp.reserved = s.lp.reserved

theorem Joined.refl (s : State) : Joined 0 s s := ⟨le_rfl, rfl⟩

theorem Joined.trans {m n : Nat} {s t u : State} (a : Joined m s t) (b : Joined n t u) : Joined (m + n) s u := by
  obtain ⟨length, reserved⟩ := a
  obtain ⟨length', reserved'⟩ := b
  exact ⟨by omega, reserved'.trans reserved⟩

theorem Joined.mono {m n : Nat} {s t : State} (a : Joined m s t) (h : m ≤ n) : Joined n s t := by
  obtain ⟨length, reserved⟩ := a
  exact ⟨by omega, reserved⟩

theorem pushOptional_joined (l : LinkPort) (u : Option Upstream) :
    (l.pushOptional u).queue.length ≤ l.queue.length + 1 ∧ (l.pushOptional u).reserved = l.reserved := by
  cases u with
  | none => exact ⟨Nat.le_succ _, rfl⟩
  | some u =>
    change (l.pushNotice u).queue.length ≤ _ ∧ (l.pushNotice u).reserved = _
    unfold LinkPort.pushNotice
    split
    · exact ⟨by simp, rfl⟩
    · exact ⟨Nat.le_succ _, rfl⟩

theorem reportLevel_joined (c : Condition) (p : Bool) (s : State) : Joined 1 s (s.reportLevel c p) :=
  pushOptional_joined _ _

theorem moveLine_joined (l : LineState) (s : State) : Joined 3 s (s.moveLine l) :=
  ((reportLevel_joined .held _ _).trans (reportLevel_joined .safeStop _ _)).trans (reportLevel_joined .pause _ _)

theorem presentHold_joined (x : HoldSource) (on : Bool) (s : State) : Joined 3 s (s.presentHold x on) := by
  unfold State.presentHold
  split
  · exact (Joined.refl s).mono (by decide)
  · split
    · unfold State.addHold
      dsimp only
      split
      · exact moveLine_joined _ _
      · exact (Joined.refl s).mono (by decide)
    · unfold State.dropHold State.releaseIfFree
      split
      · exact moveLine_joined _ _
      · exact (Joined.refl s).mono (by decide)

theorem endOrder_joined (st : Station) (s : State) : Joined 4 s (s.endOrder st) :=
  (reportLevel_joined .stationWait _ (s.setOrder st none)).trans (presentHold_joined _ _ _)

theorem triggerStrobe_joined (i : ChannelId) (s : State) : Joined 1 s (s.triggerStrobe i) := by
  unfold State.triggerStrobe
  split
  · split
    · exact pushOptional_joined _ _
    · exact (Joined.refl s).mono (by decide)
  · exact (Joined.refl s).mono (by decide)

/-- A notice pushed with few places in use joins the queue. -/
theorem notify_mem {s : State} {u : Upstream} (room : s.lp.queue.length + s.lp.reserved.toNat < 12) :
    u ∈ (s.notify u).lp.queue := by
  have few : s.lp.noticeCount ≤ s.lp.queue.length := List.countP_le_length
  have joins : s.lp.pushNotice u = { s.lp with queue := s.lp.queue ++ [u] } :=
    if_pos ⟨by rw [LinkPort.placesInUse]; omega, by omega⟩
  rw [State.notify, joins]
  simp

/-! ## Triggers, counts and removals -/

/-- The channel as it is after a trigger. -/
def State.strobed (i : ChannelId) (v : State) : State := { v with tcu := Bank.write v.tcu i (triggered i v) }

theorem triggered_of_alike {v t : State} (a : Alike v t) (mode : t.lsv.mode = v.lsv.mode)
    (stops : t.lsv.lineState = .safeStop ↔ v.lsv.lineState = .safeStop) (i : ChannelId) :
    triggered i t = triggered i v := by
  have hears : t.channelHears i = v.channelHears i := by
    simp only [State.channelHears, a.ch, ne_eq, stops]
  have suppressed : t.suppressed i = v.suppressed i := by simp only [State.suppressed, mode]
  rw [triggered, triggered, hears, suppressed, a.ch]

theorem triggerStrobe_strobed (i : ChannelId) (s : State) : Alike (s.strobed i) (s.triggerStrobe i) := by
  have still : ¬(s.channelHears i = true ∧ (s.ch i).triggerLost = false) → s.strobed i = s := fun h => by
    rw [State.strobed, triggered, if_neg h, State.ch, Bank.write_read]
  unfold State.triggerStrobe
  split
  · next hears =>
    split
    · next lost =>
      rw [still (by rw [lost]; exact fun h => by cases h.2)]
      exact (occur_settled _ s).alike
    · next taken =>
      have triggers : triggered i s = (s.ch i).trigger (s.suppressed i) :=
        if_pos ⟨hears, Bool.eq_false_iff.2 taken⟩
      rw [State.strobed, triggers]
      exact ⟨rfl, rfl⟩
  · next deaf =>
    rw [still fun h => deaf h.1]
    exact .refl s

theorem triggerStrobe_alike {v t : State} (a : Alike v t) (mode : t.lsv.mode = v.lsv.mode)
    (stops : t.lsv.lineState = .safeStop ↔ v.lsv.lineState = .safeStop) (i : ChannelId) :
    Alike (v.strobed i) (t.triggerStrobe i) := by
  have same : t.strobed i = { t with tcu := Bank.write t.tcu i (triggered i v) } := by
    rw [State.strobed, triggered_of_alike a mode stops]
  have strobes := triggerStrobe_strobed i t
  rw [same] at strobes
  exact (a.apply (g := fun x => { x with tcu := Bank.write x.tcu i (triggered i v) }) fun _ _ _ _ => rfl).trans strobes

/-- A count more of `k`. -/
def State.tallied (k : Counter) (v : State) : State := { v with lm := { v.lm with work := bumped k v.lm.work } }

theorem count_work (k : Counter) (s : State) : (s.count k).lm.work = bumped k s.lm.work := by
  change (s.lm.bump k).work = _
  unfold LineMonitor.bump bumped
  dsimp only
  split <;> rfl

theorem count_alike {v t : State} (a : Alike v t) (k : Counter) : Alike (v.tallied k) (t.count k) := by
  obtain ⟨frame, counts⟩ := a
  refine ⟨?_, ?_⟩
  · rw [State.count, frame]
    rfl
  · rw [count_work, counts]
    rfl

/-- The book of a slot has left, beside the Recovery Record (R7). -/
def State.bookGone (i : Slot) (b : Book) (v : State) : State :=
  { v with
    si := { v.si with books := Bank.write v.si.books i none, notices := noticesWithout i v.si.notices }
    ts := { v.ts with formats := Bank.write v.ts.formats b.format (released (Bank.read v.ts.formats b.format)) } }

theorem release_eq (e : FormatEntry) : e.release = released e := by
  obtain ⟨active, staged, n⟩ := e
  unfold FormatEntry.release released promoted FormatEntry.promote
  by_cases last : n ≤ 1
  · have zero : n - 1 = 0 := by omega
    cases staged <;> simp [last, zero]
  · have more : n - 1 ≠ 0 := by omega
    simp [last, more]

theorem removeBook_alike {v t : State} (a : Alike v t) {i : Slot} {b : Book} (book : v.book i = some b) :
    Alike (v.bookGone i b) (t.removeBook i) := by
  have removes : t.removeBook i = State.setBook i none (t.bookGone i b) := by
    rw [removeBook_of_book ((a.book i).trans book), TableStore.modifyFormat, release_eq]
    unfold State.setBook State.bookGone
    dsimp only
    rw [Bank.write_write]
    rfl
  rw [removes]
  refine (a.apply (g := State.bookGone i b) fun _ _ _ _ => rfl).trans ⟨?_, rfl⟩
  unfold State.setBook State.bookGone
  dsimp only
  rw [Bank.write_write]

/-! ## The book passes (R151) -/

/-- Gate, notice and counter, as the book passes. -/
def State.outcomeTold (b : Book) (o : BookOutcome) (s : State) : State :=
  ((if o = .bound then s else s.triggerStrobe 8).sendOutcome o b).countOutcome o

/-- The part once the book has passed, beside reports and the Line Supervisor. -/
def State.passed (i : Slot) (b : Book) (o : BookOutcome) (v : State) : State :=
  let w := if o = .bound then v else v.strobed 8
  let w := match o with
    | .bound => w.tallied .booksBound
    | .rejected => w.tallied .booksRejected
    | .proofed => w
  (w.bookGone i b).setFinish none

theorem passOutcome_eq (i : Slot) (b : Book) (o : BookOutcome) (s : State) :
    s.passOutcome i b o =
      (State.removeBook i { s.outcomeTold b o with lsv := (s.outcomeTold b o).lsv.recordExit ⟨b.id, o⟩ }).setFinish
        none := rfl

theorem moves_outcomeTold (b : Book) (o : BookOutcome) (s : State) : Moves s (s.outcomeTold b o) := by
  have gate : Moves s (if o = .bound then s else s.triggerStrobe 8) :=
    .ite (fun _ => .refl s) fun _ => moves_triggerStrobe 8 s
  exact (gate.trans (moves_sendOutcome o b _)).trans (moves_countOutcome o _)

theorem outcomeTold_keeps (b : Book) (o : BookOutcome) (s : State) :
    (s.outcomeTold b o).lsv = s.lsv ∧ (s.outcomeTold b o).si = s.si := by
  have gate : (if o = .bound then s else s.triggerStrobe 8).lsv = s.lsv
      ∧ (if o = .bound then s else s.triggerStrobe 8).si = s.si := by
    split
    · exact ⟨rfl, rfl⟩
    · exact ⟨State.triggerStrobe_lsv s 8, State.triggerStrobe_si s 8⟩
  have sent : ∀ u : State, (u.sendOutcome o b).lsv = u.lsv ∧ (u.sendOutcome o b).si = u.si := fun u => by
    unfold State.sendOutcome
    split <;> exact ⟨rfl, rfl⟩
  rw [State.outcomeTold]
  generalize (if o = .bound then s else s.triggerStrobe 8) = u at gate ⊢
  rw [← gate.1, ← gate.2, ← (sent u).1, ← (sent u).2]
  cases o <;> exact ⟨rfl, rfl⟩

section

variable {v t : State} (a : Alike v t) (mode : t.lsv.mode = v.lsv.mode)
  (stops : t.lsv.lineState = .safeStop ↔ v.lsv.lineState = .safeStop) {i : Slot} {b : Book} (o : BookOutcome)

include a mode stops

theorem passOutcome_alike (book : v.book i = some b) : Alike (v.passed i b o) (t.passOutcome i b o) := by
  have sent : ∀ {w u : State}, Alike w u → Alike w (u.sendOutcome o b) := fun {w u} x => by
    unfold State.sendOutcome
    split
    · exact x.trans ⟨rfl, rfl⟩
    · exact x
  have removed : ∀ {w u : State}, Alike w u → w.book i = some b → Alike ((w.bookGone i b).setFinish none)
      ((State.removeBook i { u with lsv := u.lsv.recordExit ⟨b.id, o⟩ }).setFinish none) := fun {w u} x here =>
    (removeBook_alike (t := { u with lsv := u.lsv.recordExit ⟨b.id, o⟩ }) (x.trans ⟨rfl, rfl⟩) here).apply (unreporting_setFinish none)
  have gated := triggerStrobe_alike a mode stops 8
  rw [passOutcome_eq]
  cases o with
  | bound => exact removed (count_alike (sent a) .booksBound) book
  | rejected => exact removed (count_alike (sent gated) .booksRejected) book
  | proofed => exact removed (sent gated) book

end

theorem passOutcome_noticed (i : Slot) (b : Book) (o : BookOutcome) (s : State) :
    Noticed s (s.passOutcome i b o) ∧ Watched s (s.passOutcome i b o) := by
  have told := moves_outcomeTold b o s
  have gone : Moves { s.outcomeTold b o with lsv := (s.outcomeTold b o).lsv.recordExit ⟨b.id, o⟩ } (s.passOutcome i b o) :=
    (Move.remove i _).moves.trans (moves_setFinish none _)
  have unrecorded : Noticed s { s.outcomeTold b o with lsv := (s.outcomeTold b o).lsv.recordExit ⟨b.id, o⟩ }
      ∧ Watched s { s.outcomeTold b o with lsv := (s.outcomeTold b o).lsv.recordExit ⟨b.id, o⟩ } :=
    ⟨told.noticed, told.watched⟩
  exact ⟨unrecorded.1.trans gone.noticed, unrecorded.2.trans gone.watched⟩

/-- The Line Supervisor keeps the exit, in its record while that follows the Book Table. -/
theorem passOutcome_lsv {s : State} {i : Slot} {b : Book} (book : s.book i = some b) (o : BookOutcome) :
    (s.passOutcome i b o).lsv = (s.lsv.recordExit ⟨b.id, o⟩).mirror i none := by
  have here : State.book i { s.outcomeTold b o with lsv := (s.outcomeTold b o).lsv.recordExit ⟨b.id, o⟩ } = some b := by
    have same : (s.outcomeTold b o).si = s.si := (outcomeTold_keeps b o s).2
    rw [State.book]
    exact (congrArg (fun x : SheetIntake => Bank.read x.books i) same).trans book
  rw [passOutcome_eq, removeBook_of_book here, ← (outcomeTold_keeps b o s).1]
  rfl

/-- The outcome notice joins the Return Queue while few places are in use. -/
theorem passOutcome_mem {s : State} (i : Slot) (b : Book) (o : BookOutcome)
    (enabled : s.ts.settings.outcomeNotices = true) (room : s.lp.queue.length + s.lp.reserved.toNat < 11) :
    b.outcomeNotice o ∈ (s.passOutcome i b o).lp.queue := by
  have gate : Joined 1 s (if o = .bound then s else s.triggerStrobe 8)
      ∧ (if o = .bound then s else s.triggerStrobe 8).ts = s.ts := by
    split
    · exact ⟨(Joined.refl s).mono (by decide), rfl⟩
    · exact ⟨triggerStrobe_joined 8 s, State.triggerStrobe_ts s 8⟩
  have pushed : b.outcomeNotice o ∈ (s.outcomeTold b o).lp.queue := by
    rw [State.outcomeTold]
    generalize (if o = .bound then s else s.triggerStrobe 8) = u at gate ⊢
    obtain ⟨⟨length, reserved⟩, tables⟩ := gate
    refine (moves_countOutcome o _).pushed.mem ?_
    rw [State.sendOutcome, tables, if_pos enabled]
    exact notify_mem (by rw [reserved]; omega)
  exact (show Moves { s.outcomeTold b o with lsv := (s.outcomeTold b o).lsv.recordExit ⟨b.id, o⟩ } (s.passOutcome i b o)
    from (Move.remove i _).moves.trans (moves_setFinish none _)).pushed.mem pushed

theorem recordExit_mirror_liveExit (i : Slot) (e : Exit) (l : LineSupervisor) :
    ((l.recordExit e).mirror i none).liveExit = some e := by
  cases frozen : l.record.retentionValid <;> simp [LineSupervisor.recordExit, LineSupervisor.mirror, frozen]

theorem recordExit_mirror_following {l : LineSupervisor} (i : Slot) (e : Exit) (following : l.record.retentionValid = false) :
    ((l.recordExit e).mirror i none).record.lastExit = some e
      ∧ Bank.read ((l.recordExit e).mirror i none).record.slots i = none := by
  simp [LineSupervisor.recordExit, LineSupervisor.mirror, following]

theorem recordExit_mirror_frozen {l : LineSupervisor} (i : Slot) (e : Exit) (frozen : l.record.retentionValid = true) :
    ((l.recordExit e).mirror i none).record = l.record := by
  simp [LineSupervisor.recordExit, LineSupervisor.mirror, frozen]

theorem passBook_of_book {f : Finish} {e : State} {b : Book} {o : BookOutcome} (book : e.book f.book = some b)
    (outcome : o = if b.fault ≠ none then .rejected else if e.lsv.mode = .dry then .proofed else .bound) :
    e.passBook f = e.passOutcome f.book b o := by
  have same : e.outcomeOf b = o := by
    rw [outcome, State.outcomeOf]
    cases b.fault <;> simp
  rw [State.passBook, book, ← same]

theorem passed_frame (i : Slot) (b : Book) (o : BookOutcome) {s v : State} (frame : v = { s with orders := v.orders }) :
    v.passed i b o = { s with
      orders := v.orders
      si := { s.si with books := Bank.write s.si.books i none, notices := noticesWithout i s.si.notices }
      ts := { s.ts with
        formats := Bank.write s.ts.formats b.format (released (Bank.read s.ts.formats b.format)) }
      tcu := if o = .bound then s.tcu else Bank.write s.tcu 8 (triggered 8 s)
      fu := { s.fu with finish := none }
      lm := { s.lm with work := match o with
        | .bound => bumped .booksBound s.lm.work
        | .rejected => bumped .booksRejected s.lm.work
        | .proofed => s.lm.work } } := by
  generalize v.orders = orders at frame
  subst frame
  cases o <;> rfl

/-- Beside the orders, `e` is `s` with the reports of an order's end: then its finish book passes as from `s`. -/
theorem bookPassed_of {f : Finish} {b : Book} {o : BookOutcome} {s v e : State}
    (a : Alike v e) (frame : v = { s with orders := v.orders }) (only : OnlyOrder .exitTransfer s v) (m : Moves s e)
    (joined : Joined 4 s e) (record : e.lsv.record = s.lsv.record) (book : s.book f.book = some b)
    (outcome : o = if b.fault ≠ none then .rejected else if s.lsv.mode = .dry then .proofed else .bound) :
    BookPassed f b o s (e.passBook f).testRest ∧ ∀ st, (e.passBook f).testRest.order st = v.order st := by
  have mode : e.lsv.mode = s.lsv.mode := (congrArg LineSupervisor.mode m.followed.1 :)
  have vlsv : v.lsv = s.lsv := (congrArg State.lsv frame :)
  have here : v.book f.book = some b := by
    rw [State.book, (congrArg State.si frame :)]
    exact book
  have passes := passBook_of_book (f := f) (o := o) ((a.book _).trans here) (by rw [mode]; exact outcome)
  have told := passOutcome_alike a (by rw [mode, vlsv]) (by rw [vlsv]; exact m.stopped_iff) o here
  have noticed := passOutcome_noticed f.book b o e
  have lsv := passOutcome_lsv ((a.book _).trans here) o
  have joins := passOutcome_mem (s := e) f.book b o
  have rests := testRest_settled (e.passOutcome f.book b o)
  rw [passes]
  have alike := a
  have a := told.trans rests.alike
  obtain ⟨_, ⟨watchedRest, noticedRest⟩, line, _⟩ := rests
  have stays : ∀ {u}, u ∈ (e.passOutcome f.book b o).lp.queue → u ∈ (e.passOutcome f.book b o).testRest.lp.queue :=
    (moves_testRest _).pushed.mem
  generalize (e.passOutcome f.book b o).testRest = t at a watchedRest noticedRest line stays
  have whole := passed_frame f.book b o frame
  have live : t.lsv.liveExit = some ⟨b.id, o⟩ := by
    rw [line, lsv]
    exact recordExit_mirror_liveExit _ _ _
  have kept : t.lsv.record = ((e.lsv.recordExit ⟨b.id, o⟩).mirror f.book none).record := by rw [line, lsv]
  have watched : Watched s t := (m.watched.trans noticed.2).trans watchedRest.watched
  have counts : t.lm.work = (v.passed f.book b o).lm.work := a.2
  rw [whole] at counts
  have order : ∀ st, t.order st = v.order st := fun st =>
    (a.order st).trans (by rw [State.order, (congrArg State.orders whole :)]; rfl)
  have noticedAll : Noticed s t := (m.noticed.trans noticed.1).trans noticedRest
  refine ⟨⟨?frame, fun x other => (order x).trans (only x other), live, fun following => ?following, fun frozen => ?frozen,
    fun bound => ?bound, fun rejected => ?rejected, fun proofed => ?proofed, fun enabled room => ?notice, noticedAll⟩, order⟩
  case frame =>
    rw [a.orders]
    refine a.1.trans ?_
    rw [whole]
  case following =>
    rw [kept]
    exact recordExit_mirror_following _ _ (by rw [record]; exact following)
  case frozen =>
    rw [kept, ← record]
    exact recordExit_mirror_frozen _ _ (by rw [record]; exact frozen)
  case bound =>
    rw [bound] at counts
    exact watched_monitored watched counts
  case rejected =>
    rw [rejected] at counts
    exact watched_monitored watched counts
  case proofed =>
    rw [proofed] at counts
    exact watched_monitored watched counts
  case notice =>
    have tables : e.ts = s.ts := (alike.ts).trans (congrArg State.ts frame :)
    have few : s.lp.queue.length + s.lp.reserved.toNat < 4 := room
    obtain ⟨length, reserved⟩ := joined
    exact stays (joins (by rw [tables]; exact enabled) (by rw [reserved]; omega))

/-- The exit's cases. -/
theorem exec_exitSensorEdge {s : State} {f : Finish} (awake : Awake s) (finish : s.fu.finish = some f) :
    exec .exitSensorEdge s = .next (s.exitEdge f).testRest := by
  change takeEvent (fun s => (s.onFinish State.exitEdge).testRest) s = _
  rw [takeEvent_awake awake, onFinish_of_some finish]

theorem confirm_onFinish_eq {j : Job} {act : Finish → State → State} {s : State} {f : Finish}
    (finish : s.fu.finish = some f) (issued : s.issued j = true) :
    State.confirm j (State.onFinish act) s = (act f (s.endOrder j.station)).testRest := by
  rw [State.confirm, if_pos issued, onFinish_of_some (f := f)]
  rw [(endOrder_alike j.station s).fu]
  exact finish

theorem exec_exitTransferDone {s : State} {f : Finish} (awake : Awake s) (finish : s.fu.finish = some f)
    (issued : s.issued .exitTransfer = true) :
    exec .exitTransferDone s = .next ((s.endOrder .exitTransfer).bookOnExit f).testRest :=
  (exec_confirm awake .exitTransfer _).trans (congrArg _ (confirm_onFinish_eq finish issued))

/-- Settles O40. -/
theorem bookPassesExit : Obligations.BookPassesExit := by
  intro s f b o awake finish book outcome
  refine ⟨fun issued free => ?_, fun step issued => ?_, fun other unissued => ?_, fun step => ?_, fun issued held => ?_⟩
  · have begins : (s.endOrder .exitTransfer).bookOnExit f = (s.endOrder .exitTransfer).setFinish (some
        { f with step := .exitRun, exitRunEnd := some (s.nowMs + s.ts.settings.exitTimeout) }) := by
      rw [State.bookOnExit, free, (endOrder_alike .exitTransfer s).ts]
      have now : (s.endOrder .exitTransfer).nowMs = s.nowMs := by rw [State.nowMs, (congrArg State.time (endOrder_alike .exitTransfer s).1 :)]; rfl
      rw [now]
      rfl
    rw [exec_exitTransferDone awake finish issued, begins]
    have ended := ((endOrder_settled .exitTransfer s).apply (unreporting_setFinish (some
        { f with step := .exitRun, exitRunEnd := some (s.nowMs + s.ts.settings.exitTimeout) }))).trans
      (testRest_settled _)
    have a := ended.alike
    obtain ⟨frame, reported, moved⟩ := ended
    exact ⟨_, rfl, frame.trans (by rw [a.orders]; rfl), (a.order _).trans (order_setOrder_none .exitTransfer s),
      fun x other => (a.order x).trans (onlyOrder_write .exitTransfer none s x other), reported, moved⟩
  · have holds : s.exitEdge f = s.setFinish (some { f with exitEdgeHeld := true }) := by
      rw [State.exitEdge, step]
      exact if_pos issued
    rw [exec_exitSensorEdge awake finish, holds]
    exact ⟨_, rfl, testRest_settled (s.setFinish (some { f with exitEdgeHeld := true }))⟩
  · have ignored : s.exitEdge f = s := by
      unfold State.exitEdge
      split
      case h_6 step => rw [unissued step, if_neg Bool.false_ne_true]
      case h_7 step => exact absurd step other
      all_goals rfl
    rw [exec_exitSensorEdge awake finish, ignored]
    exact ⟨_, rfl, testRest_settled s⟩
  · have passes : s.exitEdge f = s.passBook f := by rw [State.exitEdge, step]
    rw [exec_exitSensorEdge awake finish, passes]
    exact ⟨_, rfl, (bookPassed_of (.refl s) rfl (fun _ _ => rfl) (.refl s) ((Joined.refl s).mono (by decide)) rfl book
      outcome).1⟩
  · have passes : (s.endOrder .exitTransfer).bookOnExit f = (s.endOrder .exitTransfer).passBook f := if_pos held
    rw [exec_exitTransferDone awake finish issued, passes]
    obtain ⟨passed, order⟩ := bookPassed_of (endOrder_alike .exitTransfer s) rfl (onlyOrder_write .exitTransfer none s)
      (moves_endOrder .exitTransfer s) (endOrder_joined .exitTransfer s) (endOrder_settled .exitTransfer s).record book
      outcome
    exact ⟨_, rfl, passed, (order _).trans (order_setOrder_none .exitTransfer s)⟩

end Sys2Proof.Machine

/-! The wire feed train (R122 to R124, R142, R146, R148). -/

namespace Sys2Proof.Machine

open Sys2Proof Sys2Proof.Safety

set_option Elab.async false

theorem exec_pitchPulseEnd {s : State} (awake : Awake s) (due : CountedDown .pitch .active (s.ch 6)) :
    exec .pitchPulseEnd s = .next (if (s.ch 6).pitchPulseEnd.running = true then s.setCh 6 (s.ch 6).pitchPulseEnd
      else (s.setCh 6 (s.ch 6).pitchPulseEnd).feedEnded).testRest :=
  (takeEvent_awake awake).trans (congrArg _ (if_pos ((Channel.due_iff _ _ _).2 due)))

theorem pitchPulseEnd_of_more {c : Channel} (more : 2 ≤ c.budget) : c.pitchPulseEnd = { c with
    phase := .waiting, countdown := countOf c.live.n - countOf c.live.w, budget := c.budget - 1, output := false } := by
  have left : c.budget - 1 ≠ 0 := by omega
  simp [Channel.pitchPulseEnd, left]

theorem pitchPulseEnd_of_last {c : Channel} (last : c.budget = 1) :
    c.pitchPulseEnd = { rested c with budget := 0 } := by
  simp [Channel.pitchPulseEnd, last, Channel.toIdle, rested]

/-- While CH6 runs the line does not come to rest. -/
theorem testRest_of_feeding {s : State} (runs : (s.ch 6).phase ≠ .idle) : s.testRest = s := by
  refine testRest_of_busy (.inr (Bool.eq_false_iff.2 fun rest => ?_))
  exact runs ((atRest_iff s).1 rest).2.2.1

/-- While an order is in progress the line does not come to rest. -/
theorem testRest_of_ordered {s : State} {st : Station} (ordered : s.order st ≠ none) : s.testRest = s := by
  refine testRest_of_busy (.inr (Bool.eq_false_iff.2 fun rest => ?_))
  exact ordered (((atRest_iff s).1 rest).1 st)

theorem feedEnded_of_idle {s : State} (other : ∀ f, s.fu.finish = some f → f.step ≠ .feed) : s.feedEnded = s := by
  unfold State.feedEnded
  split
  · rfl
  · next f e => exact if_neg (other f e)

theorem feedEnded_of_feed {s : State} {f : Finish} (finish : s.fu.finish = some f) (step : f.step = .feed) :
    s.feedEnded =
      if (s.setFinish (some { f with feedOwed := 0 })).bookFaulted f.book = true then
        (s.setFinish (some { f with feedOwed := 0 })).startExit { f with feedOwed := 0 }
      else (s.setFinish (some { f with feedOwed := 0 })).afterFeed { f with feedOwed := 0 } := by
  rw [State.feedEnded, finish]
  exact if_pos step

theorem pitchLoadPoint_eq (c : Channel) : c.pitchLoadPoint = feedStarted c.budget c := startTrain_eq c.budget c

theorem exec_pitchPeriodBoundary {s : State} (awake : Awake s) (due : CountedDown .pitch .waiting (s.ch 6)) :
    exec .pitchPeriodBoundary s = .next (s.setCh 6 (feedStarted (s.ch 6).budget (s.ch 6))) := by
  rw [← pitchLoadPoint_eq]
  exact (takeEvent_awake awake).trans (congrArg _ (if_pos ((Channel.due_iff _ _ _).2 due)))

/-- The part when the train has ended, before the finish book goes on. -/
def State.trainEnded (s : State) : State := s.setCh 6 { rested (s.ch 6) with budget := 0 }

theorem exec_pitchPulseEnd_last {s : State} (awake : Awake s) (due : CountedDown .pitch .active (s.ch 6))
    (last : (s.ch 6).budget = 1) : exec .pitchPulseEnd s = .next s.trainEnded.feedEnded.testRest := by
  rw [exec_pitchPulseEnd awake due, pitchPulseEnd_of_last last]
  rfl

section

variable {s : State} {f : Finish} {b : Book} (finish : s.fu.finish = some f) (step : f.step = .feed)
  (book : s.book f.book = some b)

include finish step book

theorem feedEnded_of_faulted (fault : b.fault ≠ none) :
    s.feedEnded = (s.setFinish (some { f with feedOwed := 0 })).startExit { f with feedOwed := 0 } := by
  have faulted : s.bookFaulted f.book = true := by
    rw [bookFaulted_of_book book, Option.isSome_iff_ne_none]
    exact fault
  exact (feedEnded_of_feed finish step).trans (if_pos faulted)

theorem feedEnded_of_sound {k : Format} (format : s.bookFormat f.book = some k) (sound : b.fault = none) :
    s.feedEnded = if k.hanger = .wireHook then
        (s.setFinish (some { f with feedOwed := 0, step := .hanger })).makeOrder .hanger
      else (s.setFinish (some { f with feedOwed := 0, step := .close })).makeOrder .closer := by
  have stays : ¬s.bookFaulted f.book = true := by
    rw [bookFaulted_of_book book, sound]
    exact Bool.false_ne_true
  have hook : s.hangerIs .wireHook f.book = true ↔ k.hanger = .wireHook := by
    rw [hangerIs_of_format format, decide_eq_true_iff]
  refine ((feedEnded_of_feed finish step).trans (if_neg stays)).trans ?_
  by_cases hanger : k.hanger = .wireHook
  · rw [if_pos hanger]
    exact if_pos (hook.2 hanger)
  · rw [if_neg hanger]
    exact if_neg (mt hook.1 hanger)

end

/-- The feed's steps are all given. -/
def Finish.fed (f : Finish) : Finish := { f with feedOwed := 0 }

/-- A faulted book goes to EXIT when its train has ended. -/
theorem trainEnded_exit {s : State} {f : Finish} {b : Book} (finish : s.fu.finish = some f) (step : f.step = .feed)
    (book : s.book f.book = some b) (fault : b.fault ≠ none) :
    Alike (s.trainEnded.exiting f.fed) s.trainEnded.feedEnded.testRest ∧ Moves s s.trainEnded.feedEnded.testRest := by
  have ended : Moves s s.trainEnded := moves_setCh 6 _ s
  refine ⟨?_, (ended.trans (moves_feedEnded _)).trans (moves_testRest _)⟩
  rw [feedEnded_of_faulted (s := s.trainEnded) finish step book fault]
  exact (startExit_exiting (.refl (s.trainEnded.setFinish (some f.fed))) f.fed).trans (testRest_settled _).alike

/-- Settles O26. -/
theorem pitchTrain : Obligations.PitchTrain := by
  rintro s _ awake rfl mode zero
  refine ⟨fun phase more => ?more, fun phase last => ?last, fun phase => ?boundary⟩
  case more =>
    rw [exec_pitchPulseEnd awake ⟨mode, phase, zero⟩, pitchPulseEnd_of_more more, if_pos (by rfl)]
    refine congrArg _ (testRest_of_feeding ?_)
    simp [State.ch, State.setCh]
  case last =>
    rw [exec_pitchPulseEnd_last awake ⟨mode, phase, zero⟩ last]
    refine ⟨fun other => ?_, fun f finish step b book => ⟨fun sound k format => ?_, fun fault stage => ?_⟩⟩
    · rw [feedEnded_of_idle (s := s.trainEnded) other]
      obtain ⟨frame, reported, moved⟩ := testRest_settled s.trainEnded
      exact ⟨_, rfl, frame, reported, moved⟩
    · rw [feedEnded_of_sound (s := s.trainEnded) finish step book format sound]
      by_cases hook : k.hanger = .wireHook
      · rw [if_pos hook, testRest_of_ordered (st := .hanger) (by rw [order_makeOrder, if_pos (by rfl)]; exact nofun)]
        refine ⟨_, rfl, by simp only [if_pos hook]; rfl, fun _ => ⟨order_makeOrder_same .hanger _,
          fun x other => order_makeOrder_ne other _⟩, fun h => absurd hook h⟩
      · rw [if_neg hook, testRest_of_ordered (st := .closer) (by rw [order_makeOrder, if_pos (by rfl)]; exact nofun)]
        refine ⟨_, rfl, by simp only [if_neg hook]; rfl, fun h => absurd h hook, fun _ => ⟨order_makeOrder_same .closer _,
          fun x other => order_makeOrder_ne other _⟩⟩
    · obtain ⟨a, m⟩ := trainEnded_exit finish step book fault
      generalize State.testRest _ = t at m a ⊢
      refine ⟨t, rfl, a.1.trans ?_, (a.order _).trans (exiting_exitTransfer f.fed s.trainEnded),
        fun x other => (a.order x).trans (exiting_order other f.fed s.trainEnded),
        (a.book _).trans (exiting_book (f := f.fed) (v := s.trainEnded) book stage),
        a.onlyBook (exiting_onlyBook f.fed s.trainEnded), m.reported a.2, m.followed⟩
      rw [a.si, a.orders, exiting_frame]
      rfl
  case boundary =>
    rw [exec_pitchPeriodBoundary awake ⟨mode, phase, zero⟩]
    refine ⟨fun free => ?_, fun pending valid => ?_, fun pending invalid => ?_⟩
    · simp [feedStarted, free, State.setCh]
    · simp [feedStarted, pending, not_le.2 valid, State.setCh]
    · simp [feedStarted, pending, invalid, State.setCh]

end Sys2Proof.Machine

/-! Waits for Ready and the Bed Dwell Limit (R68, R69, R88), and the transfers ordered (R71, R86, R141). -/

namespace Sys2Proof.Machine

open Sys2Proof Sys2Proof.Safety

set_option Elab.async false

/-! ## Levels and events that change nothing -/

theorem takeLevel_awake {record act : State → State} {s : State} (awake : Awake s) :
    takeLevel record act s = .next (act (record s)) := by
  unfold takeLevel
  rw [if_neg]
  intro asserted
  exact absurd (awake.symm.trans asserted) (by decide)

/-! ## The source STATION_WAIT -/

/-- What a condition followed with its hold source leaves while it stands. -/
theorem follow_presents {c : Condition} {x : HoldSource} (off : OffLine c.number) (s : State) :
    (s.follow c x true).lm.live.getLsbD c.number = true
      ∧ (s.follow c x true).lsv.holds.has x = true
      ∧ (s.lsv.holds.has x = false → (s.follow c x true).lsv.lineState ≠ .running) := by
  refine ⟨?_, ?_, fun free => ?_⟩
  · rw [live_follow off, if_pos rfl]
  · rw [holds_follow, HoldSources.has_put, if_pos rfl]
  · unfold State.follow State.presentHold
    rw [if_neg (by change ¬s.lsv.holds.has x = true; rw [free]; exact Bool.false_ne_true), if_pos rfl]
    unfold State.addHold
    dsimp only
    split
    · exact fun h => by cases h
    · next other => exact other

theorem anyOverdue_of_order {s : State} {st : Station} {o : Order} (order : s.order st = some o)
    (overdue : o.isOverdue = true) : s.anyOverdue = true := by
  rw [State.anyOverdue, List.any_eq_true]
  exact ⟨st, mem_stations st, by rw [order]; exact overdue⟩

theorem setOrder_self (st : Station) (s : State) : s.setOrder st (s.order st) = s := by
  rw [State.setOrder, State.order, Bank.write_read]

/-- An overdue order holds the line. -/
theorem syncStationWait_of_overdue {s : State} {st : Station} {o : Order} (order : s.order st = some o)
    (overdue : o.isOverdue = true) :
    Settled s s.syncStationWait ∧ s.syncStationWait.lm.live.getLsbD 7 = true
      ∧ s.syncStationWait.lsv.holds.stationWait = true
      ∧ (s.lsv.holds.stationWait = false → s.syncStationWait.lsv.lineState ≠ .running) := by
  refine ⟨syncStationWait_settled s, ?_⟩
  rw [State.syncStationWait, anyOverdue_of_order order overdue]
  exact follow_presents (c := .stationWait) (x := .stationWait) ⟨by decide, by decide, by decide⟩ s

/-! ## Ready (R68) -/

theorem exec_stationReady {s : State} (awake : Awake s) (st : Station) :
    exec (.stationReady st true) s = .next ((s.recordReady st true).issueWaiting st) := takeLevel_awake awake

theorem issueWaiting_of_issued {s : State} {st : Station} (issued : ∀ o, s.order st = some o → o.isIssued = true) :
    s.issueWaiting st = s.syncStationWait := by
  have same : ((s.order st).map fun o => s.issueOrder o) = s.order st := by
    cases e : s.order st with
    | none => rfl
    | some o => exact congrArg some (if_pos (issued o e))
  rw [State.issueWaiting, same, setOrder_self]

theorem issueWaiting_of_waiting {s : State} {st : Station} {o : Order} (order : s.order st = some o)
    (waits : o.isIssued = false) :
    s.issueWaiting st = (s.setOrder st (some { o with phase := s.issuePhase o.job })).syncStationWait := by
  rw [State.issueWaiting, order, Option.map_some, State.issueOrder, waits]
  rfl

/-! ## The Ready Wait (R69) -/

theorem waitDue_iff {s : State} {st : Station} {o : Order} (order : s.order st = some o) {since wait : Nat} {late : Bool}
    (phase : o.phase = .waiting since wait late) :
    s.waitDue st = true ↔ late = false ∧ wait < s.nowMs - since := by
  rw [State.waitDue, order]
  simp [Order.waitPassed, phase]

/-- Settles O33. -/
theorem waitsAndDwells : Obligations.WaitsAndDwells := by
  intro s awake
  refine ⟨fun st => takeLevel_awake awake, fun st issued => ?_, fun st o order since wait late phase =>
    ⟨?_, fun fresh passed => ?_, fun stays => ?_⟩, fun b bed since start => ⟨fun fresh passed => ?_, fun stays => ?_⟩⟩
  · have ready : (s.recordReady st true).issueWaiting st = _ := issueWaiting_of_issued issued
    rw [exec_stationReady awake, ready]
    exact ⟨_, rfl, syncStationWait_settled (s.recordReady st true)⟩
  · have waits : o.isIssued = false := by rw [Order.isIssued, phase]
    have ready : (s.recordReady st true).issueWaiting st = _ := issueWaiting_of_waiting order waits
    rw [exec_stationReady awake, ready]
    have settled := syncStationWait_settled ((s.recordReady st true).setOrder st
      (some { o with phase := (s.recordReady st true).issuePhase o.job }))
    have a := settled.alike
    obtain ⟨frame, reported, moved⟩ := settled
    exact ⟨_, rfl, frame.trans (by rw [a.orders]; rfl), (a.order _).trans ((order_setOrder _ _ _ _).trans (if_pos rfl)),
      fun x other => (a.order x).trans ((order_setOrder _ _ _ _).trans (if_neg other)), reported, moved⟩
  · have expires : s.readyWaitExpiry st = (s.setOrder st (some { o with phase := .waiting since wait true })).syncStationWait := by
      rw [State.readyWaitExpiry, if_pos ((waitDue_iff order phase).2 ⟨fresh, passed⟩), order, Option.map_some,
        Order.makeOverdue, phase]
    obtain ⟨settled, live, holds, line⟩ := syncStationWait_of_overdue (st := st)
      (s := s.setOrder st (some { o with phase := .waiting since wait true })) ((order_setOrder _ _ _ _).trans (if_pos rfl)) rfl
    have a := settled.alike
    obtain ⟨frame, reported, moved⟩ := settled
    refine ⟨_, (takeEvent_awake awake).trans (congrArg _ expires), frame.trans (by rw [a.orders]; rfl),
      (a.order _).trans ((order_setOrder _ _ _ _).trans (if_pos rfl)),
      fun x other => (a.order x).trans ((order_setOrder _ _ _ _).trans (if_neg other)), live, holds, line, reported, moved⟩
  · exact (takeEvent_awake awake).trans (congrArg _ (if_neg (by
      rw [waitDue_iff order phase]
      rintro ⟨fresh, passed⟩
      rcases stays with late | early
      · exact absurd (fresh.symm.trans late) (by decide)
      · omega)))
  · have due : s.dwellPassed = true := by simp [State.dwellPassed, bed, start, fresh, passed]
    refine ⟨(s.setBed (some { b with dwellRaised := true })).occur .bedDwell, ?_, rfl, (Move.occur _ _).moves.noticed⟩
    refine (takeEvent_awake awake).trans (congrArg _ ((if_pos due).trans ?_))
    rw [bed]
    rfl
  · exact (takeEvent_awake awake).trans (congrArg _ (if_neg (by
      simp only [State.dwellPassed, bed, start, Option.any_some, Bool.and_eq_true, Bool.not_eq_true', decide_eq_true_iff]
      rintro ⟨fresh, passed⟩
      rcases stays with late | early
      · exact absurd (fresh.symm.trans late) (by decide)
      · omega)))

end Sys2Proof.Machine

/-! Strikes complete (R76, R82, R85), and what the release of a bed lift does. -/

namespace Sys2Proof.Machine

open Sys2Proof Sys2Proof.Safety

set_option Elab.async false

/-! ## Release (R76) -/

theorem onBed_iff (b : Bed) : b.onBed = true ↔ b.lift.state = some .onBed := by simp [Bed.onBed]

theorem releaseLift_of_none {s : State} (none : s.ss.bed = none) : s.releaseLift = s := by
  rw [State.releaseLift, none]

section

variable {s : State} {b : Bed} (bed : s.ss.bed = some b)

include bed

theorem releaseLift_of_busy (busy : b.lift.state ≠ some .onBed ∨ b.finished = false) : s.releaseLift = s := by
  have stays : ¬(b.onBed && b.finished) = true := by
    rw [Bool.and_eq_true, onBed_iff]
    rintro ⟨onBed, finished⟩
    rcases busy with off | works
    · exact off onBed
    · exact absurd (works.symm.trans finished) (by decide)
  rw [State.releaseLift, bed]
  exact if_neg stays

variable (onBed : b.lift.state = some .onBed) (finished : b.finished = true)

include onBed finished

theorem releaseLift_of_gate (gate : (s.ch 0).gate = true) : s.releaseLift = s.openGate := by
  have leaves : (b.onBed && b.finished) = true := by rw [Bool.and_eq_true, onBed_iff]; exact ⟨onBed, finished⟩
  rw [State.releaseLift, bed]
  exact (if_pos leaves).trans (if_pos gate)

theorem releaseLift_of_open (gate : (s.ch 0).gate = false) : s.releaseLift = s.setBed (some b.release) := by
  have leaves : (b.onBed && b.finished) = true := by rw [Bool.and_eq_true, onBed_iff]; exact ⟨onBed, finished⟩
  rw [State.releaseLift, bed]
  exact (if_pos leaves).trans (if_neg (by rw [gate]; exact Bool.false_ne_true))

end

theorem unreporting_releaseLift : Unreporting State.releaseLift := by
  intro s l m n
  unfold State.releaseLift State.openGate State.setBed State.setCh State.ch
  dsimp only
  split
  · rfl
  · split
    · split <;> rfl
    · rfl

/-- What a release may change. -/
theorem releaseLift_frame (s : State) : s.releaseLift = { s with
    tcu := s.releaseLift.tcu, ss := { s.ss with bed := s.releaseLift.ss.bed } } := by
  unfold State.releaseLift
  split
  · rfl
  · split
    · split <;> rfl
    · rfl

/-! ## A strike completes (R82) -/

theorem unreporting_setDrive (d : DriveId) (r : DriveRecord) : Unreporting (State.setDrive d r) := fun _ _ _ _ => rfl
theorem unreporting_setBed (b : Option Bed) : Unreporting (State.setBed b) := fun _ _ _ _ => rfl

/-- The part with the strike of drive `d` ended, its channel left as `c` and the bed lift as `b`. -/
def State.struckOut (d : DriveId) (c : Channel) (b : Bed) (s : State) : State :=
  ((s.setCh (strikeChannel d) c).setDrive d { s.drive d with strike := none }).setBed (some b)

/-- The count of a strike in RUN. -/
def State.strikeTallied (d : DriveId) (s : State) : State := if s.lsv.mode = .run then s.tallied (.strikes d) else s

theorem completeStrike_alike {s : State} {b : Bed} (d : DriveId) (c : Channel) (bed : s.ss.bed = some b) :
    Alike ((s.strikeTallied d).struckOut d c (b.complete d)).releaseLift
        ((s.setCh (strikeChannel d) c).completeStrike d)
      ∧ ((s.setCh (strikeChannel d) c).completeStrike d).lsv = s.lsv := by
  have struck : (s.setCh (strikeChannel d) c).completeStrike d =
      (if s.lsv.mode = .run then (s.struckOut d c (b.complete d)).count (.strikes d)
      else s.struckOut d c (b.complete d)).releaseLift := by
    rw [State.struckOut, ← show s.ss.bed.map (Bed.complete d) = some (b.complete d) by rw [bed]; rfl]
    rfl
  have counts : Alike ((s.strikeTallied d).struckOut d c (b.complete d))
      (if s.lsv.mode = .run then (s.struckOut d c (b.complete d)).count (.strikes d)
      else s.struckOut d c (b.complete d)) := by
    unfold State.strikeTallied
    split
    · exact count_alike (.refl (s.struckOut d c (b.complete d))) (.strikes d)
    · exact .refl _
  rw [struck]
  refine ⟨counts.apply unreporting_releaseLift, ?_⟩
  rw [releaseLift_frame]
  dsimp only
  split <;> rfl

/-- The bed lift and the channels after a release. -/
theorem releaseLift_bed {s : State} {b : Bed} (bed : s.ss.bed = some b) :
    (∃ x, s.releaseLift.ss.bed = some x
        ∧ x = { b with lift := x.lift, outRequest := x.outRequest, ask := x.ask }
        ∧ (b.finished = false → x.lift = b.lift ∧ s.releaseLift.ch 0 = s.ch 0)
        ∧ (b.finished = true → b.lift.state = some .onBed → (s.ch 0).gate = true →
            x.lift = b.lift ∧ s.releaseLift.ch 0 = { s.ch 0 with gate := false })
        ∧ (b.finished = true → b.lift.state = some .onBed → (s.ch 0).gate = false →
            x.lift = { b.lift with state := some .released } ∧ x.outRequest = true ∧ s.releaseLift.ch 0 = s.ch 0))
      ∧ ∀ j, j ≠ 0 → s.releaseLift.ch j = s.ch j := by
  by_cases busy : b.lift.state ≠ some .onBed ∨ b.finished = false
  · rw [releaseLift_of_busy bed busy]
    refine ⟨⟨b, bed, rfl, fun _ => ⟨rfl, rfl⟩, fun finished onBed => ?_, fun finished onBed => ?_⟩, fun _ _ => rfl⟩
    all_goals
      rcases busy with off | works
      · exact absurd onBed off
      · exact absurd (works.symm.trans finished) (by decide)
  · rw [not_or, not_not, Bool.not_eq_false] at busy
    obtain ⟨onBed, finished⟩ := busy
    have works : b.finished ≠ false := by rw [finished]; decide
    cases gate : (s.ch 0).gate with
    | true =>
      rw [releaseLift_of_gate bed onBed finished gate]
      exact ⟨⟨b, bed, rfl, fun h => absurd h works, fun _ _ _ => ⟨rfl, Bank.read_write_same _ _ _⟩,
        fun _ _ h => by cases h⟩, fun j other => Bank.read_write_ne _ _ other⟩
    | false =>
      rw [releaseLift_of_open bed onBed finished gate]
      exact ⟨⟨b.release, rfl, rfl, fun h => absurd h works, fun _ _ h => (by cases h),
        fun _ _ _ => ⟨rfl, rfl, rfl⟩⟩, fun _ _ => rfl⟩

theorem strikeChannel_ne_clamp (d : DriveId) : strikeChannel d ≠ 0 := by
  intro h
  have value := congrArg Fin.val h
  simp only [strikeChannel, Fin.val_zero] at value
  omega

section

variable (s : State) (d : DriveId) (c : Channel) (b : Bed)

theorem struckOut_clamp : (s.struckOut d c b).ch 0 = s.ch 0 :=
  Bank.read_write_ne _ _ (strikeChannel_ne_clamp d).symm

theorem struckOut_channel : (s.struckOut d c b).ch (strikeChannel d) = c := Bank.read_write_same _ _ _

theorem struckOut_other {j : ChannelId} (other : j ≠ strikeChannel d) : (s.struckOut d c b).ch j = s.ch j :=
  Bank.read_write_ne _ _ other

end

theorem moves_struckOut (d : DriveId) (c : Channel) (s : State) :
    Moves s ((s.setCh (strikeChannel d) c).completeStrike d).testRest :=
  ((moves_setCh _ c s).trans (moves_completeStrike d _)).trans (moves_testRest _)

theorem strikeTallied_eq (d : DriveId) (s : State) : s.strikeTallied d =
    { s with lm := { s.lm with work := if s.lsv.mode = .run then bumped (.strikes d) s.lm.work else s.lm.work } } := by
  unfold State.strikeTallied
  split <;> rfl

/-- What a strike's completion and the release after it change. -/
theorem strikeDone_frame {s v t : State} {d : DriveId} {c : Channel} {b : Bed}
    (v_eq : v = ((s.strikeTallied d).struckOut d c (b.complete d)).releaseLift) (a : Alike v t) :
    t = { s with
      lp := t.lp, lm := t.lm, lsv := t.lsv, tcu := t.tcu, pc := t.pc
      ss := { s.ss with
        bed := t.ss.bed, drives := Bank.write s.ss.drives d { s.drive d with strike := none } } }
    ∧ t.pc = s.pc
    ∧ t.lm.work = if s.lsv.mode = .run then bumped (.strikes d) s.lm.work else s.lm.work := by
  obtain ⟨frame, counts⟩ := a
  have released := releaseLift_frame ((s.strikeTallied d).struckOut d c (b.complete d))
  rw [← v_eq, strikeTallied_eq] at released
  generalize v.tcu = tcu, v.ss.bed = bed at released
  subst released
  generalize t.lp = lp, t.lm = lm, t.lsv = lsv at frame counts
  subst frame
  exact ⟨rfl, rfl, counts⟩

theorem strikeDone_of (s : State) (d : DriveId) (c : Channel) {b : Bed} (bed : s.ss.bed = some b) :
    StrikeDone d b c s ((s.setCh (strikeChannel d) c).completeStrike d).testRest := by
  obtain ⟨completes, lsv⟩ := completeStrike_alike d c bed
  have m := moves_struckOut d c s
  have rests := testRest_settled ((s.setCh (strikeChannel d) c).completeStrike d)
  have a := completes.trans rests.alike
  have record := rests.record
  rw [lsv] at record
  generalize ((s.setCh (strikeChannel d) c).completeStrike d).testRest = t at a m record
  obtain ⟨frame, account, counts⟩ := strikeDone_frame rfl a
  have clamp : ((s.strikeTallied d).struckOut d c (b.complete d)).ch 0 = s.ch 0 := by
    rw [struckOut_clamp, strikeTallied_eq]
    rfl
  obtain ⟨⟨x, bedAfter, same, works, gated, opened⟩, others⟩ := releaseLift_bed
    (s := (s.strikeTallied d).struckOut d c (b.complete d)) (b := b.complete d) rfl
  have finished : x.finished = (b.complete d).finished := by
    rw [same]
    rfl
  rw [clamp, ← finished] at works
  rw [clamp, ← finished] at gated opened
  have channels : ∀ j, j ≠ 0 → t.ch j = ((s.setCh (strikeChannel d) c).ch j) := fun j notClamp => by
    rw [a.ch, others j notClamp, strikeTallied_eq]
    rfl
  refine ⟨⟨frame, ⟨x, (congrArg StrikeScheduler.bed a.ss).trans bedAfter, same, fun h => ?_, fun h onBed gate => ?_,
    fun h onBed gate => ?_⟩, ?_, fun j notClamp other => ?_, fun run => ?_, fun run => ?_,
    lineFollowed_moved m.followed record⟩, account, m.noticed⟩
  · exact ⟨(works h).1, (a.ch 0).trans (works h).2⟩
  · exact ⟨(gated h onBed gate).1, (a.ch 0).trans (gated h onBed gate).2⟩
  · obtain ⟨lift, request, kept⟩ := opened h onBed gate
    exact ⟨lift, request, (a.ch 0).trans kept⟩
  · exact (channels _ (strikeChannel_ne_clamp d)).trans (Bank.read_write_same _ _ _)
  · exact (channels _ notClamp).trans (Bank.read_write_ne _ _ other)
  · rw [if_pos run] at counts
    exact watched_monitored m.watched counts
  · rw [if_neg run] at counts
    exact watched_monitored m.watched counts

/-! ## Strobe and Stroke Done -/

theorem setCh_self (i : ChannelId) (s : State) : s.setCh i (s.ch i) = s := by
  rw [State.setCh, State.ch, Bank.write_read]

theorem exec_strokeDone {s : State} (awake : Awake s) (d : DriveId) :
    exec (.strokeDone d) s = .next (s.strokeDone d).testRest := by
  change takeEvent (fun s => (s.strokeDone d).testRest) s = _
  rw [takeEvent_awake awake]

theorem setDrive_self {s : State} {d : DriveId} {k : Strike} (strike : (s.drive d).strike = some k) :
    s.setDrive d { s.drive d with strike := some k } = s := by
  rw [← strike, State.setDrive, State.drive, Bank.write_read]

/-- The end of a strobe with no trigger pending leaves its channel at rest, and the strike goes on. -/
theorem exec_strikeStrobeEnd {s : State} {d : DriveId} (awake : Awake s) (mode : (s.ch (strikeChannel d)).mode = .strobe)
    (phase : (s.ch (strikeChannel d)).phase = .active) (zero : (s.ch (strikeChannel d)).countdown = 0)
    (free : (s.ch (strikeChannel d)).pendingTrigger = false) :
    exec (.strobePulseEnd (strikeChannel d)) s =
      .next ((s.setCh (strikeChannel d) (rested (s.ch (strikeChannel d)))).strobeEnded d).testRest := by
  rw [exec_strobePulseEnd _ awake ⟨mode, phase, zero⟩, strobeEnd_of_free _ free, cutStrobe_strikeChannel]

/-- Settles O30. -/
theorem strikesComplete : Obligations.StrikesComplete := by
  intro s d k b awake strike bed
  refine ⟨fun early => ?_, fun real undone mode phase zero free => ?_, fun real ended => ?_,
    fun last mode phase zero free => ?_⟩
  · have notes : s.strokeDone d =
        s.setDrive d { s.drive d with strike := some { k with strokeDone := k.strokeDone || !k.simulated } } := by
      rw [State.strokeDone, strike]
      by_cases simulated : k.simulated = true
      · have same : { k with strokeDone := k.strokeDone || !k.simulated } = k := by
          cases k
          simp_all
        rw [same, setDrive_self strike]
        exact if_pos simulated
      · have open_ : k.strobeEnded = false := early.resolve_left simulated
        simp [simulated, open_]
    rw [exec_strokeDone awake, notes]
    exact ⟨_, rfl, testRest_settled (s.setDrive d _)⟩
  · have notes : (s.setCh (strikeChannel d) (rested (s.ch (strikeChannel d)))).strobeEnded d =
        (s.setCh (strikeChannel d) (rested (s.ch (strikeChannel d)))).setDrive d
          { s.drive d with strike := some { k with strobeEnded := true } } := by
      have same : (s.setCh (strikeChannel d) (rested (s.ch (strikeChannel d)))).drive d = s.drive d := rfl
      rw [State.strobeEnded, same, strike]
      simp [real, undone]
    rw [exec_strikeStrobeEnd awake mode phase zero free, notes]
    exact ⟨_, rfl, testRest_settled ((s.setCh (strikeChannel d) (rested (s.ch (strikeChannel d)))).setDrive d _)⟩
  · have completes : s.strokeDone d = (s.setCh (strikeChannel d) (s.ch (strikeChannel d))).completeStrike d := by
      rw [setCh_self, State.strokeDone, strike]
      simp [real, ended]
    rw [exec_strokeDone awake, completes]
    exact ⟨_, rfl, strikeDone_of s d _ bed⟩
  · have completes : (s.setCh (strikeChannel d) (rested (s.ch (strikeChannel d)))).strobeEnded d =
        (s.setCh (strikeChannel d) (rested (s.ch (strikeChannel d)))).completeStrike d := by
      have same : (s.setCh (strikeChannel d) (rested (s.ch (strikeChannel d)))).drive d = s.drive d := rfl
      rw [State.strobeEnded, same, strike]
      rcases last with done | simulated
      · simp [done]
      · simp [simulated]
    rw [exec_strikeStrobeEnd awake mode phase zero free, completes]
    exact ⟨_, rfl, strikeDone_of s d _ bed⟩

end Sys2Proof.Machine

/-! The lift arrives at the gather position (R87, R139), and two of the transfers (R86, R141). -/

namespace Sys2Proof.Machine

open Sys2Proof Sys2Proof.Safety

set_option Elab.async false

/-! ## Books revised one after another -/

theorem onlyBook_trans {i : Slot} {s t u : State} (a : OnlyBook i s t) (b : OnlyBook i t u) : OnlyBook i s u := by
  obtain ⟨frame, others⟩ := a
  obtain ⟨frame', others'⟩ := b
  refine ⟨?_, fun j other => (others' j other).trans (others j other)⟩
  rw [frame', frame]

theorem onlyBook_of_si {i : Slot} {s t : State} (same : t.si = s.si) : OnlyBook i s t := by
  refine ⟨by rw [same], fun j _ => ?_⟩
  rw [State.book, same]
  rfl

theorem modifyBook_of_alike {v t : State} (a : Alike v t) (i : Slot) (f : Book → Book) :
    Alike (v.reviseBook i f) (t.modifyBook i f) := (a.apply (unreporting_reviseBook i f)).trans (modifyBook_alike i f t)

/-! ## Completeness (R139) -/

/-- The slot's book has become GATHERED if it is complete, beside the Recovery Record. -/
def State.completeTested (i : Slot) (v : State) : State :=
  if v.complete i = true then v.reviseBook i (Book.advance .collected .gathered) else v

theorem complete_alike {v t : State} (a : Alike v t) (i : Slot) : t.complete i = v.complete i := by
  rw [State.complete, State.complete, State.openLiftOf, State.openLiftOf, a.fu, a.lb, a.book]

theorem testComplete_alike {v t : State} (a : Alike v t) (i : Slot) : Alike (v.completeTested i) (t.testComplete i) := by
  unfold State.testComplete State.completeTested
  rw [complete_alike a]
  split
  · exact modifyBook_of_alike a i _
  · exact a

theorem complete_iff {i : Slot} {s : State} {g : Gather} {k : Book} (gather : s.fu.gather = some g) (here : g.book = i)
    (book : s.book i = some k) :
    s.complete i = true ↔ k.stage = .collected ∧ k.liftsClosed = k.liftsGathered ∧ s.openLiftOf i = false := by
  simp [State.complete, gather, here, book, and_assoc]

theorem completeTested_onlyBook (i : Slot) (v : State) : OnlyBook i v (v.completeTested i) := by
  unfold State.completeTested
  split
  · exact reviseBook_onlyBook i _ v
  · exact onlyBook_of_si rfl

/-! ## The hand-over (R87) -/

/-- The lift has been counted, beside reports. -/
def State.liftCounted (b : Bed) (v : State) : State :=
  if b.punched = true then
    (v.reviseBook b.lift.slot fun k => { k with liftsPunched := k.liftsPunched + 1 }).tallied .liftsPunched
  else v.tallied .liftsPassed

theorem countLift_alike {v t : State} (a : Alike v t) (b : Bed) : Alike (v.liftCounted b) (t.countLift b) := by
  unfold State.countLift State.liftCounted
  split
  · exact count_alike (modifyBook_of_alike a _ _) _
  · exact count_alike a _

/-- The lift has been handed over, beside reports. -/
def State.handedOver (b : Bed) (v : State) : State :=
  State.setBed none <| State.completeTested b.lift.slot <|
    State.reviseBook b.lift.slot (fun k => { k with liftsGathered := k.liftsGathered + 1 }) <|
      { v.liftCounted b with fu := { v.fu with gather := v.fu.gather.map (Gather.add b.lift) } }

theorem liftCounted_fu (b : Bed) (v : State) : (v.liftCounted b).fu = v.fu := by
  unfold State.liftCounted
  split <;> rfl

theorem handOver_alike {v t : State} (a : Alike v t) (b : Bed) : Alike (v.handedOver b) (t.handOver b) := by
  have gathered := (countLift_alike a b).apply
    (g := fun x => { x with fu := { x.fu with gather := x.fu.gather.map (Gather.add b.lift) } }) fun _ _ _ _ => rfl
  have same : ({ v.liftCounted b with
      fu := { (v.liftCounted b).fu with gather := (v.liftCounted b).fu.gather.map (Gather.add b.lift) } } : State) =
      { v.liftCounted b with fu := { v.fu with gather := v.fu.gather.map (Gather.add b.lift) } } := by
    rw [liftCounted_fu]
  rw [same] at gathered
  exact (testComplete_alike (modifyBook_of_alike gathered b.lift.slot _) _).apply (unreporting_setBed none)

theorem liftCounted_onlyBook (b : Bed) (v : State) : OnlyBook b.lift.slot v (v.liftCounted b) := by
  unfold State.liftCounted
  split
  · exact reviseBook_onlyBook b.lift.slot (fun k => { k with liftsPunched := k.liftsPunched + 1 }) v
  · exact onlyBook_of_si rfl

theorem liftCounted_book {b : Bed} {v : State} {k : Book} (book : v.book b.lift.slot = some k) :
    (v.liftCounted b).book b.lift.slot =
      some { k with liftsPunched := if b.punched = true then k.liftsPunched + 1 else k.liftsPunched } := by
  unfold State.liftCounted
  split
  · exact (book_reviseBook_same _ _ v).trans (congrArg _ book)
  · exact book

/-- The part with the lift counted and in the gather record, its book having one lift more gathered. -/
def State.liftJoinedGather (b : Bed) (v : State) : State :=
  State.reviseBook b.lift.slot (fun k => { k with liftsGathered := k.liftsGathered + 1 })
    { v.liftCounted b with fu := { v.fu with gather := v.fu.gather.map (Gather.add b.lift) } }

theorem handedOver_eq (b : Bed) (v : State) :
    v.handedOver b = ((v.liftJoinedGather b).completeTested b.lift.slot).setBed none := rfl

theorem liftJoinedGather_onlyBook (b : Bed) (v : State) : OnlyBook b.lift.slot v (v.liftJoinedGather b) :=
  onlyBook_trans (liftCounted_onlyBook b v) (reviseBook_onlyBook b.lift.slot _ _)

theorem liftJoinedGather_book {b : Bed} {v : State} {k : Book} (book : v.book b.lift.slot = some k) :
    (v.liftJoinedGather b).book b.lift.slot = some { k with
      liftsPunched := if b.punched = true then k.liftsPunched + 1 else k.liftsPunched
      liftsGathered := k.liftsGathered + 1 } :=
  (book_reviseBook_same _ _ _).trans (congrArg _ (liftCounted_book book))

theorem handedOver_onlyBook (b : Bed) (v : State) : OnlyBook b.lift.slot v (v.handedOver b) :=
  onlyBook_trans (liftJoinedGather_onlyBook b v) (completeTested_onlyBook b.lift.slot (v.liftJoinedGather b))

theorem handedOver_book {b : Bed} {v : State} {k : Book} {g : Gather} (book : v.book b.lift.slot = some k)
    (gather : v.fu.gather = some g) (here : g.book = b.lift.slot) :
    (v.handedOver b).book b.lift.slot = some { k with
      liftsPunched := if b.punched = true then k.liftsPunched + 1 else k.liftsPunched
      liftsGathered := k.liftsGathered + 1
      stage := if k.stage = .collected ∧ k.liftsClosed = k.liftsGathered + 1 ∧ v.openLiftOf b.lift.slot = false
        then .gathered else k.stage } := by
  have joined := liftJoinedGather_book (v := v) (b := b) book
  have added : (v.liftJoinedGather b).fu.gather = some (g.add b.lift) := by
    change v.fu.gather.map (Gather.add b.lift) = _
    rw [gather]
    rfl
  have lifts : (v.liftJoinedGather b).openLiftOf b.lift.slot = v.openLiftOf b.lift.slot := by
    change (v.liftCounted b).openLiftOf b.lift.slot = _
    unfold State.liftCounted
    split <;> rfl
  have test := complete_iff (s := v.liftJoinedGather b) added here joined
  rw [lifts] at test
  rw [handedOver_eq]
  refine Eq.trans (b := ((v.liftJoinedGather b).completeTested b.lift.slot).book b.lift.slot) rfl ?_
  unfold State.completeTested
  split
  · next complete =>
    obtain ⟨collected, closed, none⟩ := test.1 complete
    have stage : (if k.stage = .collected ∧ k.liftsClosed = k.liftsGathered + 1 ∧ v.openLiftOf b.lift.slot = false
        then Stage.gathered else k.stage) = .gathered := if_pos ⟨collected, closed, none⟩
    rw [book_reviseBook_same, joined, stage]
    exact congrArg some (if_pos collected)
  · next incomplete =>
    have stage : (if k.stage = .collected ∧ k.liftsClosed = k.liftsGathered + 1 ∧ v.openLiftOf b.lift.slot = false
        then Stage.gathered else k.stage) = k.stage := if_neg fun h => incomplete (test.2 h)
    rw [joined, stage]

theorem completeTested_frame (i : Slot) (v : State) : v.completeTested i = { v with si := (v.completeTested i).si } := by
  unfold State.completeTested
  split <;> rfl

theorem liftJoinedGather_frame (b : Bed) (v : State) : v.liftJoinedGather b = { v with
    si := (v.liftJoinedGather b).si
    fu := { v.fu with gather := v.fu.gather.map (Gather.add b.lift) }
    lm := { v.lm with work := bumped (if b.punched = true then .liftsPunched else .liftsPassed) v.lm.work } } := by
  unfold State.liftJoinedGather State.liftCounted
  split <;> rfl

theorem handedOver_frame (b : Bed) (v : State) : v.handedOver b = { v with
    si := (v.handedOver b).si
    ss := { v.ss with bed := none }
    fu := { v.fu with gather := v.fu.gather.map (Gather.add b.lift) }
    lm := { v.lm with work := bumped (if b.punched = true then .liftsPunched else .liftsPassed) v.lm.work } } := by
  have joined := liftJoinedGather_frame b v
  have tested := completeTested_frame b.lift.slot (v.liftJoinedGather b)
  rw [handedOver_eq]
  generalize (v.liftJoinedGather b).completeTested b.lift.slot = y at tested
  generalize v.liftJoinedGather b = x at joined tested
  generalize x.si = si at joined
  subst joined
  generalize y.si = si at tested
  subst tested
  rfl

theorem liftGathered_of_bed {s : State} {b : Bed} (bed : s.ss.bed = some b) : s.liftGathered = s.handOver b := by
  rw [State.liftGathered, bed]

/-- Settles O32. -/
theorem liftGathered : Obligations.LiftGathered := by
  intro s o b g k awake order job issuedOrder bed gather here book punched punchedIff
  have issued : s.issued .outTransfer = true := by
    simp [State.issued, Job.station, order, job, issuedOrder]
  have mark : b.punched = punched := by
    rw [Bool.eq_iff_iff, punchedIff]
    simp [Bed.punched, Bed.isStrike]
  subst mark
  have left := endOrder_alike .bedShuttle s
  have onBed : (s.endOrder .bedShuttle).ss.bed = some b := (congrArg StrikeScheduler.bed left.ss).trans bed
  have begun := handOver_alike left b
  rw [← liftGathered_of_bed onBed] at begun
  obtain ⟨a, m⟩ := confirm_issued issued moves_liftGathered begun
  have whole := handedOver_frame b (s.setOrder .bedShuttle none)
  have counts := a.2
  rw [whole] at counts
  refine ⟨_, exec_confirm awake .outTransfer _, a.1.trans ?_, ?_, fun x other => ?_,
    a.onlyBook (handedOver_onlyBook b (s.setOrder .bedShuttle none)), (a.book _).trans ?_,
    watched_monitored m.watched counts, m.noticed, m.followed⟩
  · have added : s.fu.gather.map (Gather.add b.lift) =
        some { g with lifts := g.lifts ++ [{ b.lift with state := some .gathered }] } := by
      rw [gather]
      rfl
    rw [a.orders, a.si, whole, ← added]
    rfl
  · rw [a.order, whole]
    exact order_setOrder_none .bedShuttle s
  · rw [a.order, whole]
    exact onlyOrder_write .bedShuttle none s x other
  · exact handedOver_book (v := s.setOrder .bedShuttle none) book gather here

end Sys2Proof.Machine

/-! Counters transferred and read (R174, R176 to R179), events set up and cleared, and the status pages (R183 to
R187, 11.5). -/

namespace Sys2Proof.Machine

open Sys2Proof Sys2Proof.Safety

set_option Elab.async false

/-! ## Packed bits -/

theorem packBits_lt (l : List Bool) : packBits l < 2 ^ l.length := by
  induction l with
  | nil => exact Nat.one_pos
  | cons b l ih =>
    have bit : b.toNat ≤ 1 := Bool.toNat_le b
    rw [List.length_cons, Nat.pow_succ]
    change b.toNat + 2 * packBits l < _
    omega

/-- Bit `n` of packed bits is the `n`-th of them. -/
theorem packBits_testBit (l : List Bool) (n : Nat) : (packBits l).testBit n = l.getD n false := by
  induction l generalizing n with
  | nil => simp [packBits]
  | cons b l ih =>
    change (b.toNat + 2 * packBits l).testBit n = _
    cases n with
    | zero => cases b <;> simp [Nat.testBit_zero, Nat.add_mod]
    | succ n =>
      have half : (b.toNat + 2 * packBits l) / 2 = packBits l := by
        have bit : b.toNat ≤ 1 := Bool.toNat_le b
        omega
      rw [Nat.testBit_succ, half, ih]
      simp

/-! ## Counters -/

theorem countsBytes_marks (v : Vector Count 18) : ∃ marks : BitVec 24,
    countsBytes v =
        ((List.finRange 18).flatMap fun k => natBytes (Bank.read v k).value)
          ++ [marks.extractLsb' 16 8, marks.extractLsb' 8 8, marks.extractLsb' 0 8]
      ∧ (∀ k : Fin 18, marks.getLsbD k.val = (Bank.read v k).overflow)
      ∧ marks.extractLsb' 18 6 = 0 := by
  refine ⟨_, rfl, fun k => ?_, ?_⟩
  · have low : k.val < 24 := by omega
    rw [BitVec.getLsbD_ofNat, packBits_testBit]
    simp [low]
  · have bound := packBits_lt ((List.finRange 18).map fun i => (Bank.read v i).overflow)
    rw [List.length_map, List.length_finRange] at bound
    ext i hi
    have high : (packBits ((List.finRange 18).map fun i => (Bank.read v i).overflow)).testBit (18 + i) = false :=
      Nat.testBit_eq_false_of_lt (bound.trans_le (Nat.pow_le_pow_right (by decide) (by omega)))
    simp [BitVec.getLsbD_ofNat, high]

theorem reportDue_iff {s : State} {r : ReportTimer} (timer : s.lm.timer = some r) (mode : s.lsv.mode ≠ .echo) :
    s.reportDue = true ↔ r.length ≤ r.elapsed := by
  simp [State.reportDue, timer, mode]

/-- Settles O49. -/
theorem countersTransferredAndRead : Obligations.CountersTransferredAndRead := by
  refine ⟨?_, countsBytes_marks⟩
  rintro s tag m awake room rfl
  refine ⟨fun mode => ?_, fun echo => ⟨take_echoed_of_free awake echo rfl room, take_echoed_of_free awake echo rfl room⟩⟩
  have served : Served s := ⟨awake, mode, room⟩
  refine ⟨fun manual => ?_, fun periodic => ?_, take_quiet served s ⟨.done, s.lm.readData⟩ rfl, fun r timer passed => ?_⟩
  · refine take_quiet served (s.setLm s.lm.transfer) ⟨.done, [s.lm.transfer.transferNumber]⟩ ?_
    have mode : (admitted s).ts.settings.reportMode = .manual := manual
    rw [State.counterTransfer, mode]
    rfl
  · have mode : (admitted s).ts.settings.reportMode = .periodic := periodic
    exact take_refused served (by rw [State.counterTransfer, mode])
  · exact (takeEvent_awake awake).trans (congrArg _ (if_pos ((reportDue_iff timer mode).2 passed)))

/-! ## Events (R183 to R185) -/

theorem conditionSetOk_iff (x : Half) : conditionSetOk x = true ↔ x.getLsbD 15 = false := by
  rw [conditionSetOk, BitVec.msb_eq_getLsbD_last, Bool.not_eq_true']

theorem ne_zero_iff_getLsbD (x : Half) : x ≠ 0 ↔ ∃ n : Fin 16, x.getLsbD n.val = true := by
  constructor
  · intro nonzero
    by_contra none
    push Not at none
    refine nonzero (BitVec.eq_of_getLsbD_eq fun i below => ?_)
    rw [Bool.eq_false_iff.2 (none ⟨i, below⟩)]
    simp
  · rintro ⟨n, bit⟩ rfl
    simp at bit

theorem alert_iff (s : State) : s.alert = true ↔
    ∃ n : Fin 16, s.lm.latches.getLsbD n.val = true
      ∧ (s.lm.enables.getLsbD n.val = true ∨ n.val = 13 ∨ n.val = 14) := by
  have masks : ∀ n : Fin 16, ((Condition.mask .safeStop).getLsbD n.val = true ↔ n.val = 13)
      ∧ ((Condition.mask .powerWarning).getLsbD n.val = true ↔ n.val = 14) := by decide
  unfold State.alert
  rw [bne_iff_ne, ne_zero_iff_getLsbD]
  simp only [BitVec.getLsbD_and, BitVec.getLsbD_or, Bool.and_eq_true, Bool.or_eq_true, (masks _).1, (masks _).2, or_assoc]

/-! ## The pages (11.5) -/

theorem packBits_two : ∀ a b : Bool, packBits [a, b] = (if a = true then 1 else 0) + (if b = true then 2 else 0) := by
  decide

theorem packBits_three : ∀ a b c : Bool, packBits [a, b, c] =
    (if a = true then 1 else 0) + (if b = true then 2 else 0) + (if c = true then 4 else 0) := by
  decide

theorem packBits_five : ∀ a b c d e : Bool, packBits [a, b, c, d, e] =
    (if a = true then 1 else 0) + (if b = true then 2 else 0) + (if c = true then 4 else 0)
      + (if d = true then 8 else 0) + (if e = true then 16 else 0) := by
  decide

theorem readPage_none {page : Byte} (above : 3 ≤ page.toNat) : readPage page = none := by
  have ne : ∀ k : Byte, k.toNat < 3 → page ≠ k := fun k small same => by rw [same] at above; omega
  rw [readPage, if_neg (ne 0 (by decide)), if_neg (ne 1 (by decide)), if_neg (ne 2 (by decide))]

theorem bedCode_eq (b : Bed) :
    b.code = if b.lift.state = some .onBed then 2 else if b.lift.state = some .released then 3 else 1 := by
  unfold Bed.code
  rcases b.lift.state with _ | (_ | _ | _ | _) <;> rfl

theorem driveBytes_eq (d : DriveId) (s : State) : s.driveBytes d =
    [(s.driveState d).code,
      natByte ((if (s.account d).temperature = .hot then 1 else 0) + (if 24 ≤ (s.account d).debt then 2 else 0)),
      (s.account d).temperature.code, BitVec.ofInt 8 (s.account d).debt] := by
  rw [State.driveBytes, packBits_two]
  simp only [State.hot, State.forced, decide_eq_true_iff]

theorem linePage_length (s : State) : s.linePage.length = 32 := by
  have bed : s.bedBytes.length = 3 := by
    unfold State.bedBytes
    split <;> rfl
  have gather : s.gatherBytes.length = 3 := by
    unfold State.gatherBytes
    split <;> rfl
  have finish : s.finishBytes.length = 2 := by
    unfold State.finishBytes
    split <;> rfl
  simp [State.linePage, bed, gather, finish, halfBytes, natBytes]

theorem pauseByte_eq (s : State) : s.pauseByte =
    natByte ((if s.si.pauseSource = true then 1 else 0) + (if s.lb.pauseSource = true then 2 else 0)
      + (if s.lsv.lineState = .running then 0 else 4)) := by
  rw [State.pauseByte, packBits_three]
  cases s.lsv.lineState <;> rfl

theorem gatherBytes_of_some {s : State} {g : Gather} (gather : s.fu.gather = some g) :
    s.gatherBytes = [if g.lifts = [] then 1 else 2, natByte g.book.val, natByte g.lifts.length] := by
  rw [State.gatherBytes, gather]
  simp only [List.isEmpty_iff]
  rfl

/-- Settles O51. -/
theorem eventsSetUpAndStatusRead : Obligations.EventsSetUpAndStatusRead := by
  refine ⟨fun s tag a b served => ⟨fun above => ?_, fun enables edges => ?_, fun above => ?_, fun named => ?_, alert_iff s⟩,
    fun s tag page served => ⟨fun above => ?_, ?_, ?_, ?_, linePage_length s, fun _ => rfl, ?_⟩⟩
  · refine take_refused served (if_neg ?_)
    rw [Bool.and_eq_true, conditionSetOk_iff, conditionSetOk_iff]
    rintro ⟨enables, edges⟩
    rcases above with high | high
    · exact absurd (high.symm.trans enables) (by decide)
    · exact absurd (high.symm.trans edges) (by decide)
  · refine take_quiet served (s.setLm { s.lm with enables := a, edges := b }) .done (if_pos ?_)
    rw [Bool.and_eq_true, conditionSetOk_iff, conditionSetOk_iff]
    exact ⟨enables, edges⟩
  · refine take_refused served (if_neg ?_)
    rw [conditionSetOk_iff, above]
    decide
  · exact take_quiet served (s.setLm { s.lm with latches := s.lm.latches &&& ~~~a }) .done
      (if_pos ((conditionSetOk_iff a).2 named))
  · exact take_refused served (by rw [State.statusRead, readPage_none above])
  · exact take_served served
  · refine take_quiet served s ⟨.done, s.drivesPage⟩ rfl |>.trans ?_
    rw [State.drivesPage]
    simp only [driveBytes_eq]
  · exact take_quiet served s ⟨.done, s.booksPage⟩ rfl
  · rintro h c bed gather finish rfl rfl rfl rfl rfl
    have bed : s.bedBytes = (match s.ss.bed with
        | none => [0, Config.emptyBedNumber s.free, 0xFF#8]
        | some b =>
          [if b.lift.state = some .onBed then 2 else if b.lift.state = some .released then 3 else 1,
            b.lift.number.getD (Config.emptyBedNumber s.free), natByte b.lift.slot.val]) := by
      unfold State.bedBytes
      cases s.ss.bed with
      | none => rfl
      | some b => simp only [bedCode_eq]; rfl
    have gather : s.gatherBytes = (match s.fu.gather with
        | none => [0, 0xFF#8, 0]
        | some g => [if g.lifts = [] then 1 else 2, natByte g.book.val, natByte g.lifts.length]) := by
      cases e : s.fu.gather with
      | none => rw [State.gatherBytes, e]; rfl
      | some g => exact gatherBytes_of_some e
    rw [State.linePage, HoldSources.byte, StopCauses.byte, packBits_five, packBits_five, pauseByte_eq, bed, gather,
      packBits_two]
    rfl

end Sys2Proof.Machine

/-! Resets (R172, with R23, R44, R63, R92, R112, R133, R156, R188, R200): what the blocks hold, and the levels that
are taken at the end of a reset. -/

namespace Sys2Proof.Machine

open Sys2Proof Sys2Proof.Safety

set_option Elab.async false

/-! ## The blocks -/

/-- What `LineCleared` speaks of is as a reset leaves it. -/
structure BlocksCleared (t : State) : Prop where
  si : t.si = SheetIntake.reset
  lb : t.lb = LiftBuilder.reset
  ts : t.ts = TableStore.reset
  ss : t.ss = StrikeScheduler.reset
  orders : t.orders = Vector.replicate 6 none
  pc : t.pc = PurgeController.read t.inputs
  tcu : t.tcu = Vector.replicate 9 Channel.reset
  fu : t.fu = FinishUnit.reset

theorem blocksReset_cleared (r : RecoveryRecord) (s : State) : BlocksCleared (s.blocksReset r) :=
  ⟨rfl, rfl, rfl, rfl, rfl, rfl, rfl, rfl⟩

theorem bringUp_cleared (s : State) : BlocksCleared s.bringUp := by
  unfold State.bringUp
  constructor <;> simp [State.superviseInputs, State.blocksReset]

section

variable {t : State} (h : BlocksCleared t)

include h

theorem account_of_cleared (d : DriveId) :
    t.account d = DriveAccount.reset (TempReading.temperature (Bank.read t.inputs.temperature d)) := by
  rw [State.account, h.pc]
  exact Bank.read_map _ _ d

theorem drive_of_cleared (d : DriveId) : t.drive d = { faulted := false, strike := none, lastBegin := none } := by
  rw [State.drive, h.ss]
  simp [StrikeScheduler.reset]

theorem ch_of_cleared (i : ChannelId) : t.ch i = Channel.reset := by
  rw [State.ch, h.tcu]
  simp

theorem driveState_of_cleared (d : DriveId) : t.driveState d = .disabled := by
  rw [driveState_eq, drive_of_cleared h, account_of_cleared h, ch_of_cleared h]
  simp [DriveAccount.reset, Channel.reset]

theorem lineCleared_of_cleared : LineCleared t := by
  have books : ∀ i, t.book i = none := fun i => by
    rw [State.book, h.si]
    simp [SheetIntake.reset]
  have orders : ∀ st, t.order st = none := fun st => by
    rw [State.order, h.orders]
    simp
  have drives : ∀ d, (t.drive d).lastBegin = none := fun d => by rw [drive_of_cleared h]
  unfold LineCleared
  rw [h.si, h.lb, h.ts, h.ss, h.fu]
  exact ⟨books, rfl, rfl, rfl, rfl, rfl, rfl, rfl, rfl, rfl, rfl, rfl, rfl, fun p => by simp [TableStore.reset],
    fun f => by simp [TableStore.reset], fun d => by simp [TableStore.reset], rfl, rfl, rfl, driveState_of_cleared h,
    drives, orders, ch_of_cleared h, rfl, rfl, rfl⟩

theorem accountsReset_of_cleared (still : t.lsv.moved = false) : AccountsReset t := by
  refine ⟨fun d => ?_, by rw [h.pc]; rfl⟩
  have account := account_of_cleared h d
  have idle : t.requestTested d = false := by
    simp [State.requestTested, State.hasRun, State.timerSuspended, State.unusable, still, account,
      driveState_of_cleared h d, DriveAccount.reset]
  have free : t.forced d = false := by simp [State.forced, account, DriveAccount.reset]
  have none : t.purgeRequested d = false := by simp [State.purgeRequested, idle, free]
  rw [account]
  exact ⟨rfl, rfl, rfl, rfl, rfl, rfl, none⟩

end

theorem monitorReset_of_keeps {t : State} (work : t.lm.work = LineMonitor.reset.work)
    (rest : t.lm = { LineMonitor.reset with work := t.lm.work, latches := t.lm.latches, live := t.lm.live }) :
    MonitorReset t := by
  unfold MonitorReset
  rw [rest, work]
  exact ⟨fun k => by simp [LineMonitor.reset], fun k => by simp [LineMonitor.reset], rfl, rfl, rfl, rfl⟩

/-! ## The levels at the end of a reset (R188) -/

/-- A part just reset, whose levels so far taken are `x`, announced in `q`. -/
def State.reporting (x : Half) (q : List Upstream) (s : State) : State :=
  { s with lm := { LineMonitor.reset with live := x, latches := x }, lp := { LinkPort.reset with queue := q } }

theorem reporting_reportLevel {c : Condition} {p : Bool} {x : Half} {q : List Upstream} (s : State)
    (fresh : x.getLsbD c.number = false) (room : q.length < 12) :
    (s.reporting x q).reportLevel c p = s.reporting (if p then x ||| c.mask else x)
      (if p && c.nonMaskable then q ++ [.eventNotice c .present (x ||| c.mask)] else q) := by
  have live : c.isIn (s.reporting x q).lm.live = false := fresh
  cases p with
  | false => exact report_of_same live
  | true =>
    have change : c.isIn (s.reporting x q).lm.live ≠ true := by rw [live]; decide
    have edge : (s.reporting x q).lm.edgeSets c true = true := rfl
    have latched : (s.reporting x q).lm.latches.getLsbD c.number = false := fresh
    have enabled : (s.reporting x q).lm.enables.getLsbD c.number = false := BitVec.getLsbD_zero
    have few : q.countP Upstream.isNotice ≤ q.length := List.countP_le_length
    have joins : ∀ u, ({ LinkPort.reset with queue := q } : LinkPort).pushNotice u =
        { LinkPort.reset with queue := q ++ [u] } := fun u => by
      refine if_pos ⟨?_, ?_⟩
      · change q.length + 0 < 16
        omega
      · change q.countP Upstream.isNotice < 12
        omega
    unfold State.reportLevel
    rw [report_of_change change, reportNotice_of_change change, pushOptional_ite, edge, latched, enabled]
    cases c.nonMaskable with
    | false => rfl
    | true =>
      simp only [true_and, or_true, if_true, Bool.and_true]
      exact congrArg (fun l => { s with
        lm := { LineMonitor.reset with live := x ||| c.mask, latches := x ||| c.mask }, lp := l }) (joins _)

theorem levelOf_reporting (c : Condition) (x : Half) (q : List Upstream) (s : State) :
    (s.reporting x q).levelOf c = s.levelOf c := by cases c <;> rfl

/-- The levels taken at the end of a reset, by what the line state, the temperatures, the air and the power bring. -/
def levelsAt (held hot airLow stop power : Bool) : Half :=
  0x0002#16 ||| (if held = true then 0x0004#16 else 0) ||| (if hot = true then 0x0008#16 else 0)
    ||| (if airLow = true then 0x0020#16 else 0) ||| (if stop = true then 0x2000#16 else 0)
    ||| (if power = true then 0x4000#16 else 0)

theorem takeLevels_reporting {s : State} (registration : s.levelOf .registration = false)
    (pause : s.levelOf .pause = true) (forced : s.levelOf .driveForced = false) (bit : s.levelOf .bitWorn = false)
    (wait : s.levelOf .stationWait = false) {held hot airLow stop power : Bool} (isHeld : s.levelOf .held = held)
    (isHot : s.levelOf .driveHot = hot) (isLow : s.levelOf .airLow = airLow) (isStop : s.levelOf .safeStop = stop)
    (isPower : s.levelOf .powerWarning = power) :
    (s.reporting 0 []).takeLevels = s.reporting (levelsAt held hot airLow stop power)
      ((if stop = true then
          [.eventNotice .safeStop .present (levelsAt held hot airLow stop power &&& 0x3FFF#16)] else [])
        ++ (if power = true then [.eventNotice .powerWarning .present (levelsAt held hot airLow stop power)] else [])) := by
  unfold State.takeLevels levelConditions
  simp only [List.foldl_cons, List.foldl_nil]
  rw [levelOf_reporting, registration, reporting_reportLevel _ (by rfl) (by decide)]
  rw [levelOf_reporting, pause, reporting_reportLevel _ (by rfl) (by decide)]
  rw [levelOf_reporting, isHeld, reporting_reportLevel _ (by rfl) (by decide)]
  rw [levelOf_reporting, isHot, reporting_reportLevel _ (by cases held <;> rfl) (by cases held <;> decide)]
  rw [levelOf_reporting, forced, reporting_reportLevel _ (by cases held <;> cases hot <;> rfl)
    (by cases held <;> cases hot <;> decide)]
  rw [levelOf_reporting, isLow, reporting_reportLevel _ (by cases held <;> cases hot <;> rfl)
    (by cases held <;> cases hot <;> decide)]
  rw [levelOf_reporting, bit, reporting_reportLevel _ (by cases held <;> cases hot <;> cases airLow <;> rfl)
    (by cases held <;> cases hot <;> cases airLow <;> decide)]
  rw [levelOf_reporting, wait, reporting_reportLevel _ (by cases held <;> cases hot <;> cases airLow <;> rfl)
    (by cases held <;> cases hot <;> cases airLow <;> decide)]
  rw [levelOf_reporting, isStop, reporting_reportLevel _ (by cases held <;> cases hot <;> cases airLow <;> rfl)
    (by cases held <;> cases hot <;> cases airLow <;> decide)]
  rw [levelOf_reporting, isPower, reporting_reportLevel _ (by cases held <;> cases hot <;> cases airLow <;> cases stop <;> rfl)
    (by cases held <;> cases hot <;> cases airLow <;> cases stop <;> simp [Condition.nonMaskable])]
  cases held <;> cases hot <;> cases airLow <;> cases stop <;> cases power <;> rfl

/-! ## The end of a reset (R172) -/

theorem levelsTaken_of_reporting {s : State} {held hot airLow stop power : Bool} (isHeld : decide (s.lsv.lineState = .held) = held)
    (isHot : s.anyHot = hot) (isLow : (!s.inputs.purgeAir) = airLow) (isStop : decide (s.lsv.lineState = .safeStop) = stop)
    (isPower : s.inputs.powerWarning = power) :
    LevelsTaken (s.reporting (levelsAt held hot airLow stop power)
      ((if stop = true then
          [.eventNotice .safeStop .present (levelsAt held hot airLow stop power &&& 0x3FFF#16)] else [])
        ++ (if power = true then [.eventNotice .powerWarning .present (levelsAt held hot airLow stop power)] else []))) := by
  subst isHeld isHot isLow isStop isPower
  refine ⟨?_, rfl, ?_⟩
  · change levelsAt _ _ _ _ _ = _
    unfold levelsAt
    simp only [decide_eq_true_iff, Bool.not_eq_true']
    rfl
  · simp only [decide_eq_true_iff]
    rfl

/-- The part at the end of a reset, before the levels are taken. -/
def State.supervised (s : State) : State := (s.blocksReset s.lsv.record).superviseInputs

theorem supervised_reporting (s : State) : s.supervised.reporting 0 [] = s.supervised := rfl

theorem supervised_cleared (s : State) : BlocksCleared s.supervised := ⟨rfl, rfl, rfl, rfl, rfl, rfl, rfl, rfl⟩

theorem lineStateFrom_ne_running (x : Inputs) : lineStateFrom x = .held ∨ lineStateFrom x = .safeStop := by
  unfold lineStateFrom
  split
  · exact .inr rfl
  · exact .inl rfl

theorem bringUp_reporting (s : State) : ∃ x q, s.bringUp = s.supervised.reporting x q ∧ LevelsTaken s.bringUp := by
  have cleared := supervised_cleared s
  have pause : s.supervised.levelOf .pause = true := by
    have line : s.supervised.lsv.lineState = lineStateFrom s.inputs := rfl
    have paused : s.supervised.lsv.lineState.pauses = true := by
      rw [line]
      rcases lineStateFrom_ne_running s.inputs with e | e <;> rw [e] <;> rfl
    simp [State.levelOf, State.pausePresent, paused]
  have forced : s.supervised.levelOf .driveForced = false := by
    simp [State.levelOf, State.anyForced, State.forced, account_of_cleared cleared, DriveAccount.reset]
  have wait : s.supervised.levelOf .stationWait = false := by
    simp [State.levelOf, State.anyOverdue, State.order, cleared.orders]
  have air : s.supervised.pc.air = s.inputs.purgeAir := rfl
  have taken := takeLevels_reporting (s := s.supervised) rfl pause forced rfl wait rfl rfl rfl rfl rfl
  have up : s.bringUp = _ := taken
  refine ⟨_, _, up, ?_⟩
  rw [up]
  exact levelsTaken_of_reporting rfl rfl rfl rfl rfl

theorem bringUp_freshlyReset {s : State} (released : s.resetAsserted = false) :
    FreshlyReset s.bringUp ∧ s.bringUp.inputs = s.inputs
      ∧ s.bringUp.lsv.record =
        if s.inputs.powerWarning = true ∧ s.lsv.record.retentionValid = false then
          { s.lsv.record with retentionValid := true, freezeReason := some .powerWarning }
        else s.lsv.record := by
  have cleared := bringUp_cleared s
  obtain ⟨x, q, up, levels⟩ := bringUp_reporting s
  have monitor : MonitorReset s.bringUp := by
    rw [up]
    exact monitorReset_of_keeps rfl rfl
  have supervisor : SupervisorReset s.bringUp := by
    rw [up]
    refine ⟨rfl, rfl, rfl, ?_, rfl, rfl⟩
    change lineStateFrom s.inputs = if s.inputs.guardClosed = true ∧ s.inputs.powerWarning = false then _ else _
    unfold lineStateFrom
    cases s.inputs.guardClosed <;> cases s.inputs.powerWarning <;> rfl
  have moved : s.bringUp.lsv.moved = false := supervisor.2.2.1
  have link : s.bringUp.lp.receiver = .hunting ∧ s.bringUp.lp.reserved = false
      ∧ s.bringUp.lp.requestsDiscarded = false ∧ s.bringUp.lp.noticesLost = false := by
    rw [up]
    exact ⟨rfl, rfl, rfl, rfl⟩
  refine ⟨⟨by rw [up]; exact released, lineCleared_of_cleared cleared, accountsReset_of_cleared cleared moved, monitor,
    supervisor, levels, link⟩, by rw [up]; rfl, ?_⟩
  rw [up]
  change freezeFrom s.inputs s.lsv.record = _
  unfold freezeFrom RecoveryRecord.freeze
  cases s.inputs.powerWarning <;> cases s.lsv.record.retentionValid <;> rfl

theorem freeze_eq (why : FreezeReason) (r : RecoveryRecord) : r.freeze why =
    if r.retentionValid = true then r else { r with retentionValid := true, freezeReason := some why } := rfl

theorem atPowerOn_eq (held : Bool) (r : RecoveryRecord) : r.atPowerOn held =
    if r.retentionValid = true ∧ held = true then r
    else { slots := Vector.replicate 8 none, lastExit := none, freezeReason := none, retentionValid := false } := by
  unfold RecoveryRecord.atPowerOn
  simp only [Bool.and_eq_true]
  rfl

theorem exec_resetInputRelease (s : State) :
    exec .resetInputRelease s = .next (if s.resetAsserted then s.releaseReset else s) := rfl

/-- The outputs while the Reset input is asserted. -/
theorem outputs_of_asserted {t : State} (asserted : t.resetAsserted = true) (clear : t.lm.latches = 0) :
    t.safeStopOutput = true ∧ t.pauseOutput = false ∧ t.alert = false := by
  simp [State.safeStopOutput, State.pauseOutput, State.alert, asserted, clear]

/-- The part at power-on, with its blocks reset. -/
def State.poweredOn (x : Inputs) (s : State) : State :=
  State.blocksReset (s.lsv.record.atPowerOn x.standbyHeld) { s with inputs := x }

theorem exec_powerOn (x : Inputs) (s : State) : exec (.powerOn x) s =
    .next (if s.resetAsserted = true then s.poweredOn x else (s.poweredOn x).bringUp) := rfl

/-- Settles O52. -/
theorem resetsLeaveTheSpecValues : Obligations.ResetsLeaveTheSpecValues := by
  intro s x
  refine ⟨fun awake => ⟨?_, ?_, ?_⟩, fun asserted => ⟨?_, ?_⟩⟩
  · have cleared : BlocksCleared s.assertReset := ⟨rfl, rfl, rfl, rfl, rfl, rfl, rfl, rfl⟩
    exact ⟨s.assertReset, takeEvent_awake awake, rfl, lineCleared_of_cleared cleared,
      accountsReset_of_cleared cleared rfl, monitorReset_of_keeps rfl rfl, rfl, rfl, rfl, freeze_eq _ _,
      outputs_of_asserted rfl rfl⟩
  · rw [exec_resetInputRelease, awake]
    rfl
  · have released : (s.poweredOn x).resetAsserted = false := awake
    obtain ⟨fresh, inputs, record⟩ := bringUp_freshlyReset released
    refine ⟨(s.poweredOn x).bringUp, ?_, inputs, fresh, ?_⟩
    · rw [exec_powerOn, if_neg (by rw [awake]; exact Bool.false_ne_true)]
    · rintro r rfl
      rw [record, ← atPowerOn_eq]
      rfl
  · rw [exec_resetInputRelease, asserted]
    obtain ⟨fresh, inputs, record⟩ := bringUp_freshlyReset (s := { s with resetAsserted := false }) rfl
    exact ⟨_, rfl, inputs, fresh, record⟩
  · have cleared : BlocksCleared (s.poweredOn x) := ⟨rfl, rfl, rfl, rfl, rfl, rfl, rfl, rfl⟩
    refine ⟨s.poweredOn x, ?_, asserted, rfl, lineCleared_of_cleared cleared, accountsReset_of_cleared cleared rfl,
      monitorReset_of_keeps rfl rfl, rfl, rfl, rfl, rfl, atPowerOn_eq _ _, outputs_of_asserted asserted rfl⟩
    rw [exec_powerOn, if_pos asserted]

end Sys2Proof.Machine

/-! LINE RESET (R173). -/

namespace Sys2Proof.Machine

open Sys2Proof Sys2Proof.Safety

set_option Elab.async false

/-- The part with its blocks reset by LINE RESET, before the reports. -/
def State.blocksEmptied (s : State) : State := (s.freeze .lineReset).resetBlocks

theorem lineReset_eq (s : State) : s.lineReset = s.blocksEmptied.reportAfterReset.fixTimers := rfl

theorem reportAfterReset_settled (s : State) : Settled s s.reportAfterReset :=
  ((((reportLevel_settled .registration false s).trans (reportLevel_settled .pause _ _)).trans
    (reportLevel_settled .held _ _)).trans (reportLevel_settled .bitWorn _ _)).trans (reportLevel_settled .stationWait _ _)

theorem lineReset_noticed (s : State) : Noticed s s.lineReset :=
  noticed_of_lp (v := s.blocksEmptied) rfl (reportAfterReset_settled s.blocksEmptied).2.1.2

/-- What LINE RESET leaves beside the answer. -/
theorem exec_lineReset {s : State} (served : Served s) (tag modeByte : Byte) :
    ∃ t, exec (.lineReset tag modeByte) s = .next t ∧ AnsweredLast tag 0x0F .done [] s t ∧ Monitored s.lm.work s t
      ∧ t = { (admitted s).blocksEmptied with lp := t.lp, lm := t.lm, pc := t.pc }
      ∧ TimersFixed (admitted s).blocksEmptied t := by
  obtain ⟨t, taken, answered, e⟩ := take_noticed (f := lineControlFrame 5 tag modeByte)
    (act := fun s => doneWith s.lineReset) (r := .done) served rfl (lineReset_noticed _)
  obtain ⟨frame, ⟨watched, -⟩, -⟩ := reportAfterReset_settled (admitted s).blocksEmptied
  have lsv := State.reportAfterReset_lsv (admitted s).blocksEmptied
  refine ⟨t, taken, answered, ?_, ?_, ?_⟩
  · rw [e]
    exact watched
  · rw [lineReset_eq] at e
    generalize (admitted s).blocksEmptied.reportAfterReset = u at e frame lsv
    rw [lsv] at frame
    generalize u.lp = lp, u.lm = lm at frame
    subst frame
    generalize t.lp = lp' at e
    subst e
    rfl
  · rw [e]
    refine timersFixed_link (fixTimers_timersFixed ?_) _
    exact (congrArg State.pc frame :)

theorem lineReset_format_eq (e : FormatEntry) : e.lineReset = promoted e := by
  obtain ⟨active, staged, n⟩ := e
  cases staged <;> rfl

theorem lineReset_channel_eq (c : Channel) :
    c.lineReset = { stoppedChannel c with capturedCount := none, capturedStatus := none } := rfl

theorem requestsTested_iff {s : State} {d : DriveId} (mode : s.lsv.mode ≠ .echo) (tested : (s.account d).tested = true)
    (bed : s.ss.bed = none) :
    s.purgeRequested d = true ↔ (s.account d).purge = none
      ∧ (24 ≤ (s.account d).debt ∨ ((s.chosenKind d).payment : Int) ≤ (s.account d).debt
        ∨ (s.lsv.lineState = .held
          ∧ (s.chosenKind d = .full ∨ (Bank.read s.ts.drives d).mode.single = true)
          ∧ -32 ≤ (s.account d).debt - (s.chosenKind d).payment)) := by
  have free : s.needs d = false := by rw [State.needs, bed]; rfl
  simp [State.purgeRequested, State.requestTested, State.purgeDue, State.purgePullIn, State.forced, mode, tested, free,
    and_assoc]

/-- What stays of an account where its interval takes its length. -/
theorem timersFixed_account {s t : State} (fixed : TimersFixed s t) (d : DriveId) :
    t.account d = { s.account d with length := (t.account d).length } := by
  obtain ⟨takes, keeps⟩ := fixed.2 d
  by_cases runs : (s.account d).length = none ∧ ¬Suspended d t
  · rw [takes runs.1 runs.2]
  · have same := keeps (by rw [not_and_or, not_not] at runs; exact runs)
    rw [same]

theorem blocksEmptied_record (s : State) : s.blocksEmptied.lsv.record = s.lsv.record.freeze .lineReset := by
  change (LineSupervisor.mirrorEmpty { s.lsv with record := s.lsv.record.freeze .lineReset }).record = _
  unfold LineSupervisor.mirrorEmpty RecoveryRecord.freeze
  cases frozen : s.lsv.record.retentionValid <;> simp [frozen]

theorem blocksEmptied_lsv (s : State) : s.blocksEmptied.lsv = { s.lsv with
    record := s.blocksEmptied.lsv.record, holds := s.holdsAfterReset, lineState := s.lsv.lineState.afterReset } := by
  have mirrored : ∀ l : LineSupervisor, l.mirrorEmpty = { l with record := l.mirrorEmpty.record } := fun l => by
    unfold LineSupervisor.mirrorEmpty
    split <;> rfl
  change { LineSupervisor.mirrorEmpty { s.lsv with record := s.lsv.record.freeze .lineReset } with
    holds := s.holdsAfterReset, lineState := s.lsv.lineState.afterReset } = _
  rw [mirrored]
  rfl

/-- Settles O45. -/
theorem lineResetEmptiesTheLine : Obligations.LineResetEmptiesTheLine := by
  intro s tag modeByte served
  obtain ⟨t, taken, answered, monitored, frame, fixed⟩ := exec_lineReset served tag modeByte
  have si : t.si = s.si.lineReset := (congrArg State.si frame :)
  have ts : t.ts = s.ts.lineReset := (congrArg State.ts frame :)
  have ss : t.ss = s.ss.lineReset := (congrArg State.ss frame :)
  have orders : t.orders = Vector.replicate 6 none := (congrArg State.orders frame :)
  have tcu : t.tcu = Bank.map Channel.lineReset s.tcu := (congrArg State.tcu frame :)
  have account : ∀ d, t.account d = { s.account d with tested := true, length := (t.account d).length } := fun d => by
    have tested : (admitted s).blocksEmptied.account d = { s.account d with tested := true } := Bank.read_map _ _ d
    have kept := timersFixed_account fixed d
    rw [tested] at kept
    exact kept
  have lsvSame : t.lsv = (admitted s).blocksEmptied.lsv := (congrArg State.lsv frame :)
  have record : t.lsv.record = s.lsv.record.freeze .lineReset := by
    rw [lsvSame]
    exact blocksEmptied_record (admitted s)
  have lsv : t.lsv = { s.lsv with
      record := t.lsv.record, holds := s.holdsAfterReset, lineState := s.lsv.lineState.afterReset } := by
    rw [lsvSame]
    exact blocksEmptied_lsv (admitted s)
  refine ⟨t, taken, answered, monitored, fun i => ?book, by rw [si]; rfl, by rw [si]; rfl, by rw [si]; rfl,
    by rw [si]; rfl, by rw [si]; rfl, by rw [si]; rfl, by rw [si]; rfl, (congrArg State.lb frame :), fun f => ?format,
    by rw [ts]; rfl, by rw [ss]; rfl, by rw [ss]; rfl, fun d => ?drive, fun st => ?order, fun i => ?ch,
    (congrArg State.fu frame :), fixed, fun d => ?requested, by rw [lsv], by rw [lsv], by rw [lsv], by rw [lsv],
    by rw [lsv]; rfl, ?start, fun running => ?holds, record.trans (freeze_eq _ _), (congrArg State.free frame :),
    (congrArg State.travelOwed frame :), (congrArg State.resetAsserted frame :).trans served.1⟩
  case book =>
    rw [State.book, si]
    exact Bank.read_replicate _ _
  case format =>
    rw [ts]
    exact (Bank.read_map _ _ f).trans (lineReset_format_eq _)
  case drive =>
    rw [State.drive, ss]
    exact Bank.read_map _ _ d
  case order =>
    rw [State.order, orders]
    exact Bank.read_replicate _ _
  case ch =>
    rw [State.ch, tcu]
    exact (Bank.read_map _ _ i).trans (lineReset_channel_eq _)
  case requested =>
    have mode : t.lsv.mode ≠ .echo := by rw [lsv]; exact served.2.1
    rw [requestsTested_iff mode (by rw [account]) (by rw [ss]; rfl), account, ts]
    rfl
  case start =>
    rw [lsv]
    change s.holdsAfterReset.start = true
    unfold State.holdsAfterReset
    split <;> rfl
  case holds =>
    rw [lsv]
    exact if_neg running

end Sys2Proof.Machine

/-! What a raised fault may do, whatever the finish book does (R4, R148), and a bed lift made a PASS lift because a
drive that it needs is DISABLED (R74). -/

namespace Sys2Proof.Machine

open Sys2Proof Sys2Proof.Safety

set_option Elab.async false

/-! ## The finish sequence reacts (R148) -/

/-- The finish book of slot `i` may have gone to EXIT, or its block may have ended. -/
structure Reacted (i : Slot) (s t : State) : Prop where
  frame : t = { s with
    lp := t.lp, lm := t.lm, lsv := t.lsv, orders := t.orders
    si := { s.si with books := t.si.books }, fu := { s.fu with finish := t.fu.finish } }
  work : t.lm.work = s.lm.work
  others : ∀ j, j ≠ i → t.book j = s.book j
  book : t.book i = s.book i ∨ t.book i = (s.book i).map (Book.advance .finishing .leaving)

theorem Reacted.refl (i : Slot) (s : State) : Reacted i s s := ⟨rfl, rfl, fun _ _ => rfl, .inl rfl⟩

theorem Reacted.of_alike {i : Slot} {v s t : State} (a : Alike v s) (r : Reacted i s t) : Reacted i v t := by
  obtain ⟨frame, work, others, book⟩ := r
  refine ⟨?_, work.trans a.2, fun j other => (others j other).trans (a.book j), ?_⟩
  · rw [a.si, a.fu] at frame
    refine frame.trans ?_
    rw [a.1]
  · rw [a.book] at book
    exact book

theorem startExit_frame (f : Finish) (s : State) : s.startExit f = { s with
    lp := (s.startExit f).lp, lm := (s.startExit f).lm, lsv := (s.startExit f).lsv, orders := (s.startExit f).orders
    si := { s.si with books := (s.startExit f).si.books }
    fu := { s.fu with finish := (s.startExit f).fu.finish } } := rfl

theorem startExit_reacted (f : Finish) (s : State) : Reacted f.book s (s.startExit f) := by
  have a := startExit_exiting (.refl s) f
  refine ⟨startExit_frame f s, a.2, fun j other => ?_, .inr ?_⟩
  · rw [a.book]
    exact (exiting_onlyBook f s).2 j other
  · rw [a.book, State.book, exiting_si]
    exact book_reviseBook_same _ _ s

theorem advance_advance (k : Book) :
    Book.advance .finishing .leaving (Book.advance .finishing .leaving k) = Book.advance .finishing .leaving k := by
  by_cases stage : k.stage = .finishing <;> simp [Book.advance, stage]

theorem Reacted.trans {i : Slot} {s t u : State} (r : Reacted i s t) (q : Reacted i t u) : Reacted i s u := by
  obtain ⟨frame, work, others, book⟩ := r
  obtain ⟨frame', work', others', book'⟩ := q
  refine ⟨?_, work'.trans work, fun j other => (others' j other).trans (others j other), ?_⟩
  · rw [frame] at frame'
    exact frame'
  · rcases book' with e | e <;> rcases book with k | k <;> rw [e, k]
    · exact .inl rfl
    · exact .inr rfl
    · exact .inr rfl
    · rw [Option.map_map]
      refine .inr (congrArg (Option.map · (s.book i)) (funext fun k => ?_))
      exact advance_advance k

/-- Ends of orders and reports leave every book. -/
theorem Reacted.of_plain {s v t : State} (i : Slot) (a : Alike v t)
    (plain : v = { s with orders := v.orders, fu := { s.fu with finish := v.fu.finish } }) : Reacted i s t := by
  obtain ⟨frame, work⟩ := a
  generalize v.orders = orders, v.fu.finish = finish at plain
  subst plain
  have si : t.si = s.si := (congrArg State.si frame :)
  have book : ∀ j, t.book j = s.book j := fun j => by rw [State.book, si]; rfl
  refine ⟨?_, work, fun j _ => book j, .inl (book i)⟩
  generalize t.lp = lp, t.lm = lm, t.lsv = lsv at frame
  subst frame
  rfl

theorem endOrder_reacted (i : Slot) (st : Station) (s : State) : Reacted i s (s.endOrder st) :=
  .of_plain (v := s.setOrder st none) i (endOrder_alike st s) rfl

theorem unblock_reacted (i : Slot) (f : Finish) (s : State) : Reacted i s (s.unblock f) :=
  .of_plain (v := s.setFinish (some { f with bitWait := false })) i (follow_settled _ _ _ _).alike rfl

theorem withdrawForExit_reacted (st : Station) (f : Finish) (s : State) : Reacted f.book s (s.withdrawForExit st f) := by
  unfold State.withdrawForExit
  split
  · exact (endOrder_reacted f.book st s).trans (startExit_reacted f (s.endOrder st))
  · exact .refl f.book s

theorem reactToFault_reacted (f : Finish) (s : State) : Reacted f.book s (s.reactToFault f) := by
  unfold State.reactToFault
  split
  · exact .refl _ s
  · split
    · dsimp only
      split
      · exact unblock_reacted f.book f s
      · exact (unblock_reacted f.book f s).trans (startExit_reacted { f with bitWait := false } (s.unblock f))
    · exact withdrawForExit_reacted .drill f s
  · split
    · exact .refl _ s
    · exact startExit_reacted f s
  · exact withdrawForExit_reacted .hanger f s
  · exact withdrawForExit_reacted .closer f s
  · exact .refl _ s
  · exact .refl _ s

theorem tellFinish_reacted (i : Slot) (s : State) : Reacted i s (s.tellFinish i) := by
  unfold State.tellFinish
  split
  · exact .refl i s
  · next f _ =>
    split
    · next slot =>
      rw [← slot]
      exact reactToFault_reacted f s
    · exact .refl i s

/-- A raised fault, whatever the finish book: the book is marked, and the finish sequence may react. -/
theorem raiseFault_reacted (i : Slot) (c : FaultCause) (s : State) :
    Reacted i (s.reviseBook i (faulted c)) (s.raiseFault i c) := by
  cases free : s.faultFree i with
  | false =>
    rw [reviseBook_faulted free, raiseFault_of_faulted free]
    exact .refl i s
  | true =>
    rw [raiseFault_of_free free]
    exact .of_alike (modifyBook_alike i (faulted c) s) (tellFinish_reacted i (s.modifyBook i (faulted c)))

theorem faulted_fault (c : FaultCause) (k : Book) : (faulted c k).fault = k.fault.or (some c) := rfl

/-- The book of a raised fault: its first cause is recorded, and beside that only its stage may have changed. -/
theorem raiseFault_book {i : Slot} (c : FaultCause) {s : State} {k : Book} (book : s.book i = some k) :
    ∃ x, (s.raiseFault i c).book i = some x ∧ x.fault = k.fault.or (some c) ∧ x = { faulted c k with stage := x.stage } := by
  have marked : (s.reviseBook i (faulted c)).book i = some (faulted c k) := by
    rw [book_reviseBook_same, book]
    rfl
  rcases (raiseFault_reacted i c s).book with e | e
  · exact ⟨_, e.trans marked, faulted_fault c k, rfl⟩
  · rw [marked] at e
    refine ⟨_, e, ?_, ?_⟩ <;> (unfold Book.advance; split) <;> rfl

/-! ## A bed lift becomes a PASS lift (R74, R76) -/

/-- The bed lift `b` as the test of R74 leaves it, before it is released. -/
abbrev Bed.passing (b : Bed) : Bed := b.toPass (b.done ||| b.inFlight)

theorem passing_finished (b : Bed) : b.passing.finished = decide (b.inFlight = 0) := by
  have nothing : b.passing.outstanding = 0 := by
    simp only [Bed.outstanding, Bed.toPass]
    ext d
    simp
  have works : b.passing.inFlight = b.inFlight := rfl
  rw [Bed.finished, nothing, works]
  simp

/-- What the test of R74 may change. -/
theorem cutLift_frame (i : Slot) (b : Option Bed) (s : State) :
    let t := ((s.setBed b).raiseFault i .driveDisabled).releaseLift
    t = { s with
        lp := t.lp, lm := t.lm, lsv := t.lsv, orders := t.orders, tcu := t.tcu
        si := { s.si with books := t.si.books }, fu := { s.fu with finish := t.fu.finish }
        ss := { s.ss with bed := t.ss.bed } }
      ∧ t.lm.work = s.lm.work := by
  have r := raiseFault_reacted i .driveDisabled (s.setBed b)
  obtain ⟨frame, work, _, _⟩ := r
  generalize (s.setBed b).raiseFault i .driveDisabled = u at frame work
  have released := releaseLift_frame u
  generalize u.releaseLift = t at released
  dsimp only
  generalize t.tcu = tcu, t.ss.bed = bed at released
  subst released
  refine ⟨?_, work⟩
  generalize u.lp = lp, u.lm = lm, u.lsv = lsv, u.orders = orders, u.si.books = books, u.fu.finish = finish at frame
  subst frame
  rfl

/-- The lift, the clamp and the book of a lift made a PASS lift and released if it can be. -/
theorem cutLift_cutToPass {b : Bed} {s : State} (onBed : b.lift.state = some .onBed) :
    CutToPass b s (((s.setBed (some b.passing)).raiseFault b.lift.slot .driveDisabled).releaseLift) := by
  have marks := fun k (book : s.book b.lift.slot = some k) =>
    raiseFault_book (s := s.setBed (some b.passing)) .driveDisabled book
  have ss := State.raiseFault_ss (s.setBed (some b.passing)) b.lift.slot .driveDisabled
  have tcu := State.raiseFault_tcu (s.setBed (some b.passing)) b.lift.slot .driveDisabled
  generalize (s.setBed (some b.passing)).raiseFault b.lift.slot .driveDisabled = u at marks ss tcu
  have bed : u.ss.bed = some b.passing := by rw [ss]; rfl
  have ch : ∀ j, u.ch j = s.ch j := fun j => by rw [State.ch, tcu]; rfl
  have books : ∀ k, s.book b.lift.slot = some k →
      ∃ c, u.releaseLift.book b.lift.slot = some c ∧ c.fault = k.fault.or (some .driveDisabled) := fun k book => by
    obtain ⟨x, left, fault, _⟩ := marks k book
    refine ⟨x, ?_, fault⟩
    rw [State.book, releaseLift_frame]
    exact left
  by_cases works : b.inFlight = 0
  · have finished : b.passing.finished = true := by rw [passing_finished, works]; rfl
    cases gate : (s.ch 0).gate with
    | true =>
      have released := releaseLift_of_gate bed onBed finished ((congrArg Channel.gate (ch 0)).trans gate)
      refine ⟨⟨b.passing, by rw [released]; exact bed, rfl, fun _ h => absurd (gate.symm.trans h) (by decide),
        fun _ => ⟨rfl, rfl, rfl⟩⟩, ?_, books⟩
      rw [if_pos works, released, ← ch 0]
      exact Bank.read_write_same _ _ _
    | false =>
      have released := releaseLift_of_open bed onBed finished ((congrArg Channel.gate (ch 0)).trans gate)
      refine ⟨⟨b.passing.release, by rw [released]; rfl, rfl, fun _ _ => ⟨rfl, rfl, rfl⟩,
        fun h => h.elim (absurd works) fun h => absurd (gate.symm.trans h) (by decide)⟩, ?_, books⟩
      rw [if_pos works, released]
      refine (ch 0).trans ?_
      rw [← gate]
  · have busy : b.passing.finished = false := by rw [passing_finished]; exact decide_eq_false works
    have released := releaseLift_of_busy bed (.inr busy)
    refine ⟨⟨b.passing, by rw [released]; exact bed, rfl, fun h => absurd h works, fun _ => ⟨rfl, rfl, rfl⟩⟩, ?_, books⟩
    rw [if_neg works, released]
    exact ch 0

/-- The books and channels of a lift made a PASS lift. -/
theorem cutLift_others (b : Bed) (s : State) :
    let t := ((s.setBed (some b.passing)).raiseFault b.lift.slot .driveDisabled).releaseLift
    (∀ j, j ≠ 0 → t.ch j = s.ch j) ∧ ∀ j, j ≠ b.lift.slot → t.book j = s.book j := by
  have r := raiseFault_reacted b.lift.slot .driveDisabled (s.setBed (some b.passing))
  have ss := State.raiseFault_ss (s.setBed (some b.passing)) b.lift.slot .driveDisabled
  have tcu := State.raiseFault_tcu (s.setBed (some b.passing)) b.lift.slot .driveDisabled
  obtain ⟨_, _, others, _⟩ := r
  generalize (s.setBed (some b.passing)).raiseFault b.lift.slot .driveDisabled = u at others ss tcu
  have bed : u.ss.bed = some b.passing := by rw [ss]; rfl
  refine ⟨fun j other => ((releaseLift_bed bed).2 j other).trans (by rw [State.ch, tcu]; rfl), fun j other => ?_⟩
  rw [State.book, releaseLift_frame]
  exact (others j other).trans (book_reviseBook_ne other _ _)

/-- What the test of R74 does where an outstanding drive of a lift ON_BED is DISABLED. -/
structure LiftCut (b : Bed) (s t : State) : Prop where
  frame : t = { s with
    lp := t.lp, lm := t.lm, lsv := t.lsv, orders := t.orders, tcu := t.tcu
    si := { s.si with books := t.si.books }, fu := { s.fu with finish := t.fu.finish }
    ss := { s.ss with bed := t.ss.bed } }
  pass : CutToPass b s t
  channels : ∀ j, j ≠ 0 → t.ch j = s.ch j
  books : ∀ j, j ≠ b.lift.slot → t.book j = s.book j

theorem cutDisabled_liftCut {s : State} {b : Bed} (bed : s.ss.bed = some b) (onBed : b.lift.state = some .onBed)
    (disabled : ∃ x, DriveSet.has x b.outstanding = true ∧ s.driveState x = .disabled) :
    LiftCut b s s.cutDisabled ∧ s.cutDisabled.lm.work = s.lm.work := by
  obtain ⟨x, planned, off⟩ := disabled
  rw [cutDisabled_of_disabled bed onBed planned off]
  obtain ⟨frame, work⟩ := cutLift_frame b.lift.slot (some b.passing) s
  obtain ⟨channels, books⟩ := cutLift_others b s
  exact ⟨⟨frame, cutLift_cutToPass onBed, channels, books⟩, work⟩

/-- Reports after the test of R74 leave what it did. -/
theorem LiftCut.reported {b : Bed} {s u t : State} (cut : LiftCut b s u)
    (after : t = { u with lp := t.lp, lm := t.lm, lsv := t.lsv }) : LiftCut b s t := by
  obtain ⟨frame, ⟨lift, clamp, book⟩, channels, books⟩ := cut
  have ss : t.ss = u.ss := (congrArg State.ss after :)
  have ch : ∀ j, t.ch j = u.ch j := fun j => (congrArg (State.ch j) after :)
  have bookSame : ∀ j, t.book j = u.book j := fun j => (congrArg (State.book j) after :)
  refine ⟨?_, ⟨?_, ?_, ?_⟩, ?_, ?_⟩
  · generalize u.tcu = tcu, u.ss.bed = bed, u.fu.finish = finish, u.orders = orders, u.si.books = books', u.lp = lp,
      u.lm = lm, u.lsv = lsv at frame
    subst frame
    generalize t.lp = lp', t.lm = lm', t.lsv = lsv' at after
    subst after
    rfl
  · rw [ss]
    exact lift
  · rw [ch]
    exact clamp
  · simp only [bookSame]
    exact book
  · simp only [ch]
    exact channels
  · simp only [bookSame]
    exact books

/-- The test of R74 reads only the clamp and the books of the state before it. -/
theorem CutToPass.of_same {b : Bed} {w s t : State} (cut : CutToPass b w t) (clamp : w.ch 0 = s.ch 0)
    (book : w.book b.lift.slot = s.book b.lift.slot) : CutToPass b s t := by
  unfold CutToPass at cut ⊢
  rw [clamp, book] at cut
  exact cut

end Sys2Proof.Machine

/-! A purge is requested, granted and paid (R103 to R107, R109). -/

namespace Sys2Proof.Machine

open Sys2Proof Sys2Proof.Safety

set_option Elab.async false

/-! ## Requests and grants (R103, R105) -/

theorem needs_iff (d : DriveId) (s : State) : s.needs d = true ↔
    ∃ b, s.ss.bed = some b ∧ b.lift.state = some .onBed
      ∧ DriveSet.has d b.planned = true ∧ DriveSet.has d b.done = false ∧ DriveSet.has d b.inFlight = false := by
  simp only [State.needs, Option.any_eq_true, Bool.and_eq_true, onBed_iff, has_outstanding_iff]

theorem choose_eq (need : Bool) (m : PurgeMode) : m.choose need =
    match m with
    | .fullOnly => .full
    | .halfOnly => .half
    | .quarterOnly => .quarter
    | .fullOrHalf => if need = true then .half else .full
    | .fullOrQuarter => if need = true then .quarter else .full := by cases m <;> rfl

theorem single_iff (m : PurgeMode) : m.single = true ↔ m ≠ .fullOrHalf ∧ m ≠ .fullOrQuarter := by
  cases m <;> decide

theorem forced_iff (d : DriveId) (s : State) : s.forced d = true ↔ 24 ≤ (s.account d).debt := by simp [State.forced]

/-- Reason DUE or PULL_IN stands (R105). -/
theorem purgeReason_iff (d : DriveId) (s : State) : (s.purgeDue d || s.purgePullIn d) = true ↔
    (((s.chosenKind d).payment : Int) ≤ (s.account d).debt ∧ s.needs d = false)
      ∨ (s.lsv.lineState = .held
        ∧ (s.chosenKind d = .full ∨ (Bank.read s.ts.drives d).mode.single = true)
        ∧ -32 ≤ (s.account d).debt - (s.chosenKind d).payment) := by
  simp [State.purgeDue, State.purgePullIn, and_assoc]

theorem requestTested_iff (d : DriveId) (s : State) : s.requestTested d = true ↔
    s.lsv.moved = true ∨ (s.account d).tested = true ∨ (s.account d).length ≠ none ∨ ¬Suspended d s := by
  rw [← s.timerSuspended_iff d]
  simp [State.requestTested, State.hasRun, Option.isSome_iff_ne_none, or_assoc]

theorem purgeRequested_iff (d : DriveId) (s : State) : s.purgeRequested d = true ↔
    s.lsv.mode ≠ .echo ∧ (s.account d).purge = none
      ∧ (24 ≤ (s.account d).debt
        ∨ (s.requestTested d = true ∧ (s.purgeDue d || s.purgePullIn d) = true)) := by
  simp only [State.purgeRequested, Bool.and_eq_true, Bool.or_eq_true (s.forced d), forced_iff, decide_eq_true_iff,
    Option.isNone_iff_eq_none, and_assoc, ne_eq]

theorem purge_of_ready {d : DriveId} {s : State} (ready : s.driveState d = .ready) : (s.account d).purge = none := by
  rw [driveState_eq] at ready
  split_ifs at ready with _ _ free
  exact not_not.1 free

/-- On a READY drive outside SAFE_STOP the request reasons have been tested: its timer runs. -/
theorem requestTested_of_ready {d : DriveId} {s : State} (ready : s.driveState d = .ready) (mode : s.lsv.mode ≠ .echo)
    (running : s.lsv.lineState ≠ .safeStop) : s.requestTested d = true := by
  refine (requestTested_iff d s).2 (.inr (.inr (.inr ?_)))
  simp [Suspended, ready, mode, running]

theorem grantable_iff (d : DriveId) (s : State) : s.grantable d = true ↔
    s.lsv.mode ≠ .echo ∧ s.driveState d = .ready ∧ s.pc.air = true ∧ s.lsv.lineState ≠ .safeStop
      ∧ (24 ≤ (s.account d).debt ∨ (s.purgeDue d || s.purgePullIn d) = true) := by
  simp only [State.grantable, Bool.and_eq_true, purgeRequested_iff, decide_eq_true_iff]
  constructor
  · rintro ⟨⟨⟨⟨mode, _, reason⟩, ready⟩, air⟩, running⟩
    exact ⟨mode, ready, air, running, reason.imp_right fun h => h.2⟩
  · rintro ⟨mode, ready, air, running, reason⟩
    exact ⟨⟨⟨⟨mode, purge_of_ready ready, reason.imp_right fun h => ⟨requestTested_of_ready ready mode running, h⟩⟩,
      ready⟩, air⟩, running⟩

/-! ## The end of a purge (R107) -/

/-- A purge of drive `d` is counted in RUN. -/
def State.purgeTallied (d : DriveId) (s : State) : State := if s.lsv.mode = .run then s.tallied (.purges d) else s

theorem purgeTallied_eq (d : DriveId) (s : State) : s.purgeTallied d =
    { s with lm := { s.lm with work := if s.lsv.mode = .run then bumped (.purges d) s.lm.work else s.lm.work } } := by
  unfold State.purgeTallied
  split <;> rfl

/-- The reports at the end of a purge. -/
def State.purgeTold (d : DriveId) (s : State) : State :=
  ((if s.lsv.mode = .run then s.count (.purges d) else s).syncForced).testRest

theorem purgeTold_alike (d : DriveId) (s : State) : Alike (s.purgeTallied d) (s.purgeTold d) := by
  have counts : Alike (s.purgeTallied d) (if s.lsv.mode = .run then s.count (.purges d) else s) := by
    unfold State.purgeTallied
    split
    · exact count_alike (.refl s) _
    · exact .refl s
  exact (counts.trans (reportLevel_settled _ _ _).alike).trans (testRest_settled _).alike

theorem purgeTold_record (d : DriveId) (s : State) : (s.purgeTold d).lsv.record = s.lsv.record := by
  rw [State.purgeTold, (testRest_settled _).record]
  change (if s.lsv.mode = .run then s.count (.purges d) else s).lsv.record = _
  split <;> rfl

section

variable {s : State} {d : DriveId} {p : Purge}

theorem exec_purgeEnd (awake : Awake s) (purge : (s.account d).purge = some p) (ended : p.endAt ≤ s.nowMs) :
    exec (.purgeEnd d) s = .next (s.payPurge d p) := by
  refine (takeEvent_awake awake).trans (congrArg _ ?_)
  rw [State.purgeEnd, purge]
  exact if_pos ended

theorem payPurge_eq (s : State) (d : DriveId) (p : Purge) : s.payPurge d p =
    (s.setAccount d { s.account d with debt := (s.account d).debt - p.payment, purge := none }).cutDisabled.purgeTold d :=
  rfl

/-- The monitor after the end of a purge. -/
theorem purgeEnd_reports {u t : State} (m : Moves s t) (a : Alike (u.purgeTallied d) t) (mode : u.lsv.mode = s.lsv.mode)
    (work : u.lm.work = s.lm.work) :
    (s.lsv.mode = .run → Monitored (counted (.purges d) s) s t) ∧ (s.lsv.mode ≠ .run → Monitored s.lm.work s t)
      ∧ Noticed s t := by
  have counts := a.2
  rw [purgeTallied_eq, mode, work] at counts
  refine ⟨fun run => watched_monitored m.watched ?_, fun run => watched_monitored m.watched ?_, m.noticed⟩
  · exact counts.trans (if_pos run)
  · exact counts.trans (if_neg run)

end

/-- Settles O36. -/
theorem purgeGrantedAndPaid : Obligations.PurgeGrantedAndPaid := by
  intro s d awake
  refine ⟨?kinds, ?requested, fun no => ?ungranted, ?grantable, fun yes => ?granted, fun p purge =>
    ⟨fun early => ?early, fun ended => ?_⟩⟩
  case kinds =>
    rintro need e rfl needed
    have same : s.needs d = need := Bool.eq_iff_iff.2 ((needs_iff d s).trans needed.symm)
    refine ⟨same, ?_, single_iff _, rfl, rfl, rfl, rfl, rfl, rfl⟩
    rw [State.chosenKind, same]
    exact choose_eq need _
  case requested => rw [purgeRequested_iff, requestTested_iff, purgeReason_iff]
  case ungranted =>
    refine (takeEvent_awake awake).trans (congrArg _ ?_)
    rw [State.tryGrant, no]
    rfl
  case grantable => rw [grantable_iff, purgeReason_iff]
  case granted =>
    refine (takeEvent_awake awake).trans (congrArg _ ?_)
    rw [State.tryGrant, yes]
    rfl
  case early =>
    refine (takeEvent_awake awake).trans (congrArg _ ?_)
    rw [State.purgeEnd, purge]
    exact if_neg (by omega)
  rintro w rfl
  have taken := exec_purgeEnd awake purge ended
  have m := moves_payPurge purge
  rw [payPurge_eq] at taken m
  generalize paid : s.setAccount d { s.account d with debt := (s.account d).debt - p.payment, purge := none } = w
    at taken m
  have mode : w.lsv = s.lsv := by rw [← paid]; rfl
  have work : w.lm.work = s.lm.work := by rw [← paid]; rfl
  refine ⟨fun none => ?_, fun b bed onBed disabled => ?_⟩
  · rw [cutDisabled_eq_self none] at taken m
    have a := purgeTold_alike d w
    obtain ⟨run, other, noticed⟩ := purgeEnd_reports m a (congrArg _ mode) work
    refine ⟨_, taken, ?_, run, other, noticed,
      lineFollowed_moved m.followed ((purgeTold_record d w).trans (congrArg _ mode))⟩
    have frame := a.1
    rw [purgeTallied_eq] at frame
    exact frame
  · obtain ⟨cut, counts⟩ := cutDisabled_liftCut (s := w) (b := b) (by rw [← paid]; exact bed) onBed disabled
    have lsv := (moves_cutDisabled w).followed.1
    generalize w.cutDisabled = u at taken m cut counts lsv
    have a := purgeTold_alike d u
    obtain ⟨run, other, noticed⟩ := purgeEnd_reports m a (by rw [lsv, mode]) (counts.trans work)
    have told := a.1
    rw [purgeTallied_eq] at told
    have cut := cut.reported told
    refine ⟨_, taken, ?_, CutToPass.of_same cut.pass (by rw [← paid]; rfl) (by rw [← paid]; rfl), run, other, noticed⟩
    have frame := cut.frame
    have ss : w.ss = s.ss := by rw [← paid]; rfl
    rw [ss] at frame
    generalize u.purgeTold d = t at frame
    generalize t.lp = lp, t.lm = lm, t.lsv = lsv, t.orders = orders, t.tcu = tcu, t.si.books = books,
      t.fu.finish = finish, t.ss.bed = bed at frame
    subst frame
    rfl

end Sys2Proof.Machine

/-! Temperature lines and purge air (R100, R101, R108). -/

namespace Sys2Proof.Machine

open Sys2Proof Sys2Proof.Safety

set_option Elab.async false

/-! ## Standing requests are granted (R101) -/

/-- The account of a drive whose standing request has been granted if it can be. -/
def State.grantedAccount (d : DriveId) (s : State) : DriveAccount :=
  if s.grantable d then { s.account d with purge := some (s.newPurge d) } else s.account d

theorem tryGrant_frame (d : DriveId) (s : State) :
    s.tryGrant d = { s with pc := { s.pc with drives := (s.tryGrant d).pc.drives } } := by
  unfold State.tryGrant
  split <;> rfl

theorem account_tryGrant (d : DriveId) (s : State) : (s.tryGrant d).account d = s.grantedAccount d := by
  unfold State.tryGrant State.grantedAccount
  split
  · exact Bank.read_write_same _ _ _
  · rfl

theorem account_tryGrant_ne {x d : DriveId} (other : x ≠ d) (s : State) : (s.tryGrant d).account x = s.account x := by
  unfold State.tryGrant
  split
  · exact Bank.read_write_ne _ _ other
  · rfl

/-- A grant to one drive leaves the requests of the others as they stand. -/
theorem grantedAccount_tryGrant {x d : DriveId} (other : x ≠ d) (s : State) :
    (s.tryGrant d).grantedAccount x = s.grantedAccount x := by
  have account := account_tryGrant_ne other s
  have frame := tryGrant_frame d s
  generalize s.tryGrant d = t at account frame
  generalize t.pc.drives = drives at frame
  have driveState : t.driveState x = s.driveState x := by
    unfold State.driveState
    rw [account, frame]
    rfl
  have suspended : t.timerSuspended x = s.timerSuspended x := by
    unfold State.timerSuspended State.unusable
    rw [driveState, frame]
  have kind : t.chosenKind x = s.chosenKind x := by rw [frame]; rfl
  have needs : t.needs x = s.needs x := by rw [frame]; rfl
  have grantable : t.grantable x = s.grantable x := by
    unfold State.grantable State.purgeRequested State.requestTested State.hasRun State.forced State.purgeDue
      State.purgePullIn
    rw [driveState, suspended, kind, needs, account, frame]
  have purge : t.newPurge x = s.newPurge x := by
    unfold State.newPurge
    rw [kind, frame]
    rfl
  rw [State.grantedAccount, grantable, account, purge]
  rfl

theorem account_grants (d : DriveId) (l : List DriveId) : ∀ s : State, l.Nodup →
    (l.foldl (fun s d => s.tryGrant d) s).account d = if d ∈ l then s.grantedAccount d else s.account d := by
  induction l with
  | nil => intro s _; rfl
  | cons x l ih =>
    intro s once
    obtain ⟨fresh, once⟩ := List.nodup_cons.1 once
    rw [List.foldl_cons, ih (s.tryGrant x) once]
    by_cases same : d = x
    · subst same
      rw [if_neg fresh, if_pos List.mem_cons_self, account_tryGrant]
    · rw [grantedAccount_tryGrant same, account_tryGrant_ne same]
      simp [same]

theorem account_grantAll (d : DriveId) (s : State) : s.grantAll.account d = s.grantedAccount d := by
  rw [State.grantAll, account_grants d _ s (List.nodup_finRange 5), if_pos (List.mem_finRange d)]

theorem grants_frame (l : List DriveId) : ∀ s : State, l.foldl (fun s d => s.tryGrant d) s =
    { s with pc := { s.pc with drives := (l.foldl (fun s d => s.tryGrant d) s).pc.drives } } := by
  induction l with
  | nil => intro s; rfl
  | cons x l ih =>
    intro s
    rw [List.foldl_cons]
    have after := ih (s.tryGrant x)
    have frame := tryGrant_frame x s
    generalize l.foldl (fun s d => s.tryGrant d) (s.tryGrant x) = t at after
    generalize s.tryGrant x = u at after frame
    generalize u.pc.drives = drives at frame
    subst frame
    exact after

theorem grantAll_frame (s : State) : s.grantAll = { s with pc := { s.pc with drives := s.grantAll.pc.drives } } :=
  grants_frame _ s

/-- With air, a standing request of a READY drive outside SAFE_STOP is granted. -/
theorem grantedAccount_eq {d : DriveId} {s : State} (air : s.pc.air = true) : s.grantedAccount d =
    if s.purgeRequested d = true ∧ s.driveState d = .ready ∧ s.lsv.lineState ≠ .safeStop then
      { s.account d with purge := some (s.newPurge d) }
    else s.account d := by
  refine if_congr ?_ rfl rfl
  simp [State.grantable, air, and_assoc]

/-! ## Levels that a fault keeps -/

theorem live_endOrder {n : Nat} (off : OffLine n) (wait : n ≠ 7) (st : Station) (s : State) :
    (s.endOrder st).lm.live.getLsbD n = s.lm.live.getLsbD n := by
  refine (live_follow off .stationWait .stationWait _ (s.setOrder st none)).trans ?_
  exact if_neg wait

theorem live_unblock {n : Nat} (off : OffLine n) (worn : n ≠ 6) (f : Finish) (s : State) :
    (s.unblock f).lm.live.getLsbD n = s.lm.live.getLsbD n := by
  refine (live_follow off .bitWorn .bitWorn _ (s.setFinish (some { f with bitWait := false }))).trans ?_
  exact if_neg worn

theorem live_withdrawForExit {n : Nat} (off : OffLine n) (wait : n ≠ 7) (st : Station) (f : Finish) (s : State) :
    (s.withdrawForExit st f).lm.live.getLsbD n = s.lm.live.getLsbD n := by
  unfold State.withdrawForExit
  split
  · exact live_endOrder off wait st s
  · rfl

theorem live_reactToFault {n : Nat} (off : OffLine n) (worn : n ≠ 6) (wait : n ≠ 7) (f : Finish) (s : State) :
    (s.reactToFault f).lm.live.getLsbD n = s.lm.live.getLsbD n := by
  unfold State.reactToFault
  split
  · rfl
  · split
    · dsimp only
      split <;> exact live_unblock off worn f s
    · exact live_withdrawForExit off wait .drill f s
  · split <;> rfl
  · exact live_withdrawForExit off wait .hanger f s
  · exact live_withdrawForExit off wait .closer f s
  · rfl
  · rfl

/-- A fault reports only BIT_WORN, STATION_WAIT and the levels of the line state. -/
theorem live_raiseFault {n : Nat} (off : OffLine n) (worn : n ≠ 6) (wait : n ≠ 7) (i : Slot) (c : FaultCause) (s : State) :
    (s.raiseFault i c).lm.live.getLsbD n = s.lm.live.getLsbD n := by
  unfold State.raiseFault State.tellFinish
  split
  · split
    · rfl
    · split
      · exact live_reactToFault off worn wait _ (s.modifyBook i (Book.addFault c))
      · rfl
  · rfl

theorem live_cutDisabled {n : Nat} (off : OffLine n) (worn : n ≠ 6) (wait : n ≠ 7) (s : State) :
    s.cutDisabled.lm.live.getLsbD n = s.lm.live.getLsbD n := by
  unfold State.cutDisabled
  split
  · rfl
  · split
    · dsimp only
      rw [releaseLift_frame]
      exact live_raiseFault off worn wait _ _ (s.setBed _)
    · rfl

/-! ## The events -/

theorem exec_temperatureChange {s : State} (awake : Awake s) (d : DriveId) (r : TempReading) :
    exec (.temperatureChange d r) s = .next ((s.recordTemperature d r).setTemperature d (TempReading.temperature r)) :=
  takeLevel_awake (record := State.recordTemperature d r) (act := State.setTemperature d (TempReading.temperature r)) awake

theorem exec_purgeAirChange_same {s : State} (awake : Awake s) :
    exec (.purgeAirChange s.pc.air) s = .next (s.recordAir s.pc.air) := by
  refine (takeLevel_awake (record := State.recordAir s.pc.air)
    (act := fun x => if x.pc.air = s.pc.air then x else x.setAir s.pc.air) awake).trans (congrArg _ ?_)
  exact if_pos rfl

theorem exec_purgeAirChange_other {s : State} {p : Bool} (awake : Awake s) (other : s.pc.air ≠ p) :
    exec (.purgeAirChange p) s = .next ((s.recordAir p).setAir p) := by
  refine (takeLevel_awake (record := State.recordAir p)
    (act := fun x => if x.pc.air = p then x else x.setAir p) awake).trans (congrArg _ ?_)
  exact if_neg other

/-- The part with its air lost and its purges abandoned, before the reports. -/
def State.airLost (s : State) : State :=
  { s with
    inputs := inputsAfter (.purgeAirChange false) s.inputs
    pc := { air := false, drives := Bank.map (fun a => { a with purge := none }) s.pc.drives } }

theorem setAir_lost (s : State) : (s.recordAir false).setAir false = (s.airLost.reportLevel .airLow true).cutDisabled.testRest := rfl

theorem setAir_returned (s : State) : (s.recordAir true).setAir true =
    ({ s with
      inputs := inputsAfter (.purgeAirChange true) s.inputs, pc := { s.pc with air := true } }.reportLevel .airLow false).grantAll := rfl

/-- Settles O37. -/
theorem temperatureAndAir : Obligations.TemperatureAndAir := by
  intro s awake
  refine ⟨fun d r => ?temperature, fun p same => ?known, fun air => ?lost, fun air => ?returned⟩
  case temperature =>
    have set : (s.recordTemperature d r).setTemperature d (TempReading.temperature r) =
        (((s.recordTemperature d r).setAccount d
          { s.account d with temperature := TempReading.temperature r }).syncHot).testRest := rfl
    refine ⟨_, exec_temperatureChange awake d r, ?_⟩
    rw [set]
    generalize told : (s.recordTemperature d r).setAccount d
      { s.account d with temperature := TempReading.temperature r } = u
    have hot : OffLine 3 := ⟨by decide, by decide, by decide⟩
    have settled : Settled u u.syncHot.testRest := (follow_settled _ _ _ u).trans (testRest_settled _)
    have level : u.syncHot.testRest.lm.live.getLsbD 3 = u.anyHot :=
      (live_testRest hot _).trans ((live_follow hot _ _ _ u).trans (if_pos rfl))
    have hold : u.syncHot.testRest.lsv.holds.driveHot = u.anyHot := by
      rw [holds_testRest]
      refine (congrArg HoldSources.driveHot (holds_follow .driveHot .driveHot u.anyHot u)).trans ?_
      rfl
    generalize u.syncHot.testRest = t at settled level hold
    have account : ∀ x, t.account x = u.account x := settled.alike.account
    have anyHot : t.anyHot = u.anyHot := by
      unfold State.anyHot State.hot
      simp only [account]
    obtain ⟨frame, reported, moved⟩ := settled
    subst told
    refine ⟨?_, ⟨by rw [frame]; rfl, fun x other => ?_⟩, ?_, level.trans anyHot.symm, hold.trans anyHot.symm, reported, moved⟩
    · generalize t.lp = lp, t.lm = lm, t.lsv = lsv at frame
      subst frame
      rfl
    · exact (account x).trans (Bank.read_write_ne _ _ other)
    · refine (account d).trans ((Bank.read_write_same _ _ _).trans ?_)
      cases r <;> rfl
  case known =>
    subst same
    exact exec_purgeAirChange_same awake
  case lost =>
    rintro w rfl
    have taken := exec_purgeAirChange_other (p := false) awake (by rw [air]; decide)
    rw [setAir_lost] at taken
    have low : OffLine 5 := ⟨by decide, by decide, by decide⟩
    have level : (s.airLost.reportLevel .airLow true).cutDisabled.testRest.lm.live.getLsbD 5 = true := by
      rw [live_testRest low, live_cutDisabled low (by decide) (by decide), live_reportLevel]
      exact if_pos rfl
    refine ⟨fun none => ?_, fun b bed onBed disabled => ?_⟩
    · rw [cutDisabled_eq_self (s := s.airLost.reportLevel .airLow true) none] at taken level
      obtain ⟨frame, reported, moved⟩ :=
        (reportLevel_settled .airLow true s.airLost).trans (testRest_settled (s.airLost.reportLevel .airLow true))
      exact ⟨_, taken, frame, level, reported, moved⟩
    · have m : Moves s.airLost (s.airLost.reportLevel .airLow true).cutDisabled.testRest :=
        ((Move.moves (Move.report _ _ _)).trans (moves_cutDisabled _)).trans (moves_testRest _)
      obtain ⟨cut, counts⟩ := cutDisabled_liftCut (s := s.airLost.reportLevel .airLow true) (b := b) bed onBed disabled
      have rests := testRest_settled (s.airLost.reportLevel .airLow true).cutDisabled
      have cut := cut.reported rests.alike.1
      have work := (rests.alike.2.trans counts).trans (reportLevel_settled .airLow true s.airLost).alike.2
      refine ⟨_, taken, ?_, CutToPass.of_same cut.pass rfl rfl, level, m.reported work⟩
      have frame := cut.frame
      generalize (s.airLost.reportLevel .airLow true).cutDisabled.testRest = t at frame
      generalize t.lp = lp, t.lm = lm, t.lsv = lsv, t.orders = orders, t.tcu = tcu, t.si.books = books,
        t.fu.finish = finish, t.ss.bed = bed at frame
      subst frame
      rfl
  case returned =>
    have taken := exec_purgeAirChange_other (p := true) awake (by rw [air]; decide)
    rw [setAir_returned] at taken
    have told := reportLevel_settled .airLow false
      { s with inputs := inputsAfter (.purgeAirChange true) s.inputs, pc := { s.pc with air := true } }
    have level := live_reportLevel .airLow false
      { s with inputs := inputsAfter (.purgeAirChange true) s.inputs, pc := { s.pc with air := true } } 5
    have lsv : (State.reportLevel .airLow false
      { s with inputs := inputsAfter (.purgeAirChange true) s.inputs, pc := { s.pc with air := true } }).lsv = s.lsv := rfl
    generalize State.reportLevel .airLow false
      { s with inputs := inputsAfter (.purgeAirChange true) s.inputs, pc := { s.pc with air := true } } = v
      at taken told level lsv
    obtain ⟨frame, reported, -⟩ := told
    rw [lsv] at frame
    have account : ∀ d, v.grantAll.account d =
        if v.purgeRequested d = true ∧ v.driveState d = .ready ∧ v.lsv.lineState ≠ .safeStop then
          { v.account d with purge := some (v.newPurge d) }
        else v.account d := fun d =>
      (account_grantAll d v).trans (grantedAccount_eq (by rw [frame]))
    have grants := grantAll_frame v
    generalize v.grantAll = t at taken grants account
    refine ⟨t, taken, ?_, by rw [grants, frame], by rw [grants]; exact level, by rw [grants]; exact reported, fun d => ?_⟩
    · generalize v.lp = lp, v.lm = lm at frame
      subst frame
      generalize t.pc.drives = drives at grants
      subst grants
      rfl
    · rw [account]
      generalize v.lp = lp, v.lm = lm at frame
      subst frame
      rfl

end Sys2Proof.Machine

/-! Writes of drive entries and of the Line Settings (R55 to R59, R60). -/

namespace Sys2Proof.Machine

open Sys2Proof Sys2Proof.Safety

set_option Elab.async false

/-! ## The entries -/

theorem tableWrite_drive (d : DriveId) {contents : List Byte} (length : contents.length = 14) (s : State) :
    s.tableWrite 2 (natByte d.val) contents = s.writeDrive d contents := by
  rw [State.tableWrite, readWritten_of_entry (readEntry_drive d) length]

theorem tableWrite_settings {contents : List Byte} (length : contents.length = 30) (s : State) :
    s.tableWrite 3 0 contents = s.writeSettings contents := by
  rw [State.tableWrite, readWritten_of_entry (e := .settings) rfl length]

theorem heldOrStopped_of {l : LineState} (stands : l = .held ∨ l = .safeStop) : l.heldOrStopped = true := by
  rcases stands with rfl | rfl <;> rfl

theorem heldOrStopped_of_running {l : LineState} (runs : l = .running ∨ l = .holdPending) : l.heldOrStopped = false := by
  rcases runs with rfl | rfl <;> rfl

/-- A write whose owner's work only notices have told of. -/
theorem exec_tableWrite_noticed {s w : State} (served : Served s) (tag : Byte) {selector entry : Byte} {contents : List Byte}
    (length : contentsLengthOk contents.length = true)
    (written : (admitted s).tableWrite selector entry contents = doneWith w) (noticed : Noticed (admitted s) w) :
    ∃ t, exec (.tableWrite tag selector entry contents) s = .next t ∧ AnsweredLast tag 0x04 .done [] s t
      ∧ t = { w with lp := t.lp } := by
  obtain ⟨t, taken, answered, e⟩ := take_noticed (f := ⟨0x04, tag, selector :: entry :: contents⟩)
    (act := State.tableWrite selector entry contents) (r := .done) served written noticed
  exact ⟨t, (if_pos length).trans taken, answered, e⟩

/-! ## A drive entry -/

/-- The part with a drive entry written and the request of the drive tested (R105). -/
def State.driveWritten (d : DriveId) (e : DriveEntry) (s : State) : State :=
  let v := { s with ts := { s.ts with drives := Bank.write s.ts.drives d e } }
  if v.chosenKind d = s.chosenKind d then v else v.setAccount d { s.account d with tested := true }

theorem setDriveEntry_eq (d : DriveId) (e : DriveEntry) (s : State) :
    s.setDriveEntry d e = (s.driveWritten d e).cutDisabled.fixTimers := rfl

theorem driveWritten_frame (d : DriveId) (e : DriveEntry) (s : State) : s.driveWritten d e =
    { s with ts := { s.ts with drives := Bank.write s.ts.drives d e }, pc := (s.driveWritten d e).pc } := by
  unfold State.driveWritten
  dsimp only
  split <;> rfl

theorem driveWritten_admitted (d : DriveId) (e : DriveEntry) (s : State) :
    (admitted s).driveWritten d e = { s.driveWritten d e with lp := (admitted s).lp } := by
  generalize lp : (admitted s).lp = l
  have admits : admitted s = { s with lp := l } := by rw [← lp]; rfl
  rw [admits]
  unfold State.driveWritten
  dsimp only
  by_cases kept : State.chosenKind d { s with ts := { s.ts with drives := Bank.write s.ts.drives d e } } = s.chosenKind d
  · rw [if_pos kept]
    exact if_pos kept
  · rw [if_neg kept]
    exact if_neg kept

theorem writeDrive_of_read {d : DriveId} {e : DriveEntry} {contents : List Byte} {s : State}
    (stands : s.lsv.lineState = .held ∨ s.lsv.lineState = .safeStop) (read : readDrive contents = some e) :
    s.writeDrive d contents = doneWith (s.driveWritten d e).cutDisabled.fixTimers := by
  rw [State.writeDrive, read]
  exact if_pos (heldOrStopped_of stands)

section

variable {s : State} {tag : Byte} {d : DriveId} {contents : List Byte} (served : Served s) (length : contents.length = 14)

include served length

theorem exec_driveWrite_refused {r : Result} (refused : (admitted s).writeDrive d contents = refuse r (admitted s)) :
    exec (.tableWrite tag 2 (natByte d.val) contents) s = .next { s with lp := answered s.lp tag 0x04 r [] } :=
  exec_tableWrite_refused served tag ((contentsLengthOk_iff _).2 (.inr (.inr (.inl length))))
    ((tableWrite_drive d length _).trans refused)

/-- A drive entry is written, beside the answer. -/
theorem exec_driveWrite {e : DriveEntry} (stands : s.lsv.lineState = .held ∨ s.lsv.lineState = .safeStop)
    (read : readDrive contents = some e) :
    ∃ t, exec (.tableWrite tag 2 (natByte d.val) contents) s = .next t ∧ AnsweredLast tag 0x04 .done [] s t
      ∧ t = { ((admitted s).driveWritten d e).cutDisabled.fixTimers with lp := t.lp } := by
  have written : (admitted s).tableWrite 2 (natByte d.val) contents =
      doneWith ((admitted s).driveWritten d e).cutDisabled.fixTimers :=
    (tableWrite_drive d length _).trans (writeDrive_of_read stands read)
  refine exec_tableWrite_noticed served tag ((contentsLengthOk_iff _).2 (.inr (.inr (.inl length)))) written ?_
  have same : ((admitted s).driveWritten d e).lp = (admitted s).lp := by rw [driveWritten_frame]
  exact noticed_of_lp same ((moves_cutDisabled _).trans (moves_fixTimers _)).noticed

end

/-- The test of R74 reads of the state after it only the bed lift, the clamp and the book. -/
theorem CutToPass.left {b : Bed} {s u t : State} (cut : CutToPass b s u) (bed : t.ss.bed = u.ss.bed)
    (clamp : t.ch 0 = u.ch 0) (book : t.book b.lift.slot = u.book b.lift.slot) : CutToPass b s t := by
  unfold CutToPass at cut ⊢
  rw [bed, clamp, book]
  exact cut

/-- A frame with the accounts and the Link Port set aside. -/
theorem frame_of_link {s u t : State} {ts : TableStore} {pc : PurgeController}
    (frame : u = { s with
      ts := ts, pc := pc, lp := u.lp, lm := u.lm, lsv := u.lsv, orders := u.orders, tcu := u.tcu
      si := { s.si with books := u.si.books }, fu := { s.fu with finish := u.fu.finish }, ss := { s.ss with bed := u.ss.bed } })
    (after : t = { u with pc := t.pc, lp := t.lp }) :
    t = { s with
      lp := t.lp, lm := t.lm, lsv := t.lsv, si := t.si, ts := t.ts, tcu := t.tcu
      ss := { s.ss with bed := t.ss.bed }, pc := t.pc, fu := t.fu, orders := t.orders } := by
  generalize u.lp = lp, u.lm = lm, u.lsv = lsv, u.orders = orders, u.tcu = tcu, u.si.books = books,
    u.fu.finish = finish, u.ss.bed = bed at frame
  subst frame
  generalize t.pc = pc', t.lp = lp' at after
  subst after
  rfl

/-- The drive writes. -/
theorem driveWrites (s : State) (tag : Byte) (d : DriveId) (contents : List Byte) (served : Served s)
    (length : contents.length = 14) {e : DriveEntry} (stands : s.lsv.lineState = .held ∨ s.lsv.lineState = .safeStop)
    (read : readDrive contents = some e) :
    (NoneDisabled (s.driveWritten d e) →
      ∃ t, exec (.tableWrite tag 2 (natByte d.val) contents) s = .next t
        ∧ t = { s.driveWritten d e with pc := t.pc, lp := answered s.lp tag 0x04 .done [] }
        ∧ TimersFixed (s.driveWritten d e) t)
    ∧ ∀ b, s.ss.bed = some b → b.lift.state = some .onBed →
        (∃ x, DriveSet.has x b.outstanding = true ∧ (s.driveWritten d e).driveState x = .disabled) →
        ∃ t, exec (.tableWrite tag 2 (natByte d.val) contents) s = .next t
          ∧ t.ts = (s.driveWritten d e).ts ∧ AnsweredLast tag 0x04 .done [] s t
          ∧ t = { s with
              lp := t.lp, lm := t.lm, lsv := t.lsv, si := t.si, ts := t.ts, tcu := t.tcu
              ss := { s.ss with bed := t.ss.bed }, pc := t.pc, fu := t.fu
              orders := t.orders }
          ∧ CutToPass b s t ∧ TimersFixed (s.driveWritten d e) t := by
  have admits := driveWritten_admitted d e s
  have whole := driveWritten_frame d e s
  refine ⟨fun none => ?_, fun b bed onBed disabled => ?_⟩
  · have written : (admitted s).tableWrite 2 (natByte d.val) contents =
        doneWith ({ s.driveWritten d e with lp := (admitted s).lp }).fixTimers := by
      rw [tableWrite_drive d length, writeDrive_of_read (s := admitted s) stands read, admits,
        cutDisabled_eq_self (s := { s.driveWritten d e with lp := (admitted s).lp }) none]
    have taken : exec (.tableWrite tag 2 (natByte d.val) contents) s =
        .next { (s.driveWritten d e).fixTimers with lp := answered s.lp tag 0x04 .done [] } :=
      (if_pos ((contentsLengthOk_iff _).2 (.inr (.inr (.inl length))))).trans
        (take_quiet (f := ⟨0x04, tag, 2 :: natByte d.val :: contents⟩)
          (act := State.tableWrite 2 (natByte d.val) contents) served (s.driveWritten d e).fixTimers ⟨.done, []⟩ written)
    exact ⟨_, taken, rfl, timersFixed_link (fixTimers_timersFixed rfl) _⟩
  · obtain ⟨t, taken, answered, left⟩ := exec_driveWrite served length (tag := tag) (d := d) stands read
    rw [admits] at left
    have ss : (s.driveWritten d e).ss = s.ss := by rw [whole]
    obtain ⟨cut, -⟩ := cutDisabled_liftCut (s := { s.driveWritten d e with lp := (admitted s).lp }) (b := b)
      (by rw [ss]; exact bed) onBed disabled
    generalize State.cutDisabled { s.driveWritten d e with lp := (admitted s).lp } = u at left cut
    have ts : (s.driveWritten d e).ts = { s.ts with drives := Bank.write s.ts.drives d e } := by rw [whole]
    have pass : CutToPass b s u := CutToPass.of_same cut.pass (by rw [whole]; rfl) (by rw [whole]; rfl)
    have fixed : TimersFixed (s.driveWritten d e) u.fixTimers :=
      fixTimers_timersFixed (congrArg State.pc cut.frame :)
    refine ⟨t, taken, ?_, answered, ?_, CutToPass.left pass ?_ ?_ ?_, ?_⟩
    · rw [left]
      exact (congrArg State.ts cut.frame :)
    · have frame := cut.frame
      rw [whole] at frame
      have after : t = { u with pc := t.pc, lp := t.lp } := by
        rw [left]
        rfl
      exact frame_of_link frame after
    · rw [left]
      rfl
    · rw [left]
      rfl
    · rw [left]
      rfl
    · rw [left]
      exact timersFixed_link fixed _

/-! ## The Line Settings -/

theorem afterWrite_eq (x : LineSettings) (before : Option ReportTimer) : ReportTimer.afterWrite x before =
    if x.reportMode = .manual then none
    else some (before.getD { length := x.reportPeriod * 1000, elapsed := 0 }) := by
  unfold ReportTimer.afterWrite
  cases mode : x.reportMode <;> cases before <;> simp [ReportTimer.start]

/-- The part with its Line Settings written, before the test of R88. -/
def State.settingsWritten (x : LineSettings) (s : State) : State :=
  { s with ts := { s.ts with settings := x }, lm := { s.lm with timer := ReportTimer.afterWrite x s.lm.timer } }

theorem writeSettings_of_read {x : LineSettings} {contents : List Byte} {s : State}
    (stands : s.lsv.lineState = .held ∨ s.lsv.lineState = .safeStop) (read : readSettings contents = some x) :
    s.writeSettings contents = doneWith (s.settingsWritten x).testDwell := by
  rw [State.writeSettings, read]
  exact if_pos (heldOrStopped_of stands)

theorem dwellPassed_iff (s : State) : s.dwellPassed = true ↔
    ∃ b, s.ss.bed = some b ∧ b.dwellRaised = false
      ∧ ∃ since, b.dwellStart = some since ∧ s.ts.settings.bedDwellLimit < s.nowMs - since := by
  simp [State.dwellPassed, Option.any_eq_true]

section

variable {s : State} {tag : Byte} {contents : List Byte} (served : Served s) (length : contents.length = 30)

include served length

theorem exec_settingsWrite_refused {r : Result} (refused : (admitted s).writeSettings contents = refuse r (admitted s)) :
    exec (.tableWrite tag 3 0 contents) s = .next { s with lp := answered s.lp tag 0x04 r [] } :=
  exec_tableWrite_refused served tag ((contentsLengthOk_iff _).2 (.inr (.inr (.inr length))))
    ((tableWrite_settings length _).trans refused)

variable {x : LineSettings} (stands : s.lsv.lineState = .held ∨ s.lsv.lineState = .safeStop)
  (read : readSettings contents = some x)

include stands read

theorem exec_settingsWrite_of_within (within : (s.settingsWritten x).dwellPassed = false) :
    exec (.tableWrite tag 3 0 contents) s = .next { s.settingsWritten x with lp := answered s.lp tag 0x04 .done [] } := by
  have written : (admitted s).tableWrite 3 0 contents = doneWith ((admitted s).settingsWritten x) := by
    rw [tableWrite_settings length, writeSettings_of_read (s := admitted s) stands read]
    exact congrArg doneWith (if_neg (fun passed => absurd (within.symm.trans passed) (by decide)))
  exact (if_pos ((contentsLengthOk_iff _).2 (.inr (.inr (.inr length))))).trans
    (take_quiet (f := ⟨0x04, tag, 3 :: 0 :: contents⟩) (act := State.tableWrite 3 0 contents) served (s.settingsWritten x)
      ⟨.done, []⟩ written)

theorem exec_settingsWrite_of_passed {b : Bed} (bed : s.ss.bed = some b) (passed : (s.settingsWritten x).dwellPassed = true) :
    ∃ t, exec (.tableWrite tag 3 0 contents) s = .next t ∧ AnsweredLast tag 0x04 .done [] s t
      ∧ t = { (((admitted s).settingsWritten x).setBed (some { b with dwellRaised := true })).occur .bedDwell with
        lp := t.lp } := by
  have raised : ((admitted s).settingsWritten x).testDwell =
      (((admitted s).settingsWritten x).setBed (some { b with dwellRaised := true })).occur .bedDwell := by
    have bedBefore : ((admitted s).settingsWritten x).ss.bed = some b := bed
    rw [State.testDwell, bedBefore]
    exact if_pos passed
  refine exec_tableWrite_noticed served tag ((contentsLengthOk_iff _).2 (.inr (.inr (.inr length)))) ?_ ?_
  · rw [tableWrite_settings length, writeSettings_of_read (s := admitted s) stands read, raised]
  · exact noticed_of_lp rfl (occur_reported _ _).2

end

/-- Settles O18. -/
theorem driveAndSettingsWrites : Obligations.DriveAndSettingsWrites := by
  refine ⟨fun s tag d contents served length => ⟨fun runs => ?_, fun stands => ⟨fun bad => ?_, fun e v w read => ?_⟩⟩,
    fun s tag contents served length => ⟨fun runs => ?_, fun stands => ⟨fun bad => ?_, fun x timer read following =>
      ⟨fun within => ?_, fun b bed fresh since start passed => ?_⟩⟩⟩⟩
  · refine exec_driveWrite_refused served length (if_neg ?_)
    rw [show (admitted s).lsv.lineState.heldOrStopped = false from heldOrStopped_of_running runs]
    exact Bool.false_ne_true
  · refine exec_driveWrite_refused served length ?_
    rw [State.writeDrive, bad]
    exact if_pos (heldOrStopped_of stands)
  · rintro rfl rfl
    exact driveWrites s tag d contents served length stands read
  · refine exec_settingsWrite_refused served length (if_neg ?_)
    rw [show (admitted s).lsv.lineState.heldOrStopped = false from heldOrStopped_of_running runs]
    exact Bool.false_ne_true
  · refine exec_settingsWrite_refused served length ?_
    rw [State.writeSettings, bad]
    exact if_pos (heldOrStopped_of stands)
  · rw [exec_settingsWrite_of_within served length stands read, following, ← afterWrite_eq]
    · rfl
    · rw [Bool.eq_false_iff, Ne, dwellPassed_iff]
      rintro ⟨b, bed, fresh, since, start, passed⟩
      exact absurd passed (not_lt.2 (within b bed fresh since start))
  · obtain ⟨t, taken, answered, left⟩ := exec_settingsWrite_of_passed served length (tag := tag) stands read bed
      ((dwellPassed_iff _).2 ⟨b, bed, fresh, since, start, passed⟩)
    refine ⟨t, taken, ?_, answered⟩
    rw [following, ← afterWrite_eq]
    generalize t.lp = lp at left
    subst left
    rfl

end Sys2Proof.Machine

/-! A lift arrives on the bed (R72 to R76). -/

namespace Sys2Proof.Machine

open Sys2Proof Sys2Proof.Safety

set_option Elab.async false

/-! ## The drive set of a pattern (R46) -/

theorem group_iff (g : Nat) (p : Pattern) : p.group g = true ↔ ∃ q : Fin 12, p.pins.getLsbD (12 * g + q.val) = true := by
  have bit : ∀ n, ((p.pins >>> (12 * g)).extractLsb' 0 12).getLsbD n = (decide (n < 12) && p.pins.getLsbD (12 * g + n)) := by
    intro n
    simp
  rw [Pattern.group, bne_iff_ne, Ne, ← not_iff_not, not_not, not_exists]
  constructor
  · intro zero q
    have at_q := bit q.val
    rw [zero] at at_q
    simpa [q.isLt] using at_q.symm
  · intro none
    ext n h
    rw [← BitVec.getLsbD_eq_getElem, bit]
    simpa [h] using none ⟨n, h⟩

theorem getLsbD_five : ∀ (d : DriveId) (x y z u n : Bool),
    BitVec.getLsbD (BitVec.ofBool n ++ BitVec.ofBool u ++ BitVec.ofBool z ++ BitVec.ofBool y ++ BitVec.ofBool x) d.val =
      [x, y, z, u, n].getD d.val false := by
  decide

theorem has_driveSet_iff (p : Pattern) (d : DriveId) : DriveSet.has d p.driveSet = true ↔
    (d = 4 ∧ p.notch = true) ∨ (d ≠ 4 ∧ ∃ q : Fin 12, p.pins.getLsbD (12 * d.val + q.val) = true) := by
  have bits : DriveSet.has d p.driveSet = if d = 4 then p.notch else p.group d.val := by
    refine (getLsbD_five d _ _ _ _ _).trans ?_
    fin_cases d <;> rfl
  rw [bits, ← group_iff]
  split <;> simp [*]

/-! ## Planning (R73, R74) -/

theorem Alike.bookPattern {v t : State} (a : Alike v t) (i : Slot) : t.bookPattern i = v.bookPattern i := by
  rw [State.bookPattern, a.bookFormat, a.ts]
  rfl

theorem Alike.driveState {v t : State} (a : Alike v t) (d : DriveId) : t.driveState d = v.driveState d := by
  rw [driveState_eq, driveState_eq, a.drive, a.account, a.ts, a.ch]

theorem unusable_iff (d : DriveId) (s : State) :
    s.unusable d = true ↔ s.driveState d = .disabled ∨ s.driveState d = .faulted := by
  simp [State.unusable]

theorem anyDrive_iff (set : DriveSet) (p : DriveId → Bool) :
    anyDrive set p = true ↔ ∃ d, DriveSet.has d set = true ∧ p d = true := by
  simp [anyDrive]

theorem planOf_of_strike {b : Bed} {s : State} {p : Pattern} (strike : b.lift.mode = some .strike)
    (pattern : s.bookPattern b.lift.slot = some p) : s.planOf b = p.driveSet := by
  simp [State.planOf, Bed.isStrike, strike, pattern]

theorem planOf_of_pass {b : Bed} (s : State) (pass : b.lift.mode ≠ some .strike) : s.planOf b = 0 := by
  simp [State.planOf, Bed.isStrike, pass]

/-- The bed lift planned. -/
def Bed.plannedFor (plan : DriveSet) (b : Bed) : Bed := { b with planned := plan, done := 0, inFlight := 0 }

theorem planLift_of_usable {b : Bed} {s : State} {plan : DriveSet} (planned : s.planOf b = plan)
    (usable : ∀ d, DriveSet.has d plan = true → s.unusable d = false) :
    s.planLift b = s.setBed (some (b.plannedFor plan)) := by
  subst planned
  refine if_neg fun unusable => ?_
  obtain ⟨d, has, off⟩ := (anyDrive_iff _ _).1 unusable
  exact absurd ((usable d has).symm.trans off) (by decide)

theorem planLift_of_unusable {b : Bed} {s : State} {plan : DriveSet} (planned : s.planOf b = plan)
    (unusable : ∃ d, DriveSet.has d plan = true ∧ s.unusable d = true) :
    s.planLift b = (s.setBed (some ((b.plannedFor plan).toPass 0))).raiseFault b.lift.slot .driveDisabled := by
  subst planned
  exact if_pos ((anyDrive_iff _ _).2 unusable)

/-- The clamp stays open on a lift that is not a STRIKE lift. -/
theorem testClamp_of_pass {b : Bed} {s : State} (bed : s.ss.bed = some b) (pass : b.lift.mode ≠ some .strike) :
    s.testClamp = s := by
  refine if_neg ?_
  simp [State.clampNeeded, bed, Bed.isStrike, pass]

theorem has_zero (d : DriveId) : DriveSet.has d 0 = false := by simp [DriveSet.has]

theorem clamp_eq (c : Channel) : c.clamp = { c with
    live := if c.pending = true then c.staged else c.live
    pending := false
    countdown := countOf (if c.pending = true then c.staged else c.live).n
    gate := true, output := true, phase := .active } := by
  unfold Channel.clamp Channel.load
  cases pending : c.pending <;> simp [pending]

/-! ## Arrival (R72) -/

section

variable {v e : State} {b : Bed} (a : Alike v e)

include a

/-- A lift with drives to strike is clamped. -/
theorem arriveOnBed_strike {p : Pattern} (strike : b.lift.mode = some .strike)
    (pattern : v.bookPattern b.lift.slot = some p)
    (usable : ∀ d, DriveSet.has d p.driveSet = true → v.driveState d ≠ .disabled ∧ v.driveState d ≠ .faulted)
    (strikes : p.driveSet ≠ 0) (mode : (v.ch 0).mode = .hold) (open_ : (v.ch 0).output = false)
    (running : e.lsv.lineState ≠ .safeStop) :
    Alike ((v.setBed (some ((b.arrive v.nowMs).plannedFor p.driveSet))).setCh 0 (v.ch 0).clamp) (e.arriveOnBed b)
      ∧ (e.arriveOnBed b).lsv = e.lsv := by
  have now : e.nowMs = v.nowMs := by
    rw [a.1]
    rfl
  have lift := planOf_of_strike (b := b.arrive v.nowMs) (s := e) strike ((a.bookPattern _).trans pattern)
  have planned := planLift_of_usable lift fun d has => by
    rw [Bool.eq_false_iff, Ne, unusable_iff, a.driveState]
    exact not_or.2 (usable d has)
  have left : ((b.arrive v.nowMs).plannedFor p.driveSet).outstanding = p.driveSet := by
    have keeps : ∀ plan : DriveSet, plan &&& ~~~(0 ||| 0) = plan := by decide
    exact keeps p.driveSet
  have works : ((b.arrive v.nowMs).plannedFor p.driveSet).outstanding ≠ 0 := by rw [left]; exact strikes
  have arrives : e.arriveOnBed b =
      (e.setBed (some ((b.arrive v.nowMs).plannedFor p.driveSet))).setCh 0 (v.ch 0).clamp := by
    rw [State.arriveOnBed, now, planned]
    rw [testClamp_of_needed (s := e.setBed (some ((b.arrive v.nowMs).plannedFor p.driveSet)))
      (b := (b.arrive v.nowMs).plannedFor p.driveSet) rfl rfl strike works
      ((congrArg Channel.mode (a.ch 0)).trans mode) ((congrArg Channel.output (a.ch 0)).trans open_) running,
      ← a.ch 0]
    refine releaseLift_of_busy (b := (b.arrive v.nowMs).plannedFor p.driveSet) rfl (.inr ?_)
    rw [Bed.finished, decide_eq_false works]
    rfl
  rw [arrives]
  refine ⟨?_, rfl⟩
  exact (a.apply (unreporting_setBed _)).apply (unreporting_setCh 0 _)

/-- A lift that is not struck is released. -/
theorem arriveOnBed_pass (pass : b.lift.mode ≠ some .strike) (gate : (v.ch 0).gate = false) :
    Alike (v.setBed (some ((b.arrive v.nowMs).plannedFor 0).release)) (e.arriveOnBed b)
      ∧ (e.arriveOnBed b).lsv = e.lsv := by
  have now : e.nowMs = v.nowMs := by
    rw [a.1]
    rfl
  have planned := planLift_of_usable (planOf_of_pass (b := b.arrive v.nowMs) e pass) fun d has => by
    rw [has_zero] at has
    cases has
  have arrives : e.arriveOnBed b = e.setBed (some ((b.arrive v.nowMs).plannedFor 0).release) := by
    rw [State.arriveOnBed, now, planned]
    rw [testClamp_of_pass (b := (b.arrive v.nowMs).plannedFor 0) rfl pass]
    refine releaseLift_of_open (b := (b.arrive v.nowMs).plannedFor 0) rfl rfl ?_ ((congrArg Channel.gate (a.ch 0)).trans gate)
    simp [Bed.finished, Bed.plannedFor, Bed.outstanding]
  rw [arrives]
  exact ⟨a.apply (unreporting_setBed _), rfl⟩

/-- A lift that needs a drive which is DISABLED or FAULTED becomes a PASS lift. -/
theorem arriveOnBed_unusable {p : Pattern} (strike : b.lift.mode = some .strike)
    (pattern : v.bookPattern b.lift.slot = some p)
    (unusable : ∃ d, DriveSet.has d p.driveSet = true ∧ (v.driveState d = .disabled ∨ v.driveState d = .faulted)) :
    e.arriveOnBed b = ((e.setBed (some (((b.arrive v.nowMs).plannedFor p.driveSet).toPass 0))).raiseFault b.lift.slot
      .driveDisabled).releaseLift := by
  have now : e.nowMs = v.nowMs := by
    rw [a.1]
    rfl
  obtain ⟨d, has, off⟩ := unusable
  have planned := planLift_of_unusable (b := b.arrive v.nowMs) (s := e)
    (planOf_of_strike (b := b.arrive v.nowMs) strike ((a.bookPattern _).trans pattern))
    ⟨d, has, (unusable_iff d e).2 (by rw [a.driveState]; exact off)⟩
  rw [State.arriveOnBed, now, planned]
  rw [testClamp_of_pass (b := ((b.arrive v.nowMs).plannedFor p.driveSet).toPass 0)]
  · rfl
  · rw [State.raiseFault_ss]
    rfl
  · exact fun h => by cases h

end

theorem arrived_frame {s e u t : State} {st : Station}
    (ended : e = { s.setOrder st none with lp := e.lp, lm := e.lm, lsv := e.lsv })
    (cut : u = { e with
      lp := u.lp, lm := u.lm, lsv := u.lsv, orders := u.orders, tcu := u.tcu
      si := { e.si with books := u.si.books }, fu := { e.fu with finish := u.fu.finish }, ss := { e.ss with bed := u.ss.bed } })
    (rests : t = { u with lp := t.lp, lm := t.lm, lsv := t.lsv }) :
    t = { s with
      lp := t.lp, lm := t.lm, lsv := t.lsv, orders := t.orders, si := t.si, tcu := t.tcu
      fu := t.fu, ss := { s.ss with bed := t.ss.bed } } := by
  generalize e.lp = lp, e.lm = lm, e.lsv = lsv at ended
  subst ended
  generalize u.lp = lp', u.lm = lm', u.lsv = lsv', u.orders = orders, u.tcu = tcu, u.si.books = books,
    u.fu.finish = finish, u.ss.bed = bed at cut
  subst cut
  generalize t.lp = lp'', t.lm = lm'', t.lsv = lsv'' at rests
  subst rests
  rfl

/-- Settles O28. -/
theorem liftArrivesOnBed : Obligations.LiftArrivesOnBed := by
  intro s o b awake order job issuedOrder bed
  have issued : s.issued .bedTransfer = true := by
    simp [State.issued, Job.station, order, job, issuedOrder]
  have ended := endOrder_alike .bedShuttle s
  have onBed : (s.endOrder .bedShuttle).ss.bed = some b := (congrArg StrikeScheduler.bed ended.ss).trans bed
  have arrives : (s.endOrder .bedShuttle).liftArrives = (s.endOrder .bedShuttle).arriveOnBed b := by
    rw [State.liftArrives, onBed]
  have taken := exec_confirm awake .bedTransfer State.liftArrives
  refine ⟨fun strike p pattern usable strikes mode open_ running => ?_, fun pass gate => ?_,
    fun strike p pattern unusable k book => ?_, has_driveSet_iff⟩
  · have stays : (s.endOrder .bedShuttle).lsv.lineState ≠ .safeStop := fun stopped =>
      running ((moves_endOrder .bedShuttle s).stopped_iff.1 stopped)
    obtain ⟨begun, quiet⟩ := arriveOnBed_strike ended strike pattern usable strikes mode open_ stays
    rw [← arrives] at begun quiet
    rw [clamp_eq] at begun
    obtain ⟨a, m⟩ := confirm_issued issued moves_liftArrives begun
    have record := confirm_record (j := .bedTransfer) issued (congrArg LineSupervisor.record quiet)
    refine ⟨_, taken, ?_, ?_, fun x other => ?_, m.reported a.2, lineFollowed_moved m.followed record⟩
    · exact a.1.trans (by rw [a.orders]; rfl)
    · exact (a.order _).trans (order_setOrder_none .bedShuttle s)
    · exact (a.order _).trans (onlyOrder_write .bedShuttle none s x other)
  · obtain ⟨begun, quiet⟩ := arriveOnBed_pass ended pass gate
    rw [← arrives] at begun quiet
    obtain ⟨a, m⟩ := confirm_issued issued moves_liftArrives begun
    have record := confirm_record (j := .bedTransfer) issued (congrArg LineSupervisor.record quiet)
    refine ⟨_, taken, ?_, ?_, fun x other => ?_, m.reported a.2, lineFollowed_moved m.followed record⟩
    · exact a.1.trans (by rw [a.orders]; rfl)
    · exact (a.order _).trans (order_setOrder_none .bedShuttle s)
    · exact (a.order _).trans (onlyOrder_write .bedShuttle none s x other)
  · have cut := arriveOnBed_unusable ended strike pattern unusable
    rw [← arrives] at cut
    have confirmed : State.confirm .bedTransfer State.liftArrives s = (s.endOrder .bedShuttle).liftArrives.testRest :=
      if_pos issued
    generalize same : (b.arrive (s.setOrder .bedShuttle none).nowMs).plannedFor p.driveSet = x at cut
    have nothing : (0 ||| 0 : DriveSet) = 0 := by decide
    have cleared : x.toPass 0 = x.passing := by
      rw [← same]
      exact congrArg (fun kept => Bed.toPass kept _) nothing.symm
    have stands : x.lift.state = some .onBed := by rw [← same]; rfl
    have slot : x.lift.slot = b.lift.slot := by rw [← same]; rfl
    rw [cleared, ← slot] at cut
    obtain ⟨frame, -⟩ := cutLift_frame x.lift.slot (some x.passing) (s.endOrder .bedShuttle)
    obtain ⟨⟨c, bedAfter, lift, -⟩, -, fault⟩ := cutLift_cutToPass (s := s.endOrder .bedShuttle) stands
    rw [← cut] at frame bedAfter fault
    have rests := (testRest_settled (s.endOrder .bedShuttle).liftArrives).alike
    rw [← confirmed] at rests
    refine ⟨_, taken, ⟨c, (congrArg StrikeScheduler.bed rests.ss).trans bedAfter, ?_, ?_, ?_⟩, ?_, ?_⟩
    · rw [lift]
    · rw [lift, ← same]
      exact nothing
    · rw [lift, ← same]
      rfl
    · exact arrived_frame ended.1 frame rests.1
    · obtain ⟨y, left, faulted⟩ := fault k (by rw [slot, ended.book]; exact book)
      rw [slot] at left
      exact ⟨y, (rests.book _).trans left, faulted⟩

end Sys2Proof.Machine

/-! What the entry of Safe Stop keeps (R90, R108, R132, R155, R167), whatever books and lifts it finds. -/

namespace Sys2Proof.Machine

open Sys2Proof Sys2Proof.Safety

set_option Elab.async false

/-! ## Work in SAFE_STOP -/

/-- The hold sources that Safe Stop leaves as they are. -/
def SourcesKept (s t : State) : Prop :=
  t.lsv.holds.start = s.lsv.holds.start ∧ t.lsv.holds.request = s.lsv.holds.request
    ∧ t.lsv.holds.driveHot = s.lsv.holds.driveHot

/-- Channels, drives, accounts and the tables of `t` are those of `s`, but for references of formats; of the Line
Supervisor only sources of the books, the record and the last exit may have changed. -/
structure Stayed (s t : State) : Prop where
  frame : t = { s with
    lp := t.lp, lm := t.lm, lsv := t.lsv, orders := t.orders
    si := { s.si with books := t.si.books, notices := t.si.notices }
    ts := { s.ts with formats := t.ts.formats }
    ss := { s.ss with bed := t.ss.bed }
    fu := { s.fu with gather := t.fu.gather, finish := t.fu.finish } }
  watched : Watched s t
  sources : SourcesKept s t
  line : t.lsv.lineState = s.lsv.lineState ∧ t.lsv.causes = s.lsv.causes ∧ t.lsv.mode = s.lsv.mode
    ∧ (s.lsv.moved = true → t.lsv.moved = true)
  record : t.lsv.record.retentionValid = s.lsv.record.retentionValid
    ∧ t.lsv.record.freezeReason = s.lsv.record.freezeReason

theorem Stayed.refl (s : State) : Stayed s s :=
  ⟨rfl, .refl s, ⟨rfl, rfl, rfl⟩, ⟨rfl, rfl, rfl, id⟩, ⟨rfl, rfl⟩⟩

theorem Stayed.trans {s t u : State} (a : Stayed s t) (b : Stayed t u) : Stayed s u := by
  obtain ⟨frame, watched, ⟨start, request, hot⟩, ⟨line, causes, mode, moved⟩, valid, reason⟩ := a
  obtain ⟨frame', watched', ⟨start', request', hot'⟩, ⟨line', causes', mode', moved'⟩, valid', reason'⟩ := b
  refine ⟨?_, watched.trans watched', ⟨start'.trans start, request'.trans request, hot'.trans hot⟩,
    ⟨line'.trans line, causes'.trans causes, mode'.trans mode, fun h => moved' (moved h)⟩, valid'.trans valid,
    reason'.trans reason⟩
  rw [frame] at frame'
  exact frame'

theorem recordExit_mirror (i : Slot) (e : Exit) (l : LineSupervisor) : (l.recordExit e).mirror i none =
    { l with liveExit := some e, record := { l.record with
      lastExit := ((l.recordExit e).mirror i none).record.lastExit
      slots := ((l.recordExit e).mirror i none).record.slots } } := by
  unfold LineSupervisor.recordExit LineSupervisor.mirror
  split
  · rfl
  · rfl

/-- In SAFE_STOP, work made of primitive updates stays so if it leaves the rest. -/
theorem Stayed.of_moves {s t : State} (stopped : s.lsv.lineState = .safeStop) (m : Moves s t) (sources : SourcesKept s t)
    (frame : t = { s with
      lp := t.lp, lm := t.lm, lsv := t.lsv, orders := t.orders
      si := { s.si with books := t.si.books, notices := t.si.notices }
      ts := { s.ts with formats := t.ts.formats }
      ss := { s.ss with bed := t.ss.bed }
      fu := { s.fu with gather := t.fu.gather, finish := t.fu.finish } }) : Stayed s t := by
  obtain ⟨lsv, noted⟩ := m.followed
  refine ⟨frame, m.watched, sources, ⟨(m.stopped_iff.2 stopped).trans stopped.symm, (congrArg LineSupervisor.causes lsv :),
    (congrArg LineSupervisor.mode lsv :), noted.1⟩, (congrArg (fun l => l.record.retentionValid) lsv :),
    (congrArg (fun l => l.record.freezeReason) lsv :)⟩

/-- A source of the books follows its owner. -/
theorem sources_follow {c : Condition} {x : HoldSource} (books : x = .bitWorn ∨ x = .stationWait) (on : Bool) (s : State) :
    SourcesKept s (s.follow c x on) := by
  unfold SourcesKept
  rw [holds_follow]
  rcases books with rfl | rfl <;> exact ⟨rfl, rfl, rfl⟩

theorem SourcesKept.refl (s : State) : SourcesKept s s := ⟨rfl, rfl, rfl⟩

theorem SourcesKept.trans {s t u : State} (a : SourcesKept s t) (b : SourcesKept t u) : SourcesKept s u := by
  obtain ⟨start, request, hot⟩ := a
  obtain ⟨start', request', hot'⟩ := b
  exact ⟨start'.trans start, request'.trans request, hot'.trans hot⟩

theorem SourcesKept.of_holds {s t : State} (same : t.lsv.holds = s.lsv.holds) : SourcesKept s t := by
  unfold SourcesKept
  rw [same]
  exact ⟨rfl, rfl, rfl⟩

theorem sources_endOrder (st : Station) (s : State) : SourcesKept s (s.endOrder st) :=
  sources_follow (.inr rfl) _ (s.setOrder st none)

theorem sources_modifyBook (i : Slot) (f : Book → Book) (s : State) : SourcesKept s (s.modifyBook i f) :=
  .of_holds (modifyBook_holds i f s)

theorem sources_startExit (f : Finish) (s : State) : SourcesKept s (s.startExit f) :=
  sources_modifyBook f.book _ (s.setFinish (some { f with step := .exit }))

theorem sources_withdrawForExit (st : Station) (f : Finish) (s : State) : SourcesKept s (s.withdrawForExit st f) := by
  unfold State.withdrawForExit
  split
  · exact (sources_endOrder st s).trans (sources_startExit f _)
  · exact .refl s

theorem sources_unblock (f : Finish) (s : State) : SourcesKept s (s.unblock f) :=
  sources_follow (.inl rfl) _ (s.setFinish (some { f with bitWait := false }))

theorem sources_reactToFault (f : Finish) (s : State) : SourcesKept s (s.reactToFault f) := by
  unfold State.reactToFault
  split
  · exact .refl s
  · split
    · dsimp only
      split
      · exact sources_unblock f s
      · exact (sources_unblock f s).trans (sources_startExit _ _)
    · exact sources_withdrawForExit .drill f s
  · split
    · exact .refl s
    · exact sources_startExit f s
  · exact sources_withdrawForExit .hanger f s
  · exact sources_withdrawForExit .closer f s
  · exact .refl s
  · exact .refl s

theorem sources_raiseFault (i : Slot) (c : FaultCause) (s : State) : SourcesKept s (s.raiseFault i c) := by
  unfold State.raiseFault State.tellFinish
  split
  · refine (sources_modifyBook i (Book.addFault c) s).trans ?_
    split
    · exact .refl _
    · split
      · exact sources_reactToFault _ _
      · exact .refl _
  · exact .refl s

theorem sources_countLift (b : Bed) (s : State) : SourcesKept s (s.countLift b) := by
  unfold State.countLift
  split
  · exact sources_modifyBook b.lift.slot _ s
  · exact .refl s

theorem sources_testComplete (i : Slot) (s : State) : SourcesKept s (s.testComplete i) := by
  unfold State.testComplete
  split
  · exact sources_modifyBook i _ s
  · exact .refl s

theorem sources_handOver (b : Bed) (s : State) : SourcesKept s (s.handOver b) :=
  ((sources_countLift b s).trans (sources_modifyBook b.lift.slot _
    { s.countLift b with fu := { (s.countLift b).fu with gather := (s.countLift b).fu.gather.map (Gather.add b.lift) } })).trans
    (sources_testComplete b.lift.slot _)

theorem setBed_stayed (b : Option Bed) (s : State) : Stayed s (s.setBed b) :=
  ⟨rfl, .refl s, ⟨rfl, rfl, rfl⟩, ⟨rfl, rfl, rfl, id⟩, ⟨rfl, rfl⟩⟩

theorem emptyGather_stayed (s : State) : Stayed s s.emptyGather :=
  ⟨rfl, .refl s, ⟨rfl, rfl, rfl⟩, ⟨rfl, rfl, rfl, id⟩, ⟨rfl, rfl⟩⟩

section

variable {s : State} (stopped : s.lsv.lineState = .safeStop)

include stopped

theorem endOrder_stayed (st : Station) : Stayed s (s.endOrder st) := by
  refine .of_moves stopped (moves_endOrder st s) (sources_endOrder st s) ?_
  obtain ⟨frame, -⟩ := endOrder_alike st s
  generalize s.endOrder st = t at frame
  generalize t.lp = lp, t.lm = lm, t.lsv = lsv at frame
  subst frame
  rfl

theorem raiseFault_stayed (i : Slot) (c : FaultCause) : Stayed s (s.raiseFault i c) := by
  refine .of_moves stopped (moves_raiseFault i c s) (sources_raiseFault i c s) ?_
  obtain ⟨frame, -, -, -⟩ := raiseFault_reacted i c s
  generalize s.raiseFault i c = t at frame
  generalize t.lp = lp, t.lm = lm, t.lsv = lsv, t.orders = orders, t.si.books = books, t.fu.finish = finish at frame
  subst frame
  rfl

theorem setBed_raiseFault_stayed (b : Option Bed) (i : Slot) (c : FaultCause) : Stayed s ((s.setBed b).raiseFault i c) :=
  (setBed_stayed b s).trans (raiseFault_stayed (s := s.setBed b) stopped i c)

theorem handOver_stayed (b : Bed) : Stayed s (s.handOver b) := by
  obtain ⟨frame, -⟩ := handOver_alike (.refl s) b
  have whole := handedOver_frame b s
  obtain ⟨si, -⟩ := handedOver_onlyBook b s
  refine .of_moves stopped (moves_handOver b s) (sources_handOver b s) ?_
  generalize s.handOver b = t at frame
  generalize s.handedOver b = v at frame whole si
  rw [si] at whole
  generalize v.si.books = books at whole
  subst whole
  generalize t.lp = lp, t.lm = lm, t.lsv = lsv at frame
  subst frame
  rfl

theorem stopBed_stayed (b : Bed) : Stayed s (s.stopBed b) := by
  unfold State.stopBed State.stopOnBed
  split
  · exact setBed_raiseFault_stayed stopped _ _ _
  · split
    · have handed := handOver_stayed stopped b
      exact handed.trans (raiseFault_stayed (handed.line.1.trans stopped) _ _)
    · split
      · split
        · exact setBed_raiseFault_stayed stopped _ _ _
        · split
          · exact setBed_stayed _ s
          · exact .refl s
      · exact .refl s

/-- With the clamp's gate released, the test of R74 leaves the channels. -/
theorem cutDisabled_stayed (gate : (s.ch 0).gate = false) : Stayed s s.cutDisabled := by
  unfold State.cutDisabled
  split
  · exact .refl s
  · next b _ =>
    split
    · dsimp only
      have raised := setBed_raiseFault_stayed stopped (some (b.toPass (b.done ||| b.inFlight))) b.lift.slot .driveDisabled
      refine raised.trans ?_
      generalize (s.setBed (some (b.toPass (b.done ||| b.inFlight)))).raiseFault b.lift.slot .driveDisabled = u at raised
      have open_ : (u.ch 0).gate = false := by
        rw [State.ch, (congrArg State.tcu raised.frame :)]
        exact gate
      unfold State.releaseLift
      split
      · exact .refl u
      · split
        · rw [if_neg (by rw [open_]; exact Bool.false_ne_true)]
          exact setBed_stayed _ u
        · exact .refl u
    · exact .refl s

theorem withdrawFinishOrders_stayed : Stayed s
    (((((s.endOrder .finishTransfer).endOrder .exitTransfer).endOrder .drill).endOrder .hanger).endOrder .closer) := by
  have step : ∀ {u : State} (st : Station), Stayed s u → Stayed s (u.endOrder st) := fun st r =>
    r.trans (endOrder_stayed (r.line.1.trans stopped) st)
  exact step _ (step _ (step _ (step _ (step _ (.refl s)))))

/-- In SAFE_STOP the divert gate of the exit hears no trigger. -/
theorem strobed_of_stopped (i : ChannelId) : s.strobed i = s := by
  have deaf : s.channelHears i = false := by
    rw [Bool.eq_false_iff, Ne, channelHears_iff]
    exact fun h => h.2 stopped
  rw [State.strobed, triggered, if_neg fun h => absurd (deaf.symm.trans h.1) (by decide), State.ch, Bank.write_read]

theorem passBook_stayed (f : Finish) : Stayed s (s.passBook f) := by
  unfold State.passBook
  split
  · next b book =>
    have told := passOutcome_alike (.refl s) rfl Iff.rfl (s.outcomeOf b) book
    have lsv := passOutcome_lsv book (s.outcomeOf b)
    have watched := (passOutcome_noticed f.book b (s.outcomeOf b) s).2
    have whole := passed_frame f.book b (s.outcomeOf b) (s := s) (v := s) rfl
    generalize s.passOutcome f.book b (s.outcomeOf b) = t at told lsv watched
    have strobes : Bank.write s.tcu 8 (triggered 8 s) = s.tcu := (congrArg State.tcu (strobed_of_stopped stopped 8) :)
    rw [strobes, ite_self] at whole
    generalize s.passed f.book b (s.outcomeOf b) = v at told whole
    refine ⟨?_, watched, ?_, ?_, ?_⟩
    · have frame := told.1
      subst whole
      generalize t.lp = lp, t.lm = lm, t.lsv = lsv at frame
      subst frame
      rfl
    · rw [SourcesKept, lsv, recordExit_mirror]
      exact ⟨rfl, rfl, rfl⟩
    · rw [lsv, recordExit_mirror]
      exact ⟨rfl, rfl, rfl, id⟩
    · rw [lsv, recordExit_mirror]
      exact ⟨rfl, rfl⟩
  · exact ⟨rfl, .refl s, ⟨rfl, rfl, rfl⟩, ⟨rfl, rfl, rfl, id⟩, ⟨rfl, rfl⟩⟩

theorem stopStep_stayed (f : Finish) : Stayed s (s.stopStep f) := by
  have interrupted : ∀ {u : State}, Stayed s u → Stayed s (u.interruptFinish f) := fun r =>
    r.trans (raiseFault_stayed (r.line.1.trans stopped) _ _)
  have passed : ∀ {u : State}, Stayed s u → Stayed s (u.passBook f) := fun r =>
    r.trans (passBook_stayed (r.line.1.trans stopped) f)
  unfold State.stopStep
  split
  · exact interrupted (emptyGather_stayed s)
  · exact interrupted (.refl s)
  · exact interrupted (.refl s)
  · exact interrupted (.refl s)
  · exact interrupted (.refl s)
  · exact passed (interrupted (.refl s))
  · exact passed (interrupted (.refl s))

theorem stopFinish_stayed : Stayed s s.stopFinish := by
  have withdrawn := withdrawFinishOrders_stayed stopped
  unfold State.stopFinish
  dsimp only
  split
  · exact withdrawn
  · split
    · exact withdrawn
    · exact withdrawn.trans (stopStep_stayed (withdrawn.line.1.trans stopped) _)

end

/-! ## The entry (R167) -/

/-- The part as Safe Stop is entered, with its channels idle (R132). -/
def State.stopping (s : State) : State := (s.moveLine .safeStop).quietChannels

/-- The bed lift as Safe Stop finds it has been dealt with (R90). -/
def State.bedStopped (s : State) : State :=
  match s.ss.bed with
  | none => s
  | some b => s.stopBed b

theorem enterSafeStop_eq (s : State) : s.enterSafeStop =
    (((s.stopping.abandonStrikes.bedStopped.endOrder .bedShuttle).abandonPurges).cutDisabled).stopFinish := rfl

theorem bedStopped_stayed {s : State} (stopped : s.lsv.lineState = .safeStop) : Stayed s s.bedStopped := by
  unfold State.bedStopped
  split
  · exact .refl s
  · exact stopBed_stayed stopped _

theorem quiet_eq (c : Channel) : c.quiet = stoppedChannel c := rfl

theorem stopping_stopped (s : State) : s.stopping.lsv.lineState = .safeStop := rfl

theorem stopping_lsv (s : State) : s.stopping.lsv = { s.lsv with lineState := .safeStop, moved := true } := rfl

theorem stopping_ch (s : State) (i : ChannelId) : s.stopping.ch i = stoppedChannel (s.ch i) :=
  Bank.read_map _ _ i

/-- The part with its strikes abandoned and its bed lift dealt with. -/
def State.bedLeft (s : State) : State := s.stopping.abandonStrikes.bedStopped.endOrder .bedShuttle

theorem bedLeft_stayed (s : State) : Stayed s.stopping.abandonStrikes s.bedLeft := by
  have bed := bedStopped_stayed (s := s.stopping.abandonStrikes) rfl
  exact bed.trans (endOrder_stayed (bed.line.1.trans rfl) _)

theorem purgesLeft_stayed (s : State) : Stayed s.bedLeft.abandonPurges s.enterSafeStop := by
  have before := bedLeft_stayed s
  have line : s.bedLeft.lsv.lineState = .safeStop := before.line.1
  have clamp : (s.bedLeft.ch 0).gate = false := by
    rw [State.ch, (congrArg State.tcu before.frame :)]
    exact congrArg Channel.gate (stopping_ch s 0)
  have cut := cutDisabled_stayed (s := s.bedLeft.abandonPurges) line clamp
  exact cut.trans (stopFinish_stayed (cut.line.1.trans line))

theorem stopping_frame (s : State) : s.stopping.abandonStrikes = { s with
    lp := s.stopping.lp, lm := s.stopping.lm, lsv := { s.lsv with lineState := .safeStop, moved := true }
    tcu := Bank.map Channel.quiet s.tcu
    ss := { s.ss with drives := Bank.map DriveRecord.abandon s.ss.drives } } := by
  obtain ⟨frame, -, -⟩ := moveLine_settled .safeStop s
  have lsv := stopping_lsv s
  unfold State.stopping at lsv ⊢
  generalize s.moveLine .safeStop = m at frame lsv
  change m.lsv = _ at lsv
  rw [lsv] at frame
  generalize m.lp = lp, m.lm = lm at frame
  subst frame
  rfl

theorem stopKept_of {s u t : State} (before : Stayed s.stopping.abandonStrikes u) (after : Stayed u.abandonPurges t) :
    StopKept s t := by
  have watched : Watched s t := ((moveLine_reported .safeStop s).1.watched.trans before.watched).trans after.watched
  obtain ⟨frame, -, ⟨start, request, hot⟩, ⟨-, -, mode, moved⟩, valid, reason⟩ := before
  obtain ⟨frame', -, ⟨start', request', hot'⟩, ⟨-, -, mode', moved'⟩, valid', reason'⟩ := after
  have tcu : t.tcu = Bank.map Channel.quiet s.tcu :=
    (congrArg State.tcu frame' :).trans (congrArg State.tcu frame :)
  have drives : t.ss.drives = Bank.map DriveRecord.abandon s.ss.drives :=
    (congrArg (fun x => x.ss.drives) frame' :).trans (congrArg (fun x => x.ss.drives) frame :)
  have accounts : t.pc.drives = Bank.map (fun a => { a with purge := none }) s.pc.drives := by
    refine (congrArg (fun x => x.pc.drives) frame' :).trans ?_
    exact congrArg (fun x : PurgeController => Bank.map (fun a => { a with purge := none }) x.drives)
      (congrArg State.pc frame :)
  refine ⟨?_, fun i => ?_, fun d => ?_, fun d => ?_, start'.trans start, request'.trans request, hot'.trans hot,
    mode'.trans mode, moved' (moved rfl), valid'.trans valid, reason'.trans reason⟩
  · rw [stopping_frame] at frame
    generalize s.stopping.lp = lp, s.stopping.lm = lm at frame
    generalize u.lp = lp', u.lm = lm', u.lsv = lsv', u.orders = orders, u.si.books = books, u.si.notices = notices,
      u.ts.formats = formats, u.ss.bed = bed, u.fu.gather = gather, u.fu.finish = finish at frame
    subst frame
    have monitor : t.lm = { s.lm with work := t.lm.work, latches := t.lm.latches, live := t.lm.live } := watched
    rw [← monitor]
    generalize t.lp = lp', t.lm = lm', t.lsv = lsv', t.orders = orders, t.si.books = books, t.si.notices = notices,
      t.ts.formats = formats, t.ss.bed = bed, t.fu.gather = gather, t.fu.finish = finish at frame'
    subst frame'
    rfl
  · rw [State.ch, tcu]
    exact Bank.read_map _ _ i
  · rw [State.drive, drives]
    exact Bank.read_map _ _ d
  · rw [State.account, accounts]
    exact Bank.read_map _ _ d

/-- Safe Stop is entered (R167). -/
theorem enterSafeStop_kept (s : State) : StopKept s s.enterSafeStop :=
  stopKept_of (bedLeft_stayed s) (purgesLeft_stayed s)

end Sys2Proof.Machine

/-! What the entry of Safe Stop makes of the bed lift and its book (R90), where the bed lift is not of the finish
book. -/

namespace Sys2Proof.Machine

open Sys2Proof Sys2Proof.Safety

set_option Elab.async false

/-! ## Reports of the entry -/

/-- Frames in the Return Queue, with one place more as long as STATION_WAIT may still send its notice. -/
def State.queueClaim (s : State) : Nat := s.lp.queue.length + (if s.lm.latches.getLsbD 7 then 0 else 1)

/-- Of the hold sources only STATION_WAIT may have changed, the last exit has not, and at most `n` notices have joined
the Return Queue beside that of STATION_WAIT. -/
structure Discreet (n : Nat) (s t : State) : Prop where
  holds : t.lsv.holds = { s.lsv.holds with stationWait := t.lsv.holds.stationWait }
  liveExit : t.lsv.liveExit = s.lsv.liveExit
  lastExit : t.lsv.record.lastExit = s.lsv.record.lastExit
  claim : t.queueClaim ≤ s.queueClaim + n
  reserved : t.lp.reserved = s.lp.reserved

theorem Discreet.refl (s : State) : Discreet 0 s s := ⟨rfl, rfl, rfl, le_rfl, rfl⟩

theorem Discreet.trans {m n : Nat} {s t u : State} (a : Discreet m s t) (b : Discreet n t u) : Discreet (m + n) s u := by
  obtain ⟨holds, live, last, claim, reserved⟩ := a
  obtain ⟨holds', live', last', claim', reserved'⟩ := b
  refine ⟨?_, live'.trans live, last'.trans last, by omega, reserved'.trans reserved⟩
  rw [holds', holds]

theorem Discreet.mono {m n : Nat} {s t : State} (a : Discreet m s t) (h : m ≤ n) : Discreet n s t := by
  obtain ⟨holds, live, last, claim, reserved⟩ := a
  exact ⟨holds, live, last, by omega, reserved⟩

/-- Nothing has been reported, and of the Line Supervisor only slots of the record have changed. -/
theorem Discreet.of_silent {s t : State} (lp : t.lp = s.lp) (lm : t.lm = s.lm)
    (lsv : t.lsv = { s.lsv with record := { s.lsv.record with slots := t.lsv.record.slots } }) : Discreet 0 s t := by
  refine ⟨by rw [lsv], by rw [lsv], by rw [lsv], ?_, by rw [lp]⟩
  rw [State.queueClaim, lp, lm]
  exact le_rfl

theorem getLsbD_latch (c : Condition) (m : LineMonitor) (n : Nat) :
    (m.latch c).latches.getLsbD n = (decide (n = c.number) || m.latches.getLsbD n) := by
  refine (put_getLsbD c true m.latches n).trans ?_
  by_cases same : n = c.number <;> simp [same]

theorem pushNotice_length (l : LinkPort) (u : Upstream) : (l.pushNotice u).queue.length ≤ l.queue.length + 1 :=
  (pushOptional_joined l (some u)).1

/-- A latch that is set stays set at a report. -/
theorem latched_reportLevel {n : Nat} (c : Condition) (p : Bool) {s : State} (set : s.lm.latches.getLsbD n = true) :
    (s.reportLevel c p).lm.latches.getLsbD n = true := by
  change (s.lm.report c p).latches.getLsbD n = true
  unfold LineMonitor.report
  split
  · exact set
  · split
    · rw [getLsbD_latch]
      exact (congrArg (_ || ·) set).trans (Bool.or_true _)
    · exact set

theorem latched_count {n : Nat} (k : Counter) {s : State} (set : s.lm.latches.getLsbD n = true) :
    (s.count k).lm.latches.getLsbD n = true := by
  change (s.lm.bump k).latches.getLsbD n = true
  unfold LineMonitor.bump
  dsimp only
  split
  · rw [getLsbD_latch]
    exact (congrArg (_ || ·) set).trans (Bool.or_true _)
  · exact set

theorem claim_of_joined {n : Nat} {s t : State} (j : Joined n s t)
    (latched : s.lm.latches.getLsbD 7 = true → t.lm.latches.getLsbD 7 = true) : t.queueClaim ≤ s.queueClaim + n := by
  obtain ⟨length, -⟩ := j
  unfold State.queueClaim
  cases set : s.lm.latches.getLsbD 7 with
  | true =>
    rw [latched set]
    simpa [Nat.add_right_comm] using length
  | false =>
    rw [if_neg Bool.false_ne_true]
    split <;> omega

/-- A report of STATION_WAIT keeps within the claim. -/
theorem reportLevel_wait_claim (p : Bool) (s : State) : (s.reportLevel .stationWait p).queueClaim ≤ s.queueClaim := by
  have at7 : Condition.stationWait.number = 7 := rfl
  unfold State.queueClaim
  change (s.lp.pushOptional (s.lm.reportNotice .stationWait p)).queue.length
    + (if (s.lm.report .stationWait p).latches.getLsbD 7 then 0 else 1) ≤ _
  unfold LineMonitor.report LineMonitor.reportNotice
  split
  · exact le_rfl
  · split
    · rw [latchNotice_eq]
      cases set : s.lm.latches.getLsbD 7 with
      | true =>
        have told : (s.lm.setLive .stationWait p).latches.getLsbD Condition.stationWait.number = true := set
        rw [if_neg fun h => absurd (told.symm.trans h.1) (by decide), getLsbD_latch, at7]
        exact le_rfl
      | false =>
        rw [getLsbD_latch, at7, if_neg Bool.false_ne_true]
        have pushed := (pushOptional_joined s.lp (if (s.lm.setLive .stationWait p).latches.getLsbD 7 = false
            ∧ ((s.lm.setLive .stationWait p).enables.getLsbD 7 = true ∨ Condition.stationWait.nonMaskable = true) then
          some (.eventNotice .stationWait (if p then .present else .absent)
            ((s.lm.setLive .stationWait p).latches ||| Condition.stationWait.mask)) else none)).1
        simpa using pushed
    · exact le_rfl

theorem presentHold_of_stopped (x : HoldSource) (on : Bool) {s : State} (stopped : s.lsv.lineState = .safeStop) :
    s.presentHold x on = s.setHolds (s.lsv.holds.put x on) := by
  unfold State.presentHold
  split
  · next same =>
    rw [← same, HoldSources.put_has]
    rfl
  · cases on with
    | true =>
      rw [if_pos rfl, State.addHold]
      refine if_neg ?_
      change s.lsv.lineState ≠ .running
      rw [stopped]
      decide
    | false =>
      rw [if_neg Bool.false_ne_true, State.dropHold, State.releaseIfFree]
      refine if_neg ?_
      change ¬(_ ∧ (s.lsv.lineState = .holdPending ∨ s.lsv.lineState = .held))
      rw [stopped]
      rintro ⟨-, h | h⟩ <;> cases h

theorem endOrder_of_stopped (st : Station) {s : State} (stopped : s.lsv.lineState = .safeStop) :
    s.endOrder st = ((s.setOrder st none).reportLevel .stationWait (s.setOrder st none).anyOverdue).setHolds
      (s.lsv.holds.put .stationWait (s.setOrder st none).anyOverdue) :=
  presentHold_of_stopped .stationWait _
    (s := (s.setOrder st none).reportLevel .stationWait (s.setOrder st none).anyOverdue) stopped

theorem endOrder_discreet (st : Station) {s : State} (stopped : s.lsv.lineState = .safeStop) :
    Discreet 0 s (s.endOrder st) := by
  have claim := reportLevel_wait_claim (s.setOrder st none).anyOverdue (s.setOrder st none)
  have reserved := (reportLevel_joined .stationWait (s.setOrder st none).anyOverdue (s.setOrder st none)).2
  rw [endOrder_of_stopped st stopped]
  exact ⟨rfl, rfl, rfl, claim, reserved⟩

theorem modifyBook_discreet (i : Slot) (f : Book → Book) (s : State) : Discreet 0 s (s.modifyBook i f) :=
  .of_silent rfl rfl (mirror_keeps _ _ _)

theorem setBed_discreet (b : Option Bed) (s : State) : Discreet 0 s (s.setBed b) := .of_silent rfl rfl rfl

/-- A fault of a book that is not the finish book is told to nobody. -/
theorem raiseFault_discreet {i : Slot} {s : State} (c : FaultCause) (apart : NotFinishing i s) :
    Discreet 0 s (s.raiseFault i c) := by
  cases free : s.faultFree i with
  | false =>
    rw [raiseFault_of_faulted free]
    exact .refl s
  | true =>
    rw [raiseFault_of_free free, tellFinish_of_notFinishing (s := s.modifyBook i (faulted c)) apart]
    exact modifyBook_discreet i _ s

theorem count_discreet (k : Counter) (s : State) : Discreet 1 s (s.count k) := by
  have joined : Joined 1 s (s.count k) := pushOptional_joined _ _
  exact ⟨rfl, rfl, rfl, claim_of_joined joined (latched_count k), joined.2⟩

theorem handOver_discreet (b : Bed) (s : State) : Discreet 1 s (s.handOver b) := by
  have counted : Discreet 1 s (s.countLift b) := by
    unfold State.countLift
    split
    · exact (modifyBook_discreet b.lift.slot _ s).trans (count_discreet .liftsPunched _)
    · exact count_discreet .liftsPassed s
  have tested : ∀ u : State, Discreet 0 u (u.testComplete b.lift.slot) := fun u => by
    unfold State.testComplete
    split
    · exact modifyBook_discreet _ _ u
    · exact .refl u
  have gathered := modifyBook_discreet b.lift.slot (fun k => { k with liftsGathered := k.liftsGathered + 1 })
    { s.countLift b with fu := { (s.countLift b).fu with gather := (s.countLift b).fu.gather.map (Gather.add b.lift) } }
  have joined : Discreet 0 (s.countLift b)
      { s.countLift b with fu := { (s.countLift b).fu with gather := (s.countLift b).fu.gather.map (Gather.add b.lift) } } :=
    .of_silent rfl rfl rfl
  exact (((counted.trans joined).trans gathered).trans (tested _)).trans (setBed_discreet none _)

theorem stopping_discreet (s : State) : Discreet 3 s s.stopping.abandonStrikes := by
  have joined := moveLine_joined .safeStop s
  have latched : s.lm.latches.getLsbD 7 = true → (s.moveLine .safeStop).lm.latches.getLsbD 7 = true := fun set => by
    unfold State.moveLine State.syncPause
    exact latched_reportLevel _ _ (latched_reportLevel _ _ (latched_reportLevel _ _ set))
  exact ⟨rfl, rfl, rfl, claim_of_joined (t := s.moveLine .safeStop) joined latched, joined.2⟩

end Sys2Proof.Machine

/-! What the entry of Safe Stop makes of the bed lift and its book (R90), where the bed lift is not of the finish
book. -/

namespace Sys2Proof.Machine

open Sys2Proof Sys2Proof.Safety

set_option Elab.async false

/-! ## The bed lift is dealt with -/

/-- A lift made a PASS lift whose book is INTERRUPTED, beside reports. -/
def State.liftInterrupted (b x : Bed) (v : State) : State :=
  (v.setBed (some x)).reviseBook b.lift.slot (faulted .interrupted)

/-- The bed lift dealt with, beside reports (R90, its rows). -/
def State.bedHalted (b : Bed) (v : State) : State :=
  if v.ordered .bedTransfer then v.liftInterrupted b (b.forceArrival v.nowMs)
  else if v.ordered .outTransfer then (v.handedOver b).reviseBook b.lift.slot (faulted .interrupted)
  else if b.onBed then
    if b.cutOff then v.liftInterrupted b b.cut
    else if b.outstanding = 0 then v.setBed (some b.release) else v
  else v

theorem liftInterrupted_alike {b x : Bed} {v : State} (apart : NotFinishing b.lift.slot v) :
    Alike (v.liftInterrupted b x) ((v.setBed (some x)).raiseFault b.lift.slot .interrupted) :=
  raiseFault_alike (s := v.setBed (some x)) .interrupted apart

theorem handOver_apart {b : Bed} {i : Slot} {s : State} (apart : NotFinishing i s) : NotFinishing i (s.handOver b) := by
  have finish : (s.handOver b).fu.finish = s.fu.finish := by
    rw [(handOver_alike (.refl s) b).fu, handedOver_frame]
  intro f e
  exact apart f (finish.symm.trans e)

theorem stopBed_alike {b : Bed} {v : State} (apart : NotFinishing b.lift.slot v) :
    Alike (v.bedHalted b) (v.stopBed b) := by
  unfold State.bedHalted State.stopBed State.stopOnBed
  split
  · exact liftInterrupted_alike apart
  · split
    · exact ((handOver_alike (.refl v) b).apply (unreporting_reviseBook _ _)).trans
        (raiseFault_alike .interrupted (handOver_apart apart))
    · split
      · split
        · exact liftInterrupted_alike apart
        · split
          · exact .refl _
          · exact .refl v
      · exact .refl v

theorem stopBed_discreet {b : Bed} {v : State} (apart : NotFinishing b.lift.slot v) : Discreet 1 v (v.stopBed b) := by
  have interrupted : ∀ x, Discreet 1 v ((v.setBed x).raiseFault b.lift.slot .interrupted) := fun x =>
    ((setBed_discreet x v).trans (raiseFault_discreet (s := v.setBed x) .interrupted apart)).mono (by decide)
  unfold State.stopBed State.stopOnBed
  split
  · exact interrupted _
  · split
    · exact (handOver_discreet b v).trans (raiseFault_discreet .interrupted (handOver_apart apart))
    · split
      · split
        · exact interrupted _
        · split
          · exact (setBed_discreet _ v).mono (by decide)
          · exact (Discreet.refl v).mono (by decide)
      · exact (Discreet.refl v).mono (by decide)

/-! ## A drive disabled while PURGING (R74; log 31) -/

theorem cutDisabled_discreet {s : State} (apart : ∀ b, s.ss.bed = some b → NotFinishing b.lift.slot s) :
    Discreet 0 s s.cutDisabled := by
  unfold State.cutDisabled
  split
  · exact .refl s
  · next b bed =>
    split
    · dsimp only
      refine Discreet.trans (m := 0) (n := 0) ((setBed_discreet (some (b.toPass (b.done ||| b.inFlight))) s).trans
        (raiseFault_discreet (s := s.setBed (some (b.toPass (b.done ||| b.inFlight)))) .driveDisabled (apart b bed))) ?_
      rw [releaseLift_frame]
      exact .of_silent rfl rfl rfl
    · exact .refl s

/-- The lift cut to a PASS lift with nothing in flight is released, its book faulted. -/
theorem cutDisabled_apart {s : State} {b : Bed} (bed : s.ss.bed = some b) (onBed : b.lift.state = some .onBed)
    (rest : b.inFlight = 0) (gate : (s.ch 0).gate = false) (apart : NotFinishing b.lift.slot s)
    (disabled : ∃ d, DriveSet.has d b.outstanding = true ∧ s.driveState d = .disabled) :
    Alike ((s.setBed (some b.passing.release)).reviseBook b.lift.slot (faulted .driveDisabled)) s.cutDisabled := by
  obtain ⟨d, has, off⟩ := disabled
  rw [cutDisabled_of_disabled bed onBed has off]
  have a := raiseFault_alike (s := s.setBed (some b.passing)) .driveDisabled apart
  have left : (((s.setBed (some b.passing)).reviseBook b.lift.slot (faulted .driveDisabled))).releaseLift =
      ((s.setBed (some b.passing)).reviseBook b.lift.slot (faulted .driveDisabled)).setBed (some b.passing.release) := by
    refine releaseLift_of_open (b := b.passing) rfl onBed ?_ gate
    rw [passing_finished, rest]
    rfl
  have released := a.apply unreporting_releaseLift
  rw [left] at released
  exact released

/-! ## The first half of the entry -/

/-- The bed lift of the part dealt with, beside reports. -/
def State.bedRested (v : State) : State :=
  match v.ss.bed with
  | none => v
  | some b => v.bedHalted b

theorem bedStopped_alike {v : State} (apart : ∀ b, v.ss.bed = some b → NotFinishing b.lift.slot v) :
    Alike v.bedRested v.bedStopped ∧ Discreet 1 v v.bedStopped := by
  unfold State.bedRested State.bedStopped
  cases bed : v.ss.bed with
  | none => exact ⟨.refl v, (Discreet.refl v).mono (by decide)⟩
  | some b => exact ⟨stopBed_alike (apart b bed), stopBed_discreet (apart b bed)⟩

theorem unreporting_abandonPurges : Unreporting State.abandonPurges := fun _ _ _ _ => rfl

/-- What the scheduler and the purges leave before the test of R74, beside reports. -/
def State.workRested (v : State) : State := (v.bedRested.setOrder .bedShuttle none).abandonPurges

theorem purges_alike {s : State} (apart : BedApart s) :
    Alike s.stopping.abandonStrikes.workRested s.bedLeft.abandonPurges
      ∧ Discreet 4 s s.bedLeft.abandonPurges := by
  have begun := stopping_discreet s
  have away : ∀ b, s.stopping.abandonStrikes.ss.bed = some b → NotFinishing b.lift.slot s.stopping.abandonStrikes := by
    rw [stopping_frame]
    intro b bed f finish same
    exact apart b f bed finish same.symm
  obtain ⟨a, d⟩ := bedStopped_alike away
  have stays := bedStopped_stayed (s := s.stopping.abandonStrikes) rfl
  unfold State.bedLeft State.workRested
  generalize s.stopping.abandonStrikes.bedStopped = u at a d stays
  have ended := endOrder_discreet .bedShuttle (s := u) (stays.line.1.trans rfl)
  refine ⟨((a.apply (unreporting_setOrder .bedShuttle none)).trans (endOrder_alike .bedShuttle u)).apply
    unreporting_abandonPurges, ?_⟩
  have abandoned : Discreet 0 (u.endOrder .bedShuttle) (u.endOrder .bedShuttle).abandonPurges := .of_silent rfl rfl rfl
  exact ((begun.trans d).trans ended).trans abandoned

/-! ## What the bed lift and its book have become -/

theorem complete_of_book {i : Slot} {s : State} {k : Book} (book : s.book i = some k) :
    s.complete i = true ↔ s.fu.gather.any (fun g => decide (g.book = i)) = true ∧ k.stage = .collected
      ∧ k.liftsClosed = k.liftsGathered ∧ s.openLiftOf i = false := by
  simp [State.complete, book, and_assoc]

theorem handedOver_gatheredBook {b : Bed} {k : Book} {v : State} (book : v.book b.lift.slot = some k) :
    (v.handedOver b).book b.lift.slot = some (gatheredBook b k v) := by
  have joined := liftJoinedGather_book (v := v) (b := b) book
  have mark : b.punched = true ↔ b.lift.mode = some .strike ∧ b.planned &&& ~~~b.done = 0 := by
    simp [Bed.punched, Bed.isStrike]
  have gather : (v.liftJoinedGather b).fu.gather.any (fun g => decide (g.book = b.lift.slot)) =
      v.fu.gather.any (fun g => decide (g.book = b.lift.slot)) := by
    change (v.fu.gather.map (Gather.add b.lift)).any _ = _
    cases v.fu.gather <;> rfl
  have lifts : (v.liftJoinedGather b).openLiftOf b.lift.slot = v.openLiftOf b.lift.slot := by
    change (v.liftCounted b).openLiftOf b.lift.slot = _
    unfold State.liftCounted
    split <;> rfl
  have test := complete_of_book (s := v.liftJoinedGather b) joined
  rw [gather, lifts] at test
  simp only [mark] at joined
  rw [handedOver_eq, gatheredBook]
  refine Eq.trans (b := ((v.liftJoinedGather b).completeTested b.lift.slot).book b.lift.slot) rfl ?_
  unfold State.completeTested
  split
  · next complete =>
    have here := test.1 complete
    rw [book_reviseBook_same, joined, if_pos here]
    exact congrArg some (if_pos here.2.1)
  · next incomplete => rw [joined, if_neg fun h => incomplete (test.2 h)]

/-- The lift's end in Safe Stop leaves the rest. -/
theorem bedHalted_frame (b : Bed) (v : State) : v.bedHalted b = { v with
    lm := { v.lm with work := (v.bedHalted b).lm.work }
    si := { v.si with books := (v.bedHalted b).si.books }
    ss := { v.ss with bed := (v.bedHalted b).ss.bed }
    fu := { v.fu with gather := (v.bedHalted b).fu.gather } } := by
  unfold State.bedHalted
  split
  · rfl
  · split
    · have whole := handedOver_frame b v
      obtain ⟨si, -⟩ := handedOver_onlyBook b v
      generalize v.handedOver b = w at whole si
      rw [si] at whole
      generalize w.si.books = books at whole
      subst whole
      rfl
    · split
      · split
        · rfl
        · split <;> rfl
      · rfl

theorem bedHalted_others (b : Bed) (v : State) {j : Slot} (other : j ≠ b.lift.slot) : (v.bedHalted b).book j = v.book j := by
  have interrupted : ∀ x : Bed, (v.liftInterrupted b x).book j = v.book j := fun x =>
    book_reviseBook_ne other _ (v.setBed (some x))
  unfold State.bedHalted
  split
  · exact interrupted _
  · split
    · exact (book_reviseBook_ne other _ _).trans ((handedOver_onlyBook b v).2 j other)
    · split
      · split
        · exact interrupted _
        · split <;> rfl
      · rfl

theorem bedHalted_gather (b : Bed) (v : State) : (v.bedHalted b).fu.gather =
    if v.ordered .bedTransfer = false ∧ v.ordered .outTransfer = true then
      v.fu.gather.map fun g => { g with lifts := g.lifts ++ [{ b.lift with state := some .gathered }] }
    else v.fu.gather := by
  unfold State.bedHalted
  cases v.ordered .bedTransfer
  · cases v.ordered .outTransfer
    · simp only [Bool.false_eq_true, if_false, and_false]
      split
      · split
        · rfl
        · split <;> rfl
      · rfl
    · simp only [Bool.false_eq_true, if_false, and_self, if_true]
      exact congrArg (fun x : State => x.fu.gather) (handedOver_frame b v)
  · rfl

theorem bedHalted_work (b : Bed) (v : State) : (v.bedHalted b).lm.work =
    if v.ordered .bedTransfer = false ∧ v.ordered .outTransfer = true then
      bumped (if b.lift.mode = some .strike ∧ b.planned &&& ~~~b.done = 0 then .liftsPunched else .liftsPassed) v.lm.work
    else v.lm.work := by
  have mark : b.punched = true ↔ b.lift.mode = some .strike ∧ b.planned &&& ~~~b.done = 0 := by
    simp [Bed.punched, Bed.isStrike]
  simp only [← mark]
  unfold State.bedHalted
  cases v.ordered .bedTransfer
  · cases v.ordered .outTransfer
    · simp only [Bool.false_eq_true, if_false, and_false]
      split
      · split
        · rfl
        · split <;> rfl
      · rfl
    · simp only [Bool.false_eq_true, if_false, and_self, if_true]
      exact congrArg (fun x : State => x.lm.work) (handedOver_frame b v)
  · rfl

theorem cutOff_iff (b : Bed) : b.cutOff = true ↔ b.inFlight ≠ 0 ∨ (b.done ≠ 0 ∧ b.outstanding ≠ 0) := by
  simp [Bed.cutOff]

section

variable {v : State} {b : Bed}

theorem bedHalted_of_bedTransfer (ordered : v.ordered .bedTransfer = true) :
    v.bedHalted b = v.liftInterrupted b (b.forceArrival v.nowMs) := if_pos ordered

theorem bedHalted_of_outTransfer (first : v.ordered .bedTransfer = false) (ordered : v.ordered .outTransfer = true) :
    v.bedHalted b = (v.handedOver b).reviseBook b.lift.slot (faulted .interrupted) := by
  rw [State.bedHalted, first, ordered]
  rfl

variable (first : v.ordered .bedTransfer = false) (second : v.ordered .outTransfer = false)

include first second

theorem bedHalted_of_off (off : b.lift.state ≠ some .onBed) : v.bedHalted b = v := by
  have away : b.onBed = false := Bool.eq_false_iff.2 fun h => off ((onBed_iff b).1 h)
  rw [State.bedHalted, first, second, away]
  rfl

variable (onBed : b.lift.state = some .onBed)

include onBed

theorem bedHalted_of_cutOff (cut : b.inFlight ≠ 0 ∨ (b.done ≠ 0 ∧ b.outstanding ≠ 0)) :
    v.bedHalted b = v.liftInterrupted b b.cut := by
  rw [State.bedHalted, first, second, (onBed_iff b).2 onBed, (cutOff_iff b).2 cut]
  rfl

theorem bedHalted_of_finished (rest : b.inFlight = 0) (finished : b.outstanding = 0) :
    v.bedHalted b = v.setBed (some b.release) := by
  have whole : b.cutOff = false := by
    rw [Bool.eq_false_iff, Ne, cutOff_iff]
    rintro (h | ⟨-, h⟩)
    · exact h rest
    · exact h finished
  rw [State.bedHalted, first, second, (onBed_iff b).2 onBed, whole]
  exact if_pos finished

theorem bedHalted_of_waiting (rest : b.inFlight = 0) (none : b.done = 0) (left : b.outstanding ≠ 0) :
    v.bedHalted b = v := by
  have whole : b.cutOff = false := by
    rw [Bool.eq_false_iff, Ne, cutOff_iff]
    rintro (h | ⟨h, -⟩)
    · exact h rest
    · exact h none
  rw [State.bedHalted, first, second, (onBed_iff b).2 onBed, whole]
  exact if_neg left

end

theorem liftInterrupted_book {b x : Bed} {v : State} {k : Book} (book : v.book b.lift.slot = some k) :
    (v.liftInterrupted b x).book b.lift.slot = some (faulted .interrupted k) :=
  (book_reviseBook_same _ _ (v.setBed (some x))).trans (congrArg _ book)

/-- A lift that is ON_BED once it has been dealt with is left as it was: nothing of it was in flight or done. -/
theorem waiting_of_onBed {b c : Bed} {v : State} (left : (v.bedHalted b).ss.bed = some c) (bed : v.ss.bed = some b)
    (onBed : c.lift.state = some .onBed) (planned : c.outstanding ≠ 0) :
    c = b ∧ v.ordered .bedTransfer = false ∧ v.ordered .outTransfer = false ∧ b.inFlight = 0 ∧ b.done = 0 := by
  cases first : v.ordered .bedTransfer with
  | true =>
    rw [bedHalted_of_bedTransfer first] at left
    obtain rfl := Option.some.inj left
    cases onBed
  | false =>
    cases second : v.ordered .outTransfer with
    | true =>
      rw [bedHalted_of_outTransfer first second] at left
      cases left
    | false =>
      by_cases here : b.lift.state = some .onBed
      · by_cases cut : b.inFlight ≠ 0 ∨ (b.done ≠ 0 ∧ b.outstanding ≠ 0)
        · rw [bedHalted_of_cutOff first second here cut] at left
          obtain rfl := Option.some.inj left
          cases onBed
        · rw [not_or, not_not, not_and_or, not_not, not_not] at cut
          obtain ⟨rest, undone⟩ := cut
          by_cases finished : b.outstanding = 0
          · rw [bedHalted_of_finished first second here rest finished] at left
            obtain rfl := Option.some.inj left
            cases onBed
          · have none := undone.resolve_right finished
            rw [bedHalted_of_waiting first second here rest none finished, bed] at left
            exact ⟨(Option.some.inj left).symm, rfl, rfl, rest, none⟩
      · rw [bedHalted_of_off first second here, bed] at left
        obtain rfl := Option.some.inj left
        exact absurd onBed here

/-- The bed shuttle has one order at a time. -/
theorem bedTransfer_of_outTransfer {v : State} (ordered : v.ordered .outTransfer = true) : v.ordered .bedTransfer = false := by
  have shuttle : ∀ j : Job, j.station = .bedShuttle → v.ordered j = (v.order .bedShuttle).any fun o => decide (o.job = j) :=
    fun j e => by rw [State.ordered, e]
  rw [shuttle _ rfl] at ordered ⊢
  cases order : v.order .bedShuttle with
  | none => rfl
  | some o =>
    rw [order, Option.any_some, decide_eq_true_iff] at ordered
    rw [Option.any_some, ordered]
    rfl

/-- The rows of R90, where no drive that the lift waits for is DISABLED. -/
theorem bedStopped_of_halted {v t : State} {b : Bed} (bed : v.ss.bed = some b)
    (left : t.ss.bed = (v.bedHalted b).ss.bed) (book : t.book b.lift.slot = (v.bedHalted b).book b.lift.slot)
    (enabled : ∀ c, t.ss.bed = some c → c.lift.state = some .onBed → ∀ d, DriveSet.has d c.outstanding = true →
      t.driveState d ≠ .disabled) : BedStopped v t := by
  refine ⟨fun none => absurd (bed.symm.trans none) (by simp), fun x k here mark => ?_⟩
  obtain rfl : b = x := Option.some.inj (bed.symm.trans here)
  refine ⟨fun ordered => ?_, fun ordered => ?_, fun first second => ⟨fun off => ?_, fun onBed => ⟨fun cut => ?_,
    fun rest finished => ?_, fun rest none waiting => ⟨fun _ => ?_, fun disabled => ?_⟩⟩⟩⟩
  · rw [bedHalted_of_bedTransfer ordered] at left book
    exact ⟨⟨_, left, rfl⟩, book.trans (liftInterrupted_book mark)⟩
  · have first := bedTransfer_of_outTransfer ordered
    rw [bedHalted_of_outTransfer first ordered] at left book
    exact ⟨left, book.trans ((book_reviseBook_same _ _ _).trans (congrArg _ (handedOver_gatheredBook mark)))⟩
  · rw [bedHalted_of_off first second off] at left book
    exact ⟨⟨b, left.trans bed, rfl⟩, book.trans mark⟩
  · rw [bedHalted_of_cutOff first second onBed cut] at left book
    exact ⟨⟨_, left, rfl⟩, book.trans (liftInterrupted_book mark)⟩
  · rw [bedHalted_of_finished first second onBed rest finished] at left book
    exact ⟨⟨_, left, rfl⟩, book.trans mark⟩
  · rw [bedHalted_of_waiting first second onBed rest none waiting] at left book
    exact ⟨⟨b, left.trans bed, rfl⟩, book.trans mark⟩
  · obtain ⟨d, has, off⟩ := disabled
    rw [bedHalted_of_waiting first second onBed rest none waiting] at left
    exact absurd off (enabled b (left.trans bed) onBed d has)

/-- The row of R90 for a lift that waits for a drive which was disabled while PURGING (log 31). -/
theorem bedStopped_of_disabled {v t : State} {b : Bed} (bed : v.ss.bed = some b) (onBed : b.lift.state = some .onBed)
    (first : v.ordered .bedTransfer = false) (second : v.ordered .outTransfer = false) (rest : b.inFlight = 0)
    (none : b.done = 0) (left : t.ss.bed = some b.passing.release)
    (book : ∀ k, v.book b.lift.slot = some k → t.book b.lift.slot = some (faulted .driveDisabled k))
    (disabled : ∃ d, DriveSet.has d b.outstanding = true ∧ t.driveState d = .disabled) : BedStopped v t := by
  refine ⟨fun empty => absurd (bed.symm.trans empty) (by simp), fun x k here mark => ?_⟩
  obtain rfl : b = x := Option.some.inj (bed.symm.trans here)
  obtain ⟨d, has, off⟩ := disabled
  have waits : b.outstanding ≠ 0 := fun zero => by
    rw [zero, has_zero] at has
    cases has
  refine ⟨fun ordered => absurd (first.symm.trans ordered) (by decide),
    fun ordered => absurd (second.symm.trans ordered) (by decide), fun _ _ => ⟨fun away => absurd onBed away,
    fun _ => ⟨fun cut => ?_, fun _ finished => absurd finished waits, fun _ _ _ => ⟨fun enabled => absurd off (enabled d has),
      fun _ => ⟨⟨_, left, ?_⟩, book k mark⟩⟩⟩⟩⟩
  · rcases cut with h | ⟨h, -⟩
    · exact absurd rest h
    · exact absurd none h
  · have kept : b.done ||| b.inFlight = 0 := by
      rw [none, rest]
      decide
    rw [Bed.passing, kept]
    rfl

/-! ## The first half of the entry, as a whole -/

/-- Bed lift, gather record and the books of the part `v` once its scheduler and its purges have stopped (R90, R108). -/
structure HalfStopped (v u : State) : Prop where
  finish : u.fu = { v.fu with gather := u.fu.gather }
  intake : u.si = { v.si with books := u.si.books }
  tables : u.ts = v.ts
  bed : BedStopped v u
  others : ∀ j, (∀ b, v.ss.bed = some b → b.lift.slot ≠ j) → u.book j = v.book j
  gather : u.fu.gather =
    if v.ordered .bedTransfer = false ∧ v.ordered .outTransfer = true then
      v.fu.gather.map fun g =>
        { g with lifts := g.lifts ++ (v.ss.bed.map fun b => { b.lift with state := some .gathered }).toList }
    else v.fu.gather
  work : u.lm.work =
    if v.ordered .bedTransfer = false ∧ v.ordered .outTransfer = true then
      v.ss.bed.elim v.lm.work fun b =>
        bumped (if b.lift.mode = some .strike ∧ b.planned &&& ~~~b.done = 0 then .liftsPunched else .liftsPassed) v.lm.work
    else v.lm.work

theorem workRested_of_some {v : State} {b : Bed} (bed : v.ss.bed = some b) :
    v.workRested = ((v.bedHalted b).setOrder .bedShuttle none).abandonPurges := by
  rw [State.workRested, State.bedRested, bed]

theorem workRested_of_none {v : State} (bed : v.ss.bed = none) :
    v.workRested = (v.setOrder .bedShuttle none).abandonPurges := by
  rw [State.workRested, State.bedRested, bed]

/-- What the test of R74 reads of a state that stays alike. -/
theorem noneDisabled_of_alike {v t : State} (a : Alike v t) (enabled : NoneDisabled v) : NoneDisabled t := by
  intro b bed onBed d has
  rw [a.driveState]
  exact enabled b ((congrArg StrikeScheduler.bed a.ss).symm.trans bed) onBed d has

end Sys2Proof.Machine

/-! The first half of the entry of Safe Stop as a whole: scheduler and purges (R90, R108). -/

namespace Sys2Proof.Machine

open Sys2Proof Sys2Proof.Safety

set_option Elab.async false

/-! ## Without a drive disabled meanwhile -/

section

variable {v p : State} (a : Alike v.workRested p)

include a

/-- With no lift on the bed the first half of the entry leaves books and gather record. -/
theorem halfStopped_of_none (bed : v.ss.bed = none) : HalfStopped v p := by
  rw [workRested_of_none bed] at a
  refine ⟨by rw [a.fu]; rfl, by rw [a.si]; rfl, a.ts, ⟨fun _ => (congrArg StrikeScheduler.bed a.ss).trans bed, fun b k here => ?_⟩,
    fun j _ => a.book j, ?_, ?_⟩
  · rw [bed] at here
    cases here
  · have same : p.fu.gather = v.fu.gather := congrArg FinishUnit.gather a.fu
    rw [same, bed]
    split
    · cases gather : v.fu.gather with
      | none => rfl
      | some g => simp
    · rfl
  · have same : p.lm.work = v.lm.work := a.2
    rw [same, bed, Option.elim_none, ite_self]

variable {b : Bed} (bed : v.ss.bed = some b)

include bed

/-- What a lift on the bed leaves of the rest, whatever becomes of it. -/
theorem halfStopped_rest : p.fu = { v.fu with gather := p.fu.gather } ∧ p.si = { v.si with books := p.si.books }
    ∧ p.ts = v.ts ∧ (∀ j, j ≠ b.lift.slot → p.book j = v.book j)
    ∧ p.fu.gather =
      (if v.ordered .bedTransfer = false ∧ v.ordered .outTransfer = true then
        v.fu.gather.map fun g => { g with lifts := g.lifts ++ [{ b.lift with state := some .gathered }] }
      else v.fu.gather)
    ∧ p.lm.work =
      (if v.ordered .bedTransfer = false ∧ v.ordered .outTransfer = true then
        bumped (if b.lift.mode = some .strike ∧ b.planned &&& ~~~b.done = 0 then .liftsPunched else .liftsPassed) v.lm.work
      else v.lm.work) := by
  rw [workRested_of_some bed] at a
  have frame := bedHalted_frame b v
  have others := fun (j : Slot) (other : j ≠ b.lift.slot) => bedHalted_others b v other
  have gather := bedHalted_gather b v
  have work := bedHalted_work b v
  generalize v.bedHalted b = w at a frame others gather work
  have fu : p.fu = w.fu := a.fu
  have si : p.si = w.si := a.si
  have ts : p.ts = w.ts := a.ts
  have counts : p.lm.work = w.lm.work := a.2
  refine ⟨?_, ?_, ?_, fun j other => (a.book j).trans (others j other), ?_, counts.trans work⟩
  · rw [fu]
    exact (congrArg State.fu frame :)
  · rw [si]
    exact (congrArg State.si frame :)
  · rw [ts]
    exact (congrArg State.ts frame :)
  · rw [fu]
    exact gather

theorem halfStopped_of_enabled (enabled : NoneDisabled p) : HalfStopped v p := by
  obtain ⟨finish, intake, tables, others, gather, work⟩ := halfStopped_rest a bed
  rw [workRested_of_some bed] at a
  refine ⟨finish, intake, tables, bedStopped_of_halted bed (congrArg StrikeScheduler.bed a.ss) (a.book _) enabled,
    fun j other => others j fun same => other b bed same.symm, ?_, ?_⟩
  · rw [gather, bed]
    rfl
  · rw [work, bed]
    rfl

/-- A lift that waits for a drive disabled while PURGING is released as a PASS lift. -/
theorem halfStopped_of_disabled {c : Bed} (left : p.ss.bed = some c) (onBed : c.lift.state = some .onBed)
    (gate : (p.ch 0).gate = false) (apart : NotFinishing b.lift.slot v)
    (disabled : ∃ d, DriveSet.has d c.outstanding = true ∧ p.driveState d = .disabled) :
    HalfStopped v p.cutDisabled ∧ Discreet 0 p p.cutDisabled := by
  obtain ⟨finish, intake, tables, others, gather, work⟩ := halfStopped_rest a bed
  rw [workRested_of_some bed] at a
  have planned : c.outstanding ≠ 0 := fun zero => by
    obtain ⟨d, has, -⟩ := disabled
    rw [zero, has_zero] at has
    cases has
  obtain ⟨rfl, first, second, rest, none⟩ :=
    waiting_of_onBed ((congrArg StrikeScheduler.bed a.ss).symm.trans left) bed onBed planned
  rw [bedHalted_of_waiting first second onBed rest none planned] at a
  have away : NotFinishing c.lift.slot p := fun f e => apart f ((congrArg FinishUnit.finish a.fu).symm.trans e)
  have told : Discreet 0 p p.cutDisabled := cutDisabled_discreet fun x here => by
    obtain rfl : c = x := Option.some.inj (left.symm.trans here)
    exact away
  refine ⟨?_, told⟩
  have cut := cutDisabled_apart left onBed rest gate away disabled
  have stays : ∀ d, p.cutDisabled.driveState d = p.driveState d := fun d => cut.driveState d
  generalize p.cutDisabled = u at cut stays
  have fu : u.fu = p.fu := cut.fu
  have ts : u.ts = p.ts := cut.ts
  have counts : u.lm.work = p.lm.work := cut.2
  have si : u.si = { p.si with books := u.si.books } := by
    rw [cut.si]
    rfl
  refine ⟨by rw [fu]; exact finish, ?_, ts.trans tables, ?_, fun j other => ?_, ?_, ?_⟩
  · rw [intake] at si
    exact si
  · refine bedStopped_of_disabled bed onBed first second rest none (congrArg StrikeScheduler.bed cut.ss)
      (fun k mark => ?_) ?_
    · exact (cut.book _).trans ((book_reviseBook_same _ _ _).trans (congrArg _ ((a.book _).trans mark)))
    · simp only [stays]
      exact disabled
  · have slot : j ≠ c.lift.slot := fun same => other c bed same.symm
    exact (cut.book j).trans ((book_reviseBook_ne slot _ _).trans (others j slot))
  · rw [fu, gather, bed]
    rfl
  · rw [counts, work, bed]
    rfl

end

/-- The first half of the entry. -/
theorem cutDisabled_halfStopped {v p : State} (a : Alike v.workRested p) (gate : (p.ch 0).gate = false)
    (apart : ∀ b, v.ss.bed = some b → NotFinishing b.lift.slot v) :
    HalfStopped v p.cutDisabled ∧ Discreet 0 p p.cutDisabled := by
  by_cases enabled : NoneDisabled p
  · rw [cutDisabled_eq_self enabled]
    cases bed : v.ss.bed with
    | none => exact ⟨halfStopped_of_none a bed, .refl p⟩
    | some b => exact ⟨halfStopped_of_enabled a bed enabled, .refl p⟩
  · unfold NoneDisabled at enabled
    push Not at enabled
    obtain ⟨c, left, onBed, disabled⟩ := enabled
    cases bed : v.ss.bed with
    | none =>
      rw [workRested_of_none bed] at a
      exact absurd (((congrArg StrikeScheduler.bed a.ss).trans bed).symm.trans left) (by simp)
    | some b => exact halfStopped_of_disabled a bed left onBed gate (apart b bed) disabled

/-- The part once its scheduler and its purges have stopped. -/
def State.halfStopped (s : State) : State := s.bedLeft.abandonPurges.cutDisabled

theorem enterSafeStop_halves (s : State) : s.enterSafeStop = s.halfStopped.stopFinish := rfl

theorem halfStopped_stayed (s : State) : Stayed s.bedLeft.abandonPurges s.halfStopped := by
  have before := bedLeft_stayed s
  refine cutDisabled_stayed before.line.1 ?_
  have clamp : (s.bedLeft.ch 0).gate = false := by
    rw [State.ch, (congrArg State.tcu before.frame :)]
    exact congrArg Channel.gate (stopping_ch s 0)
  exact clamp

theorem HalfStopped.of_stopping {s u : State} (half : HalfStopped s.stopping.abandonStrikes u) : HalfStopped s u := by
  have counts : s.stopping.abandonStrikes.lm.work = s.lm.work := (moveLine_reported .safeStop s).1.work_eq
  obtain ⟨finish, intake, tables, bed, others, gather, work⟩ := half
  rw [counts] at work
  rw [stopping_frame] at finish intake tables bed others gather work
  exact ⟨finish, intake, tables, bed, others, gather, work⟩

theorem halfStopped_of_apart {s : State} (apart : BedApart s) :
    HalfStopped s s.halfStopped ∧ Discreet 4 s s.halfStopped := by
  obtain ⟨a, told⟩ := purges_alike apart
  have before := bedLeft_stayed s
  have clamp : (s.bedLeft.ch 0).gate = false := by
    rw [State.ch, (congrArg State.tcu before.frame :)]
    exact congrArg Channel.gate (stopping_ch s 0)
  have away : ∀ b, s.stopping.abandonStrikes.ss.bed = some b → NotFinishing b.lift.slot s.stopping.abandonStrikes := by
    rw [stopping_frame]
    intro b bed f finish same
    exact apart b f bed finish same.symm
  obtain ⟨half, quiet⟩ := cutDisabled_halfStopped (p := s.bedLeft.abandonPurges) a clamp away
  exact ⟨.of_stopping half, told.trans quiet⟩

theorem halfStopped_line (s : State) : s.halfStopped.lsv.lineState = .safeStop :=
  (halfStopped_stayed s).line.1.trans ((bedLeft_stayed s).line.1)

end Sys2Proof.Machine

/-! The second half of the entry of Safe Stop: the Finish Unit abandons its work (R155). -/

namespace Sys2Proof.Machine

open Sys2Proof Sys2Proof.Safety

set_option Elab.async false

/-! ## The orders are withdrawn -/

/-- The Finish Unit has withdrawn its orders. -/
def State.finishWithdrawn (s : State) : State :=
  ((((s.endOrder .finishTransfer).endOrder .exitTransfer).endOrder .drill).endOrder .hanger).endOrder .closer

theorem stopFinish_eq (s : State) : s.stopFinish =
    match s.finishWithdrawn.fu.finish with
    | none => s.finishWithdrawn
    | some f => if f.bitWait then s.finishWithdrawn else s.finishWithdrawn.stopStep f := rfl

/-- Beside orders and reports, the part as it was. -/
def OrdersEnded (s t : State) : Prop := Alike { s with orders := t.orders } t

theorem OrdersEnded.refl (s : State) : OrdersEnded s s := ⟨rfl, rfl⟩

theorem OrdersEnded.endOrder {s t : State} (a : OrdersEnded s t) (st : Station) : OrdersEnded s (t.endOrder st) := by
  obtain ⟨frame, counts⟩ := a
  obtain ⟨frame', counts'⟩ := endOrder_alike st t
  generalize t.endOrder st = u at frame' counts'
  refine ⟨?_, counts'.trans counts⟩
  generalize t.orders = orders, t.lp = lp, t.lm = lm, t.lsv = lsv at frame
  subst frame
  generalize u.lp = lp, u.lm = lm, u.lsv = lsv at frame'
  subst frame'
  rfl

theorem anyOverdue_of_none {u : State} (none : ∀ st, u.order st = none) : u.anyOverdue = false := by
  simp [State.anyOverdue, none]

section

variable {s : State} (stopped : s.lsv.lineState = .safeStop)

theorem finishWithdrawn_ended (s : State) : OrdersEnded s s.finishWithdrawn :=
  (((((OrdersEnded.refl s).endOrder .finishTransfer).endOrder .exitTransfer).endOrder .drill).endOrder .hanger).endOrder .closer

theorem finishWithdrawn_order (shuttle : s.order .bedShuttle = none) (st : Station) : s.finishWithdrawn.order st = none := by
  unfold State.finishWithdrawn
  simp only [order_endOrder]
  cases st
  case bedShuttle => exact shuttle
  all_goals rfl

include stopped

theorem finishWithdrawn_discreet : Discreet 0 s s.finishWithdrawn := by
  have step : ∀ {u : State} (st : Station), u.lsv.lineState = .safeStop ∧ Discreet 0 s u →
      (u.endOrder st).lsv.lineState = .safeStop ∧ Discreet 0 s (u.endOrder st) := fun st r =>
    ⟨(endOrder_stayed r.1 st).line.1.trans r.1, r.2.trans (endOrder_discreet st r.1)⟩
  exact (step _ (step _ (step _ (step _ (step _ ⟨stopped, .refl s⟩))))).2

theorem finishWithdrawn_line : s.finishWithdrawn.lsv.lineState = .safeStop :=
  (withdrawFinishOrders_stayed stopped).line.1.trans stopped

/-- With its last order withdrawn STATION_WAIT is withdrawn too. -/
theorem finishWithdrawn_holds (shuttle : s.order .bedShuttle = none) :
    s.finishWithdrawn.lsv.holds = { s.lsv.holds with stationWait := false } := by
  have others := (finishWithdrawn_discreet stopped).holds
  have wait : s.finishWithdrawn.lsv.holds.stationWait = false := by
    have last := holds_endOrder .closer
      ((((s.endOrder .finishTransfer).endOrder .exitTransfer).endOrder .drill).endOrder .hanger)
    have calm : ∀ st, (State.setOrder .closer none
        ((((s.endOrder .finishTransfer).endOrder .exitTransfer).endOrder .drill).endOrder .hanger)).order st = none := fun st => by
      rw [order_setOrder]
      simp only [order_endOrder]
      cases st
      case bedShuttle => exact shuttle
      all_goals rfl
    rw [anyOverdue_of_none calm] at last
    exact congrArg HoldSources.stationWait last
  rw [wait] at others
  exact others

end

/-! ## The finish book is interrupted (R155) -/

/-- In SAFE_STOP, with no order of its step left, the finish book is marked INTERRUPTED and nothing else happens. -/
theorem interruptFinish_alike {w : State} {f : Finish} (stopped : w.lsv.lineState = .safeStop)
    (finish : w.fu.finish = some f) (work : f.bitWait = false) (orders : ∀ st, w.order st = none) :
    Alike (w.reviseBook f.book (faulted .interrupted)) (w.interruptFinish f) ∧ Discreet 0 w (w.interruptFinish f)
      ∧ (w.interruptFinish f).lsv.holds = w.lsv.holds := by
  unfold State.interruptFinish
  cases free : w.faultFree f.book with
  | false =>
    rw [reviseBook_faulted free, raiseFault_of_faulted free]
    exact ⟨.refl w, .refl w, rfl⟩
  | true =>
    have waits : ∀ st, w.orderWaits st = false := fun st => by rw [State.orderWaits, orders]; rfl
    have line := modifyBook_lineState f.book (faulted .interrupted) w
    have calm : (w.modifyBook f.book (faulted .interrupted)).reactToFault f = w.modifyBook f.book (faulted .interrupted) := by
      refine reactToFault_of_undisturbed ?_
      cases step : f.step with
      | transferIn => exact .inl rfl
      | drill => exact .inr (.inr (.inr (.inl ⟨rfl, work, waits .drill⟩)))
      | feed => exact .inr (.inr (.inr (.inr (.inr (.inr ⟨rfl, .inr (line.trans stopped)⟩)))))
      | hanger => exact .inr (.inr (.inr (.inr (.inl ⟨rfl, waits .hanger⟩))))
      | close => exact .inr (.inr (.inr (.inr (.inr (.inl ⟨rfl, waits .closer⟩)))))
      | exit => exact .inr (.inl rfl)
      | exitRun => exact .inr (.inr (.inl rfl))
    rw [raiseFault_of_free free, tellFinish_of_finish (s := w.modifyBook f.book (faulted .interrupted)) finish, calm]
    exact ⟨modifyBook_alike _ _ w, modifyBook_discreet _ _ w, modifyBook_holds _ _ w⟩

/-- What the Finish Unit's end of work makes of the part `u`, its books, its records and its reports (R155). -/
structure FinishHalf (u t : State) : Prop where
  line : t.lsv.holds = { u.lsv.holds with stationWait := false }
  bed : t.ss.bed = u.ss.bed ∨ t.ss.bed = u.ss.bed.map fun b => { b with ask := b.outRequest && !b.accepted }
  others : ∀ j, NotFinishing j u → t.book j = u.book j
  idle : u.fu.finish = none → t.fu.finish = none
  gather : t.fu.gather = if transferringIn u = true then none else u.fu.gather
  blocked : ∀ f, u.fu.finish = some f → f.bitWait = true → t.fu.finish = some f ∧ t.book f.book = u.book f.book
  interrupted : ∀ f k, u.fu.finish = some f → u.book f.book = some k → f.bitWait = false → exiting u = false →
    t.fu.finish = some f ∧ t.book f.book = some (faulted .interrupted k)
  passed : ∀ f k, u.fu.finish = some f → u.book f.book = some k → exiting u = true →
    t.fu.finish = none ∧ t.book f.book = none ∧ t.lsv.liveExit = some ⟨k.id, .rejected⟩
    ∧ (u.lsv.record.retentionValid = false → t.lsv.record.lastExit = some ⟨k.id, .rejected⟩)
    ∧ t.si.notices = noticesWithout f.book u.si.notices
    ∧ t.ts.formats = Bank.write u.ts.formats k.format (released (Bank.read u.ts.formats k.format))
    ∧ (u.ts.settings.outcomeNotices = true → u.queueClaim + u.lp.reserved.toNat < 11 →
        (faulted .interrupted k).outcomeNotice .rejected ∈ t.lp.queue)
  kept : exiting u = false → t.si.notices = u.si.notices ∧ t.ts = u.ts ∧ t.lsv.liveExit = u.lsv.liveExit
    ∧ t.lsv.record.lastExit = u.lsv.record.lastExit
  work : t.lm.work = if exiting u = true then bumped .booksRejected u.lm.work else u.lm.work

section

variable {u w : State} (a : OrdersEnded u w) (told : Discreet 0 u w)
  (holds : w.lsv.holds = { u.lsv.holds with stationWait := false })

include a told holds

theorem finishHalf_of_idle (idle : u.fu.finish = none) : FinishHalf u w := by
  have book : ∀ j, w.book j = u.book j := a.book
  have fu : w.fu = u.fu := a.fu
  have si : w.si = u.si := a.si
  have work : w.lm.work = u.lm.work := a.2
  have out : exiting u = false := by rw [exiting, idle]; rfl
  have away : transferringIn u = false := by rw [transferringIn, idle]; rfl
  refine ⟨holds, .inl (congrArg StrikeScheduler.bed a.ss), fun j _ => book j, fun _ => by rw [fu]; exact idle, ?_,
    fun f e => absurd (idle.symm.trans e) (by simp), fun f _ e => absurd (idle.symm.trans e) (by simp),
    fun f _ e => absurd (idle.symm.trans e) (by simp), fun _ => ⟨by rw [si], a.ts, told.liveExit, told.lastExit⟩, ?_⟩
  · rw [fu, away]
    rfl
  · rw [work, out]
    rfl

variable {f : Finish} (finish : u.fu.finish = some f)

include finish

theorem finishHalf_of_blocked (blocked : f.bitWait = true) : FinishHalf u w := by
  have book : ∀ j, w.book j = u.book j := a.book
  have fu : w.fu = u.fu := a.fu
  have si : w.si = u.si := a.si
  have work : w.lm.work = u.lm.work := a.2
  have out : exiting u = false := by simp [exiting, finish, blocked]
  have away : transferringIn u = false := by simp [transferringIn, finish, blocked]
  refine ⟨holds, .inl (congrArg StrikeScheduler.bed a.ss), fun j _ => book j,
    fun e => absurd (finish.symm.trans e) (by simp), ?_, fun x e _ => ⟨by rw [fu]; exact e, book _⟩, ?_, ?_,
    fun _ => ⟨by rw [si], a.ts, told.liveExit, told.lastExit⟩, ?_⟩
  · rw [fu, away]
    rfl
  · intro x k e _ works
    obtain rfl : f = x := Option.some.inj (finish.symm.trans e)
    exact absurd (blocked.symm.trans works) (by decide)
  · intro x k _ _ exits
    exact absurd (out.symm.trans exits) (by decide)
  · rw [work, out]
    rfl

end

/-- A finish book in work is INTERRUPTED and stays. -/
theorem finishHalf_of_interrupted {u y t : State} {f : Finish} (finish : u.fu.finish = some f) (works : f.bitWait = false)
    (stays : exiting u = false) (si : y.si = u.si) (ts : y.ts = u.ts)
    (fu : y.fu = { u.fu with gather := if transferringIn u = true then none else u.fu.gather })
    (bed : y.ss.bed = u.ss.bed ∨ y.ss.bed = u.ss.bed.map fun b => { b with ask := b.outRequest && !b.accepted })
    (work : y.lm.work = u.lm.work) (told : Discreet 0 u y) (holds : y.lsv.holds = { u.lsv.holds with stationWait := false })
    (a : Alike (y.reviseBook f.book (faulted .interrupted)) t) (quiet : Discreet 0 y t)
    (same : t.lsv.holds = y.lsv.holds) : FinishHalf u t := by
  have book : ∀ j, y.book j = u.book j := fun j => by rw [State.book, si]; rfl
  have fuAfter : t.fu = y.fu := a.fu
  have all := told.trans quiet
  refine ⟨same.trans holds, ?_, fun j other => ?_, fun e => absurd (finish.symm.trans e) (by simp), ?_, fun x e blocked => ?_,
    fun x k e mark _ _ => ?_, fun x k _ _ exits => absurd (stays.symm.trans exits) (by decide),
    fun _ => ⟨?_, a.ts.trans ts, all.liveExit, all.lastExit⟩, ?_⟩
  · rw [show t.ss = y.ss from a.ss]
    exact bed
  · exact (a.book j).trans ((book_reviseBook_ne (other f finish).symm _ y).trans (book j))
  · rw [fuAfter, fu]
  · obtain rfl : f = x := Option.some.inj (finish.symm.trans e)
    exact absurd (works.symm.trans blocked) (by decide)
  · obtain rfl : f = x := Option.some.inj (finish.symm.trans e)
    refine ⟨by rw [fuAfter, fu]; exact e, (a.book _).trans ((book_reviseBook_same _ _ y).trans ?_)⟩
    rw [book, mark]
    rfl
  · have notices : t.si.notices = y.si.notices := (congrArg SheetIntake.notices a.si).trans rfl
    rw [notices, si]
  · have counts : t.lm.work = y.lm.work := a.2
    rw [counts, work, stays]
    rfl

/-- A finish book in its exit has passed as REJECTED. -/
theorem finishHalf_of_passed {u w x : State} {f : Finish} {k : Book} (finish : u.fu.finish = some f) (works : f.bitWait = false)
    (exit : f.step = .exit ∨ f.step = .exitRun) (book : u.book f.book = some k) (ended : OrdersEnded u w)
    (told : Discreet 0 u w) (holds : w.lsv.holds = { u.lsv.holds with stationWait := false })
    (a : Alike (w.reviseBook f.book (faulted .interrupted)) x) (quiet : Discreet 0 w x)
    (same : x.lsv.holds = w.lsv.holds) (valid : x.lsv.record.retentionValid = u.lsv.record.retentionValid)
    (stopped : x.lsv.lineState = .safeStop) : FinishHalf u (x.passBook f) := by
  have exits : exiting u = true := by
    rcases exit with e | e <;> simp [exiting, finish, works, e, book]
  have away : transferringIn u = false := by
    rcases exit with e | e <;> simp [transferringIn, finish, e]
  have bookBefore : ∀ j, w.book j = u.book j := ended.book
  have marked : x.book f.book = some (faulted .interrupted k) :=
    (a.book _).trans ((book_reviseBook_same _ _ w).trans (by rw [bookBefore, book]; rfl))
  have fault : (faulted .interrupted k).fault ≠ none := by
    rw [faulted_fault]
    cases k.fault <;> simp
  have all := told.trans quiet
  rw [passBook_of_book (o := .rejected) marked (if_pos fault).symm]
  have lsv := passOutcome_lsv marked .rejected
  have sends := passOutcome_mem (s := x) f.book (faulted .interrupted k) .rejected
  have passes := passOutcome_alike (.refl x) rfl Iff.rfl .rejected marked
  have whole := passed_frame f.book (faulted .interrupted k) .rejected (s := x) (v := x) rfl
  have strobes : Bank.write x.tcu 8 (triggered 8 x) = x.tcu := (congrArg State.tcu (strobed_of_stopped stopped 8) :)
  rw [strobes, ite_self] at whole
  generalize x.passOutcome f.book (faulted .interrupted k) .rejected = t at lsv sends passes
  generalize x.passed f.book (faulted .interrupted k) .rejected = v at passes whole
  have si : t.si = { x.si with
      books := Bank.write x.si.books f.book none, notices := noticesWithout f.book x.si.notices } :=
    passes.si.trans (congrArg State.si whole :)
  have fu : t.fu = { x.fu with finish := none } := passes.fu.trans (congrArg State.fu whole :)
  have ts : t.ts = { x.ts with
      formats := Bank.write x.ts.formats k.format (released (Bank.read x.ts.formats k.format)) } :=
    passes.ts.trans (congrArg State.ts whole :)
  have work : t.lm.work = bumped .booksRejected x.lm.work := passes.2.trans (congrArg (fun y => y.lm.work) whole :)
  have xsi : x.si.notices = u.si.notices := by
    have before : w.si = u.si := ended.si
    rw [a.si, ← before]
    rfl
  have xts : x.ts = u.ts := a.ts.trans ended.ts
  have xfu : x.fu = u.fu := a.fu.trans ended.fu
  have xwork : x.lm.work = u.lm.work := a.2.trans ended.2
  refine ⟨?_, .inl ?_, fun j other => ?_, fun e => absurd (finish.symm.trans e) (by simp), ?_, fun y e blocked => ?_,
    fun y _ _ _ _ stays => absurd (stays.symm.trans exits) (by decide), fun y m e mark _ => ?_,
    fun stays => absurd (stays.symm.trans exits) (by decide), ?_⟩
  · rw [lsv, recordExit_mirror]
    exact same.trans holds
  · refine (congrArg StrikeScheduler.bed (passes.ss.trans ?_)).trans (congrArg StrikeScheduler.bed (a.ss.trans ended.ss))
    exact (congrArg State.ss whole :)
  · have apart : j ≠ f.book := (other f finish).symm
    rw [State.book, si]
    exact (Bank.read_write_ne _ _ apart).trans
      ((a.book j).trans ((book_reviseBook_ne apart _ w).trans (bookBefore j)))
  · rw [fu, xfu, away]
    rfl
  · obtain rfl : f = y := Option.some.inj (finish.symm.trans e)
    exact absurd (works.symm.trans blocked) (by decide)
  · obtain rfl : f = y := Option.some.inj (finish.symm.trans e)
    obtain rfl : k = m := Option.some.inj (book.symm.trans mark)
    refine ⟨by rw [fu], ?_, by rw [lsv]; exact recordExit_mirror_liveExit _ _ _, fun following => ?_, ?_, ?_,
      fun enabled room => ?_⟩
    · rw [State.book, si]
      exact Bank.read_write_same _ _ _
    · rw [lsv]
      exact (recordExit_mirror_following _ _ (valid.trans following)).1
    · rw [si, xsi]
    · rw [ts, xts]
    · have claim := all.claim
      refine sends (by rw [xts]; exact enabled) ?_
      rw [all.reserved]
      unfold State.queueClaim at claim room
      omega
  · rw [work, exits, xwork]
    rfl

/-- A finish record whose book is gone is emptied at its exit. -/
theorem finishHalf_of_gone {u w x : State} {f : Finish} (finish : u.fu.finish = some f) (works : f.bitWait = false)
    (exit : f.step = .exit ∨ f.step = .exitRun) (book : u.book f.book = none) (ended : OrdersEnded u w)
    (told : Discreet 0 u w) (holds : w.lsv.holds = { u.lsv.holds with stationWait := false })
    (same : x = w) : FinishHalf u (x.passBook f) := by
  subst same
  have stays : exiting u = false := by simp [exiting, finish, book]
  have away : transferringIn u = false := by
    rcases exit with e | e <;> simp [transferringIn, finish, e]
  have books : ∀ j, x.book j = u.book j := ended.book
  have passes : x.passBook f = x.setFinish none := by rw [State.passBook, books, book]
  have fu : x.fu = u.fu := ended.fu
  have si : x.si = u.si := ended.si
  have work : x.lm.work = u.lm.work := ended.2
  rw [passes]
  refine ⟨holds, .inl (congrArg StrikeScheduler.bed ended.ss), fun j _ => books j, fun _ => rfl, ?_, fun y e blocked => ?_,
    fun y k e mark => ?_, fun y k e mark => ?_, fun _ => ⟨congrArg SheetIntake.notices si, ended.ts, told.liveExit, told.lastExit⟩, ?_⟩
  · rw [away, ← fu]
    rfl
  · obtain rfl : f = y := Option.some.inj (finish.symm.trans e)
    exact absurd (works.symm.trans blocked) (by decide)
  · obtain rfl : f = y := Option.some.inj (finish.symm.trans e)
    exact absurd (book.symm.trans mark) (by simp)
  · obtain rfl : f = y := Option.some.inj (finish.symm.trans e)
    exact absurd (book.symm.trans mark) (by simp)
  · rw [stays]
    exact work

/-- The second half of the entry (R155). -/
theorem stopFinish_half {u : State} (stopped : u.lsv.lineState = .safeStop) (shuttle : u.order .bedShuttle = none) :
    FinishHalf u u.stopFinish := by
  have ended := finishWithdrawn_ended u
  have orders := finishWithdrawn_order shuttle
  have told := finishWithdrawn_discreet stopped
  have line := finishWithdrawn_line stopped
  have holds := finishWithdrawn_holds stopped shuttle
  have stays := withdrawFinishOrders_stayed stopped
  rw [stopFinish_eq]
  change Stayed u u.finishWithdrawn at stays
  generalize u.finishWithdrawn = w at ended orders told line holds stays
  have fu : w.fu = u.fu := ended.fu
  have work : w.lm.work = u.lm.work := ended.2
  have bed : w.ss.bed = u.ss.bed := congrArg StrikeScheduler.bed ended.ss
  split
  · next idle => exact finishHalf_of_idle ended told holds (by rw [← fu]; exact idle)
  · next f finish =>
    have finishBefore : u.fu.finish = some f := by rw [← fu]; exact finish
    split
    · next blocked => exact finishHalf_of_blocked ended told holds finishBefore blocked
    · next works =>
      rw [Bool.not_eq_true] at works
      have gather : transferringIn u = false →
          w.fu = { u.fu with gather := if transferringIn u = true then none else u.fu.gather } := fun away => by
        rw [fu, away]
        rfl
      have inWork : f.step ≠ .transferIn → f.step ≠ .exit → f.step ≠ .exitRun → FinishHalf u (w.interruptFinish f) :=
        fun notIn notExit notRun => by
        have out : exiting u = false := by simp [exiting, finishBefore, notExit, notRun]
        have away : transferringIn u = false := by simp [transferringIn, finishBefore, notIn]
        obtain ⟨a, quiet, same⟩ := interruptFinish_alike line finish works orders
        exact finishHalf_of_interrupted finishBefore works out ended.si ended.ts (gather away) (.inl bed) work told holds a
          quiet same
      have inExit : f.step = .exit ∨ f.step = .exitRun → FinishHalf u ((w.interruptFinish f).passBook f) := fun exit => by
        obtain ⟨a, quiet, same⟩ := interruptFinish_alike line finish works orders
        have kept := raiseFault_stayed line f.book .interrupted
        cases book : u.book f.book with
        | none =>
          refine finishHalf_of_gone finishBefore works exit book ended told holds (raiseFault_of_faulted ?_)
          rw [State.faultFree, show w.book f.book = none from (ended.book _).trans book]
          rfl
        | some k =>
          exact finishHalf_of_passed finishBefore works exit book ended told holds a quiet same
            (kept.record.1.trans stays.record.1) (kept.line.1.trans line)
      unfold State.stopStep
      split
      · next step =>
        have out : exiting u = false := by simp [exiting, finishBefore, step]
        have transferring : transferringIn u = true := by simp [transferringIn, finishBefore, works, step]
        obtain ⟨a, quiet, same⟩ := interruptFinish_alike (w := w.emptyGather) line finish works orders
        refine finishHalf_of_interrupted (y := w.emptyGather) finishBefore works out ended.si ended.ts ?_ (.inr ?_) work
          (told.trans (n := 0) (.of_silent rfl rfl rfl)) holds a quiet same
        · rw [transferring, ← fu]
          rfl
        · rw [← bed]
          rfl
      · next step => exact inWork (by rw [step]; decide) (by rw [step]; decide) (by rw [step]; decide)
      · next step => exact inWork (by rw [step]; decide) (by rw [step]; decide) (by rw [step]; decide)
      · next step => exact inWork (by rw [step]; decide) (by rw [step]; decide) (by rw [step]; decide)
      · next step => exact inWork (by rw [step]; decide) (by rw [step]; decide) (by rw [step]; decide)
      · next step => exact inExit (.inl step)
      · next step => exact inExit (.inr step)

end Sys2Proof.Machine

/-! The entry of Safe Stop as a whole, and what brings it about: jams, an overdue purge, STOP, the guard and the power
warning (R70, R83, R97, R149, R164, R166, R167). -/

namespace Sys2Proof.Machine

open Sys2Proof Sys2Proof.Safety

set_option Elab.async false

/-! ## Both halves -/

theorem driveState_of_stayed {s t : State} (r : Stayed s t) (d : DriveId) : t.driveState d = s.driveState d := by
  have frame := r.frame
  generalize t.lp = lp, t.lm = lm, t.lsv = lsv, t.orders = orders, t.si.books = books, t.si.notices = notices,
    t.ts.formats = formats, t.ss.bed = bed, t.fu.gather = gather, t.fu.finish = finish at frame
  subst frame
  rfl

/-- The rows of R90 stand when only whether the out request is to be put again changes. -/
theorem BedStopped.left {s u t : State} (stops : BedStopped s u)
    (bed : t.ss.bed = u.ss.bed ∨ t.ss.bed = u.ss.bed.map fun b => { b with ask := b.outRequest && !b.accepted })
    (book : ∀ b, s.ss.bed = some b → t.book b.lift.slot = u.book b.lift.slot)
    (drives : ∀ d, t.driveState d = u.driveState d) : BedStopped s t := by
  have empty : u.ss.bed = none → t.ss.bed = none := fun e => by
    rcases bed with same | same <;> rw [same, e]
    rfl
  have lift : ∀ x, BedIs x u → BedIs x t := by
    rintro x ⟨y, left, same⟩
    rcases bed with e | e
    · exact ⟨y, e.trans left, same⟩
    · refine ⟨{ y with ask := y.outRequest && !y.accepted }, by rw [e, left]; rfl, ?_⟩
      rw [same]
  obtain ⟨none, rows⟩ := stops
  refine ⟨fun h => empty (none h), fun b k here mark => ?_⟩
  obtain ⟨transfer, out, neither⟩ := rows b k here mark
  rw [book b here]
  refine ⟨fun h => ⟨lift _ (transfer h).1, (transfer h).2⟩, fun h => ⟨empty (out h).1, (out h).2⟩, fun first second => ?_⟩
  obtain ⟨off, on⟩ := neither first second
  refine ⟨fun h => ⟨lift _ (off h).1, (off h).2⟩, fun onBed => ?_⟩
  obtain ⟨cut, finished, waiting⟩ := on onBed
  refine ⟨fun h => ⟨lift _ (cut h).1, (cut h).2⟩, fun rest h => ⟨lift _ (finished rest h).1, (finished rest h).2⟩,
    fun rest undone h => ?_⟩
  simp only [drives]
  obtain ⟨enabled, disabled⟩ := waiting rest undone h
  exact ⟨fun h => ⟨lift _ (enabled h).1, (enabled h).2⟩, fun h => ⟨lift _ (disabled h).1, (disabled h).2⟩⟩

theorem halfStopped_shuttle (s : State) : s.halfStopped.order .bedShuttle = none :=
  (cutDisabled_bedShuttle s.bedLeft.abandonPurges).trans (stopScheduler_bedShuttle s.stopping)

section

variable {s u t : State} (apart : BedApart s) (half : HalfStopped s u) (told : Discreet 4 s u) (rest : FinishHalf u t)
  (stays : Stayed u t) (valid : u.lsv.record.retentionValid = s.lsv.record.retentionValid)

include apart half

omit apart in
theorem half_finish : u.fu.finish = s.fu.finish := by rw [half.finish]

theorem half_book {f : Finish} (finish : s.fu.finish = some f) : u.book f.book = s.book f.book :=
  half.others f.book fun b bed => apart b f bed finish

theorem half_exiting : exiting u = exiting s := by
  unfold exiting
  rw [half_finish half]
  cases finish : s.fu.finish with
  | none => rfl
  | some f => rw [Option.any_some, Option.any_some, half_book apart half finish]

omit apart in
theorem half_transferring : transferringIn u = transferringIn s := by
  unfold transferringIn
  rw [half_finish half]

include rest

theorem bedStopped_whole (stays : Stayed u t) : BedStopped s t :=
  BedStopped.left half.bed rest.bed (fun b bed => rest.others _ fun f e =>
    (apart b f bed ((half_finish half).symm.trans e)).symm) (driveState_of_stayed stays)

include told valid

theorem finishStopped_whole : (s.fu.finish = none → t.fu.finish = none)
    ∧ t.fu.gather =
        (if transferringIn s = true then none
        else if s.ordered .bedTransfer = false ∧ s.ordered .outTransfer = true then
          s.fu.gather.map fun g =>
            { g with
              lifts := g.lifts ++
                (s.ss.bed.map fun b => { b.lift with state := some .gathered }).toList }
        else s.fu.gather)
    ∧ ∀ f k, s.fu.finish = some f → s.book f.book = some k →
      (f.bitWait = true → t.fu.finish = some f ∧ t.book f.book = some k)
      ∧ (f.bitWait = false → exiting s = false →
        t.fu.finish = some f ∧ t.book f.book = some (faulted .interrupted k))
      ∧ (exiting s = true →
        t.fu.finish = none ∧ t.book f.book = none ∧ t.lsv.liveExit = some ⟨k.id, .rejected⟩
        ∧ (s.lsv.record.retentionValid = false →
            t.lsv.record.lastExit = some ⟨k.id, .rejected⟩)
        ∧ t.si.notices = noticesWithout f.book s.si.notices
        ∧ t.ts.formats =
            Bank.write s.ts.formats k.format (released (Bank.read s.ts.formats k.format))
        ∧ (s.ts.settings.outcomeNotices = true → s.lp.queue.length + s.lp.reserved.toNat < 6 →
            .bookOutcome k.id .rejected (faulted .interrupted k).fault k.format k.placed
              k.liftsPunched ∈ t.lp.queue)) := by
  have same := half_finish half
  have notices : u.si.notices = s.si.notices := by rw [half.intake]
  refine ⟨fun idle => rest.idle (same.trans idle), ?_, fun f k finish mark => ?_⟩
  · rw [rest.gather, half_transferring half, half.gather]
  · have before := half_book apart half finish
    have finishBefore := same.trans finish
    have markBefore := before.trans mark
    refine ⟨fun blocked => ?_, fun works out => ?_, fun exits => ?_⟩
    · obtain ⟨stays, book⟩ := rest.blocked f finishBefore blocked
      exact ⟨stays, book.trans markBefore⟩
    · exact rest.interrupted f k finishBefore markBefore works ((half_exiting apart half).trans out)
    · obtain ⟨gone, book, live, last, notice, formats, sends⟩ :=
        rest.passed f k finishBefore markBefore ((half_exiting apart half).trans exits)
      refine ⟨gone, book, live, fun following => last (valid.trans following), by rw [notice, notices],
        by rw [formats, half.tables], fun enabled room => ?_⟩
      have claim := told.claim
      have few : s.queueClaim ≤ s.lp.queue.length + 1 := by
        unfold State.queueClaim
        split <;> omega
      refine sends (by rw [half.tables]; exact enabled) ?_
      rw [told.reserved]
      omega

omit valid in
theorem stopCounted_whole : StopCounted s t := by
  have notices : u.si.notices = s.si.notices := by rw [half.intake]
  refine ⟨fun j away other => ?_, fun out => ?_, ?_, fun work counts => ?_⟩
  · exact (rest.others j fun f e => other f ((half_finish half).symm.trans e)).trans (half.others j away)
  · obtain ⟨notice, tables, live, last⟩ := rest.kept ((half_exiting apart half).trans out)
    exact ⟨notice.trans notices, tables.trans half.tables, live.trans told.liveExit, last.trans told.lastExit⟩
  · rw [rest.line, told.holds]
  · rw [rest.work, half_exiting apart half, half.work, ← counts]

end

theorem enterSafeStop_causes (s : State) : s.enterSafeStop.lsv.causes = s.lsv.causes :=
  (purgesLeft_stayed s).line.2.1.trans (bedLeft_stayed s).line.2.1

theorem halfStopped_valid (s : State) : s.halfStopped.lsv.record.retentionValid = s.lsv.record.retentionValid :=
  (halfStopped_stayed s).record.1.trans (bedLeft_stayed s).record.1

/-- The part as a cause stops it: the link may have taken a frame, and conditions may have been reported. -/
def State.caused (l : LinkPort) (m : LineMonitor) (x : StopCause) (s : State) : State :=
  { s with lp := l, lm := m, lsv := { s.lsv with causes := s.lsv.causes.add x } }

section

variable {s : State} {l : LinkPort} {m : LineMonitor} (x : StopCause)
  (room : l.queue.length + l.reserved.toNat ≤ s.lp.placesInUse + 2)
  (monitor : m = { s.lm with latches := m.latches, live := m.live })

include room monitor

/-- With the bed lift not of the finish book, all that the entry makes of lifts and books. -/
theorem entry_apart (apart : BedApart s) :
    BedStopped s (s.caused l m x).enterSafeStop ∧ FinishStopped s (s.caused l m x).enterSafeStop
      ∧ StopCounted s (s.caused l m x).enterSafeStop := by
  obtain ⟨half, told⟩ := halfStopped_of_apart (s := s.caused l m x) apart
  have rest := stopFinish_half (halfStopped_line (s.caused l m x)) (halfStopped_shuttle (s.caused l m x))
  have stays := stopFinish_stayed (halfStopped_line (s.caused l m x))
  have finish := finishStopped_whole (s := s.caused l m x) apart half told rest (halfStopped_valid (s.caused l m x))
  have counted := stopCounted_whole (s := s.caused l m x) apart half told rest
  have bed := bedStopped_whole (s := s.caused l m x) apart half rest stays
  rw [← enterSafeStop_halves] at finish counted bed
  obtain ⟨idle, gather, rows⟩ := finish
  refine ⟨bed, ⟨idle, gather, fun f k e mark => ?_⟩, ?_⟩
  · obtain ⟨blocked, interrupted, passed⟩ := rows f k e mark
    refine ⟨blocked, interrupted, fun exits => ?_⟩
    obtain ⟨gone, book, live, last, notices, formats, sends⟩ := passed exits
    refine ⟨gone, book, live, last, notices, formats, fun enabled few => sends enabled ?_⟩
    change l.queue.length + l.reserved.toNat < 6
    omega
  · have work : m.work = s.lm.work := (congrArg LineMonitor.work monitor :)
    obtain ⟨others, kept, holds, counts⟩ := counted
    refine ⟨others, kept, holds, fun sum e => counts sum ?_⟩
    rw [e, ← work]
    rfl

/-- What a cause that stops the line leaves (R166, R167). -/
theorem stopTaken_of_entry (running : s.lsv.lineState ≠ .safeStop) : StopTaken x s (s.caused l m x).enterSafeStop := by
  have calm := enterSafeStop_calm (s.caused l m x)
  refine ⟨calm.stopped, enterSafeStop_causes (s.caused l m x), fun stopped => absurd stopped running,
    fun _ => ⟨calm.quiet, ?_, entry_apart x room monitor⟩⟩
  obtain ⟨frame, rest⟩ := enterSafeStop_kept (s.caused l m x)
  refine ⟨?_, rest⟩
  generalize (s.caused l m x).enterSafeStop = t at frame
  have own := (congrArg State.lm frame :)
  dsimp only at own
  rw [← own] at frame
  have watched : t.lm = { s.lm with work := t.lm.work, latches := t.lm.latches, live := t.lm.live } := by
    refine own.trans ?_
    change { m with work := t.lm.work, latches := t.lm.latches, live := t.lm.live } = _
    rw [monitor]
  rw [← watched]
  exact frame

end

theorem addCause_of_running {x : StopCause} {s : State} (running : s.lsv.lineState ≠ .safeStop) :
    s.addCause x = (s.caused s.lp s.lm x).enterSafeStop := if_neg running

theorem addCause_of_stopped {x : StopCause} {s : State} (stopped : s.lsv.lineState = .safeStop) :
    s.addCause x = s.caused s.lp s.lm x := if_pos stopped

/-- A cause is taken. -/
theorem addCause_stopTaken (x : StopCause) (s : State) : StopTaken x s (s.addCause x) := by
  by_cases stopped : s.lsv.lineState = .safeStop
  · rw [addCause_of_stopped stopped]
    exact ⟨stopped, rfl, fun _ => rfl, fun running => absurd stopped running⟩
  · rw [addCause_of_running stopped]
    exact stopTaken_of_entry x (Nat.le_add_right _ 2) rfl stopped

/-- What the move of the line, primitive updates and the passage of the finish book keep, the entry keeps. -/
theorem enterSafeStop_relates (R : State → State → Prop) (trans : ∀ {s t u}, R s t → R t u → R s u)
    (line : ∀ s, R s (s.moveLine .safeStop)) (moves : ∀ {s t}, Moves s t → R s t) (pass : ∀ f s, R s (State.passBook f s))
    (s : State) : R s s.enterSafeStop := by
  have half : Moves (s.moveLine .safeStop) s.halfStopped :=
    ((moves_quietChannels _).trans (moves_stopScheduler _)).trans (moves_stopPurges _)
  have withdrawn : Moves s.halfStopped s.halfStopped.finishWithdrawn := moves_withdrawFinishOrders _
  rw [enterSafeStop_halves, stopFinish_eq]
  refine trans (trans (line s) (moves half)) (trans (moves withdrawn) ?_)
  generalize s.halfStopped.finishWithdrawn = w
  split
  · exact moves (.refl w)
  · next f _ =>
    have interrupted : ∀ s : State, Moves s (s.interruptFinish f) := moves_interruptFinish f
    split
    · exact moves (.refl w)
    · unfold State.stopStep
      split
      · exact moves ((moves_emptyGather w).trans (interrupted _))
      · exact moves (interrupted w)
      · exact moves (interrupted w)
      · exact moves (interrupted w)
      · exact moves (interrupted w)
      · exact trans (moves (interrupted w)) (pass f _)
      · exact trans (moves (interrupted w)) (pass f _)

theorem passBook_noticed (f : Finish) (s : State) : Noticed s (s.passBook f) := by
  unfold State.passBook
  split
  · exact (passOutcome_noticed _ _ _ s).1
  · exact (moves_setFinish none s).noticed

theorem enterSafeStop_noticed (s : State) : Noticed s s.enterSafeStop :=
  enterSafeStop_relates Noticed Noticed.trans (fun s => (moveLine_reported .safeStop s).2) Moves.noticed passBook_noticed s

theorem addCause_noticed (x : StopCause) (s : State) : Noticed s (s.addCause x) := by
  by_cases stopped : s.lsv.lineState = .safeStop
  · rw [addCause_of_stopped stopped]
    exact (Moves.refl s).noticed
  · rw [addCause_of_running stopped]
    exact enterSafeStop_noticed (s.caused s.lp s.lm x)

/-- A cause is taken of a state with the same link, and told by notices. -/
theorem takeCause {x : StopCause} {s v : State} (link : v.lp = s.lp) :
    StopTaken x v (v.addCause x) ∧ Noticed s (v.addCause x) :=
  ⟨addCause_stopTaken x v, noticed_of_lp link (addCause_noticed x v)⟩

/-! ## Jams (R70, R83, R149) -/

/-- Settles O34. -/
theorem jamsEnterSafeStop : Obligations.JamsEnterSafeStop := by
  intro s awake
  refine ⟨fun st o order ends phase => ⟨fun late => ?_, fun early => ?_⟩, fun d k strike => ⟨fun late => ?_, fun early => ?_⟩,
    fun f finish step ends runs => ⟨fun late => ?_, fun early => ?_⟩⟩
  · have due : s.orderDue st = true := by simp [State.orderDue, order, Order.timedOut, phase, late]
    exact ⟨_, (takeEvent_awake awake).trans (congrArg _ (if_pos due)), takeCause rfl⟩
  · have due : ¬s.orderDue st = true := by simp [State.orderDue, order, Order.timedOut, phase, early]
    exact (takeEvent_awake awake).trans (congrArg _ (if_neg due))
  · have due : s.strokeDue d = true := by simp [State.strokeDue, strike, late]
    obtain ⟨taken, noticed⟩ := takeCause (x := .jam) (v := s.setDrive d { s.drive d with faulted := true }) (s := s) rfl
    exact ⟨_, (takeEvent_awake awake).trans (congrArg _ (if_pos due)), noticed, taken⟩
  · have due : ¬s.strokeDue d = true := by simp [State.strokeDue, strike, early]
    exact (takeEvent_awake awake).trans (congrArg _ (if_neg due))
  · have due : s.exitRunDue = true := by simp [State.exitRunDue, finish, step, runs, late]
    exact ⟨_, (takeEvent_awake awake).trans (congrArg _ (if_pos due)), takeCause rfl⟩
  · have due : ¬s.exitRunDue = true := by simp [State.exitRunDue, finish, step, runs, early]
    exact (takeEvent_awake awake).trans (congrArg _ (if_neg due))

end Sys2Proof.Machine

/-! An overdue purge, STOP, the guard and the power warning (R97, R98, R164, R166, R170). -/

namespace Sys2Proof.Machine

open Sys2Proof Sys2Proof.Safety

set_option Elab.async false

/-! ## A latch stays set, and a frozen record stays -/

/-- A latch that is set in `s` is set in `t`. -/
def LatchKept (n : Nat) (s t : State) : Prop := s.lm.latches.getLsbD n = true → t.lm.latches.getLsbD n = true

theorem LatchKept.trans {n : Nat} {s t u : State} (a : LatchKept n s t) (b : LatchKept n t u) : LatchKept n s u :=
  fun set => b (a set)

theorem Move.latchKept {n : Nat} {s t : State} (m : Move s t) : LatchKept n s t := by
  cases m with
  | report c p => exact latched_reportLevel c p
  | occur c =>
    intro set
    change (s.lm.latch c).latches.getLsbD n = true
    rw [getLsbD_latch, set, Bool.or_true]
  | count k => exact latched_count k
  | remove i => exact fun set => by rw [State.removeBook_lm]; exact set
  | _ => exact id

theorem Moves.latchKept {n : Nat} {s t : State} (m : Moves s t) : LatchKept n s t :=
  m.relates (LatchKept n) (fun _ => id) LatchKept.trans Move.latchKept

theorem passBook_latchKept (n : Nat) (f : Finish) (s : State) : LatchKept n s (s.passBook f) := by
  unfold State.passBook
  split
  · next b _ =>
    intro set
    have told := (moves_outcomeTold b (s.outcomeOf b) s).latchKept set
    rw [passOutcome_eq]
    change (State.removeBook f.book _).lm.latches.getLsbD n = true
    rw [State.removeBook_lm]
    exact told
  · exact id

theorem enterSafeStop_latchKept (n : Nat) (s : State) : LatchKept n s s.enterSafeStop := by
  refine enterSafeStop_relates (LatchKept n) LatchKept.trans (fun s set => ?_) Moves.latchKept (passBook_latchKept n) s
  unfold State.moveLine State.syncPause
  exact latched_reportLevel _ _ (latched_reportLevel _ _ (latched_reportLevel _ _ set))

/-- A frozen record stays as it is. -/
def RecordKept (s t : State) : Prop := s.lsv.record.retentionValid = true → t.lsv.record = s.lsv.record

theorem RecordKept.trans {s t u : State} (a : RecordKept s t) (b : RecordKept t u) : RecordKept s u := fun frozen =>
  (b (by rw [a frozen]; exact frozen)).trans (a frozen)

theorem mirror_frozen (i : Slot) (b : Option Book) {l : LineSupervisor} (frozen : l.record.retentionValid = true) :
    (l.mirror i b).record = l.record := by
  unfold LineSupervisor.mirror
  rw [if_pos frozen]

theorem Move.recordKept {s t : State} (m : Move s t) : RecordKept s t := by
  intro frozen
  cases m with
  | book i b same => exact mirror_frozen i b frozen
  | remove i =>
    unfold State.removeBook
    split
    · rfl
    · exact mirror_frozen i none frozen
  | _ => rfl

theorem Moves.recordKept {s t : State} (m : Moves s t) : RecordKept s t :=
  m.relates RecordKept (fun _ _ => rfl) RecordKept.trans Move.recordKept

theorem enterSafeStop_recordKept (s : State) : RecordKept s s.enterSafeStop := by
  refine enterSafeStop_relates RecordKept RecordKept.trans (fun _ _ => rfl) Moves.recordKept (fun f s frozen => ?_) s
  unfold State.passBook
  split
  · next b book => rw [passOutcome_lsv book, recordExit_mirror_frozen _ _ frozen]
  · rfl

/-! ## An overdue purge (R97, R98) -/

theorem accrued_eq (d : DriveId) (s : State) : s.accrued d =
    (s.account d).debt + (if (s.account d).temperature = .cool then 1 else 2) := by
  unfold State.accrued Temperature.accrual
  cases (s.account d).temperature <;> rfl

theorem quarterDue_iff {d : DriveId} {s : State} {n : Nat} (length : (s.account d).length = some n) :
    s.quarterDue d = true ↔ ¬Suspended d s ∧ n ≤ (s.account d).elapsed := by
  rw [← s.timerSuspended_iff d]
  simp [State.quarterDue, length]

theorem occur_joined (c : Condition) (s : State) : Joined 1 s (s.occur c) := pushOptional_joined _ _

/-- The reports of an overdue purge. -/
def State.overdueTold (y : State) : State := y.syncForced.occur .purgeOverdue

theorem overdueTold_reported (y : State) : Reported y y.overdueTold ∧ Joined 2 y y.overdueTold :=
  ⟨(reportLevel_reported .driveForced y.anyForced y).trans (occur_reported .purgeOverdue _),
    (reportLevel_joined .driveForced y.anyForced y).trans (occur_joined .purgeOverdue _)⟩

/-- A purge overdue stops the line, told of beforehand. -/
theorem overdue_stopTaken {y : State} (running : y.lsv.lineState ≠ .safeStop) :
    StopTaken .purgeOverdue y (y.overdueTold.addCause .purgeOverdue)
      ∧ Noticed y (y.overdueTold.addCause .purgeOverdue)
      ∧ (y.overdueTold.addCause .purgeOverdue).lm.latches.getLsbD 9 = true := by
  obtain ⟨⟨monitored, noticed⟩, length, reserved⟩ := overdueTold_reported y
  have latched : y.overdueTold.lm.latches.getLsbD 9 = true := by
    change (y.syncForced.lm.latch .purgeOverdue).latches.getLsbD 9 = true
    rw [getLsbD_latch]
    rfl
  have same : y.overdueTold.caused y.overdueTold.lp y.overdueTold.lm .purgeOverdue =
      y.caused y.overdueTold.lp y.overdueTold.lm .purgeOverdue := rfl
  have stands : y.overdueTold.lsv.lineState ≠ .safeStop := running
  have told := addCause_noticed .purgeOverdue y.overdueTold
  rw [addCause_of_running stands] at told ⊢
  refine ⟨?_, noticed.trans told, enterSafeStop_latchKept 9 _ latched⟩
  rw [same]
  refine stopTaken_of_entry .purgeOverdue ?_ monitored running
  unfold LinkPort.placesInUse
  rw [reserved]
  omega

/-- Settles O35. -/
theorem quarterIntervalAccrues : Obligations.QuarterIntervalAccrues := by
  intro s d len due awake length sum
  rw [← accrued_eq] at sum
  refine ⟨fun still => ?_, fun runs counted => ?_⟩
  · refine (takeEvent_awake awake).trans (congrArg _ (if_neg ?_))
    rw [quarterDue_iff length, not_and_or, not_not, not_le]
    exact still
  have expired : s.quarterDue d = true := (quarterDue_iff length).2 ⟨runs, counted⟩
  refine ⟨fun low => ?_, fun high => ?_⟩
  · have expires : s.quarterExpiry d = s.setDebtAtExpiry d due (s.lengthNow d) := by
      rw [State.quarterExpiry, if_pos expired, ← sum, if_pos low]
    have taken : exec (.quarterIntervalExpiry d) s = .next (s.setDebtAtExpiry d due (s.lengthNow d)) :=
      (takeEvent_awake awake).trans (congrArg _ expires)
    refine ⟨_, taken, rfl, ⟨rfl, fun x other => Bank.read_write_ne _ _ other⟩, Bank.read_write_same _ _ _, ?_,
      reportLevel_reported .driveForced _ (s.setAccount d _)⟩
    exact (live_reportLevel .driveForced _ (s.setAccount d (s.nextInterval d due (s.lengthNow d))) 4).trans (if_pos rfl)
  · have stands : s.lsv.lineState ≠ .safeStop := fun stopped => runs (.inr (.inr (.inl stopped)))
    have expires : s.quarterExpiry d =
        ((s.setAccount d { s.account d with debt := 32, elapsed := 0, length := none }).overdueTold).addCause .purgeOverdue := by
      rw [State.quarterExpiry, if_pos expired, ← sum, if_neg (by omega)]
      rfl
    have taken : exec (.quarterIntervalExpiry d) s = .next
        (((s.setAccount d { s.account d with debt := 32, elapsed := 0, length := none }).overdueTold).addCause .purgeOverdue) :=
      (takeEvent_awake awake).trans (congrArg _ expires)
    obtain ⟨stop, noticed, latched⟩ := overdue_stopTaken
      (y := s.setAccount d { s.account d with debt := 32, elapsed := 0, length := none }) stands
    have whole := stop
    obtain ⟨-, -, -, entry⟩ := whole
    obtain ⟨-, ⟨-, -, -, account, -⟩, -⟩ := entry stands
    have here : (s.setAccount d { s.account d with debt := 32, elapsed := 0, length := none }).account d =
        { s.account d with debt := 32, elapsed := 0, length := none } := Bank.read_write_same _ _ _
    have after := account d
    rw [here] at after
    refine ⟨_, taken, by rw [after], by rw [after], latched, noticed, stop⟩

/-! ## STOP (R164) -/

theorem StopTaken.link {x : StopCause} {s t : State} (taken : StopTaken x s t) (running : s.lsv.lineState ≠ .safeStop)
    (l : LinkPort) (stays : ∀ u, u ∈ t.lp.queue → u ∈ l.queue) : StopTaken x s { t with lp := l } := by
  obtain ⟨line, causes, -, entry⟩ := taken
  obtain ⟨quiet, ⟨frame, kept⟩, apart⟩ := entry running
  refine ⟨line, causes, fun stopped => absurd stopped running, fun _ => ⟨quiet, ⟨?_, kept⟩, fun away => ?_⟩⟩
  · generalize t.lp = l' at frame
    rw [frame]
  · obtain ⟨bed, ⟨idle, gather, rows⟩, counted⟩ := apart away
    refine ⟨bed, ⟨idle, gather, fun f k e mark => ?_⟩, counted⟩
    obtain ⟨blocked, interrupted, passed⟩ := rows f k e mark
    refine ⟨blocked, interrupted, fun exits => ?_⟩
    obtain ⟨gone, book, live, last, notices, formats, sends⟩ := passed exits
    exact ⟨gone, book, live, last, notices, formats, fun enabled few => stays _ (sends enabled few)⟩

/-- Settles O42. -/
theorem stopRequested : Obligations.StopRequested := by
  intro s tag modeByte served
  by_cases stopped : s.lsv.lineState = .safeStop
  · refine ⟨{ s with
      lsv := { s.lsv with causes := { s.lsv.causes with stopRequest := true } }
      lp := answered s.lp tag 0x0F .done [] }, ?_, rfl, ⟨by simp [answered], rfl⟩, fun running => absurd stopped running,
      fun _ => rfl⟩
    exact take_quiet (f := lineControlFrame 2 tag modeByte) (act := fun s => doneWith (s.addCause .stopRequest)) served
      { s with lsv := { s.lsv with causes := { s.lsv.causes with stopRequest := true } } } ⟨.done, []⟩
      (congrArg doneWith (if_pos stopped))
  · have acts : (admitted s).addCause .stopRequest = (s.caused (admitted s).lp s.lm .stopRequest).enterSafeStop := if_neg stopped
    have room : (admitted s).lp.queue.length + (admitted s).lp.reserved.toNat ≤ s.lp.placesInUse + 2 := by
      change s.lp.queue.length + 1 ≤ s.lp.queue.length + s.lp.reserved.toNat + 2
      omega
    have stop := stopTaken_of_entry (m := s.lm) .stopRequest room rfl stopped
    have noticed := addCause_noticed .stopRequest (admitted s)
    have taken : exec (.stop tag modeByte) s = _ :=
      take_served (f := lineControlFrame 2 tag modeByte) (act := fun s => doneWith (s.addCause .stopRequest)) served
    rw [show (doneWith ((admitted s).addCause .stopRequest)).1 = (admitted s).addCause .stopRequest from rfl] at taken
    rw [← acts] at stop
    generalize (admitted s).addCause .stopRequest = w at noticed stop taken
    have causes := stop
    obtain ⟨-, added, -, -⟩ := causes
    refine ⟨_, taken, added, answeredLast_of_noticed noticed _ _ _ _, fun _ => ?_, fun h => absurd h stopped⟩
    exact StopTaken.link stop stopped _ fun u mem => List.mem_append_left _ mem

/-! ## The power warning's level -/

theorem live_count (k : Counter) (s : State) : (s.count k).lm.live = s.lm.live := by
  change (s.lm.bump k).live = _
  unfold LineMonitor.bump
  dsimp only
  split <;> rfl

theorem live_handOver (b : Bed) (s : State) : (s.handOver b).lm.live = s.lm.live := by
  have counted : (s.countLift b).lm.live = s.lm.live := by
    unfold State.countLift
    split
    · exact live_count .liftsPunched _
    · exact live_count .liftsPassed s
  refine Eq.trans ?_ counted
  unfold State.handOver State.testComplete
  dsimp only
  split <;> rfl

theorem live_triggerStrobe (i : ChannelId) (s : State) : (s.triggerStrobe i).lm.live = s.lm.live := by
  unfold State.triggerStrobe
  split
  · split <;> rfl
  · rfl

theorem live_passBook (f : Finish) (s : State) : (s.passBook f).lm.live = s.lm.live := by
  unfold State.passBook
  split
  · next b _ =>
    have told : (s.outcomeTold b (s.outcomeOf b)).lm.live = s.lm.live := by
      have gate : (if s.outcomeOf b = .bound then s else s.triggerStrobe 8).lm.live = s.lm.live := by
        split
        · rfl
        · exact live_triggerStrobe 8 s
      have sent : ∀ u : State, (u.sendOutcome (s.outcomeOf b) b).lm.live = u.lm.live := fun u => by
        unfold State.sendOutcome
        split <;> rfl
      rw [State.outcomeTold, ← gate]
      refine Eq.trans ?_ (sent _)
      cases s.outcomeOf b with
      | bound => exact live_count _ _
      | rejected => exact live_count _ _
      | proofed => rfl
    rw [passOutcome_eq]
    change (State.removeBook f.book _).lm.live = _
    rw [State.removeBook_lm]
    exact told
  · rfl

section

variable {n : Nat} (off : OffLine n) (worn : n ≠ 6) (wait : n ≠ 7)

include off worn wait

theorem live_stopBed (b : Bed) (s : State) : (s.stopBed b).lm.live.getLsbD n = s.lm.live.getLsbD n := by
  unfold State.stopBed State.stopOnBed
  split
  · exact live_raiseFault off worn wait _ _ (s.setBed _)
  · split
    · exact (live_raiseFault off worn wait _ _ _).trans (by rw [live_handOver])
    · split
      · split
        · exact live_raiseFault off worn wait _ _ (s.setBed _)
        · split <;> rfl
      · rfl

theorem live_stopStep (f : Finish) (s : State) : (s.stopStep f).lm.live.getLsbD n = s.lm.live.getLsbD n := by
  have interrupted : ∀ s : State, (s.interruptFinish f).lm.live.getLsbD n = s.lm.live.getLsbD n :=
    live_raiseFault off worn wait f.book .interrupted
  unfold State.stopStep
  split
  · exact interrupted s.emptyGather
  · exact interrupted s
  · exact interrupted s
  · exact interrupted s
  · exact interrupted s
  · rw [live_passBook]
    exact interrupted s
  · rw [live_passBook]
    exact interrupted s

/-- The entry reports only BIT_WORN, STATION_WAIT and the levels of the line state. -/
theorem live_enterSafeStop (s : State) : s.enterSafeStop.lm.live.getLsbD n = s.lm.live.getLsbD n := by
  have bed : ∀ u : State, u.bedStopped.lm.live.getLsbD n = u.lm.live.getLsbD n := fun u => by
    unfold State.bedStopped
    split
    · rfl
    · exact live_stopBed off worn wait _ u
  have half : s.halfStopped.lm.live.getLsbD n = s.lm.live.getLsbD n := by
    refine (live_cutDisabled off worn wait s.bedLeft.abandonPurges).trans ?_
    refine (live_endOrder off wait .bedShuttle s.stopping.abandonStrikes.bedStopped).trans ?_
    exact (bed s.stopping.abandonStrikes).trans (live_moveLine off .safeStop s)
  have withdrawn : s.halfStopped.finishWithdrawn.lm.live.getLsbD n = s.lm.live.getLsbD n := by
    unfold State.finishWithdrawn
    simp only [live_endOrder off wait]
    exact half
  rw [enterSafeStop_halves, stopFinish_eq]
  generalize s.halfStopped.finishWithdrawn = w at withdrawn
  split
  · exact withdrawn
  · split
    · exact withdrawn
    · exact (live_stopStep off worn wait _ w).trans withdrawn

theorem live_addCause (x : StopCause) (s : State) : (s.addCause x).lm.live.getLsbD n = s.lm.live.getLsbD n := by
  by_cases stopped : s.lsv.lineState = .safeStop
  · rw [addCause_of_stopped stopped]
    rfl
  · rw [addCause_of_running stopped]
    exact live_enterSafeStop off worn wait (s.caused s.lp s.lm x)

end

theorem addCause_recordKept (x : StopCause) (s : State) : RecordKept s (s.addCause x) := by
  by_cases stopped : s.lsv.lineState = .safeStop
  · rw [addCause_of_stopped stopped]
    exact fun _ => rfl
  · rw [addCause_of_running stopped]
    exact enterSafeStop_recordKept (s.caused s.lp s.lm x)

/-- The power warning freezes the record, is reported and stops the line. -/
theorem powerWarning_taken (w : State) : StopTaken .powerWarning
      (State.reportLevel .powerWarning true { w with lsv := { w.lsv with record := w.powerWarning.lsv.record } })
      w.powerWarning
    ∧ w.powerWarning.lsv.record = w.lsv.record.freeze .powerWarning
    ∧ w.powerWarning.lm.live.getLsbD 14 = true ∧ Noticed w w.powerWarning := by
  have frozen : (w.freeze .powerWarning).lsv.record.retentionValid = true := by
    change (w.lsv.record.freeze .powerWarning).retentionValid = true
    rw [freeze_eq]
    split
    · assumption
    · rfl
  have record : w.powerWarning.lsv.record = w.lsv.record.freeze .powerWarning :=
    addCause_recordKept .powerWarning ((w.freeze .powerWarning).reportLevel .powerWarning true) frozen
  have level : w.powerWarning.lm.live.getLsbD 14 = true := by
    refine (live_addCause ⟨by decide, by decide, by decide⟩ (by decide) (by decide) .powerWarning
      ((w.freeze .powerWarning).reportLevel .powerWarning true)).trans ?_
    exact (live_reportLevel .powerWarning true (w.freeze .powerWarning) 14).trans (if_pos rfl)
  have reported : Noticed w ((w.freeze .powerWarning).reportLevel .powerWarning true) :=
    (reportLevel_reported .powerWarning true (w.freeze .powerWarning)).2
  refine ⟨?_, record, level, reported.trans (addCause_noticed .powerWarning _)⟩
  rw [record]
  exact addCause_stopTaken .powerWarning ((w.freeze .powerWarning).reportLevel .powerWarning true)

theorem exec_guardOpen {s : State} (awake : Awake s) : exec .guardOpen s =
    .next (if s.inputs.guardClosed then (s.recordGuard false).addCause .guard else s.recordGuard false) :=
  takeLevel_awake (record := State.recordGuard false)
    (act := fun t => if s.inputs.guardClosed then t.addCause .guard else t) awake

theorem exec_powerWarningAssert {s : State} (awake : Awake s) : exec .powerWarningAssert s =
    .next (if s.inputs.powerWarning then s.recordWarning true else (s.recordWarning true).powerWarning) :=
  takeLevel_awake (record := State.recordWarning true)
    (act := fun t => if s.inputs.powerWarning then t else t.powerWarning) awake

/-- Settles O48. -/
theorem guardAndPowerWarning : Obligations.GuardAndPowerWarning := by
  intro s w awake
  refine ⟨?opened, ?closed, ?asserted, ?released⟩
  case opened =>
    rintro rfl
    refine ⟨fun closed => ⟨_, (exec_guardOpen awake).trans (by rw [closed]; rfl), takeCause rfl⟩, fun opened => ?_⟩
    rw [exec_guardOpen awake, opened]
    rfl
  case closed =>
    rintro rfl
    exact takeLevel_awake (record := State.recordGuard true) (act := fun t => t) awake
  case asserted =>
    rintro rfl
    refine ⟨fun on => ?_, fun off => ?_⟩
    · rw [exec_powerWarningAssert awake, on]
      rfl
    · obtain ⟨taken, record, level, noticed⟩ := powerWarning_taken (s.recordWarning true)
      exact ⟨_, (exec_powerWarningAssert awake).trans (by rw [off]; rfl), taken, record.trans (freeze_eq _ _), level, noticed⟩
  case released =>
    rintro rfl
    have reported := reportLevel_reported .powerWarning false (s.recordWarning false)
    refine ⟨_, takeLevel_awake (record := State.recordWarning false) (act := State.reportLevel .powerWarning false) awake,
      rfl, ?_, reported⟩
    exact (live_reportLevel .powerWarning false (s.recordWarning false) 14).trans (if_pos rfl)

end Sys2Proof.Machine

/-! What Channel Set does to its channel, to the hold sources and to the owners of the channel (R114, R128, R160). -/

namespace Sys2Proof.Machine

open Sys2Proof Sys2Proof.Safety

set_option Elab.async false

/-! ## The fields of the request -/

theorem readChannelMode_code (m : ChannelMode) : readChannelMode m.code = some m := by cases m <;> rfl

theorem readSource_code (x : Source) : readSource x.code = some x := by cases x <;> rfl

theorem readChannelMode_none {b : Byte} (above : 5 ≤ b.toNat) : readChannelMode b = none := by
  unfold readChannelMode
  repeat rw [if_neg (by rintro rfl; revert above; decide)]

theorem readSource_none {b : Byte} (above : 2 ≤ b.toNat) : readSource b = none := by
  unfold readSource
  repeat rw [if_neg (by rintro rfl; revert above; decide)]

theorem readChannelMode_some {b : Byte} (below : b.toNat < 5) : ∃ m, readChannelMode b = some m := by
  have code : b = 0 ∨ b = 1 ∨ b = 2 ∨ b = 3 ∨ b = 4 := by bv_omega
  rcases code with rfl | rfl | rfl | rfl | rfl <;> exact ⟨_, rfl⟩

theorem readSource_some {b : Byte} (below : b.toNat < 2) : ∃ x, readSource b = some x := by
  have code : b = 0 ∨ b = 1 := by bv_omega
  rcases code with rfl | rfl <;> exact ⟨_, rfl⟩

theorem readIndex_some {n : Nat} {b : Byte} (below : b.toNat < n) : ∃ i, readIndex n b = some i :=
  ⟨⟨b.toNat, below⟩, dif_pos below⟩

/-- A field out of its range is refused before the line state is looked at. -/
theorem channelSet_of_unread {channel mode source : Byte} (past : 9 ≤ channel.toNat ∨ 5 ≤ mode.toNat ∨ 2 ≤ source.toNat)
    (k : Counts) (s : State) : s.channelSet channel mode source k = refuse .range s := by
  unfold State.channelSet
  split
  · next i m x index read readX =>
    rcases past with past | past | past
    · rw [readIndex_none past] at index
      cases index
    · rw [readChannelMode_none past] at read
      cases read
    · rw [readSource_none past] at readX
      cases readX
  · rfl

theorem channelSet_of_read {channel mode source : Byte} {i : ChannelId} {m : ChannelMode} {x : Source}
    (index : readIndex 9 channel = some i) (read : readChannelMode mode = some m) (readX : readSource source = some x)
    (k : Counts) (s : State) : s.channelSet channel mode source k = s.channelSetChecked i m x k := by
  rw [State.channelSet, index, read, readX]

theorem modeAllowed_iff (i : ChannelId) (m : ChannelMode) :
    modeAllowed i m = true ↔ m = workingMode i ∨ m = .soft ∨ m = .off := by
  simp [modeAllowed, or_assoc]

theorem channelSetChecked_of_running {s : State} (runs : s.lsv.lineState = .running ∨ s.lsv.lineState = .holdPending)
    (i : ChannelId) (m : ChannelMode) (x : Source) (k : Counts) : s.channelSetChecked i m x k = refuse .state s := by
  rw [State.channelSetChecked, heldOrStopped_of_running runs]
  rfl

section

variable {s : State} (stands : s.lsv.lineState = .held ∨ s.lsv.lineState = .safeStop) (i : ChannelId) {m : ChannelMode}
  (x : Source) {k : Counts}

include stands

theorem channelSetChecked_of_barred (barred : modeAllowed i m = false ∨ (m = .pitch ∧ k.pitchValid = false)) :
    s.channelSetChecked i m x k = refuse .range s := by
  rw [State.channelSetChecked, heldOrStopped_of stands, if_neg (by decide)]
  cases allowed : modeAllowed i m with
  | false => rfl
  | true => exact if_pos (barred.resolve_left (by rw [allowed]; decide))

theorem channelSetChecked_of_allowed (allowed : modeAllowed i m = true) (valid : m = .pitch → k.pitchValid = true) :
    s.channelSetChecked i m x k = doneWith (s.setChannel i m x k) := by
  rw [State.channelSetChecked, heldOrStopped_of stands, if_neg (by decide), allowed, if_neg (by decide), if_neg]
  rintro ⟨pitch, invalid⟩
  rw [valid pitch] at invalid
  cases invalid

end

/-! ## START is set while a channel is out of its working mode (R160) -/

theorem addHold_of_standing {s : State} (stands : s.lsv.lineState = .held ∨ s.lsv.lineState = .safeStop) (x : HoldSource) :
    s.addHold x = s.setHolds (s.lsv.holds.put x true) := by
  refine if_neg fun running => ?_
  rw [show s.lsv.lineState = .running from running] at stands
  rcases stands with h | h <;> cases h

/-- The hold sources with START presented if a channel is out of its working mode. -/
def State.startHeld (s : State) : HoldSources :=
  if ∃ j, (s.ch j).mode ≠ workingMode j then { s.lsv.holds with start := true } else s.lsv.holds

theorem startHeld_start {s : State} (out : ∃ j, (s.ch j).mode ≠ workingMode j) : s.startHeld.start = true := by
  rw [State.startHeld, if_pos out]

theorem holdForChannels_eq {s : State} (stands : s.lsv.lineState = .held ∨ s.lsv.lineState = .safeStop) :
    s.holdForChannels = { s with lsv := { s.lsv with holds := s.startHeld } } := by
  unfold State.holdForChannels State.startHeld
  by_cases working : ∀ j, (s.ch j).mode = workingMode j
  · rw [if_pos ((channelsWorking_iff s).2 working), if_neg (by simpa using working)]
  · rw [if_neg (by rwa [channelsWorking_iff]), if_pos (not_forall.1 working), addHold_of_standing stands]
    rfl

/-! ## Modes and sources -/

/-- Every channel has kept its mode and its source. -/
def ModesKept (s t : State) : Prop := ∀ j, (t.ch j).mode = (s.ch j).mode ∧ (t.ch j).source = (s.ch j).source

theorem ModesKept.refl (s : State) : ModesKept s s := fun _ => ⟨rfl, rfl⟩

theorem ModesKept.trans {s t u : State} (a : ModesKept s t) (b : ModesKept t u) : ModesKept s u :=
  fun j => ⟨(b j).1.trans (a j).1, (b j).2.trans (a j).2⟩

theorem ModesKept.of_tcu {s t : State} (same : t.tcu = s.tcu) : ModesKept s t := fun j => by
  have ch : t.ch j = s.ch j := by rw [State.ch, same]; rfl
  rw [ch]
  exact ⟨rfl, rfl⟩

theorem modesKept_setCh {i : ChannelId} {c : Channel} {s : State} (mode : c.mode = (s.ch i).mode)
    (source : c.source = (s.ch i).source) : ModesKept s (s.setCh i c) := fun j => by
  by_cases here : j = i
  · subst here
    rw [show (s.setCh j c).ch j = c from Bank.read_write_same _ _ _]
    exact ⟨mode, source⟩
  · rw [show (s.setCh i c).ch j = s.ch j from Bank.read_write_ne _ _ here]
    exact ⟨rfl, rfl⟩

theorem startHeld_congr {s t : State} (modes : ModesKept s t) (holds : t.lsv.holds = s.lsv.holds) : t.startHeld = s.startHeld := by
  have same : ∀ j, (t.ch j).mode = (s.ch j).mode := fun j => (modes j).1
  simp only [State.startHeld, same, holds]

theorem clamp_mode (c : Channel) : c.clamp.mode = c.mode ∧ c.clamp.source = c.source := by
  unfold Channel.clamp Channel.load
  split <;> exact ⟨rfl, rfl⟩

theorem feedStarted_mode (b : Nat) (c : Channel) : (feedStarted b c).mode = c.mode ∧ (feedStarted b c).source = c.source := by
  unfold feedStarted
  split <;> exact ⟨rfl, rfl⟩

theorem modesKept_testClamp (s : State) : ModesKept s s.testClamp := by
  unfold State.testClamp State.triggerClamp
  split
  · split
    · exact modesKept_setCh (clamp_mode _).1 (clamp_mode _).2
    · exact .refl s
  · exact .refl s

theorem modesKept_releaseLift (s : State) : ModesKept s s.releaseLift := by
  unfold State.releaseLift
  split
  · exact .refl s
  · split
    · split
      · exact modesKept_setCh rfl rfl
      · exact .of_tcu rfl
    · exact .refl s

theorem modesKept_cutDisabled (s : State) : ModesKept s s.cutDisabled := by
  unfold State.cutDisabled
  split
  · exact .refl s
  · split
    · next b _ _ =>
      have tcu := State.raiseFault_tcu (s.setBed (some b.passing)) b.lift.slot .driveDisabled
      exact (ModesKept.of_tcu (s := s) tcu).trans (modesKept_releaseLift _)
    · exact .refl s

theorem startFeed_channels (budget : Nat) (s : State) :
    ModesKept s (s.startFeed budget) ∧ ∀ j, j ≠ 6 → (s.startFeed budget).ch j = s.ch j := by
  unfold State.startFeed
  split
  · split
    · exact ⟨.of_tcu rfl, fun _ _ => rfl⟩
    · rw [startTrain_eq]
      exact ⟨modesKept_setCh (feedStarted_mode _ _).1 (feedStarted_mode _ _).2, fun j other => Bank.read_write_ne _ _ other⟩
  · exact ⟨.refl s, fun _ _ => rfl⟩

theorem feedAfterSet_channels (s : State) :
    ModesKept s s.feedAfterSet ∧ (∀ j, j ≠ 6 → s.feedAfterSet.ch j = s.ch j) := by
  unfold State.feedAfterSet
  split
  · exact ⟨.refl s, fun _ _ => rfl⟩
  · split
    · split
      · exact startFeed_channels _ s
      · split
        · exact ⟨.of_tcu rfl, fun _ _ => rfl⟩
        · exact ⟨.refl s, fun _ _ => rfl⟩
    · exact ⟨.refl s, fun _ _ => rfl⟩

theorem ownerAfterSet_channels (i : ChannelId) (s : State) :
    ModesKept s (s.ownerAfterSet i) ∧ ∀ j, j ≠ i → (s.ownerAfterSet i).ch j = s.ch j := by
  unfold State.ownerAfterSet
  split
  · next clamp =>
    subst clamp
    have tcu : s.clampOpened.tcu = s.tcu := by rw [clampOpened_eq]
    exact ⟨(ModesKept.of_tcu tcu).trans (modesKept_testClamp _), fun j other =>
      ((testClamp_frame _).2 j other).trans (by rw [State.ch, tcu]; rfl)⟩
  · split
    · next feed =>
      subst feed
      exact feedAfterSet_channels s
    · exact ⟨.refl s, fun _ _ => rfl⟩

theorem ownerAfterSet_of_other {i : ChannelId} (notClamp : i ≠ 0) (notFeed : i ≠ 6) (s : State) : s.ownerAfterSet i = s :=
  (if_neg notClamp).trans (if_neg notFeed)

theorem cutDisabled_channels (s : State) (j : ChannelId) (other : j ≠ 0) : s.cutDisabled.ch j = s.ch j := by
  unfold State.cutDisabled
  split
  · rfl
  · next b bed =>
    split
    · exact (cutLift_others b s).1 j other
    · rfl

/-! ## A Cut is told to the owner of the channel (R82, R146) -/

theorem strobeEnded_channels (d : DriveId) (s : State) :
    ModesKept s (s.strobeEnded d) ∧ ∀ j, j ≠ 0 → (s.strobeEnded d).ch j = s.ch j := by
  unfold State.strobeEnded
  split
  · exact ⟨.refl s, fun _ _ => rfl⟩
  · split
    · unfold State.completeStrike
      dsimp only
      generalize e : (if (_ : State).lsv.mode = LineMode.run then _ else _) = v
      have tcu : v.tcu = s.tcu := by
        rw [← e]
        split <;> rfl
      refine ⟨(ModesKept.of_tcu tcu).trans (modesKept_releaseLift v), fun j other => ?_⟩
      have ch : v.ch j = s.ch j := by rw [State.ch, tcu]; rfl
      rw [← ch]
      cases bed : v.ss.bed with
      | none => rw [releaseLift_of_none bed]
      | some b => exact (releaseLift_bed bed).2 j other
    · exact ⟨.refl s, fun _ _ => rfl⟩

theorem cutStrobe_channels (i : ChannelId) (s : State) :
    ModesKept s (s.cutStrobe i) ∧ ∀ j, j ≠ 0 → (s.cutStrobe i).ch j = s.ch j := by
  unfold State.cutStrobe
  split
  · exact strobeEnded_channels _ s
  · exact ⟨.refl s, fun _ _ => rfl⟩

theorem feedCut_frame (budget : Nat) (s : State) : s.feedCut budget = { s with fu := (s.feedCut budget).fu } := by
  unfold State.feedCut
  split
  · rfl
  · split <;> rfl

theorem reportCut_channels (i : ChannelId) (s : State) :
    ModesKept s (s.reportCut i) ∧ ∀ j, j ≠ 0 → (s.reportCut i).ch j = s.ch j := by
  unfold State.reportCut
  split
  · dsimp only
    split
    · next feed =>
      subst feed
      rw [feedCut_frame]
      exact ⟨(ModesKept.of_tcu rfl).trans (cutStrobe_channels 6 _).1, (cutStrobe_channels 6 _).2⟩
    · exact cutStrobe_channels i s
  · exact ⟨.refl s, fun _ _ => rfl⟩

theorem reportsCut_iff (c : Channel) : c.reportsCut = true ↔ c.phase ≠ .idle ∧ c.mode ≠ .soft := by
  simp [Channel.reportsCut, Channel.running]

/-- A channel that strikes no drive and does not feed the wire has no owner to tell. -/
theorem reportCut_of_quiet {i : ChannelId} {s : State} (notFeed : i ≠ 6)
    (quiet : ∀ d, i = strikeChannel d → (s.drive d).strike = none ∨ (s.ch i).phase = .idle ∨ (s.ch i).mode = .soft) :
    s.reportCut i = s := by
  unfold State.reportCut
  split
  · next cut =>
    obtain ⟨running, shaped⟩ := (reportsCut_iff _).1 cut
    refine cutStrobe_of_none fun d strikes => (quiet d strikes).resolve_right ?_
    rintro (idle | soft)
    · exact running idle
    · exact shaped soft
  · rfl

theorem reportCut_of_strike {d : DriveId} {s : State} (running : (s.ch (strikeChannel d)).phase ≠ .idle)
    (shaped : (s.ch (strikeChannel d)).mode ≠ .soft) : s.reportCut (strikeChannel d) = s.strobeEnded d := by
  rw [State.reportCut, if_pos ((reportsCut_iff _).2 ⟨running, shaped⟩), cutStrobe_strikeChannel]
  have notFeed : strikeChannel d ≠ 6 := by
    intro h
    have value := congrArg Fin.val h
    simp only [strikeChannel] at value
    have low := d.isLt
    change d.val + 1 = 6 at value
    omega
  rw [if_neg notFeed]

end Sys2Proof.Machine

/-! The channel that Channel Set leaves, and what its owner makes of it (R74 to R76, R82, R96, R128, R146). -/

namespace Sys2Proof.Machine

open Sys2Proof Sys2Proof.Safety

set_option Elab.async false

/-! ## The request carried out -/

section

variable {s : State} {tag : Byte} {i : ChannelId} {m : ChannelMode} {x : Source} {n w b : Half} (served : Served s)
  (stands : s.lsv.lineState = .held ∨ s.lsv.lineState = .safeStop) (allowed : m = workingMode i ∨ m = .soft ∨ m = .off)
  (valid : m = .pitch → countOf w < countOf n)

theorem channelSet_of_allowed (stands : s.lsv.lineState = .held ∨ s.lsv.lineState = .safeStop)
    (allowed : m = workingMode i ∨ m = .soft ∨ m = .off) (valid : m = .pitch → countOf w < countOf n) :
    (admitted s).channelSet (natByte i.val) m.code x.code ⟨n, w, b⟩ = doneWith ((admitted s).setChannel i m x ⟨n, w, b⟩) :=
  (channelSet_of_read (readIndex_natByte (by decide) i) (readChannelMode_code m) (readSource_code x) _ _).trans
    (channelSetChecked_of_allowed (s := admitted s) stands i x ((modeAllowed_iff i m).2 allowed)
      fun pitch => (pitchValid_iff _).2 (valid pitch))

include served stands allowed valid

/-- The channel is set, beside the answer and notices. -/
theorem exec_channelSet : ∃ t, exec (.channelSet tag (natByte i.val) m.code x.code n w b) s = .next t
    ∧ AnsweredLast tag 0x06 .done [] s t ∧ t = { (admitted s).setChannel i m x ⟨n, w, b⟩ with lp := t.lp } :=
  take_noticed (f := ⟨0x06, tag, [natByte i.val, m.code, x.code] ++ halfBytes n ++ halfBytes w ++ halfBytes b⟩)
    (act := State.channelSet (natByte i.val) m.code x.code ⟨n, w, b⟩) (r := .done) served
    (channelSet_of_allowed stands allowed valid) (moves_setChannel i m x ⟨n, w, b⟩ _).noticed

/-- The channel is set, and nothing is told but the answer. -/
theorem exec_channelSet_quiet (v : State)
    (quiet : (admitted s).setChannel i m x ⟨n, w, b⟩ = { v with lp := (admitted s).lp }) :
    exec (.channelSet tag (natByte i.val) m.code x.code n w b) s = .next { v with lp := answered s.lp tag 0x06 .done [] } :=
  take_quiet (f := ⟨0x06, tag, [natByte i.val, m.code, x.code] ++ halfBytes n ++ halfBytes w ++ halfBytes b⟩)
    (act := State.channelSet (natByte i.val) m.code x.code ⟨n, w, b⟩) served v ⟨.done, []⟩
    ((channelSet_of_allowed stands allowed valid).trans (congrArg doneWith quiet))

end

/-! ## A channel left -/

/-- Channel `i` left as `c`, with START presented for it and the quarter timers fixed. -/
def State.leftAs (i : ChannelId) (c : Channel) (s : State) : State := (s.setCh i c).holdForChannels.fixTimers

/-- Channel `i` left as `c`, with START presented for it. -/
def State.channelHeld (i : ChannelId) (c : Channel) (s : State) : State := (s.setCh i c).setHolds (s.setCh i c).startHeld

section

variable {s : State} (stands : s.lsv.lineState = .held ∨ s.lsv.lineState = .safeStop) (i : ChannelId) (c : Channel)

include stands

theorem holdForChannels_channelHeld : (s.setCh i c).holdForChannels = s.channelHeld i c := holdForChannels_eq stands

theorem leftAs_eq : s.leftAs i c = (s.channelHeld i c).fixTimers :=
  congrArg State.fixTimers (holdForChannels_channelHeld stands i c)

theorem leftAs_link (l : LinkPort) :
    { s.leftAs i c with lp := l } = (State.channelHeld i c { s with lp := l }).fixTimers := by
  rw [leftAs_eq stands]
  rfl

end

theorem leftAs_channelLeft {s : State} (stands : s.lsv.lineState = .held ∨ s.lsv.lineState = .safeStop) (tag : Byte)
    (i : ChannelId) (c : Channel) : ChannelLeft tag i c s { s.leftAs i c with lp := answered s.lp tag 0x06 .done [] } := by
  rw [leftAs_eq stands]
  exact ⟨rfl, rfl, timersFixed_link (fixTimers_timersFixed rfl) _⟩

/-- A channel left once its owner has done its part on `v` and made it `c`. -/
theorem channelLeft_of_owner {s v : State} {tag : Byte} {i : ChannelId} {m : ChannelMode} {x : Source} {n w b : Half}
    {c : Channel} (served : Served s) (stands : s.lsv.lineState = .held ∨ s.lsv.lineState = .safeStop)
    (allowed : m = workingMode i ∨ m = .soft ∨ m = .off) (valid : m = .pitch → countOf w < countOf n)
    (line : v.lsv.lineState = s.lsv.lineState) (lp : v.lp = s.lp)
    (set : (admitted s).setChannel i m x ⟨n, w, b⟩ = (State.channelHeld i c { v with lp := (admitted s).lp }).fixTimers) :
    ∃ t, exec (.channelSet tag (natByte i.val) m.code x.code n w b) s = .next t ∧ ChannelLeft tag i c v t := by
  rw [← line] at stands
  refine ⟨_, exec_channelSet_quiet served (line ▸ stands) allowed valid _ (set.trans (leftAs_link stands i c _).symm), ?_⟩
  rw [← lp]
  exact leftAs_channelLeft stands tag i c

/-- Channel Set where no outstanding drive is DISABLED by it. -/
theorem setChannel_of_none {s v : State} {i : ChannelId} {m : ChannelMode} {x : Source} {k : Counts}
    (stands : v.lsv.lineState = .held ∨ v.lsv.lineState = .safeStop) (cut : s.reportCut i = v) (same : v.ch i = s.ch i)
    (none : NoneDisabled (v.setCh i (channelAsSet m x k (s.ch i)))) :
    s.setChannel i m x k = ((v.channelHeld i (channelAsSet m x k (s.ch i))).ownerAfterSet i).fixTimers := by
  have set : s.setChannel i m x k = ((((v.setCh i (channelAsSet m x k (s.ch i))).holdForChannels).cutDisabled).ownerAfterSet
      i).fixTimers := by
    rw [State.setChannel, cut, ← same]
    rfl
  rw [set, holdForChannels_channelHeld stands, cutDisabled_eq_self (s := v.channelHeld i _) none]

/-! ## The clamp (R75, R76) -/

theorem clampOpened_of_busy {s : State} (busy : ∀ l, s.ss.bed = some l → l.lift.state = some .onBed →
    l.outstanding ≠ 0 ∨ l.inFlight ≠ 0) : s.clampOpened = s := by
  unfold State.clampOpened
  split
  · rfl
  · next l bed =>
    refine if_neg fun done => ?_
    rw [Bool.and_eq_true, onBed_iff, Bed.finished, Bool.and_eq_true, decide_eq_true_iff, decide_eq_true_iff] at done
    obtain ⟨onBed, none, free⟩ := done
    exact (busy l bed onBed).elim (absurd none) (absurd free)

theorem clampOpened_of_done {s : State} {l : Bed} (bed : s.ss.bed = some l) (onBed : l.lift.state = some .onBed)
    (none : l.outstanding = 0) (free : l.inFlight = 0) : s.clampOpened = s.setBed (some l.release) := by
  have done : (l.onBed && l.finished) = true := by
    rw [Bool.and_eq_true, onBed_iff, Bed.finished, none, free]
    exact ⟨onBed, rfl⟩
  rw [State.clampOpened, bed]
  exact if_pos done

theorem testClamp_of_unneeded {s : State} (unneeded : ∀ l, s.ss.bed = some l → l.lift.state = some .onBed →
    l.outstanding = 0 ∨ l.lift.mode ≠ some .strike ∨ (s.ch 0).mode ≠ .hold ∨ s.lsv.lineState = .safeStop) :
    s.testClamp = s := by
  refine if_neg fun needed => ?_
  simp only [State.clampNeeded, Bool.and_eq_true, Option.any_eq_true, Bed.onBed, Bed.isStrike, decide_eq_true_iff] at needed
  obtain ⟨⟨⟨⟨l, bed, ⟨onBed, strike⟩, outstanding⟩, hold⟩, _⟩, running⟩ := needed
  rcases unneeded l bed onBed with h | h | h | h
  · exact outstanding h
  · exact h strike
  · exact h hold
  · exact running h

theorem clamp_clampClosedOn {m : ChannelMode} {x : Source} {k : Counts} {c : Channel} :
    (channelAsSet m x k c).clamp = clampClosedOn (channelAsSet m x k c) := rfl

theorem channelHeld_channel (s : State) (i : ChannelId) (c : Channel) : (s.channelHeld i c).ch i = c :=
  Bank.read_write_same _ _ _

/-- A channel set again after START is presented, in the mode it has. -/
theorem channelHeld_setCh (s : State) (i : ChannelId) {c e : Channel} (mode : e.mode = c.mode ∧ e.source = c.source) :
    (s.channelHeld i c).setCh i e = s.channelHeld i e := by
  have again : (s.setCh i c).setCh i e = s.setCh i e := by
    change { s with tcu := Bank.write (Bank.write s.tcu i c) i e } = _
    rw [Bank.write_write]
    rfl
  have set : (s.setCh i c).ch i = c := Bank.read_write_same _ _ _
  have modes : ModesKept (s.setCh i c) (s.setCh i e) := by
    rw [← again]
    exact modesKept_setCh (by rw [set]; exact mode.1) (by rw [set]; exact mode.2)
  have start := startHeld_congr modes rfl
  rw [State.channelHeld, State.channelHeld, start, ← again]
  rfl

/-! ## The wire feed (R146) -/

theorem feedCut_of_feed {s : State} {f : Finish} (finish : s.fu.finish = some f) (feed : f.step = .feed)
    (held : s.lsv.lineState = .held) (budget : Nat) : s.feedCut budget = s.setFinish (some { f with feedOwed := budget }) := by
  rw [State.feedCut, finish]
  exact if_pos ⟨feed, by rw [held]; decide⟩

theorem feedCut_of_other {s : State} (other : s.lsv.lineState = .safeStop ∨ ∀ f, s.fu.finish = some f → f.step ≠ .feed)
    (budget : Nat) : s.feedCut budget = s := by
  unfold State.feedCut
  split
  · rfl
  · next f finish =>
    exact if_neg fun h => other.elim h.2 fun no => no f finish h.1

theorem feedAfterSet_of_other {s : State} (other : s.lsv.lineState = .safeStop ∨ ∀ f, s.fu.finish = some f → f.step ≠ .feed) :
    s.feedAfterSet = s := by
  unfold State.feedAfterSet
  split
  · rfl
  · next f finish =>
    exact if_neg fun h => other.elim h.2 fun no => no f finish h.1

section

variable {s : State} {f : Finish} (finish : s.fu.finish = some f) (feed : f.step = .feed) (held : s.lsv.lineState = .held)

include finish feed held

theorem feedAfterSet_of_pitch (pitch : (s.ch 6).mode = .pitch) (idle : (s.ch 6).phase = .idle) :
    s.feedAfterSet = s.setCh 6 (feedStarted f.feedOwed (s.ch 6)) := by
  have running : s.lsv.lineState ≠ .safeStop := by rw [held]; decide
  rw [State.feedAfterSet, finish]
  exact (if_pos ⟨feed, running⟩).trans ((if_pos pitch).trans
    (startFeed_of_idle ((channelHears_iff 6 s).2 ⟨pitch, running⟩) idle))

theorem feedAfterSet_of_faultless (pitch : (s.ch 6).mode ≠ .pitch) (free : s.bookFaulted f.book = false) :
    s.feedAfterSet = s := by
  rw [State.feedAfterSet, finish]
  exact (if_pos ⟨feed, by rw [held]; decide⟩).trans ((if_neg pitch).trans (if_neg (by rw [free]; decide)))

theorem feedAfterSet_of_faulted (pitch : (s.ch 6).mode ≠ .pitch) (faulted : s.bookFaulted f.book = true) :
    s.feedAfterSet = s.startExit f := by
  rw [State.feedAfterSet, finish]
  exact (if_pos ⟨feed, by rw [held]; decide⟩).trans ((if_neg pitch).trans (if_pos faulted))

end

/-- The part with EXIT started for the finish book. -/
theorem startExit_eq {s : State} {f : Finish} {k : Book} (book : s.book f.book = some k) (stage : k.stage = .finishing) :
    s.startExit f = { s with
      fu := { s.fu with finish := some { f with step := .exit } }
      si := { s.si with books := Bank.write s.si.books f.book (some { k with stage := .leaving }) }
      lsv := s.lsv.mirror f.book (some { k with stage := .leaving })
      orders := Bank.write s.orders (stationIndex .exitTransfer) (some (orderMade .exitTransfer s)) } := by
  have leaves : (s.book f.book).map (Book.advance .finishing .leaving) = some { k with stage := .leaving } := by
    rw [book]
    exact congrArg some (if_pos stage)
  rw [← leaves]
  rfl

/-- Presenting holds and mirroring a book do not touch each other. -/
theorem mirror_with_holds (i : Slot) (b : Option Book) (l : LineSupervisor) (h : HoldSources) :
    LineSupervisor.mirror i b { l with holds := h } = { l.mirror i b with holds := h } := by
  unfold LineSupervisor.mirror
  dsimp only
  split <;> rfl

end Sys2Proof.Machine

/-! Channel Set, one owner after another (R74 to R76, R82, R84, R96, R114, R118, R128, R146, R160). -/

namespace Sys2Proof.Machine

open Sys2Proof Sys2Proof.Safety

set_option Elab.async false

/-! ## Sources that the owners leave -/

theorem sources_releaseLift (s : State) : SourcesKept s s.releaseLift := .of_holds (by rw [releaseLift_frame])

theorem sources_cutDisabled (s : State) : SourcesKept s s.cutDisabled := by
  unfold State.cutDisabled
  split
  · exact .refl s
  · split
    · next b _ _ =>
      have faults := sources_raiseFault b.lift.slot .driveDisabled (s.setBed (some b.passing))
      exact faults.trans (sources_releaseLift _)
    · exact .refl s

theorem sources_feedAfterSet (s : State) : SourcesKept s s.feedAfterSet := by
  unfold State.feedAfterSet State.startFeed
  split
  · exact .refl s
  · split
    · split
      · split
        · split
          · exact .refl s
          · exact .refl s
        · exact .refl s
      · split
        · exact sources_startExit _ s
        · exact .refl s
    · exact .refl s

theorem sources_ownerAfterSet (i : ChannelId) (s : State) : SourcesKept s (s.ownerAfterSet i) := by
  unfold State.ownerAfterSet
  split
  · refine .of_holds ?_
    rw [(testClamp_frame _).1, clampOpened_eq]
  · split
    · exact sources_feedAfterSet s
    · exact .refl s

/-! ## Whatever the owners do -/

section

variable {s : State} (stands : s.lsv.lineState = .held ∨ s.lsv.lineState = .safeStop) (i : ChannelId) (m : ChannelMode)
  (x : Source) (k : Counts)

theorem setChannel_eq : s.setChannel i m x k =
    ((((s.reportCut i).setCh i (channelAsSet m x k ((s.reportCut i).ch i))).holdForChannels.cutDisabled).ownerAfterSet
      i).fixTimers := rfl

include stands

/-- After the Cut is told and the channel is set, the owners leave every mode and source, and the channels that are
not theirs. -/
theorem setChannel_channels :
    let a := (s.reportCut i).setCh i (channelAsSet m x k ((s.reportCut i).ch i))
    ModesKept a (s.setChannel i m x k) ∧ (∀ j, j ≠ 0 → j ≠ i ∨ i ≠ 6 → (s.setChannel i m x k).ch j = a.ch j)
      ∧ (s.setChannel i m x k).lsv.holds.start = a.startHeld.start := by
  intro a
  have line : a.lsv.lineState = .held ∨ a.lsv.lineState = .safeStop := by
    change (s.reportCut i).lsv.lineState = _ ∨ (s.reportCut i).lsv.lineState = _
    rw [State.reportCut_lsv]
    exact stands
  have held := holdForChannels_eq line
  have tcu : a.holdForChannels.tcu = a.tcu := by rw [held]
  have start : a.holdForChannels.lsv.holds.start = a.startHeld.start := by rw [held]
  rw [setChannel_eq]
  change ModesKept a ((a.holdForChannels.cutDisabled).ownerAfterSet i).fixTimers ∧ _
  generalize a.holdForChannels = v at tcu start
  have owner := ownerAfterSet_channels i v.cutDisabled
  refine ⟨(ModesKept.of_tcu tcu).trans ((modesKept_cutDisabled v).trans owner.1), fun j notClamp other => ?_, ?_⟩
  · have ch : v.ch j = a.ch j := by rw [State.ch, tcu]; rfl
    refine Eq.trans ?_ ((cutDisabled_channels v j notClamp).trans ch)
    by_cases here : j = i
    · subst here
      have notFeed := other.resolve_left (by simp)
      rw [ownerAfterSet_of_other notClamp notFeed]
      rfl
    · exact owner.2 j here
  · exact (((sources_cutDisabled v).trans (sources_ownerAfterSet i _)).1).trans start

end

section

variable {s : State} {tag : Byte} {i : ChannelId} {m : ChannelMode} {x : Source} {n w b : Half} (served : Served s)
  (stands : s.lsv.lineState = .held ∨ s.lsv.lineState = .safeStop) (allowed : m = workingMode i ∨ m = .soft ∨ m = .off)
  (valid : m = .pitch → countOf w < countOf n)

include served stands allowed valid

theorem channelSet_always : ∃ t, exec (.channelSet tag (natByte i.val) m.code x.code n w b) s = .next t
    ∧ AnsweredLast tag 0x06 .done [] s t
    ∧ (i ≠ 0 → i ≠ 6 → t.ch i = channelAsSet m x ⟨n, w, b⟩ (s.ch i)) ∧ (∀ j, j ≠ i → j ≠ 0 → t.ch j = s.ch j)
    ∧ (t.ch i).mode = m ∧ (t.ch i).source = x
    ∧ ((∃ j, (t.ch j).mode ≠ workingMode j) → t.lsv.holds.start = true) := by
  obtain ⟨t, taken, answered, left⟩ := exec_channelSet (tag := tag) (x := x) (b := b) served stands allowed valid
  obtain ⟨modes, channels, start⟩ := setChannel_channels (s := admitted s) stands i m x ⟨n, w, b⟩
  have cut := reportCut_channels i (admitted s)
  generalize (admitted s).setChannel i m x ⟨n, w, b⟩ = u at left modes channels start
  generalize t.lp = lp at left
  subst left
  have set : ∀ c, (((admitted s).reportCut i).setCh i c).ch i = c := fun c => Bank.read_write_same _ _ _
  refine ⟨_, taken, answered, fun notClamp notFeed => ?_, fun j other notClamp => ?_, ?_, ?_, fun ⟨j, out⟩ => ?_⟩
  · refine (channels i notClamp (.inr notFeed)).trans ((set _).trans ?_)
    rw [cut.2 i notClamp]
    rfl
  · exact (channels j notClamp (.inl other)).trans ((Bank.read_write_ne _ _ other).trans (cut.2 j notClamp))
  · refine (modes i).1.trans ?_
    rw [set]
    rfl
  · refine (modes i).2.trans ?_
    rw [set]
    rfl
  · exact start.trans (startHeld_start ⟨j, fun works => out ((modes j).1.trans works)⟩)

/-! ## A channel with no owner to tell -/

theorem channelSet_of_quiet (none : NoneDisabled (s.setCh i (channelAsSet m x ⟨n, w, b⟩ (s.ch i)))) (notClamp : i ≠ 0)
    (notFeed : i ≠ 6)
    (quiet : ∀ d, i = strikeChannel d → (s.drive d).strike = .none ∨ (s.ch i).phase = .idle ∨ (s.ch i).mode = .soft) :
    ∃ t, exec (.channelSet tag (natByte i.val) m.code x.code n w b) s = .next t
      ∧ ChannelLeft tag i (channelAsSet m x ⟨n, w, b⟩ (s.ch i)) s t := by
  refine channelLeft_of_owner served stands allowed valid rfl rfl ?_
  rw [setChannel_of_none (s := admitted s) (v := admitted s) stands (reportCut_of_quiet (s := admitted s) notFeed quiet) rfl
    none, ownerAfterSet_of_other notClamp notFeed]
  rfl

end

/-! ## The clamp -/

section

variable {s : State} {tag : Byte} {m : ChannelMode} {x : Source} {n w b : Half} (served : Served s)
  (stands : s.lsv.lineState = .held ∨ s.lsv.lineState = .safeStop) (allowed : m = workingMode 0 ∨ m = .soft ∨ m = .off)
  (valid : m = .pitch → countOf w < countOf n)
  (none : NoneDisabled (s.setCh 0 (channelAsSet m x ⟨n, w, b⟩ (s.ch 0))))

theorem reportCut_clamp (s : State) : s.reportCut 0 = s :=
  reportCut_of_quiet (by decide) fun d strikes => absurd strikes.symm (strikeChannel_ne_clamp d)

include stands none

/-- The clamp set: it has opened, and is closed again where it is needed. -/
theorem setChannel_clamp : (admitted s).setChannel 0 m x ⟨n, w, b⟩ =
    (((admitted s).channelHeld 0 (channelAsSet m x ⟨n, w, b⟩ (s.ch 0))).clampOpened.testClamp).fixTimers :=
  setChannel_of_none (s := admitted s) (v := admitted s) stands (reportCut_clamp _) rfl none

include served allowed valid

theorem channelSet_releases {l : Bed} (bed : s.ss.bed = some l) (onBed : l.lift.state = some .onBed)
    (done : l.outstanding = 0) (free : l.inFlight = 0) :
    ∃ t, exec (.channelSet tag (natByte (0 : ChannelId).val) m.code x.code n w b) s = .next t
      ∧ ChannelLeft tag 0 (channelAsSet m x ⟨n, w, b⟩ (s.ch 0))
          { s with ss := { s.ss with
            bed := some { l with lift := { l.lift with state := some .released }, outRequest := true, ask := true } } } t := by
  have set := setChannel_clamp (x := x) (b := b) stands none
  generalize e : (admitted s).channelHeld 0 (channelAsSet m x ⟨n, w, b⟩ (s.ch 0)) = v at set
  have there : v.ss.bed = some l := by rw [← e]; exact bed
  refine channelLeft_of_owner (v := s.setBed (some l.release)) served stands allowed valid rfl rfl ?_
  rw [set, clampOpened_of_done there onBed done free, testClamp_of_unneeded, ← e]
  · rfl
  · rintro _ ⟨⟩ state
    cases state

theorem channelSet_clamps {l : Bed} (bed : s.ss.bed = some l) (onBed : l.lift.state = some .onBed)
    (outstanding : l.outstanding ≠ 0) (strike : l.lift.mode = some .strike) (hold : m = .hold)
    (running : s.lsv.lineState ≠ .safeStop) :
    ∃ t, exec (.channelSet tag (natByte (0 : ChannelId).val) m.code x.code n w b) s = .next t
      ∧ ChannelLeft tag 0 (clampClosedOn (channelAsSet m x ⟨n, w, b⟩ (s.ch 0))) s t := by
  refine channelLeft_of_owner served stands allowed valid rfl rfl ?_
  have set := setChannel_clamp (x := x) (b := b) stands none
  have clamp := channelHeld_channel (admitted s) 0 (channelAsSet m x ⟨n, w, b⟩ (s.ch 0))
  have again := channelHeld_setCh (admitted s) 0 (c := channelAsSet m x ⟨n, w, b⟩ (s.ch 0))
    (e := clampClosedOn (channelAsSet m x ⟨n, w, b⟩ (s.ch 0))) ⟨rfl, rfl⟩
  have line : ((admitted s).channelHeld 0 (channelAsSet m x ⟨n, w, b⟩ (s.ch 0))).lsv.lineState = s.lsv.lineState := rfl
  have there : ((admitted s).channelHeld 0 (channelAsSet m x ⟨n, w, b⟩ (s.ch 0))).ss.bed = some l := bed
  generalize (admitted s).channelHeld 0 (channelAsSet m x ⟨n, w, b⟩ (s.ch 0)) = v at set clamp again line there
  have closed : v.testClamp = v.setCh 0 (clampClosedOn (channelAsSet m x ⟨n, w, b⟩ (s.ch 0))) := by
    rw [testClamp_of_needed there onBed strike outstanding (by rw [clamp]; exact hold) (by rw [clamp]; rfl)
      (by rw [line]; exact running), clamp]
    rfl
  rw [set, clampOpened_of_busy, closed, again]
  · rfl
  · intro y other _
    obtain rfl := Option.some.inj (there.symm.trans other)
    exact .inl outstanding

theorem channelSet_idles (idles : ∀ l, s.ss.bed = some l → l.lift.state = some .onBed →
      (l.outstanding ≠ 0 ∨ l.inFlight ≠ 0)
        ∧ (l.outstanding = 0 ∨ l.lift.mode ≠ some .strike ∨ m ≠ .hold ∨ s.lsv.lineState = .safeStop)) :
    ∃ t, exec (.channelSet tag (natByte (0 : ChannelId).val) m.code x.code n w b) s = .next t
      ∧ ChannelLeft tag 0 (channelAsSet m x ⟨n, w, b⟩ (s.ch 0)) s t := by
  refine channelLeft_of_owner served stands allowed valid rfl rfl ?_
  have set := setChannel_clamp (x := x) (b := b) stands none
  have mode : (((admitted s).channelHeld 0 (channelAsSet m x ⟨n, w, b⟩ (s.ch 0))).ch 0).mode = m := by
    rw [channelHeld_channel]
    rfl
  have opened := clampOpened_of_busy (s := (admitted s).channelHeld 0 (channelAsSet m x ⟨n, w, b⟩ (s.ch 0)))
    fun l bed onBed => (idles l bed onBed).1
  rw [set, opened, testClamp_of_unneeded]
  · rfl
  · intro l bed onBed
    obtain ⟨_, unneeded⟩ := idles l bed onBed
    rw [mode]
    exact unneeded

end

end Sys2Proof.Machine

/-! Channel Set of the feed channel and of a strike channel (R74, R82, R128, R146). -/

namespace Sys2Proof.Machine

open Sys2Proof Sys2Proof.Safety

set_option Elab.async false

/-! ## The wire feed -/

/-- The finish record as a Cut of CH6 in the FEED step leaves it. -/
def State.feedOwedBy (f : Finish) (s : State) : Finish :=
  if (s.ch 6).phase ≠ .idle ∧ (s.ch 6).mode ≠ .soft then { f with feedOwed := (s.ch 6).budget } else f

theorem feedOwedBy_step {f : Finish} (feed : f.step = .feed) (s : State) :
    (s.feedOwedBy f).step = .feed ∧ (s.feedOwedBy f).book = f.book := by
  unfold State.feedOwedBy
  split <;> exact ⟨feed, rfl⟩

/-- CH6 left as `c` in the FEED step, before its owner looks at it. -/
def State.feedSet (f : Finish) (c : Channel) (s : State) : State :=
  (s.setFinish (some (s.feedOwedBy f))).channelHeld 6 c

theorem feedSet_channel (f : Finish) (c : Channel) (s : State) : (s.feedSet f c).ch 6 = c := channelHeld_channel _ _ _

theorem feedSet_setCh (f : Finish) {c e : Channel} (s : State) (mode : e.mode = c.mode ∧ e.source = c.source) :
    (s.feedSet f c).setCh 6 e = s.feedSet f e := channelHeld_setCh _ _ mode

theorem cutStrobe_feed (s : State) : s.cutStrobe 6 = s :=
  cutStrobe_of_none fun d strikes => by
    have value := congrArg Fin.val strikes
    have low := d.isLt
    change 6 = d.val + 1 at value
    omega

theorem setFinish_self {s : State} {f : Finish} (finish : s.fu.finish = some f) : s.setFinish (some f) = s := by
  rw [State.setFinish, ← finish]

theorem reportCut_feed {s : State} {f : Finish} (finish : s.fu.finish = some f) (feed : f.step = .feed)
    (held : s.lsv.lineState = .held) : s.reportCut 6 = s.setFinish (some (s.feedOwedBy f)) := by
  unfold State.reportCut State.feedOwedBy
  by_cases cut : (s.ch 6).phase ≠ .idle ∧ (s.ch 6).mode ≠ .soft
  · rw [if_pos ((reportsCut_iff _).2 cut), if_pos cut]
    dsimp only
    rw [if_pos rfl, feedCut_of_feed finish feed held, cutStrobe_feed]
  · rw [if_neg (by rwa [reportsCut_iff]), if_neg cut, setFinish_self finish]

theorem reportCut_of_noFeed {s : State}
    (other : s.lsv.lineState = .safeStop ∨ ∀ f, s.fu.finish = some f → f.step ≠ .feed) : s.reportCut 6 = s := by
  unfold State.reportCut
  split
  · dsimp only
    rw [if_pos rfl, feedCut_of_other other, cutStrobe_feed]
  · rfl

section

variable {s : State} {tag : Byte} {m : ChannelMode} {x : Source} {n w b : Half} (served : Served s)
  (stands : s.lsv.lineState = .held ∨ s.lsv.lineState = .safeStop) (allowed : m = workingMode 6 ∨ m = .soft ∨ m = .off)
  (valid : m = .pitch → countOf w < countOf n)
  (none : NoneDisabled (s.setCh 6 (channelAsSet m x ⟨n, w, b⟩ (s.ch 6))))

section

include served stands allowed valid none

theorem channelSet_feed_idle (other : s.lsv.lineState = .safeStop ∨ ∀ f, s.fu.finish = some f → f.step ≠ .feed) :
    ∃ t, exec (.channelSet tag (natByte (6 : ChannelId).val) m.code x.code n w b) s = .next t
      ∧ ChannelLeft tag 6 (channelAsSet m x ⟨n, w, b⟩ (s.ch 6)) s t := by
  refine channelLeft_of_owner served stands allowed valid rfl rfl ?_
  rw [setChannel_of_none (s := admitted s) (v := admitted s) stands (reportCut_of_noFeed (s := admitted s) other) rfl none]
  exact congrArg State.fixTimers
    (feedAfterSet_of_other (s := (admitted s).channelHeld 6 (channelAsSet m x ⟨n, w, b⟩ (s.ch 6))) other)

end

variable {f : Finish} (finish : s.fu.finish = some f) (feed : f.step = .feed) (held : s.lsv.lineState = .held)

include stands none finish feed held

/-- CH6 set in the FEED step, before its owner looks at it. -/
theorem setChannel_feed : (admitted s).setChannel 6 m x ⟨n, w, b⟩ =
    (((admitted s).feedSet f (channelAsSet m x ⟨n, w, b⟩ (s.ch 6))).feedAfterSet).fixTimers :=
  setChannel_of_none (s := admitted s) (v := (admitted s).setFinish (some (s.feedOwedBy f))) stands
    (reportCut_feed (s := admitted s) finish feed held) rfl none

include served allowed valid

theorem channelSet_feed_pitch (pitch : m = .pitch) :
    ∃ t, exec (.channelSet tag (natByte (6 : ChannelId).val) m.code x.code n w b) s = .next t
      ∧ ChannelLeft tag 6 (feedStarted (s.feedOwedBy f).feedOwed (channelAsSet m x ⟨n, w, b⟩ (s.ch 6)))
          { s with fu := { s.fu with finish := some (s.feedOwedBy f) } } t := by
  refine channelLeft_of_owner (v := s.setFinish (some (s.feedOwedBy f))) served stands allowed valid rfl rfl ?_
  obtain ⟨step, -⟩ := feedOwedBy_step feed s
  have ch := feedSet_channel f (channelAsSet m x ⟨n, w, b⟩ (s.ch 6)) (admitted s)
  rw [setChannel_feed stands none finish feed held,
    feedAfterSet_of_pitch (s := (admitted s).feedSet f (channelAsSet m x ⟨n, w, b⟩ (s.ch 6))) (f := s.feedOwedBy f) rfl step held (by rw [ch]; exact pitch)
      (by rw [ch]; rfl), ch, feedSet_setCh f _ (feedStarted_mode _ _)]
  rfl

theorem channelSet_feed_faultless (pitch : m ≠ .pitch) (free : s.bookFaulted f.book = false) :
    ∃ t, exec (.channelSet tag (natByte (6 : ChannelId).val) m.code x.code n w b) s = .next t
      ∧ ChannelLeft tag 6 (channelAsSet m x ⟨n, w, b⟩ (s.ch 6))
          { s with fu := { s.fu with finish := some (s.feedOwedBy f) } } t := by
  refine channelLeft_of_owner (v := s.setFinish (some (s.feedOwedBy f))) served stands allowed valid rfl rfl ?_
  obtain ⟨step, book⟩ := feedOwedBy_step feed s
  have ch := feedSet_channel f (channelAsSet m x ⟨n, w, b⟩ (s.ch 6)) (admitted s)
  rw [setChannel_feed stands none finish feed held,
    feedAfterSet_of_faultless (s := (admitted s).feedSet f (channelAsSet m x ⟨n, w, b⟩ (s.ch 6))) (f := s.feedOwedBy f) rfl step held (by rw [ch]; exact pitch)
      (by rw [book]; exact free)]
  rfl

theorem channelSet_feed_faulted (pitch : m ≠ .pitch) (faulted : s.bookFaulted f.book = true) {k : Book}
    (book : s.book f.book = some k) (stage : k.stage = .finishing) :
    ∃ t, exec (.channelSet tag (natByte (6 : ChannelId).val) m.code x.code n w b) s = .next t
      ∧ ChannelLeft tag 6 (channelAsSet m x ⟨n, w, b⟩ (s.ch 6))
          { s with
            fu := { s.fu with finish := some { s.feedOwedBy f with step := .exit } }
            si := { s.si with books := Bank.write s.si.books f.book (some { k with stage := .leaving }) }
            lsv := s.lsv.mirror f.book (some { k with stage := .leaving })
            orders := Bank.write s.orders (stationIndex .exitTransfer) (some (orderMade .exitTransfer s)) } t := by
  obtain ⟨step, same⟩ := feedOwedBy_step feed s
  have ch := feedSet_channel f (channelAsSet m x ⟨n, w, b⟩ (s.ch 6)) (admitted s)
  rw [← same] at book faulted ⊢
  refine channelLeft_of_owner served stands allowed valid (mirror_lineState _ _ _) rfl ?_
  rw [setChannel_feed stands none finish feed held,
    feedAfterSet_of_faulted (s := (admitted s).feedSet f (channelAsSet m x ⟨n, w, b⟩ (s.ch 6))) (f := s.feedOwedBy f) rfl step held (by rw [ch]; exact pitch)
      faulted,
    startExit_eq (s := (admitted s).feedSet f (channelAsSet m x ⟨n, w, b⟩ (s.ch 6))) (f := s.feedOwedBy f) book stage]
  refine congrArg State.fixTimers ?_
  change State.mk .. = State.mk ..
  rw [State.mk.injEq]
  refine ⟨rfl, rfl, rfl, rfl, rfl, rfl, rfl, rfl, rfl, rfl, rfl, rfl, rfl, rfl, rfl, rfl, rfl, ?_⟩
  refine (mirror_with_holds _ _ s.lsv _).trans (congrArg (fun h => ({ s.lsv.mirror (s.feedOwedBy f).book _ with holds := h } : LineSupervisor)) ?_)
  refine (startHeld_congr ?_ ?_).symm
  · exact .of_tcu rfl
  · change (s.lsv.mirror _ _).holds = _
    rw [mirror_keeps]
    rfl

end

end Sys2Proof.Machine

/-! Channel Set of a strike channel whose drive strikes or is still to strike (R74, R76, R82, R96). -/

namespace Sys2Proof.Machine

open Sys2Proof Sys2Proof.Safety

set_option Elab.async false

/-! ## A strike cut off -/

/-- The state of a drive follows its record, its account, its entry and the mode of its channel. -/
theorem driveState_congr {s t : State} {d : DriveId} (drive : t.drive d = s.drive d) (pc : t.pc = s.pc) (ts : t.ts = s.ts)
    (mode : (t.ch (strikeChannel d)).mode = (s.ch (strikeChannel d)).mode) : t.driveState d = s.driveState d := by
  have account : t.account d = s.account d := by rw [State.account, pc]; rfl
  rw [driveState_eq, driveState_eq, drive, account, ts, mode]

theorem not_disabled_of_strike {s : State} {d : DriveId} (strike : (s.drive d).strike ≠ none) : s.driveState d ≠ .disabled := by
  rw [driveState_eq, if_pos strike]
  split <;> decide

theorem strike_of_disabled {s : State} {d : DriveId} (off : s.driveState d = .disabled) : (s.drive d).strike = none :=
  Classical.not_not.1 fun strike => not_disabled_of_strike strike off

theorem drive_setDrive_same (d : DriveId) (r : DriveRecord) (s : State) : (s.setDrive d r).drive d = r :=
  Bank.read_write_same _ _ _

theorem drive_setDrive_ne {d e : DriveId} (other : e ≠ d) (r : DriveRecord) (s : State) :
    (s.setDrive d r).drive e = s.drive e := Bank.read_write_ne _ _ other

theorem setChannel_strike {s v : State} {d : DriveId} {m : ChannelMode} {x : Source} {k : Counts}
    (stands : v.lsv.lineState = .held ∨ v.lsv.lineState = .safeStop) (cut : s.reportCut (strikeChannel d) = v)
    (same : v.ch (strikeChannel d) = s.ch (strikeChannel d))
    (none : NoneDisabled (v.setCh (strikeChannel d) (channelAsSet m x k (s.ch (strikeChannel d))))) :
    s.setChannel (strikeChannel d) m x k =
      (v.channelHeld (strikeChannel d) (channelAsSet m x k (s.ch (strikeChannel d)))).fixTimers := by
  rw [setChannel_of_none stands cut same none, ownerAfterSet_of_other (strikeChannel_ne_clamp d)]
  intro feed
  have value := congrArg Fin.val feed
  have low := d.isLt
  change d.val + 1 = 6 at value
  omega

theorem testRest_of_standing {s : State} (stands : s.lsv.lineState = .held ∨ s.lsv.lineState = .safeStop) : s.testRest = s := by
  refine if_neg fun rests => ?_
  have pending := rests.1
  rcases stands with h | h <;> rw [h] at pending <;> cases pending

theorem only_apart : ∀ {d e : DriveId}, e ≠ d → (1#5 <<< d.val).getLsbD e.val = false := by decide

theorem only_same : ∀ d : DriveId, (1#5 <<< d.val).getLsbD d.val = true := by decide

/-- No drive that is still to strike when `d` has struck was not so before. -/
theorem outstanding_complete {d e : DriveId} {l y : Bed} (done : y = { l with
      inFlight := l.inFlight &&& ~~~(1#5 <<< d.val), done := l.done ||| (1#5 <<< d.val)
      lift := y.lift, outRequest := y.outRequest, ask := y.ask }) (outstanding : DriveSet.has e y.outstanding = true) :
    e ≠ d ∧ DriveSet.has e l.outstanding = true := by
  rw [has_outstanding_iff] at outstanding ⊢
  rw [done] at outstanding
  revert outstanding
  simp only [DriveSet.has, BitVec.getLsbD_or, BitVec.getLsbD_and, BitVec.getLsbD_not]
  have apart := only_apart (d := d) (e := e)
  have same := only_same d
  rintro ⟨planned, done, inFlight⟩
  rw [Bool.or_eq_false_iff] at done
  have other : e ≠ d := by
    rintro rfl
    exact absurd (same.symm.trans done.2) (by decide)
  rw [apart other] at inFlight
  refine ⟨other, planned, done.1, ?_⟩
  simpa using inFlight

section

variable {s : State} {tag : Byte} {d : DriveId} {m : ChannelMode} {x : Source} {n w b : Half} (served : Served s)
  (stands : s.lsv.lineState = .held ∨ s.lsv.lineState = .safeStop)
  (allowed : m = workingMode (strikeChannel d) ∨ m = .soft ∨ m = .off) (valid : m = .pitch → countOf w < countOf n)
  (none : NoneDisabled (s.setCh (strikeChannel d) (channelAsSet m x ⟨n, w, b⟩ (s.ch (strikeChannel d)))))
  {k : Strike} (strike : (s.drive d).strike = some k) (running : (s.ch (strikeChannel d)).phase ≠ .idle)
  (shaped : (s.ch (strikeChannel d)).mode ≠ .soft)

include served stands allowed valid none strike running shaped

theorem channelSet_cuts (undone : k.strokeDone = false) (real : k.simulated = false) :
    ∃ t, exec (.channelSet tag (natByte (strikeChannel d).val) m.code x.code n w b) s = .next t
      ∧ ChannelLeft tag (strikeChannel d) (channelAsSet m x ⟨n, w, b⟩ (s.ch (strikeChannel d)))
          { s with ss := { s.ss with
            drives := Bank.write s.ss.drives d { s.drive d with strike := some { k with strobeEnded := true } } } } t := by
  have cut : (admitted s).reportCut (strikeChannel d) =
      (admitted s).setDrive d { s.drive d with strike := some { k with strobeEnded := true } } := by
    rw [reportCut_of_strike (s := admitted s) running shaped, State.strobeEnded,
      show ((admitted s).drive d).strike = some k from strike]
    exact if_neg (by rw [undone, real]; decide)
  refine channelLeft_of_owner (v := s.setDrive d { s.drive d with strike := some { k with strobeEnded := true } }) served
    stands allowed valid rfl rfl ?_
  have still : NoneDisabled (((admitted s).setDrive d { s.drive d with strike := some { k with strobeEnded := true } }).setCh
      (strikeChannel d) (channelAsSet m x ⟨n, w, b⟩ (s.ch (strikeChannel d)))) := fun l bed onBed e outstanding off => by
    by_cases here : e = d
    · subst here
      refine not_disabled_of_strike ?_ off
      change ((State.setDrive e _ (admitted s)).drive e).strike ≠ _
      rw [drive_setDrive_same]
      exact fun h => by cases h
    · refine none l bed onBed e outstanding (Eq.trans ?_ off)
      refine driveState_congr ?_ rfl rfl rfl
      exact (drive_setDrive_ne (s := admitted s) here _).symm
  rw [setChannel_strike (s := admitted s)
    (v := (admitted s).setDrive d { s.drive d with strike := some { k with strobeEnded := true } }) stands cut rfl still]
  rfl

end

end Sys2Proof.Machine

/-! Channel Set: the strike it completes, the lift it makes a PASS lift, and the whole (O22). -/

namespace Sys2Proof.Machine

open Sys2Proof Sys2Proof.Safety

set_option Elab.async false

/-! ## A strike completed by a Cut -/

/-- A strike completed, its channel then left as `c` and START presented. -/
theorem strikeTaken_left {s v t : State} {d : DriveId} {l : Bed} {c e : Channel} (taken : StrikeTaken d l e (admitted s) v)
    (line : v.lsv.lineState = s.lsv.lineState)
    (after : t = { (v.channelHeld (strikeChannel d) c).fixTimers with lp := t.lp }) : StrikeTaken d l c s t := by
  obtain ⟨frame, ⟨y, bed, shape, works, gated, opened⟩, -, others, run, echo, ⟨lsv, noted⟩⟩ := taken
  have clamp : t.ch 0 = v.ch 0 := by
    rw [after]
    exact Bank.read_write_ne _ _ (strikeChannel_ne_clamp d).symm
  have ss : t.ss = v.ss := (congrArg State.ss after :)
  have lm : t.lm = v.lm := (congrArg State.lm after :)
  have supervisor : t.lsv = { v.lsv with holds := t.lsv.holds } := by
    rw [after]
    rfl
  refine ⟨?_, ⟨y, by rw [ss]; exact bed, shape, fun h => ?_, fun h onBed gate => ?_, fun h onBed gate => ?_⟩, ?_,
    fun j notClamp other => ?_, fun h => ?_, fun h => ?_, ?_, ?_, fun moved => ?_⟩
  · generalize v.lp = lp, v.lm = lm', v.lsv = lsv', v.tcu = tcu, v.pc = pc, v.ss.bed = bed' at frame
    subst frame
    have pc : t.pc = t.pc := rfl
    generalize t.lp = lp' at after
    rw [after]
    rfl
  · obtain ⟨lift, kept⟩ := works h
    exact ⟨lift, clamp.trans kept⟩
  · obtain ⟨lift, kept⟩ := gated h onBed gate
    exact ⟨lift, clamp.trans kept⟩
  · obtain ⟨lift, request, kept⟩ := opened h onBed gate
    exact ⟨lift, request, clamp.trans kept⟩
  · rw [after]
    exact Bank.read_write_same _ _ _
  · refine Eq.trans ?_ (others j notClamp other)
    rw [after]
    exact Bank.read_write_ne _ _ other
  · have counts := run h
    unfold Monitored at counts ⊢
    rw [lm]
    exact counts
  · have counts := echo h
    unfold Monitored at counts ⊢
    rw [lm]
    exact counts
  · rw [lsv] at supervisor
    generalize t.lsv.holds = holds at supervisor
    rw [supervisor]
    rfl
  · intro moved
    rw [supervisor]
    exact noted.1 moved
  · rw [supervisor] at moved
    exact absurd line moved

section

variable {s : State} {tag : Byte} {d : DriveId} {m : ChannelMode} {x : Source} {n w b : Half} (served : Served s)
  (stands : s.lsv.lineState = .held ∨ s.lsv.lineState = .safeStop)
  (allowed : m = workingMode (strikeChannel d) ∨ m = .soft ∨ m = .off) (valid : m = .pitch → countOf w < countOf n)

include served stands allowed valid

theorem channelSet_takes (none : NoneDisabled (s.setCh (strikeChannel d) (channelAsSet m x ⟨n, w, b⟩ (s.ch (strikeChannel d)))))
    {k : Strike} (strike : (s.drive d).strike = some k) (running : (s.ch (strikeChannel d)).phase ≠ .idle)
    (shaped : (s.ch (strikeChannel d)).mode ≠ .soft) (done : k.strokeDone = true ∨ k.simulated = true) {l : Bed}
    (bed : s.ss.bed = some l) :
    ∃ t, exec (.channelSet tag (natByte (strikeChannel d).val) m.code x.code n w b) s = .next t
      ∧ StrikeTaken d l (channelAsSet m x ⟨n, w, b⟩ (s.ch (strikeChannel d))) s t ∧ AnsweredLast tag 0x06 .done [] s t
      ∧ t.lsv.lineState = s.lsv.lineState ∧ TimersFixed { s with tcu := t.tcu, ss := t.ss } t := by
  obtain ⟨t, taken, answered, left⟩ := exec_channelSet (tag := tag) (x := x) (b := b) served stands allowed valid
  have cut : (admitted s).reportCut (strikeChannel d) = (admitted s).completeStrike d := by
    rw [reportCut_of_strike (s := admitted s) running shaped, State.strobeEnded,
      show ((admitted s).drive d).strike = some k from strike]
    exact if_pos (by rcases done with h | h <;> rw [h] <;> simp)
  have lsv := State.completeStrike_lsv (admitted s) d
  have ts := State.completeStrike_ts (admitted s) d
  have strikes := strikeDone_of (admitted s) d ((admitted s).ch (strikeChannel d)) bed
  rw [setCh_self, testRest_of_standing (by rw [lsv]; exact stands)] at strikes
  obtain ⟨strikes, pc, -⟩ := strikes
  generalize (admitted s).completeStrike d = v at cut lsv ts strikes pc
  have line : v.lsv.lineState = s.lsv.lineState := by rw [lsv]; rfl
  have whole := strikes
  obtain ⟨frame, ⟨y, there, shape, works, -⟩, same, others, -⟩ := whole
  have drives : v.ss.drives = Bank.write s.ss.drives d { s.drive d with strike := .none } := by rw [frame]; rfl
  have still : NoneDisabled (v.setCh (strikeChannel d) (channelAsSet m x ⟨n, w, b⟩ (s.ch (strikeChannel d)))) := by
    intro z bedAfter onBed e outstanding off
    obtain rfl := Option.some.inj (there.symm.trans bedAfter)
    obtain ⟨other, before⟩ := outstanding_complete shape outstanding
    have busy : y.finished = false := by
      rw [Bed.finished, Bool.and_eq_false_iff]
      refine .inl (decide_eq_false fun nothing => ?_)
      rw [nothing] at outstanding
      simp [DriveSet.has] at outstanding
    rw [(works busy).1] at onBed
    refine none l bed onBed e before (Eq.trans (Eq.symm ?_) off)
    refine driveState_congr ?_ pc ts ?_
    · change Bank.read v.ss.drives e = _
      rw [drives]
      exact Bank.read_write_ne _ _ other
    · have apart : strikeChannel e ≠ strikeChannel d := fun h => other (Fin.ext (by
        have value := congrArg Fin.val h
        simpa [strikeChannel] using value))
      change (Bank.read (Bank.write v.tcu _ _) _).mode = (Bank.read (Bank.write s.tcu _ _) _).mode
      rw [Bank.read_write_ne _ _ apart, Bank.read_write_ne _ _ apart]
      exact congrArg Channel.mode (others _ (strikeChannel_ne_clamp e) apart)
  have stands' : v.lsv.lineState = .held ∨ v.lsv.lineState = .safeStop := by rw [line]; exact stands
  rw [setChannel_strike (s := admitted s) stands' cut same still] at left
  change t = { (v.channelHeld (strikeChannel d) (channelAsSet m x ⟨n, w, b⟩ (s.ch (strikeChannel d)))).fixTimers with
    lp := t.lp } at left
  refine ⟨t, taken, strikeTaken_left strikes line left, answered, ?_, ?_⟩
  · rw [left]
    exact line
  · have fixed : TimersFixed s (v.channelHeld (strikeChannel d)
        (channelAsSet m x ⟨n, w, b⟩ (s.ch (strikeChannel d)))).fixTimers := fixTimers_timersFixed pc
    generalize (v.channelHeld (strikeChannel d) (channelAsSet m x ⟨n, w, b⟩ (s.ch (strikeChannel d)))).fixTimers = u
      at left fixed
    have here : TimersFixed s t := by
      rw [left]
      exact timersFixed_link fixed _
    exact here

end

/-! ## A drive disabled -/

/-- A fault of a book that is not the finish book changes that book and its place in the record alone. -/
theorem raiseFault_frame_of_apart {i : Slot} {s : State} (c : FaultCause) (apart : NotFinishing i s) :
    s.raiseFault i c = { s.reviseBook i (faulted c) with lsv := (s.raiseFault i c).lsv }
      ∧ (s.raiseFault i c).lsv =
          { s.lsv with record := { s.lsv.record with slots := (s.raiseFault i c).lsv.record.slots } } := by
  cases free : s.faultFree i with
  | false =>
    rw [reviseBook_faulted free, raiseFault_of_faulted free]
    exact ⟨rfl, rfl⟩
  | true =>
    rw [raiseFault_of_free free, tellFinish_of_notFinishing (s := s.modifyBook i (faulted c)) apart]
    exact ⟨rfl, mirror_keeps _ _ _⟩

/-- The lift made a PASS lift, whose book is not the finish book. -/
theorem cutDisabled_frame_of_apart {s : State} {l : Bed} (bed : s.ss.bed = some l) (onBed : l.lift.state = some .onBed)
    {d : DriveId} (outstanding : DriveSet.has d l.outstanding = true) (off : s.driveState d = .disabled)
    (apart : NotFinishing l.lift.slot s) :
    s.cutDisabled = { s.reviseBook l.lift.slot (faulted .driveDisabled) with
        lsv := s.cutDisabled.lsv, tcu := s.cutDisabled.tcu, ss := { s.ss with bed := s.cutDisabled.ss.bed } }
      ∧ s.cutDisabled.lsv =
          { s.lsv with record := { s.lsv.record with slots := s.cutDisabled.lsv.record.slots } } := by
  rw [cutDisabled_of_disabled bed onBed outstanding off]
  obtain ⟨frame, lsv⟩ := raiseFault_frame_of_apart (s := s.setBed (some l.passing)) .driveDisabled apart
  change (State.releaseLift ((s.setBed (some l.passing)).raiseFault l.lift.slot .driveDisabled)) = _ ∧
    (State.releaseLift ((s.setBed (some l.passing)).raiseFault l.lift.slot .driveDisabled)).lsv = _
  generalize (s.setBed (some l.passing)).raiseFault l.lift.slot .driveDisabled = u at frame lsv
  have released := releaseLift_frame u
  generalize u.releaseLift = t at released
  generalize t.tcu = tcu, t.ss.bed = bed' at released
  subst released
  refine ⟨?_, lsv⟩
  generalize u.lsv = lsv' at frame
  subst frame
  rfl

end Sys2Proof.Machine

/-! Channel Set: the lift it makes a PASS lift, and the whole (O22). -/

namespace Sys2Proof.Machine

open Sys2Proof Sys2Proof.Safety

set_option Elab.async false

theorem strikeChannel_ne_feed (d : DriveId) : strikeChannel d ≠ 6 := fun feed => by
  have value := congrArg Fin.val feed
  have low := d.isLt
  change d.val + 1 = 6 at value
  omega

section

variable {s : State} {tag : Byte} {d : DriveId} {m : ChannelMode} {x : Source} {n w b : Half} (served : Served s)
  (stands : s.lsv.lineState = .held ∨ s.lsv.lineState = .safeStop)
  (allowed : m = workingMode (strikeChannel d) ∨ m = .soft ∨ m = .off) (valid : m = .pitch → countOf w < countOf n)

include served stands allowed valid

theorem channelSet_disables (out : m ≠ .strobe) {l : Bed} (bed : s.ss.bed = some l) (onBed : l.lift.state = some .onBed)
    (outstanding : DriveSet.has d l.outstanding = true)
    (off : (s.setCh (strikeChannel d) (channelAsSet m x ⟨n, w, b⟩ (s.ch (strikeChannel d)))).driveState d = .disabled)
    (apart : BedApart s) :
    ∃ t, exec (.channelSet tag (natByte (strikeChannel d).val) m.code x.code n w b) s = .next t
      ∧ CutToPass l s t ∧ t.ch (strikeChannel d) = channelAsSet m x ⟨n, w, b⟩ (s.ch (strikeChannel d))
      ∧ (∀ j, j ≠ strikeChannel d → j ≠ 0 → t.ch j = s.ch j)
      ∧ OnlyBook l.lift.slot s t
      ∧ t.book l.lift.slot = (s.book l.lift.slot).map (faulted .driveDisabled)
      ∧ t = { s with
          lp := answered s.lp tag 0x06 .done [], lsv := t.lsv, si := t.si, pc := t.pc
          tcu := t.tcu, ss := { s.ss with bed := t.ss.bed } }
      ∧ t.lsv.holds = { s.lsv.holds with start := true }
      ∧ t.lsv.lineState = s.lsv.lineState ∧ LineFollowed s t
      ∧ TimersFixed { s with tcu := t.tcu, ss := t.ss } t := by
  have idle : (s.drive d).strike = none :=
    strike_of_disabled (s := s.setCh (strikeChannel d) _) off
  have cut : (admitted s).reportCut (strikeChannel d) = admitted s :=
    reportCut_of_quiet (strikeChannel_ne_feed d) fun e same => .inl (by
      obtain rfl : d = e := Fin.ext (by simpa [strikeChannel] using congrArg Fin.val same)
      exact idle)
  have set : (admitted s).setChannel (strikeChannel d) m x ⟨n, w, b⟩ = (((admitted s).channelHeld (strikeChannel d)
      (channelAsSet m x ⟨n, w, b⟩ (s.ch (strikeChannel d)))).cutDisabled).fixTimers := by
    rw [setChannel_eq, cut, ownerAfterSet_of_other (strikeChannel_ne_clamp d) (strikeChannel_ne_feed d),
      holdForChannels_channelHeld (s := admitted s) stands]
    rfl
  obtain ⟨lift, -⟩ := cutDisabled_liftCut (s := (admitted s).channelHeld (strikeChannel d)
    (channelAsSet m x ⟨n, w, b⟩ (s.ch (strikeChannel d)))) bed onBed ⟨d, outstanding, off⟩
  obtain ⟨frame, lsv⟩ := cutDisabled_frame_of_apart (s := (admitted s).channelHeld (strikeChannel d)
    (channelAsSet m x ⟨n, w, b⟩ (s.ch (strikeChannel d)))) bed onBed outstanding off (fun f finish => (apart l f bed finish).symm)
  have held : ((admitted s).channelHeld (strikeChannel d) (channelAsSet m x ⟨n, w, b⟩ (s.ch (strikeChannel d)))).lsv =
      { s.lsv with holds := { s.lsv.holds with start := true } } := by
    have starts : ∃ j, (((admitted s).setCh (strikeChannel d)
        (channelAsSet m x ⟨n, w, b⟩ (s.ch (strikeChannel d)))).ch j).mode ≠ workingMode j := by
      refine ⟨strikeChannel d, ?_⟩
      rw [show ((admitted s).setCh (strikeChannel d) _).ch (strikeChannel d) = _ from Bank.read_write_same _ _ _,
        workingMode_strikeChannel]
      exact out
    have presented : ((admitted s).setCh (strikeChannel d)
        (channelAsSet m x ⟨n, w, b⟩ (s.ch (strikeChannel d)))).startHeld = { s.lsv.holds with start := true } := by
      rw [State.startHeld, if_pos starts]
      rfl
    rw [← presented]
    rfl
  have same := channelHeld_channel (admitted s) (strikeChannel d) (channelAsSet m x ⟨n, w, b⟩ (s.ch (strikeChannel d)))
  have others : ∀ j, j ≠ strikeChannel d → ((admitted s).channelHeld (strikeChannel d)
      (channelAsSet m x ⟨n, w, b⟩ (s.ch (strikeChannel d)))).ch j = s.ch j := fun j other => Bank.read_write_ne _ _ other
  have whole : (admitted s).channelHeld (strikeChannel d) (channelAsSet m x ⟨n, w, b⟩ (s.ch (strikeChannel d))) =
      { admitted s with
        tcu := Bank.write s.tcu (strikeChannel d) (channelAsSet m x ⟨n, w, b⟩ (s.ch (strikeChannel d)))
        lsv := { s.lsv with holds := { s.lsv.holds with start := true } } } := by
    rw [← held]
    rfl
  have pc : ((admitted s).channelHeld (strikeChannel d) (channelAsSet m x ⟨n, w, b⟩ (s.ch (strikeChannel d)))).cutDisabled.pc =
      s.pc := (congrArg State.pc frame :)
  generalize ((admitted s).channelHeld (strikeChannel d)
    (channelAsSet m x ⟨n, w, b⟩ (s.ch (strikeChannel d)))).cutDisabled = y at set lift frame lsv pc
  have lp : y.lp = (admitted s).lp := (congrArg State.lp frame :)
  have taken := exec_channelSet_quiet (tag := tag) (x := x) (b := b) served stands allowed valid y.fixTimers
    (set.trans (by rw [← lp]; rfl))
  have fixed : TimersFixed s y.fixTimers := fixTimers_timersFixed pc
  have book : y.book l.lift.slot = (s.book l.lift.slot).map (faulted .driveDisabled) := by
    rw [frame]
    exact book_reviseBook_same _ _ _
  rw [held] at lsv
  have pass : CutToPass l s y := CutToPass.of_same lift.pass
    ((others 0 (strikeChannel_ne_clamp d).symm)) rfl
  refine ⟨_, taken, CutToPass.left pass rfl rfl rfl, ?_, fun j other notClamp => ?_, ?_, book, ?_, ?_, ?_, ?_, ?_⟩
  · exact (lift.channels _ (strikeChannel_ne_clamp d)).trans same
  · exact (lift.channels j notClamp).trans (others j other)
  · refine ⟨?_, fun j other => ?_⟩
    · change y.si = { s.si with books := y.si.books }
      rw [frame]
      rfl
    · exact (lift.books j other).trans rfl
  · rw [whole] at frame
    generalize y.lsv = lsv', y.tcu = tcu, y.ss.bed = bed' at frame
    subst frame
    rfl
  · change y.lsv.holds = _
    rw [lsv]
  · change y.lsv.lineState = _
    rw [lsv]
  · refine ⟨?_, ?_, ?_⟩
    · change y.lsv = { s.lsv with
        lineState := y.lsv.lineState, holds := y.lsv.holds, moved := y.lsv.moved
        record := { s.lsv.record with slots := y.lsv.record.slots } }
      generalize y.lsv.record.slots = slots at lsv
      rw [lsv]
    · change s.lsv.moved = true → y.lsv.moved = true
      rw [lsv]
      exact id
    · change y.lsv.lineState ≠ s.lsv.lineState → y.lsv.moved = true
      rw [lsv]
      exact fun moved => absurd rfl moved
  · generalize y.fixTimers = z at fixed
    exact timersFixed_link fixed _

end

/-- A refusal of Channel Set. -/
theorem channelSet_refused {s : State} {tag channel mode source : Byte} {n w b : Half} {r : Result} (served : Served s)
    (refused : (admitted s).channelSet channel mode source ⟨n, w, b⟩ = refuse r (admitted s)) :
    exec (.channelSet tag channel mode source n w b) s = .next { s with lp := answered s.lp tag 0x06 r [] } :=
  take_refused (f := ⟨0x06, tag, [channel, mode, source] ++ halfBytes n ++ halfBytes w ++ halfBytes b⟩)
    (act := State.channelSet channel mode source ⟨n, w, b⟩) served refused

/-- Settles O22: the checks, then each owner of a channel. -/
theorem channelSetChecksAndSets : Obligations.ChannelSetChecksAndSets := by
  intro s tag channel mode source n w b served
  refine ⟨fun r checks => ?_, ?_⟩
  · rcases checks with ⟨past, rfl⟩ | ⟨index, read, readX, runs, rfl⟩ | ⟨stands, readX, i, m, rfl, rfl, rfl, barred⟩
    · exact channelSet_refused served (channelSet_of_unread past _ _)
    · obtain ⟨i, index⟩ := readIndex_some index
      obtain ⟨m, read⟩ := readChannelMode_some read
      obtain ⟨x, readX⟩ := readSource_some readX
      exact channelSet_refused served ((channelSet_of_read index read readX _ _).trans
        (channelSetChecked_of_running (s := admitted s) runs i m x _))
    · obtain ⟨x, readX⟩ := readSource_some readX
      refine channelSet_refused served ((channelSet_of_read (readIndex_natByte (by decide) i) (readChannelMode_code m)
        readX _ _).trans (channelSetChecked_of_barred (s := admitted s) stands i x ?_))
      refine barred.imp (fun ⟨works, soft, offMode⟩ => ?_) fun ⟨pitch, invalid⟩ => ⟨pitch, ?_⟩
      · rw [Bool.eq_false_iff, Ne, modeAllowed_iff]
        rintro (h | h | h)
        · exact works h
        · exact soft h
        · exact offMode h
      · rw [Bool.eq_false_iff, Ne, pitchValid_iff]
        exact Nat.not_lt.2 invalid
  · rintro i m x rfl rfl rfl stands allowed valid c rfl u rfl
    refine ⟨channelSet_always served stands allowed valid, fun none notClamp notFeed quiet =>
      channelSet_of_quiet served stands allowed valid none notClamp notFeed quiet, fun none clamp => ?_, ?_, ?_, ?_⟩
    · subst clamp
      exact ⟨fun l bed onBed done free => channelSet_releases served stands allowed valid none bed onBed done free,
        fun l bed onBed outstanding strike hold running =>
          channelSet_clamps served stands allowed valid none bed onBed outstanding strike hold running,
        fun idles => channelSet_idles served stands allowed valid none idles⟩
    · rintro d rfl k strike running shaped none
      exact ⟨fun undone real => channelSet_cuts served stands allowed valid none strike running shaped undone real,
        fun done l bed => channelSet_takes served stands allowed valid none strike running shaped done bed⟩
    · rintro d rfl out l bed onBed outstanding off apart
      exact channelSet_disables served stands allowed valid out bed onBed outstanding off apart
    · rintro rfl none
      refine ⟨fun other => channelSet_feed_idle served stands allowed valid none other,
        fun f finish feed held g owes => ?_⟩
      obtain rfl : g = s.feedOwedBy f := owes
      have same : (s.feedOwedBy f).book = f.book := (feedOwedBy_step feed s).2
      exact ⟨fun pitch => channelSet_feed_pitch served stands allowed valid none finish feed held pitch,
        fun pitch free => channelSet_feed_faultless served stands allowed valid none finish feed held pitch free,
        fun pitch faulted k book stage =>
          channelSet_feed_faulted served stands allowed valid none finish feed held pitch faulted book stage⟩

end Sys2Proof.Machine

/-! Sheet Notices (R10 to R12, R21, R22, R197). -/

namespace Sys2Proof.Machine

open Sys2Proof Sys2Proof.Safety

set_option Elab.async false

/-! ## One book rewritten -/

/-- Nothing has changed, or the book of the slot has been rewritten in the table and the Recovery Record. -/
def Rewritten (i : Slot) (s t : State) : Prop := t = s ∨ ∃ k, t = s.setBook i (some k)

theorem mirror_mirror (i : Slot) (a b : Option Book) (l : LineSupervisor) : (l.mirror i a).mirror i b = l.mirror i b := by
  cases frozen : l.record.retentionValid with
  | true => simp [LineSupervisor.mirror, frozen]
  | false => simp [LineSupervisor.mirror, frozen, Bank.write_write]

theorem setBook_setBook (i : Slot) (a b : Option Book) (s : State) : (s.setBook i a).setBook i b = s.setBook i b := by
  change { s with si := { s.si with books := _ }, lsv := (s.lsv.mirror i a).mirror i b } = _
  rw [mirror_mirror]
  change { s with si := { s.si with books := Bank.write (Bank.write s.si.books i a) i b }, lsv := _ } = _
  rw [Bank.write_write]
  rfl

theorem Rewritten.trans {i : Slot} {s t u : State} (a : Rewritten i s t) (b : Rewritten i t u) : Rewritten i s u := by
  rcases b with rfl | ⟨k, rfl⟩
  · exact a
  · refine .inr ⟨k, ?_⟩
    rcases a with rfl | ⟨j, rfl⟩
    · rfl
    · exact setBook_setBook i _ _ s

/-- What is written last stays. -/
theorem Rewritten.setBook {i : Slot} {s t : State} (a : Rewritten i s t) (b : Option Book) : t.setBook i b = s.setBook i b := by
  rcases a with rfl | ⟨k, rfl⟩
  · rfl
  · exact setBook_setBook i _ b s

theorem Rewritten.apart {i : Slot} {s t : State} (a : Rewritten i s t) {j : Slot} (apart : NotFinishing j s) : NotFinishing j t := by
  rcases a with rfl | ⟨k, rfl⟩ <;> exact apart

theorem Rewritten.si {i : Slot} {s t : State} (a : Rewritten i s t) : t.si = { s.si with books := t.si.books } := by
  rcases a with rfl | ⟨k, rfl⟩ <;> rfl

theorem raiseFault_rewritten {i : Slot} {s : State} (c : FaultCause) (apart : NotFinishing i s) :
    Rewritten i s (s.raiseFault i c) ∧ (s.raiseFault i c).book i = (s.book i).map (faulted c) := by
  refine ⟨?_, ((raiseFault_alike c apart).book i).trans (book_reviseBook_same i _ s)⟩
  cases free : s.faultFree i with
  | false => exact .inl (raiseFault_of_faulted free)
  | true =>
    obtain ⟨k, book, _⟩ := (faultFree_iff i s).1 free
    refine .inr ⟨faulted c k, ?_⟩
    rw [raiseFault_of_free free, tellFinish_of_notFinishing (s := s.modifyBook i (faulted c)) apart, State.modifyBook, book]
    rfl

/-- A fault raised on a condition. -/
theorem raiseFault_if_rewritten {i : Slot} {s : State} (p : Prop) [Decidable p] (c : FaultCause) (apart : NotFinishing i s) :
    Rewritten i s (if p then s.raiseFault i c else s)
      ∧ (if p then s.raiseFault i c else s).book i = (s.book i).map fun k => if p then faulted c k else k := by
  by_cases h : p
  · simp only [if_pos h]
    exact raiseFault_rewritten c apart
  · simp only [if_neg h]
    exact ⟨.inl rfl, by simp⟩

/-! ## The faults of a notice -/

theorem outOfRange_iff (w : SheetWords) : w.outOfRange = true ↔
    63 < w.leaf.toNat ∨ 1 < w.kind.toNat ∨ w.thickness.toNat < 40 ∨ 3000 < w.thickness.toNat := by
  simp [SheetWords.outOfRange, or_assoc]

/-- The first cause stands. -/
theorem faulted_faulted (c e : FaultCause) (k : Book) : faulted c (faulted e k) = faulted e k :=
  faulted_of_faulted (by cases fault : k.fault <;> simp [faulted, fault])

theorem faulted_noticeFault (w : SheetWords) (b : Book) :
    (let k := if w.leaf.toNat ≠ b.noticed then faulted .sequence b else b
     let k := if w.outOfRange = true then faulted .sequence k else k
     if b.declared = some b.noticed ∨ b.noticed = 64 then faulted .tooManySheets k else k) =
    { b with fault := b.fault.or (noticeFault w.leaf w.kind w.thickness b) } := by
  simp only [outOfRange_iff, noticeFault]
  by_cases leaf : w.leaf.toNat ≠ b.noticed
  · simp only [if_pos leaf, if_pos (Or.inl leaf : _ ∨ _), faulted_faulted, ite_self]
    rfl
  · by_cases range : 63 < w.leaf.toNat ∨ 1 < w.kind.toNat ∨ w.thickness.toNat < 40 ∨ 3000 < w.thickness.toNat
    · simp only [if_neg leaf, if_pos range, if_pos (Or.inr range : _ ∨ _), faulted_faulted, ite_self]
      rfl
    · simp only [if_neg leaf, if_neg range, if_neg (not_or.2 ⟨leaf, range⟩)]
      split
      · rfl
      · simp

theorem noticeFaults_rewritten {i : Slot} {b : Book} (w : SheetWords) {s : State} (apart : NotFinishing i s)
    (book : s.book i = some b) : Rewritten i s (s.noticeFaults i b w)
      ∧ (s.noticeFaults i b w).book i = some { b with fault := b.fault.or (noticeFault w.leaf w.kind w.thickness b) } := by
  obtain ⟨first, after⟩ := raiseFault_if_rewritten (w.leaf.toNat ≠ b.noticed) .sequence apart
  obtain ⟨second, after'⟩ := raiseFault_if_rewritten (w.outOfRange = true) .sequence (first.apart apart)
  obtain ⟨third, after''⟩ := raiseFault_if_rewritten (b.declared = some b.noticed ∨ b.noticed = 64) .tooManySheets
    ((first.trans second).apart apart)
  refine ⟨(first.trans second).trans third, after''.trans ?_⟩
  rw [after', after, book, ← faulted_noticeFault]
  rfl

/-! ## A notice joins the queue -/

theorem join_eq (n : Notice) (x : SheetIntake) : x.join n = withNotice n x := by
  simp [SheetIntake.join, withNotice]

/-- PAUSE follows a change of its sources, and only the Link Port and the Link Monitor show it. -/
theorem syncPause_frame (s : State) : s.syncPause = { s with lp := s.syncPause.lp, lm := s.syncPause.lm } := rfl

theorem joinNotice_frame (n : Notice) (s : State) : s.joinNotice n =
    { s with lp := (s.joinNotice n).lp, lm := (s.joinNotice n).lm, si := withNotice n s.si } := by
  rw [← join_eq]
  rfl

theorem syncPause_work (s : State) : s.syncPause.lm.work = s.lm.work := (reportLevel_settled .pause s.pausePresent s).alike.2

theorem pausePresent_congr {s t : State} (si : t.si.pauseSource = s.si.pauseSource) (lb : t.lb = s.lb)
    (line : t.lsv.lineState = s.lsv.lineState) : t.pausePresent = s.pausePresent := by
  rw [State.pausePresent, si, lb, line]
  rfl

theorem joinNotice_setBook (n : Notice) (i : Slot) (b : Option Book) (s : State) :
    (s.setBook i b).joinNotice n = (s.joinNotice n).setBook i b := by
  have same : State.pausePresent { s.setBook i b with si := (s.setBook i b).si.join n } =
      State.pausePresent { s with si := s.si.join n } := pausePresent_congr rfl rfl (mirror_lineState _ _ _)
  rw [State.joinNotice, State.joinNotice, State.syncPause, State.syncPause, same]
  rfl

/-- A notice that joins does not look at the books. -/
theorem Rewritten.joinNotice {i : Slot} {s t : State} (a : Rewritten i s t) (n : Notice) :
    Rewritten i (s.joinNotice n) (t.joinNotice n) := by
  rcases a with rfl | ⟨k, rfl⟩
  · exact .inl rfl
  · exact .inr ⟨k, joinNotice_setBook n i _ s⟩

theorem entry_eq (slot : Option Slot) (divert : Option DivertReason) (book : Half) (leaf kind : Byte) (thickness : Half)
    (flags : Byte) (s : State) :
    SheetWords.entry slot divert s.si.travel ⟨book, leaf, kind, thickness, flags⟩ =
      noticeEntry slot divert leaf kind thickness flags s := rfl

theorem notice_eq {leaf kind : Byte} {thickness : Half} {flags : Byte} {b : Book}
    (takes : b.stage = .opened ∨ b.stage = .collecting) :
    Book.notice (flags.getLsbD 0) { b with fault := b.fault.or (noticeFault leaf kind thickness b) } =
      noticedBook leaf kind thickness flags b := by
  have stage : (if b.stage = .opened then Stage.collecting else b.stage) = .collecting := by
    rcases takes with h | h <;> rw [h] <;> rfl
  simp only [Book.notice, noticedBook, stage, Option.isNone_iff_eq_none]

/-- A notice beside which at most one other is queued is the last of the queue. -/
theorem notify_last {l : LinkPort} (v : Option Upstream) (u : Upstream) (places : l.placesInUse < 15)
    (notices : l.noticeCount < 11) : ((l.pushOptional v).pushNotice u).queue.getLast? = some u := by
  have room : (l.pushOptional v).placesInUse < 16 ∧ (l.pushOptional v).noticeCount < 12 := by
    cases v with
    | none => exact ⟨Nat.lt_succ_of_lt places, Nat.lt_succ_of_lt notices⟩
    | some v =>
      change (l.pushNotice v).placesInUse < 16 ∧ (l.pushNotice v).noticeCount < 12
      unfold LinkPort.pushNotice
      split
      · refine ⟨?_, ?_⟩
        · simp only [LinkPort.placesInUse, List.length_append, List.length_singleton] at places ⊢
          omega
        · have one : List.countP Upstream.isNotice [v] ≤ 1 := List.countP_le_length
          simp only [LinkPort.noticeCount, List.countP_append] at notices ⊢
          omega
      · exact ⟨Nat.lt_succ_of_lt places, Nat.lt_succ_of_lt notices⟩
  rw [LinkPort.pushNotice, if_pos room]
  exact List.getLast?_concat

/-! ## The notice disposed of -/

section

variable {s : State} (awake : Awake s) (mode : s.lsv.mode ≠ .echo)

theorem exec_sheetNotice (awake : Awake s) (mode : s.lsv.mode ≠ .echo) (tag : Byte) (book : Half) (leaf kind : Byte)
    (thickness : Half) (flags : Byte) : exec (.sheetNotice tag book leaf kind thickness flags) s =
      .next (State.sheetNotice ⟨book, leaf, kind, thickness, flags⟩ (s.setLp s.lp.hunt)) := by
  change execSheetNotice tag book leaf kind thickness flags s = _
  unfold execSheetNotice
  rw [takeEvent_awake awake]
  exact congrArg _ (if_neg mode)

theorem frameNoticed_of_hunt {t : State} (noticed : Noticed (s.setLp s.lp.hunt) t) : FrameNoticed s t := noticed

theorem takesSheets_iff (b : Book) : b.takesSheets = true ↔ b.stage = .opened ∨ b.stage = .collecting := by
  unfold Book.takesSheets
  cases b.stage <;> simp

theorem sheetNotice_diverted {r : DivertReason} {book : Half} {leaf kind : Byte} {thickness : Half} {flags : Byte}
    (tells : State.sheetNotice ⟨book, leaf, kind, thickness, flags⟩ (s.setLp s.lp.hunt) =
      State.noticeDiverted r ⟨book, leaf, kind, thickness, flags⟩ (s.setLp s.lp.hunt)) :
    let t := State.sheetNotice ⟨book, leaf, kind, thickness, flags⟩ (s.setLp s.lp.hunt)
    t = { s with lp := t.lp, lm := t.lm, si := withNotice (noticeEntry none (some r) leaf kind thickness flags s) s.si }
      ∧ Monitored s.lm.work s t ∧ FrameNoticed s t
      ∧ (s.lp.placesInUse < 15 → s.lp.noticeCount < 11 → t.lp.queue.getLast? = some (.sheetRefused book leaf (some r))) := by
  intro t
  have moves : Moves (s.setLp s.lp.hunt) t := moves_sheetNotice _ _
  have joined := joinNotice_frame (SheetWords.entry none (some r) s.si.travel ⟨book, leaf, kind, thickness, flags⟩)
    (s.setLp s.lp.hunt)
  change t = _ at tells
  refine ⟨?_, watched_monitored (s := s) moves.watched ?_, moves.noticed, fun places notices => ?_⟩
  · rw [tells, State.noticeDiverted]
    change State.notify _ (State.joinNotice (SheetWords.entry none (some r) s.si.travel _) _) = _
    rw [joined]
    rfl
  · rw [tells]
    exact syncPause_work _
  · rw [tells]
    exact notify_last (l := s.lp.hunt) _ _ places notices

theorem apart_of_taking {i : Slot} {b : Book} (bound : FinishBookBound s) (book : s.book i = some b)
    (takes : b.stage = .opened ∨ b.stage = .collecting) : NotFinishing i s := by
  intro f finish same
  obtain ⟨k, there, stage⟩ := bound f finish
  rw [same, book] at there
  obtain rfl := Option.some.inj there
  rcases takes with h | h <;> rw [h] at stage <;> rcases stage with e | e <;> cases e

theorem sheetNotice_taken {i : Slot} {b : Book} {book : Half} {leaf kind : Byte} {thickness : Half} {flags : Byte}
    (bound : FinishBookBound s) (there : s.book i = some b) (takes : b.stage = .opened ∨ b.stage = .collecting)
    (taken : State.sheetNotice ⟨book, leaf, kind, thickness, flags⟩ (s.setLp s.lp.hunt) =
      State.noticeTaken i b ⟨book, leaf, kind, thickness, flags⟩ (s.setLp s.lp.hunt)) :
    let t := State.sheetNotice ⟨book, leaf, kind, thickness, flags⟩ (s.setLp s.lp.hunt)
    t = { s with
          lp := t.lp, lm := t.lm
          si := { withNotice (noticeEntry (some i) none leaf kind thickness flags s) s.si with books := t.si.books }
          lsv := s.lsv.mirror i (some (noticedBook leaf kind thickness flags b)) }
      ∧ t.book i = some (noticedBook leaf kind thickness flags b)
      ∧ (∀ j, j ≠ i → t.book j = s.book j)
      ∧ Monitored s.lm.work s t ∧ FrameNoticed s t := by
  intro t
  have moves : Moves (s.setLp s.lp.hunt) t := moves_sheetNotice _ _
  change t = _ at taken
  obtain ⟨written, after⟩ := noticeFaults_rewritten ⟨book, leaf, kind, thickness, flags⟩ (s := s.setLp s.lp.hunt)
    (apart_of_taking bound there takes) there
  have travel : ((s.setLp s.lp.hunt).noticeFaults i b ⟨book, leaf, kind, thickness, flags⟩).si.travel = s.si.travel := by
    rw [written.si]
    rfl
  have result : t = ((s.setLp s.lp.hunt).joinNotice (noticeEntry (some i) none leaf kind thickness flags s)).setBook i
      (some (noticedBook leaf kind thickness flags b)) := by
    rw [taken, ← (written.joinNotice _).setBook, ← notice_eq takes]
    change State.setBook i _ (State.joinNotice (SheetWords.entry (some i) none
      ((s.setLp s.lp.hunt).noticeFaults i b _).si.travel _) _) = _
    rw [travel]
    exact congrArg (fun k => State.setBook i (k.map (Book.notice (flags.getLsbD 0))) _) after
  rw [joinNotice_frame] at result
  have books : t.si.books = Bank.write s.si.books i (some (noticedBook leaf kind thickness flags b)) := by
    rw [result]
    rfl
  refine ⟨?_, ?_, fun j other => ?_, watched_monitored (s := s) moves.watched ?_, moves.noticed⟩
  · rw [books]
    rw [result]
    rfl
  · rw [State.book, books]
    exact Bank.read_write_same _ _ _
  · rw [State.book, books]
    exact Bank.read_write_ne _ _ other
  · rw [result]
    exact syncPause_work _

end

/-- Settles O9. -/
theorem sheetNoticeDisposed : Obligations.SheetNoticeDisposed := by
  refine ⟨fun s tag book leaf kind thickness flags awake mode => ⟨fun full => ?_, fun r room disposed => ?_⟩,
    fun s tag book leaf kind thickness flags i b awake mode bound room named there takes => ?_⟩
  · rw [exec_sheetNotice awake mode]
    exact congrArg _ (if_pos full)
  · have opens : State.sheetNotice ⟨book, leaf, kind, thickness, flags⟩ (s.setLp s.lp.hunt) =
        State.noticeDiverted r ⟨book, leaf, kind, thickness, flags⟩ (s.setLp s.lp.hunt) := by
      refine (if_neg (Nat.not_le.2 room)).trans ?_
      rcases disposed with ⟨rfl, unknown⟩ | ⟨rfl, i, named, b, there, notOpened, notCollecting⟩
      · rw [show (s.setLp s.lp.hunt).findBook book = none from unknown]
      · rw [show (s.setLp s.lp.hunt).findBook book = some i from named]
        dsimp only
        rw [show (s.setLp s.lp.hunt).book i = some b from there]
        refine if_neg fun takes => ?_
        exact ((takesSheets_iff b).1 takes).elim notOpened notCollecting
    obtain ⟨frame, counts, noticed, last⟩ := sheetNotice_diverted opens
    exact ⟨_, exec_sheetNotice awake mode .., frame, counts, noticed, last⟩
  · have taken : State.sheetNotice ⟨book, leaf, kind, thickness, flags⟩ (s.setLp s.lp.hunt) =
        State.noticeTaken i b ⟨book, leaf, kind, thickness, flags⟩ (s.setLp s.lp.hunt) := by
      refine (if_neg (Nat.not_le.2 room)).trans ?_
      rw [show (s.setLp s.lp.hunt).findBook book = some i from named]
      dsimp only
      rw [show (s.setLp s.lp.hunt).book i = some b from there]
      exact if_pos ((takesSheets_iff b).2 takes)
    exact ⟨_, exec_sheetNotice awake mode .., sheetNotice_taken bound there takes taken⟩

end Sys2Proof.Machine

/-! How a lift closes and a collection ends, beside reports and the Recovery Record (R6, R9, R34 to R36, R41, R139). -/

namespace Sys2Proof.Machine

open Sys2Proof Sys2Proof.Safety

set_option Elab.async false

/-! ## The book of a slot -/

/-- The slot holds book `k`, beside the Recovery Record. -/
def State.putBook (i : Slot) (k : Book) (s : State) : State :=
  { s with si := { s.si with books := Bank.write s.si.books i (some k) } }

theorem unreporting_putBook (i : Slot) (k : Book) : Unreporting (State.putBook i k) := fun _ _ _ _ => rfl

theorem book_putBook_same (i : Slot) (k : Book) (s : State) : (s.putBook i k).book i = some k := Bank.read_write_same _ _ _

theorem book_putBook_ne {i j : Slot} (other : j ≠ i) (k : Book) (s : State) : (s.putBook i k).book j = s.book j :=
  Bank.read_write_ne _ _ other

theorem putBook_putBook (i : Slot) (k b : Book) (s : State) : (s.putBook i b).putBook i k = s.putBook i k := by
  change { s with si := { s.si with books := Bank.write (Bank.write s.si.books i _) i _ } } = _
  rw [Bank.write_write]
  rfl

theorem reviseBook_of_book {i : Slot} {k : Book} {s : State} (book : s.book i = some k) (f : Book → Book) :
    s.reviseBook i f = s.putBook i (f k) := by
  rw [State.reviseBook, book]
  rfl

theorem putBook_self {i : Slot} {k : Book} {s : State} (book : s.book i = some k) : s.putBook i k = s := by
  rw [State.putBook, ← book, State.book, Bank.write_read]

section

variable {v t : State} (a : Alike v t) {i : Slot} {k : Book} (book : v.book i = some k)

include a book

theorem modifyBook_put (f : Book → Book) : Alike (v.putBook i (f k)) (t.modifyBook i f) := by
  rw [← reviseBook_of_book book]
  exact modifyBook_of_alike a i f

theorem raiseFault_put (c : FaultCause) (apart : NotFinishing i v) :
    Alike (v.putBook i (faulted c k)) (t.raiseFault i c) := by
  rw [← reviseBook_of_book book]
  refine (a.apply (unreporting_reviseBook i _)).trans (raiseFault_alike c ?_)
  rw [NotFinishing, a.fu]
  exact apart

theorem raiseFault_if_put (p : Prop) [Decidable p] (c : FaultCause) (apart : NotFinishing i v) :
    Alike (v.putBook i (if p then faulted c k else k)) (if p then t.raiseFault i c else t) := by
  by_cases h : p
  · rw [if_pos h, if_pos h]
    exact raiseFault_put a book c apart
  · rw [if_neg h, if_neg h, putBook_self book]
    exact a

end

/-! ## The end of a collection (R6, R9, R139) -/

/-- A book whose collection has ended. -/
def collectedBook (i : Slot) (k : Book) (s : State) : Book :=
  { k with stage := collectedStage i k.liftsGathered k.liftsClosed s }

theorem advance_collected {k : Book} (stage : k.stage = .collecting ∨ k.stage = .collected) :
    Book.advance .collecting .collected k = { k with stage := .collected } := by
  unfold Book.advance
  rcases stage with h | h
  · rw [if_pos h]
  · rw [if_neg (by rw [h]; decide), ← h]

theorem completeTested_of_collected {i : Slot} {k : Book} {v : State} (book : v.book i = some k) (stage : k.stage = .collected)
    (closed : v.openLiftOf i = false) : v.completeTested i = v.putBook i (collectedBook i k v) := by
  have complete : v.complete i = true ↔
      v.fu.gather.any (fun g => decide (g.book = i)) = true ∧ k.liftsGathered = k.liftsClosed := by
    simp only [State.complete, book, Option.any_some, stage, decide_true, Bool.true_and, closed, Bool.not_false,
      Bool.and_true, Bool.and_eq_true, decide_eq_true_iff, eq_comm (a := k.liftsClosed)]
  unfold State.completeTested collectedBook collectedStage
  by_cases h : v.complete i = true
  · rw [if_pos h, if_pos (complete.1 h), reviseBook_of_book book]
    exact congrArg (v.putBook i) (if_pos stage)
  · rw [if_neg h, if_neg (fun x => h (complete.2 x)), ← stage]
    exact (putBook_self book).symm

theorem isEmpty_iff (k : Book) : k.isEmpty = true ↔ k.liftsClosed = 0 ∧ k.placed = 0 := by simp [Book.isEmpty]

section

variable {v t : State} (a : Alike v t) {i : Slot} {k : Book} (book : v.book i = some k)
  (stage : k.stage = .collecting ∨ k.stage = .collected)

include a book stage

theorem collectionEnded_of_lifts (closed : v.openLiftOf i = false) (holds : ¬(k.liftsClosed = 0 ∧ k.placed = 0)) :
    Alike (v.putBook i (collectedBook i k v)) (t.collectionEnded i) := by
  have b := modifyBook_put a book (Book.advance .collecting .collected)
  rw [advance_collected stage] at b
  have there : (v.putBook i { k with stage := .collected }).book i = some { k with stage := .collected } :=
    book_putBook_same _ _ _
  have filled : ¬((t.modifyBook i (Book.advance .collecting .collected)).book i).any Book.isEmpty = true := by
    rw [b.book, there]
    exact fun e => holds ((isEmpty_iff _).1 e)
  have tests := testComplete_alike b i
  rw [completeTested_of_collected there rfl closed, putBook_putBook] at tests
  have tested : t.collectionEnded i = (t.modifyBook i (Book.advance .collecting .collected)).testComplete i := if_neg filled
  rw [tested]
  exact tests

theorem collectionEnded_of_empty (empty : k.liftsClosed = 0 ∧ k.placed = 0) :
    Alike ((v.tallied .booksRejected).bookGone i k) (t.collectionEnded i) := by
  have b := modifyBook_put a book (Book.advance .collecting .collected)
  rw [advance_collected stage] at b
  have there : (v.putBook i { k with stage := .collected }).book i = some { k with stage := .collected } :=
    book_putBook_same _ _ _
  have none : ((t.modifyBook i (Book.advance .collecting .collected)).book i).any Book.isEmpty = true := by
    rw [b.book, there]
    exact (isEmpty_iff _).2 empty
  have removes : t.collectionEnded i = ((((t.modifyBook i (Book.advance .collecting .collected)).sendOutcome .rejected
      { k with stage := .collected }).count .booksRejected).removeBook i) := by
    refine (if_pos none).trans ?_
    rw [State.removeEmpty, b.book, there]
  have sent : Alike (v.putBook i { k with stage := .collected })
      ((t.modifyBook i (Book.advance .collecting .collected)).sendOutcome .rejected { k with stage := .collected }) := by
    unfold State.sendOutcome
    split
    · exact b.trans ⟨rfl, rfl⟩
    · exact b
  have gone := removeBook_alike (count_alike sent .booksRejected) (i := i) there
  rw [removes]
  have same : State.bookGone i { k with stage := .collected }
      ((v.putBook i { k with stage := .collected }).tallied .booksRejected) = (v.tallied .booksRejected).bookGone i k := by
    change { v with lm := _, si := { v.si with books := Bank.write (Bank.write v.si.books i _) i _, notices := _ }, ts := _ } = _
    rw [Bank.write_write]
    rfl
  rw [← same]
  exact gone

end

/-! ## A lift closes (R34) or is held over (R41) -/

theorem append_joined (l : Lift) (x : LiftBuilder) : (x.append l).joined = withLift l x := by
  simp [LiftBuilder.append, LiftBuilder.joined, withLift]

/-- A book as a lift of it closes: SHORT if its last sheet leaves it with fewer than declared. -/
def closingBook (l : Lift) (k : Book) : Book := if l.short k = true then faulted .short k else k

/-- A book when a lift of it has closed. -/
def closedBook (l : Lift) (k : Book) (s : State) : Book :=
  if l.endsCollection = true then collectedBook l.slot { closingBook l k with liftsClosed := k.liftsClosed + 1 } s
  else { closingBook l k with liftsClosed := k.liftsClosed + 1 }

/-- The lift as it closes for its book. -/
def liftClosing (l : Lift) (k : Book) (s : State) : Lift :=
  closedLift s.lb.nextNumber k.liftsClosed (if (closingBook l k).fault = none then .strike else .pass) l

/-- The part when the lift has closed, beside reports and the Recovery Record. -/
def State.liftClosed (l : Lift) (k : Book) (s : State) : State :=
  State.putBook l.slot (closedBook l k s) { s with lb := withLift (liftClosing l k s) s.lb }

/-- The part when the lift is held over, beside reports and the Recovery Record. -/
def State.liftHeld (l : Lift) (k : Book) (s : State) : State :=
  State.putBook l.slot (faulted .overrun k)
    { s with lb := { s.lb with openLift := some { l with overrunHold := true, mode := some .pass } } }

theorem closingBook_liftsClosed (l : Lift) (k : Book) :
    (closingBook l k).liftsClosed = k.liftsClosed ∧ (closingBook l k).stage = k.stage := by
  unfold closingBook
  split <;> exact ⟨rfl, rfl⟩

/-- One lift more closed. -/
abbrev Book.withLift (b : Book) : Book := { b with liftsClosed := b.liftsClosed + 1 }

theorem closingBook_withLift (l : Lift) (k : Book) :
    (closingBook l k).withLift = { closingBook l k with liftsClosed := k.liftsClosed + 1 } := by
  rw [Book.withLift, (closingBook_liftsClosed l k).1]

/-- A closed lift appended to the Lift Queue. -/
def State.liftAppended (l : Lift) (s : State) : State := { s with lb := s.lb.append l }

theorem unreporting_liftAppended (l : Lift) : Unreporting (State.liftAppended l) := fun _ _ _ _ => rfl

theorem putBook_liftAppended (i : Slot) (k : Book) (l : Lift) (s : State) :
    (s.liftAppended l).putBook i k = (s.putBook i k).liftAppended l := rfl

theorem closeInto_eq (l : Lift) (k : Book) (s : State) : s.closeInto l k =
    let r := if l.short k = true then s.raiseFault l.slot .short else s
    let m := (r.liftAppended (l.close r.lb.nextNumber k.liftsClosed (r.closingMode l.slot))).modifyBook l.slot Book.withLift
    (if l.endsCollection = true then m.collectionEnded l.slot else m).liftJoined := rfl

theorem liftJoined_alike {v t : State} (a : Alike v t) : Alike { v with lb := v.lb.joined } t.liftJoined := by
  refine (a.apply (g := fun x => { x with lb := x.lb.joined }) fun _ _ _ _ => rfl).trans ?_
  exact (reportLevel_settled .pause _ { t with lb := t.lb.joined }).alike

section

variable {v t : State} (a : Alike v t) {l : Lift} {k : Book} (book : v.book l.slot = some k)
  (apart : NotFinishing l.slot v)

include a book apart

theorem closeInto_alike (stage : l.endsCollection = true → k.stage = .collecting ∨ k.stage = .collected) :
    Alike (v.liftClosed l k) (t.closeInto l k) := by
  have marked := raiseFault_if_put a book (l.short k = true) .short apart
  change Alike (v.putBook l.slot (closingBook l k)) _ at marked
  rw [closeInto_eq]
  dsimp only
  generalize (if l.short k = true then t.raiseFault l.slot .short else t) = r at marked
  have mode : r.closingMode l.slot = if (closingBook l k).fault = none then .strike else .pass := by
    rw [State.closingMode, State.bookFaulted, marked.book, book_putBook_same, Option.any_some]
    cases (closingBook l k).fault <;> rfl
  have number : r.lb.nextNumber = v.lb.nextNumber := by
    rw [marked.lb]
    rfl
  rw [mode, number]
  have counted := modifyBook_put (marked.apply (unreporting_liftAppended (liftClosing l k v))) (i := l.slot)
    (k := closingBook l k) (book_putBook_same _ _ _) Book.withLift
  rw [← putBook_liftAppended, putBook_putBook, closingBook_withLift] at counted
  change Alike _ (State.liftJoined (if l.endsCollection = true then
    ((r.liftAppended (liftClosing l k v)).modifyBook l.slot Book.withLift).collectionEnded l.slot
    else (r.liftAppended (liftClosing l k v)).modifyBook l.slot Book.withLift))
  generalize (r.liftAppended (liftClosing l k v)).modifyBook l.slot Book.withLift = m at counted
  by_cases ends : l.endsCollection = true
  · have ended := collectionEnded_of_lifts counted (i := l.slot)
      (k := { closingBook l k with liftsClosed := k.liftsClosed + 1 }) (book_putBook_same _ _ _)
      (by rw [← (closingBook_liftsClosed l k).2] at stage; exact stage ends) rfl (fun h => by cases h.1)
    rw [putBook_putBook] at ended
    have there : closedBook l k v = collectedBook l.slot { closingBook l k with liftsClosed := k.liftsClosed + 1 } v :=
      if_pos ends
    rw [if_pos ends, State.liftClosed, there, ← append_joined]
    exact liftJoined_alike ended
  · have there : closedBook l k v = { closingBook l k with liftsClosed := k.liftsClosed + 1 } := if_neg ends
    rw [if_neg ends, State.liftClosed, there, ← append_joined]
    exact liftJoined_alike counted

theorem overrun_alike : Alike (v.liftHeld l k) (t.overrun l) :=
  raiseFault_put (a.apply (g := State.setOpenLift (some { l with overrunHold := true, mode := some .pass }))
    fun _ _ _ _ => rfl) book .overrun apart

variable (opened : v.lb.openLift = some l)

include opened

theorem closeLift_of_room (room : v.lb.queue.length < 12)
    (stage : l.endsCollection = true → k.stage = .collecting ∨ k.stage = .collected) :
    Alike (v.liftClosed l k) t.closeLift := by
  have closes : t.closeLift = t.closeInto l k := by
    rw [State.closeLift, a.lb, opened]
    dsimp only
    rw [if_pos room, a.book, book]
  rw [closes]
  exact closeInto_alike a book apart stage

theorem closeLift_of_full (full : 12 ≤ v.lb.queue.length) : Alike (v.liftHeld l k) t.closeLift := by
  have holds : t.closeLift = t.overrun l := by
    rw [State.closeLift, a.lb, opened]
    dsimp only
    rw [if_neg (Nat.not_lt.2 full)]
  rw [holds]
  exact overrun_alike a book apart

end

end Sys2Proof.Machine

/-! The end of a collection by the cases of R36 (R6, R8, R9, R36, R41, R139). -/

namespace Sys2Proof.Machine

open Sys2Proof Sys2Proof.Safety

set_option Elab.async false

/-- The collection of book `k` in slot `i` is over, and nothing else has been done. -/
structure CollectionOver (i : Slot) (k : Book) (s t : State) : Prop where
  ended : CollectionEnded i k s t
  others : ∀ j, j ≠ i → t.book j = s.book j
  moved : CollectionMoved s t
  tcu : t.tcu = s.tcu
  work : t.lm.work = endWork i k s.lm.work s
  tested : t.complete i = false

/-! ## The last lift closed is marked -/

theorem markLast_eq (i : Slot) (n : Nat) : Lift.markLast i n = endMarked i n := by
  funext l
  unfold Lift.markLast endMarked
  congr 1
  rw [Lift.isLastOf, Bool.and_eq_true, decide_eq_true_iff, eq_iff_iff, and_congr_right_iff]
  intro _
  cases l.ordinal <;> simp

theorem endMarked_zero (i : Slot) (l : Lift) : endMarked i 0 l = l := by
  refine if_neg fun h => ?_
  obtain ⟨_, last⟩ := h
  cases ordinal : l.ordinal <;> rw [ordinal] at last <;> cases last

theorem withLastMarked_zero (i : Slot) (s : State) : withLastMarked i 0 s = s := by
  have marks : endMarked i 0 = id := funext (endMarked_zero i)
  unfold withLastMarked
  simp only [marks, List.map_id_fun, id, Option.map_id_fun']

theorem unreporting_withLastMarked (i : Slot) (n : Nat) : Unreporting (withLastMarked i n) := fun _ _ _ _ => rfl

theorem markLastLift_alike {v t : State} (a : Alike v t) {i : Slot} {k : Book} (book : v.book i = some k) :
    Alike (withLastMarked i k.liftsClosed v) (t.markLastLift i) := by
  have marks : t.markLastLift i = withLastMarked i k.liftsClosed t := by
    rw [State.markLastLift, a.book, book, Option.elim_some, markLast_eq]
    rfl
  rw [marks]
  exact a.apply (unreporting_withLastMarked i _)

/-- Marking keeps which book the gather record is for. -/
theorem collectedBook_withLastMarked (i j : Slot) (n : Nat) (k : Book) (s : State) :
    collectedBook i k (withLastMarked j n s) = collectedBook i k s := by
  have same : ((withLastMarked j n s).fu.gather.any fun g => decide (g.book = i)) =
      (s.fu.gather.any fun g => decide (g.book = i)) := by
    cases gather : s.fu.gather <;> simp [withLastMarked, gather]
  rw [collectedBook, collectedBook, collectedStage, collectedStage, same]

/-! ## A complete book is not found complete again -/

theorem complete_of_collectedStage {i : Slot} {k : Book} {s t : State} (book : t.book i = some k)
    (stage : k.stage = collectedStage i k.liftsGathered k.liftsClosed s)
    (gather : (t.fu.gather.any fun g => decide (g.book = i)) = s.fu.gather.any fun g => decide (g.book = i)) :
    t.complete i = false := by
  rw [Bool.eq_false_iff]
  intro complete
  simp only [State.complete, book, gather, Option.any_some, Bool.and_eq_true, decide_eq_true_iff] at complete
  obtain ⟨⟨here, collected, lifts⟩, _⟩ := complete
  rw [collectedStage, if_pos ⟨here, lifts.symm⟩] at stage
  rw [stage] at collected
  cases collected

theorem complete_of_open {i : Slot} {t : State} {l : Lift} (opened : t.lb.openLift = some l) (slot : l.slot = i) :
    t.complete i = false := by
  simp [State.complete, State.openLiftOf, opened, slot]

theorem openLiftOf_of_noneOpen {i : Slot} {s : State} (none : NoneOpen i s) : s.openLiftOf i = false := by
  unfold State.openLiftOf
  cases opened : s.lb.openLift with
  | none => rfl
  | some l => exact decide_eq_false (none l opened)

theorem endsEmpty_of_open {i : Slot} {s : State} {l : Lift} (opened : s.lb.openLift = some l) (slot : l.slot = i) (k : Book) :
    endsEmpty i k s = false := by
  simp [endsEmpty, State.openLiftOf, opened, slot]

theorem endsEmpty_iff {i : Slot} {s : State} (none : NoneOpen i s) (k : Book) :
    endsEmpty i k s = true ↔ k.liftsClosed = 0 ∧ k.placed = 0 := by
  simp [endsEmpty, openLiftOf_of_noneOpen none]

theorem noneOpen_of_not_endsEmpty {i : Slot} {k : Book} {s : State} (empty : endsEmpty i k s = true) : NoneOpen i s := by
  intro l opened slot
  rw [endsEmpty_of_open opened slot] at empty
  cases empty

theorem collectionMoved_of_alike {s v t : State} (a : Alike v t) (moved : CollectionMoved s v) : CollectionMoved s t := by
  obtain ⟨frame, _⟩ := a
  unfold CollectionMoved at moved ⊢
  generalize v.lp = lp, v.lm = lm, v.lsv = lsv, v.tcu = tcu, v.lb = lb, v.ss = ss, v.fu = fu, v.si.books = books,
    v.si.notices = notices, v.ts.formats = formats at moved
  subst moved
  generalize t.lp = lp', t.lm = lm', t.lsv = lsv' at frame
  subst frame
  rfl

/-! ## The cases of R36 -/

section

variable {s t : State} {i : Slot} {k : Book}

/-- Case 3 of R36, the book having lifts or sheets. -/
theorem collectionOver_of_lifts (none : NoneOpen i s) (holds : endsEmpty i k s = false)
    (a : Alike ((withLastMarked i k.liftsClosed s).putBook i (collectedBook i k s)) t) : CollectionOver i k s t := by
  have book : t.book i = some (collectedBook i k s) := (a.book i).trans (book_putBook_same _ _ _)
  refine ⟨⟨fun l opened slot => absurd slot (none l opened), fun _ _ => ⟨book, a.lb, a.ss, a.fu⟩,
    fun empty => absurd (holds.symm.trans empty) (by decide), fun _ => ⟨?_, a.ts⟩⟩,
    fun j other => (a.book j).trans (book_putBook_ne other _ _), collectionMoved_of_alike a rfl, a.tcu, ?_, ?_⟩
  · rw [a.si]
    rfl
  · rw [a.2, endWork, holds]
    rfl
  · refine complete_of_collectedStage (s := s) book rfl ?_
    rw [a.fu]
    cases gather : s.fu.gather <;> simp [withLastMarked, State.putBook, gather]

/-- Case 3 of R36, the book having nothing. -/
theorem collectionOver_of_empty (none : NoneOpen i s) (empty : endsEmpty i k s = true)
    (a : Alike ((s.tallied .booksRejected).bookGone i k) t) : CollectionOver i k s t := by
  have book : t.book i = .none := (a.book i).trans (Bank.read_write_same _ _ _)
  refine ⟨⟨fun l opened slot => absurd slot (none l opened),
    fun _ holds => absurd (holds.symm.trans empty) (by decide), fun _ => ⟨book, a.lb, a.ss, a.fu, ?_, a.ts⟩,
    fun holds => absurd (holds.symm.trans empty) (by decide)⟩,
    fun j other => (a.book j).trans (Bank.read_write_ne _ _ other), collectionMoved_of_alike a rfl, a.tcu, ?_, ?_⟩
  · rw [a.si]
    rfl
  · rw [a.2, endWork, if_pos empty]
    rfl
  · simp [State.complete, book]

variable {l : Lift} (opened : s.lb.openLift = some l) (slot : l.slot = i)

include opened slot

/-- Case 1 of R36. -/
theorem collectionOver_of_held (book : s.book i = some k) (held : l.overrunHold = true)
    (a : Alike { s with lb := { s.lb with openLift := some { l with endsCollection := true } } } t) :
    CollectionOver i k s t := by
  have holds := endsEmpty_of_open opened slot k
  have none : ¬NoneOpen i s := fun none => none l opened slot
  refine ⟨⟨fun x other _ => ?_, fun absent => absurd absent none, fun empty => absurd (holds.symm.trans empty) (by decide),
    fun _ => ⟨?_, a.ts⟩⟩, fun j _ => a.book j, collectionMoved_of_alike a rfl, a.tcu, ?_, ?_⟩
  · obtain rfl := Option.some.inj (opened.symm.trans other)
    have off : l.overrunHold ≠ false := by rw [held]; decide
    exact ⟨fun _ => ⟨(a.book i).trans book, a.lb⟩, fun h => absurd h off, fun h => absurd h off, a.ss, a.fu⟩
  · rw [a.si]
  · rw [a.2, endWork, holds]
    rfl
  · exact complete_of_open (congrArg LiftBuilder.openLift a.lb) slot

/-- Case 2 of R36, the Lift Queue being full. -/
theorem collectionOver_of_full (free : l.overrunHold = false) (full : 12 ≤ s.lb.queue.length)
    (a : Alike (State.liftHeld { l with endsCollection := true } k s) t) : CollectionOver i k s t := by
  subst slot
  have holds := endsEmpty_of_open opened rfl k
  have none : ¬NoneOpen l.slot s := fun none => none l opened rfl
  have on : l.overrunHold ≠ true := by rw [free]; decide
  refine ⟨⟨fun x other _ => ?_, fun absent => absurd absent none, fun empty => absurd (holds.symm.trans empty) (by decide),
    fun _ => ⟨?_, a.ts⟩⟩, fun j other => (a.book j).trans (book_putBook_ne other _ _), collectionMoved_of_alike a rfl,
    a.tcu, ?_, ?_⟩
  · obtain rfl := Option.some.inj (opened.symm.trans other)
    exact ⟨fun h => absurd h on, fun _ _ => ⟨(a.book _).trans (book_putBook_same _ _ _), a.lb⟩,
      fun _ room => absurd full (Nat.not_le.2 room), a.ss, a.fu⟩
  · rw [a.si]
    rfl
  · rw [a.2, endWork, holds]
    rfl
  · exact complete_of_open (congrArg LiftBuilder.openLift a.lb) rfl

/-- Case 2 of R36, the Lift Queue having room. -/
theorem collectionOver_of_room (free : l.overrunHold = false) (room : s.lb.queue.length < 12)
    (a : Alike (State.liftClosed { l with endsCollection := true } k s) t) : CollectionOver i k s t := by
  subst slot
  have holds := endsEmpty_of_open opened rfl k
  have none : ¬NoneOpen l.slot s := fun none => none l opened rfl
  have on : l.overrunHold ≠ true := by rw [free]; decide
  have short : closingBook { l with endsCollection := true } k =
      if l.holdsLast = true ∧ k.declared.any (fun d => decide (k.placed < d)) = true then faulted .short k else k := by
    unfold closingBook Lift.short
    simp only [Bool.and_eq_true]
  have gathered : (closingBook { l with endsCollection := true } k).liftsGathered = k.liftsGathered := by
    unfold closingBook
    split <;> rfl
  have book : t.book l.slot = some
      { closingBook { l with endsCollection := true } k with
        liftsClosed := k.liftsClosed + 1, stage := collectedStage l.slot k.liftsGathered (k.liftsClosed + 1) s } := by
    refine (a.book _).trans ((book_putBook_same _ _ _).trans (congrArg some ?_))
    rw [closedBook, if_pos rfl, collectedBook, ← gathered]
  refine ⟨⟨fun x other _ => ?_, fun absent => absurd absent none, fun empty => absurd (holds.symm.trans empty) (by decide),
    fun _ => ⟨?_, a.ts⟩⟩, fun j other => (a.book j).trans (book_putBook_ne other _ _), collectionMoved_of_alike a rfl,
    a.tcu, ?_, ?_⟩
  · obtain rfl := Option.some.inj (opened.symm.trans other)
    refine ⟨fun h => absurd h on, fun _ full => absurd full (Nat.not_le.2 room), fun _ _ c closes => ?_, a.ss, a.fu⟩
    rw [← short] at closes
    subst closes
    exact ⟨a.lb, book⟩
  · rw [a.si]
    rfl
  · rw [a.2, endWork, holds]
    rfl
  · refine complete_of_collectedStage (s := s) book ?_ (by rw [a.fu]; rfl)
    rw [← gathered]

end

/-- LB ends the collection of a book. -/
theorem endCollection_over {v t : State} (a : Alike v t) {i : Slot} {k : Book} (book : v.book i = some k)
    (stage : k.stage = .collecting ∨ k.stage = .collected) (apart : NotFinishing i v) :
    CollectionOver i k v (t.endCollection i) := by
  by_cases none : NoneOpen i v
  · have marks : t.endCollection i = (t.markLastLift i).collectionEnded i := by
      unfold State.endCollection
      split
      · rfl
      · next l opened =>
        rw [a.lb] at opened
        exact if_neg (none l opened)
    rw [marks]
    have marked := markLastLift_alike a book
    have closed := openLiftOf_of_noneOpen none
    cases empty : endsEmpty i k v with
    | false =>
      have ended := collectionEnded_of_lifts marked (i := i) (k := k) book stage closed fun h =>
        absurd (empty.symm.trans ((endsEmpty_iff none k).2 h)) (by decide)
      rw [collectedBook_withLastMarked] at ended
      exact collectionOver_of_lifts none empty ended
    | true =>
      have nothing := (endsEmpty_iff none k).1 empty
      have ended := collectionEnded_of_empty marked (i := i) (k := k) book stage nothing
      rw [nothing.1, withLastMarked_zero] at ended
      exact collectionOver_of_empty none empty ended
  · unfold NoneOpen at none
    simp only [not_forall, not_not] at none
    obtain ⟨l, opened, slot⟩ := none
    have marked := a.apply (g := State.setOpenLift (some { l with endsCollection := true })) fun _ _ _ _ => rfl
    have ends : t.endCollection i = if l.overrunHold = true then t.setOpenLift (some { l with endsCollection := true })
        else (t.setOpenLift (some { l with endsCollection := true })).closeLift := by
      rw [State.endCollection, a.lb, opened]
      exact if_pos slot
    rw [ends]
    by_cases held : l.overrunHold = true
    · rw [if_pos held]
      exact collectionOver_of_held opened slot book held marked
    · rw [if_neg held]
      rw [Bool.not_eq_true] at held
      subst slot
      by_cases room : v.lb.queue.length < 12
      · exact collectionOver_of_room opened rfl held room
          (closeLift_of_room marked (l := { l with endsCollection := true }) book apart rfl room fun _ => stage)
      · exact collectionOver_of_full opened rfl held (Nat.not_lt.1 room)
          (closeLift_of_full marked (l := { l with endsCollection := true }) book apart rfl (Nat.not_lt.1 room))

end Sys2Proof.Machine

/-! Book Cancel by the stage of its book (R4, R7 to R9, R36). -/

namespace Sys2Proof.Machine

open Sys2Proof Sys2Proof.Safety

set_option Elab.async false

theorem CollectionMoved.trans {s t u : State} (a : CollectionMoved s t) (b : CollectionMoved t u) : CollectionMoved s u := by
  unfold CollectionMoved at *
  rw [a] at b
  exact b

/-- Reports after the end of a collection leave it. -/
theorem CollectionOver.reported {i : Slot} {k : Book} {s u t : State} (h : CollectionOver i k s u) (a : Alike u t) :
    CollectionOver i k s t := by
  obtain ⟨⟨opened, lifts, empty, rest⟩, others, moved, tcu, work, tested⟩ := h
  have notices : t.si.notices = u.si.notices := by rw [a.si]
  refine ⟨⟨?_, ?_, ?_, ?_⟩, fun j other => (a.book j).trans (others j other), collectionMoved_of_alike a moved,
    a.tcu.trans tcu, a.2.trans work, (complete_alike a i).trans tested⟩
  · rw [a.book, a.lb, a.ss, a.fu]
    exact opened
  · rw [a.book, a.lb, a.ss, a.fu]
    exact lifts
  · rw [a.book, a.lb, a.ss, a.fu, notices, a.ts]
    exact empty
  · rw [notices, a.ts]
    exact rest

/-- An end of collection that starts from a book rewritten. -/
theorem CollectionOver.of_putBook {i : Slot} {k b : Book} {s t : State} (h : CollectionOver i k (s.putBook i b) t) :
    CollectionOver i k s t := by
  obtain ⟨ended, others, moved, tcu, work, tested⟩ := h
  exact ⟨ended, fun j other => (others j other).trans (book_putBook_ne other _ _),
    CollectionMoved.trans (t := s.putBook i b) rfl moved, tcu, work, tested⟩

/-- A fault and the end of the collection of its book. -/
theorem faultAndEnd_over {v t : State} (a : Alike v t) {i : Slot} {k : Book} (c : FaultCause) (book : v.book i = some k)
    (stage : k.stage = .collecting ∨ k.stage = .collected) (apart : NotFinishing i v) :
    CollectionOver i (faulted c k) v ((t.raiseFault i c).endCollection i) :=
  CollectionOver.of_putBook
    (endCollection_over (raiseFault_put a book c apart) (book_putBook_same _ _ _) stage apart)

section

variable {s : State} (served : Served s) (tag : Byte) {id : Half} {i : Slot} {b : Book} (found : s.findBook id = some i)
  (book : s.book i = some b)

include served found book

theorem exec_bookCancel : ∃ t, exec (.bookCancel tag id) s = .next t ∧ AnsweredLast tag 0x03 .done [] s t
    ∧ LineFollowed s t ∧ Watched s t ∧ t = { ((admitted s).cancelBook i b).testRest with lp := t.lp } := by
  have acted := bookCancel_of_book (s := admitted s) found book
  have m := moves_bookCancel id (admitted s)
  rw [acted] at m
  exact take_moves (f := ⟨0x03, tag, halfBytes id⟩) (act := State.bookCancel id) served (r := .done) acted m

theorem bookCancel_opened (stage : b.stage = .opened) :
    ∃ t, exec (.bookCancel tag id) s = .next t ∧ AnsweredLast tag 0x03 .done [] s t ∧ Monitored s.lm.work s t
      ∧ t = { s with
          lp := t.lp, lm := t.lm, lsv := t.lsv
          si := { s.si with books := t.si.books, notices := noticesWithout i s.si.notices }
          ts := { s.ts with
            formats := Bank.write s.ts.formats b.format (released (Bank.read s.ts.formats b.format)) } }
      ∧ t.book i = none ∧ (∀ j, j ≠ i → t.book j = s.book j) ∧ LineFollowed s t := by
  obtain ⟨t, taken, answered, followed, watched, left⟩ := exec_bookCancel served tag found book
  have cancels : (admitted s).cancelBook i b = (admitted s).removeBook i := by rw [State.cancelBook, stage]
  rw [cancels] at left
  have a : Alike ((admitted s).bookGone i b) t :=
    ((removeBook_alike (.refl (admitted s)) book).trans (testRest_settled _).alike).of_link left
  refine ⟨t, taken, answered, watched_monitored watched a.2, ?_, (a.book i).trans (Bank.read_write_same _ _ _),
    fun j other => (a.book j).trans (Bank.read_write_ne _ _ other), followed⟩
  have si := a.si
  have frame := a.1
  generalize t.lp = lp, t.lm = lm, t.lsv = lsv at frame
  subst frame
  rfl

theorem bookCancel_past (opened : b.stage ≠ .opened) (collecting : b.stage ≠ .collecting) :
    ∃ t, exec (.bookCancel tag id) s = .next t ∧ AnsweredLast tag 0x03 .done [] s t
      ∧ (∃ c, t.book i = some c ∧ c.fault = b.fault.or (some .cancelled)
          ∧ (NotFinishing i s → c = { b with fault := b.fault.or (some .cancelled) }))
      ∧ (NotFinishing i s →
          t = { s with lp := t.lp, lm := t.lm, si := t.si, lsv := t.lsv }
            ∧ OnlyBook i s t ∧ LineFollowed s t ∧ Monitored s.lm.work s t) := by
  obtain ⟨t, taken, answered, followed, watched, left⟩ := exec_bookCancel_past served tag found book opened collecting
  obtain ⟨c, after, fault, _⟩ := raiseFault_book (s := admitted s) .cancelled book
  have rested : Alike ((admitted s).raiseFault i .cancelled) t := (testRest_settled _).alike.of_link left
  have alike : NotFinishing i s → Alike ((admitted s).putBook i (faulted .cancelled b)) t := fun apart =>
    (raiseFault_put (.refl (admitted s)) book .cancelled apart).trans rested
  refine ⟨t, taken, answered, ⟨c, (rested.book i).trans after, fault, fun apart => ?_⟩, fun apart => ?_⟩
  · have same := ((alike apart).book i).trans (book_putBook_same _ _ _)
    rw [rested.book, after] at same
    exact Option.some.inj same
  · have a := alike apart
    refine ⟨?_, ⟨?_, fun j other => (a.book j).trans (book_putBook_ne other _ _)⟩, followed, watched_monitored watched a.2⟩
    · rw [a.si]
      exact a.1
    · rw [a.si]
      rfl

theorem bookCancel_collecting (stage : b.stage = .collecting) (bound : FinishBookBound s) :
    ∃ t, exec (.bookCancel tag id) s = .next t ∧ AnsweredLast tag 0x03 .done [] s t
      ∧ CollectionEnded i (faulted .cancelled b) s t ∧ (∀ j, j ≠ i → t.book j = s.book j)
      ∧ CollectionMoved s t ∧ t.tcu = s.tcu
      ∧ Monitored (endWork i b s.lm.work s) s t ∧ LineFollowed s t := by
  obtain ⟨t, taken, answered, followed, watched, left⟩ := exec_bookCancel served tag found book
  have cancels : (admitted s).cancelBook i b = ((admitted s).raiseFault i .cancelled).endCollection i := by
    rw [State.cancelBook, stage]
  rw [cancels] at left
  have ended := (faultAndEnd_over (.refl (admitted s)) .cancelled book (.inl stage)
    (apart_of_taking bound book (.inr stage))).reported ((testRest_settled _).alike.of_link left)
  exact ⟨t, taken, answered, ended.ended, ended.others, CollectionMoved.trans (t := admitted s) rfl ended.moved, ended.tcu,
    watched_monitored watched ended.work, followed⟩

end

/-- Settles O11. -/
theorem bookCancelByStage : Obligations.BookCancelByStage := by
  intro s tag id served
  refine ⟨fun unknown => take_refused served ?_, fun i b found book =>
    ⟨fun stage => bookCancel_opened served tag found book stage,
      fun opened collecting => bookCancel_past served tag found book opened collecting,
      fun stage bound => bookCancel_collecting served tag found book stage bound⟩⟩
  rw [State.bookCancel, show (admitted s).findBook id = none from unknown]

end Sys2Proof.Machine

/-! The out request answered by the Finish Unit (R86, R136, R137). -/

namespace Sys2Proof.Machine

open Sys2Proof Sys2Proof.Safety

set_option Elab.async false

section

variable {s : State} (awake : Awake s) {b : Bed} (bed : s.ss.bed = some b) (standing : b.outRequest = true)
  (open_ : b.accepted = false) (idle : s.order .bedShuttle = none)

include awake bed standing open_ idle

theorem exec_outRequest : exec .outRequest s = .next (s.answerOutRequest b).testRest := by
  refine (takeEvent_awake awake).trans (congrArg _ ?_)
  have stands : s.outRequestStands = true := by simp [State.outRequestStands, bed, standing, open_, idle]
  rw [State.outRequest, bed]
  exact if_pos stands

/-- An answer that only moves records is followed by the test for rest. -/
theorem outRequest_answered {v : State} (answered : s.answerOutRequest b = v) :
    ∃ t, exec .outRequest s = .next t ∧ t = { v with lp := t.lp, lm := t.lm, lsv := t.lsv } ∧ Reported v t ∧ LineMoved v t := by
  obtain ⟨frame, reported, moved⟩ := testRest_settled v
  rw [← answered] at frame reported moved ⊢
  exact ⟨_, exec_outRequest awake bed standing open_ idle, frame, reported, moved⟩

end

/-- A gather book that is to be found incomplete (R136 case 4, R137). -/
theorem answerOutRequest_of_incomplete {s : State} {b : Bed} {g : Gather} {x : Book} (gather : s.fu.gather = some g)
    (other : g.book ≠ b.lift.slot) (incomplete : s.complete g.book = false) (fresh : g.incomplete = false)
    (book : s.book g.book = some x) (stage : x.stage = .collecting ∨ x.stage = .collected) :
    s.answerOutRequest b = (s.setBed (some b.wait)).findIncomplete g := by
  have open_ : (s.gatherSettled g.book || g.incomplete) = false := by
    rcases stage with h | h <;> simp [State.gatherSettled, incomplete, book, h, fresh]
  rw [State.answerOutRequest, gather]
  exact (if_neg other).trans (if_neg (by rw [open_]; decide))

theorem answerOutRequest_of_settled {s : State} {b : Bed} {g : Gather} (gather : s.fu.gather = some g)
    (other : g.book ≠ b.lift.slot) (settled : s.complete g.book = true ∨ g.incomplete = true
      ∨ ∃ x, s.book g.book = some x ∧ (x.stage = .gathered ∨ x.stage = .finishing ∨ x.stage = .leaving)) :
    s.answerOutRequest b = s.setBed (some b.wait) := by
  have waits : (s.gatherSettled g.book || g.incomplete) = true := by
    rcases settled with h | h | ⟨x, book, h | h | h⟩
    · simp [State.gatherSettled, h]
    · simp [h]
    all_goals simp [State.gatherSettled, book, h]
  rw [State.answerOutRequest, gather]
  exact (if_neg other).trans (if_pos waits)

/-- The gather book is found incomplete, and its collection ends. -/
theorem findIncomplete_over {s : State} {g : Gather} {x : Book} (book : s.book g.book = some x)
    (stage : x.stage = .collecting ∨ x.stage = .collected) (apart : NotFinishing g.book s) :
    CollectionOver g.book { faulted .incomplete x with stage := .collected }
      { s with fu := { s.fu with gather := some { g with incomplete := true } } } (s.findIncomplete g) := by
  generalize marked : ({ s with fu := { s.fu with gather := some { g with incomplete := true } } } : State) = w
  have there : w.book g.book = some x := by rw [← marked]; exact book
  have free : NotFinishing g.book w := by rw [← marked]; exact apart
  have found : s.findIncomplete g =
      (((w.raiseFault g.book .incomplete).modifyBook g.book (Book.advance .collecting .collected)).endCollection
        g.book).testComplete g.book := by
    rw [← marked]
    rfl
  have raised := raiseFault_put (.refl w) there .incomplete free
  have ended := modifyBook_put raised (i := g.book) (book_putBook_same _ _ _) (Book.advance .collecting .collected)
  rw [advance_collected (k := faulted .incomplete x) stage, putBook_putBook] at ended
  have collected := CollectionOver.of_putBook
    (endCollection_over ended (i := g.book) (book_putBook_same _ _ _) (.inr rfl) free)
  have still : ∀ y : State, y.complete g.book = false → y.testComplete g.book = y := fun y tested =>
    if_neg (by rw [tested]; decide)
  rw [found, still _ collected.tested]
  exact collected

/-- Settles O31: the answers of R136, case by case. -/
theorem outRequestAnswered : Obligations.OutRequestAnswered := by
  intro s b awake bed standing open_ idle
  refine ⟨fun gather => ?_, fun g gather => ⟨fun same => ?_, fun other settled => ?_,
    fun other incomplete fresh bound x book stage w w_eq => ?_⟩⟩
  · exact outRequest_answered awake bed standing open_ idle (by rw [State.answerOutRequest, gather])
  · exact outRequest_answered awake bed standing open_ idle (v := s.setBed (some b.accept)) (by
      rw [State.answerOutRequest, gather]
      exact if_pos same)
  · exact outRequest_answered awake bed standing open_ idle (answerOutRequest_of_settled gather other settled)
  · have apart : NotFinishing g.book s := by
      intro f finish here
      obtain ⟨k, there, stage'⟩ := bound f finish
      rw [here, book] at there
      obtain rfl := Option.some.inj there
      rcases stage with h | h <;> rw [h] at stage' <;> rcases stage' with e | e <;> cases e
    have act := answerOutRequest_of_incomplete gather other incomplete fresh book stage
    have taken := exec_outRequest awake bed standing open_ idle
    have m : Moves s (s.answerOutRequest b).testRest := (moves_answerOutRequest b s).trans (moves_testRest _)
    have ended := (findIncomplete_over (s := s.setBed (some b.wait)) book stage apart).reported (testRest_settled _).alike
    rw [← act] at ended
    subst w_eq
    exact ⟨_, taken, ended.moved, ended.tcu, ended.ended, ended.others, watched_monitored m.watched ended.work, m.noticed,
      m.followed⟩

end Sys2Proof.Machine

/-! The three transfers that the part orders by itself (R43, R68, R71, R86, R141). -/

namespace Sys2Proof.Machine

open Sys2Proof Sys2Proof.Safety

set_option Elab.async false

/-! ## A lift closes, whatever its book -/

theorem closeInto_lb (l : Lift) (k : Book) (s : State) :
    ∃ mode, (s.closeInto l k).lb = withLift (closedLift s.lb.nextNumber k.liftsClosed mode l) s.lb := by
  rw [closeInto_eq]
  dsimp only
  generalize e : (if l.short k = true then s.raiseFault l.slot .short else s) = r
  have lb : r.lb = s.lb := by
    rw [← e]
    split
    · exact State.raiseFault_lb _ _ _
    · rfl
  refine ⟨r.closingMode l.slot, ?_⟩
  rw [← append_joined, lb]
  change LiftBuilder.joined (if l.endsCollection = true then _ else _ : State).lb = _
  split
  · rw [State.collectionEnded_lb]
    exact congrArg (fun x => (LiftBuilder.append _ x).joined) lb
  · exact congrArg (fun x => (LiftBuilder.append _ x).joined) lb

theorem closeLift_of_book {s : State} {l : Lift} {k : Book} (opened : s.lb.openLift = some l) (book : s.book l.slot = some k)
    (room : s.lb.queue.length < 12) : s.closeLift = s.closeInto l k := by
  rw [State.closeLift, opened]
  dsimp only
  rw [if_pos room, book]

/-! ## The oldest lift leaves the Lift Queue -/

/-- The part with the oldest lift taken from the Lift Queue to the bed, before the accumulator is looked at. -/
def State.oldestTaken (l : Lift) (rest : List Lift) (s : State) : State :=
  State.liftLeft (State.setBed (some (Bed.inTransit l)) { s with lb := { s.lb with queue := rest } })

theorem oldestTaken_eq (l : Lift) (rest : List Lift) (s : State) : s.oldestTaken l rest = { s with
    lp := (s.oldestTaken l rest).lp, lm := (s.oldestTaken l rest).lm
    ss := { s.ss with bed := some (Bed.inTransit l) }
    lb := { s.lb with queue := rest, pauseSource := s.lb.pauseSource && !decide (rest.length = 6) } } := rfl

theorem takeOldestLift_eq {s : State} {l : Lift} {rest : List Lift} (queue : s.lb.queue = l :: rest) :
    s.takeOldestLift = if s.overrunHeld = true then (s.oldestTaken l rest).closeLift else s.oldestTaken l rest := by
  rw [State.takeOldestLift, queue]
  rfl

section

variable {s : State} (awake : Awake s) {l : Lift} {rest : List Lift} (queue : s.lb.queue = l :: rest) (bed : s.ss.bed = none)
  (running : s.lsv.lineState = .running) (hold : (s.ch 0).mode = .hold)

include awake queue bed running hold

theorem exec_bedTransferOrder : exec .bedTransferOrder s = .next (s.takeOldestLift.makeOrder .bedTransfer) := by
  refine (takeEvent_awake awake).trans (congrArg _ (if_pos ?_))
  simp [State.bedTransferDue, bed, queue, running, hold]

theorem bedTransfer_plain (free : ∀ x, s.lb.openLift = some x → x.overrunHold = false) :
    ∃ t, exec .bedTransferOrder s = .next t
      ∧ t = { s with
          lp := t.lp, lm := t.lm, orders := t.orders
          ss := { s.ss with bed := t.ss.bed }
          lb := { s.lb with queue := rest, pauseSource := s.lb.pauseSource && !decide (rest.length = 6) } }
      ∧ t.ss.bed = some (Bed.inTransit l)
      ∧ t.order .bedShuttle = some (orderMade .bedTransfer s) ∧ OnlyOrder .bedShuttle s t
      ∧ Reported s t := by
  have unheld : ¬s.overrunHeld = true := by
    rw [State.overrunHeld, Option.any_eq_true]
    rintro ⟨x, opened, held⟩
    exact absurd ((free x opened).symm.trans held) (by decide)
  have taken := exec_bedTransferOrder awake queue bed running hold
  have moves : Moves s (s.takeOldestLift.makeOrder .bedTransfer) := (moves_takeOldestLift s).trans (moves_makeOrder _ _)
  have left : s.takeOldestLift = s.oldestTaken l rest := (takeOldestLift_eq queue).trans (if_neg unheld)
  rw [left] at taken moves
  refine ⟨_, taken, rfl, rfl, order_makeOrder_same .bedTransfer _, fun x other => ?_, moves.reported ?_⟩
  · exact order_makeOrder_ne (j := .bedTransfer) other _
  · exact syncPause_work _

/-- A lift held over closes into the place that has come free. -/
theorem bedTransfer_releasing {x : Lift} (opened : s.lb.openLift = some x) (held : x.overrunHold = true)
    (book : s.book x.slot ≠ none) (room : rest.length < 12) :
    ∃ t, exec .bedTransferOrder s = .next t
      ∧ t.ss.bed = some (Bed.inTransit l) ∧ t.lb.openLift = none
      ∧ t = { s with
          lp := t.lp, lm := t.lm, lsv := t.lsv, orders := t.orders, si := t.si, lb := t.lb
          ss := { s.ss with bed := t.ss.bed }, ts := t.ts, fu := t.fu }
      ∧ t.lb.queue.length = rest.length + 1 ∧ t.lb.queue.take rest.length = rest
      ∧ ∃ c, t.lb.queue.getLast? = some c ∧ c.slot = x.slot
          ∧ c.sheets = x.sheets ∧ c.state = some .queued ∧ c.overrunHold = false
          ∧ c.number = some s.lb.nextNumber := by
  obtain ⟨k, book⟩ := Option.ne_none_iff_exists'.1 book
  have whole := oldestTaken_eq l rest s
  have closes : s.takeOldestLift = (s.oldestTaken l rest).closeInto x k :=
    (takeOldestLift_eq queue).trans ((if_pos (by simp [State.overrunHeld, opened, held])).trans
      (closeLift_of_book opened book room))
  obtain ⟨mode, lb⟩ := closeInto_lb x k (s.oldestTaken l rest)
  have taken := exec_bedTransferOrder awake queue bed running hold
  rw [closes] at taken
  generalize s.oldestTaken l rest = v at taken lb whole
  have queued : v.lb.queue = rest := by rw [whole]
  have number : v.lb.nextNumber = s.lb.nextNumber := by rw [whole]
  refine ⟨_, taken, ?_, ?_, ?_, ?_, ?_, closedLift s.lb.nextNumber k.liftsClosed mode x, ?_, rfl, rfl, rfl, rfl, rfl⟩
  · rw [State.makeOrder_ss, State.closeInto_ss, whole]
  · rw [State.makeOrder_lb, lb]
    rfl
  · apply State.eq_of_fields <;> simp only [State.makeOrder_pending, State.makeOrder_time, State.makeOrder_encoder,
      State.makeOrder_travelOwed, State.makeOrder_free, State.makeOrder_inputs, State.makeOrder_resetAsserted,
      State.makeOrder_ss, State.makeOrder_pc, State.makeOrder_tcu, State.closeInto_pending, State.closeInto_time,
      State.closeInto_encoder, State.closeInto_travelOwed, State.closeInto_free, State.closeInto_inputs,
      State.closeInto_resetAsserted, State.closeInto_ss, State.closeInto_pc, State.closeInto_tcu]
    all_goals rw [whole]
  · rw [State.makeOrder_lb, lb]
    change (v.lb.queue ++ [_]).length = _
    rw [queued, List.length_append]
    rfl
  · rw [State.makeOrder_lb, lb]
    change (v.lb.queue ++ [_]).take _ = _
    rw [queued]
    exact List.take_left
  · rw [State.makeOrder_lb, lb, ← number]
    exact List.getLast?_concat

end

/-- Settles O27. -/
theorem transfersOrdered : Obligations.TransfersOrdered := by
  intro s awake
  refine ⟨fun l rest queue bed running hold => ⟨fun free => bedTransfer_plain awake queue bed running hold free,
    fun x opened held book room => bedTransfer_releasing awake queue bed running hold opened held book room⟩,
    fun b bed accepted idle running => ?_, fun g gather b book stage free running => ?_⟩
  · refine (takeEvent_awake awake).trans (congrArg _ ((if_pos ?_).trans rfl))
    simp [State.outTransferDue, bed, accepted, idle, running]
  · have due : s.finishTransferDue = true := by
      simp [State.finishTransferDue, gather, book, stage, free, running]
    have act : s.orderFinishTransfer = s.transferBook g.book := by
      rw [State.orderFinishTransfer, gather]
      exact if_pos due
    have leaves : (s.book g.book).map (Book.advance .gathered .finishing) = some { b with stage := .finishing } := by
      rw [book]
      exact congrArg some (if_pos stage)
    refine (takeEvent_awake awake).trans (congrArg _ (act.trans ?_))
    rw [← leaves]
    rfl

end Sys2Proof.Machine

/-! What an infeed edge does to the notice it matches, to the gate and to the streaks (R13 to R19). -/

namespace Sys2Proof.Machine

open Sys2Proof Sys2Proof.Safety

set_option Elab.async false

/-! ## The oldest notice leaves -/

theorem leave_eq (rest : List Notice) (x : SheetIntake) : x.leave rest = withoutOldest rest x := rfl

/-- The part with the oldest notice gone and the streaks at an event, beside reports. -/
def State.noticeGone (rest : List Notice) (e : StreakEvent) (s : State) : State :=
  { s with si := (withoutOldest rest s.si).streak e s.ts.settings }

theorem updateRegistration_settled (e : StreakEvent) (s : State) :
    Settled { s with si := s.si.streak e s.ts.settings } (s.updateRegistration e) :=
  reportLevel_settled _ _ { s with si := s.si.streak e s.ts.settings }

theorem updateRegistration_alike {v t : State} (a : Alike v t) (e : StreakEvent) :
    Alike { v with si := v.si.streak e v.ts.settings } (t.updateRegistration e) :=
  (a.apply (g := fun x => { x with si := x.si.streak e x.ts.settings }) fun _ _ _ _ => rfl).trans
    (updateRegistration_settled e t).alike

theorem leaveNotice_alike (rest : List Notice) (s : State) :
    Alike { s with si := withoutOldest rest s.si } (s.leaveNotice rest) :=
  (reportLevel_settled .pause _ { s with si := s.si.leave rest }).alike

theorem leaveNotice_matching (rest : List Notice) (s : State) :
    Alike (s.noticeGone rest .matching) ((s.leaveNotice rest).updateRegistration .matching) :=
  updateRegistration_alike (leaveNotice_alike rest s) .matching

theorem moves_matching {rest : List Notice} {s : State} (fewer : rest.length ≤ s.si.notices.length) :
    Moves s ((s.leaveNotice rest).updateRegistration .matching) :=
  (moves_leaveNotice fewer).trans (moves_updateRegistration .matching _)

/-- Streaks leave the queue, the travel and the window. -/
theorem streak_kept (e : StreakEvent) (set : LineSettings) (x : SheetIntake) :
    x.streak e set = { x with
      unmatched := (x.streak e set).unmatched, matched := (x.streak e set).matched
      registration := (x.streak e set).registration } := by
  unfold SheetIntake.streak
  cases e <;> dsimp only <;> split <;> split <;> rfl

/-! ## The gate (R16) -/

/-- A sheet has been diverted, beside reports. -/
def State.sheetDiverted (v : State) : State := (v.strobed 7).tallied .sheetsDiverted

section

variable {s v t : State} (m : Moves s t) (a : Alike v t) (lsv : v.lsv = s.lsv)

include m a lsv

theorem triggerStrobe_of_moves (i : ChannelId) : Alike (v.strobed i) (t.triggerStrobe i) := by
  refine triggerStrobe_alike a ?_ ?_ i
  · rw [lsv]
    exact (congrArg LineSupervisor.mode m.followed.1 :)
  · rw [lsv]
    exact m.stopped_iff

theorem divertSheet_alike : Alike v.sheetDiverted t.divertSheet := count_alike (triggerStrobe_of_moves m a lsv 7) _

end

/-- A trigger that finds one pending is TRIGGER_OVERRUN, and its latch stays (R121). -/
theorem triggerOverrun_latched {i : ChannelId} {s t : State} (after : Moves (s.triggerStrobe i) t)
    (hears : s.channelHears i = true) (lost : (s.ch i).triggerLost = true) : t.lm.latches.getLsbD 10 = true := by
  refine after.latchKept (n := 10) ?_
  have occurs : s.triggerStrobe i = s.occur .triggerOverrun := (if_pos hears).trans (if_pos lost)
  rw [occurs]
  change (s.lm.latch .triggerOverrun).latches.getLsbD 10 = true
  rw [getLsbD_latch]
  simp [Condition.number]

/-! ## The new oldest notice (R17, R18) -/

theorem expired_iff (n : Notice) (s : State) : s.expired n = true ↔ s.si.window < (s.si.travel - n.arrival).toNat :=
  decide_eq_true_iff

theorem expireUpTo_of_fresh {s : State} (fresh : HeadFresh s.si.notices s) (k : Nat) : s.expireUpTo k = s := by
  cases k with
  | zero => rfl
  | succ k =>
    rw [State.expireUpTo]
    split
    · rfl
    · next n rest notices =>
      have young := fresh n (by rw [notices]; rfl)
      exact if_neg fun old => absurd ((expired_iff n s).1 old) (Nat.not_lt.2 young)

theorem testExpiry_of_fresh {s : State} (fresh : HeadFresh s.si.notices s) : s.testExpiry = s := expireUpTo_of_fresh fresh _

/-- Freshness looks at the travel and the window alone. -/
theorem HeadFresh.congr {rest : List Notice} {s t : State} (fresh : HeadFresh rest s) (travel : t.si.travel = s.si.travel)
    (window : t.si.window = s.si.window) : HeadFresh rest t := by
  unfold HeadFresh at fresh ⊢
  rw [travel, window]
  exact fresh

/-- A book that leaves takes no notice from the queue. -/
theorem HeadFresh.without {rest : List Notice} {s : State} (fresh : HeadFresh rest s) (i : Slot) :
    HeadFresh (noticesWithout i rest) s := by
  intro m head
  rw [noticesWithout, List.head?_map, Option.map_eq_some_iff] at head
  obtain ⟨n, head, rfl⟩ := head
  have young := fresh n head
  split <;> exact young

theorem noticeGone_fresh {rest : List Notice} {s : State} (fresh : HeadFresh rest s) (e : StreakEvent) :
    HeadFresh rest (s.noticeGone rest e) := by
  refine HeadFresh.congr fresh ?_ ?_
  · rw [State.noticeGone, streak_kept]
    rfl
  · rw [State.noticeGone, streak_kept]
    rfl

theorem noticeGone_notices (rest : List Notice) (e : StreakEvent) (s : State) :
    (s.noticeGone rest e).si.notices = rest := by
  rw [State.noticeGone, streak_kept]
  rfl

theorem noticeGone_book (rest : List Notice) (e : StreakEvent) (i : Slot) (s : State) :
    (s.noticeGone rest e).book i = s.book i := by
  change Bank.read ((withoutOldest rest s.si).streak e s.ts.settings).books i = _
  rw [streak_kept]
  rfl

/-! ## The edge -/

theorem exec_infeedEdge {s : State} (awake : Awake s) : exec .infeedEdge s = .next s.infeedEdge.testRest := by
  change takeEvent (fun s => s.infeedEdge.testRest) s = _
  rw [takeEvent_awake awake]

theorem infeedEdge_of_none {s : State} (none : s.si.notices = []) : s.infeedEdge = s.unannounced := by
  rw [State.infeedEdge, none]

theorem infeedEdge_of_notice {s : State} {n : Notice} {rest : List Notice} (notices : s.si.notices = n :: rest) :
    s.infeedEdge = (s.matchNotice n rest).testExpiry := by
  rw [State.infeedEdge, notices]

/-- An edge whose match leaves a fresh oldest notice, carried to its answer: the pure state `v`, the updates and the
reports. -/
theorem exec_infeedEdge_fresh {s v : State} {n : Notice} {rest : List Notice} (awake : Awake s)
    (notices : s.si.notices = n :: rest) (a : Alike v (s.matchNotice n rest)) (fresh : HeadFresh v.si.notices v) :
    ∃ t, exec .infeedEdge s = .next t ∧ Alike v t ∧ Moves s t ∧ Moves (s.matchNotice n rest) t
      ∧ t.lsv.record = (s.matchNotice n rest).lsv.record := by
  have still : (s.matchNotice n rest).testExpiry = s.matchNotice n rest := testExpiry_of_fresh (by
    rw [a.si]
    exact HeadFresh.congr fresh (by rw [a.si]) (by rw [a.si]))
  have rests := testRest_settled (s.matchNotice n rest)
  refine ⟨_, exec_infeedEdge awake, ?_, ?_, ?_, ?_⟩
  all_goals rw [infeedEdge_of_notice notices, still]
  · exact a.trans rests.alike
  · exact (moves_matchNotice (by rw [notices]; exact Nat.le_succ _)).trans (moves_testRest _)
  · exact moves_testRest _
  · exact rests.record

end Sys2Proof.Machine

/-! Infeed edges whose sheet is diverted (R13 to R16, R19, R36, R121). -/

namespace Sys2Proof.Machine

open Sys2Proof Sys2Proof.Safety

set_option Elab.async false

/-! ## No notice, or a divert entry -/

section

variable {s : State} (awake : Awake s)

include awake

theorem infeedEdge_unannounced (none : s.si.notices = []) :
    ∃ t, exec .infeedEdge s = .next t
      ∧ t = { s with
          lp := t.lp, lm := t.lm, lsv := t.lsv, tcu := Bank.write s.tcu 7 (triggered 7 s)
          si := s.si.streak .unannounced s.ts.settings }
      ∧ Monitored (counted .unannounced s) s t ∧ Noticed s t ∧ LineMoved s t
      ∧ (s.channelHears 7 = true → (s.ch 7).triggerLost = true → t.lm.latches.getLsbD 10 = true) := by
  have gate := triggerStrobe_of_moves (.refl s) (.refl s) rfl 7
  have a := (updateRegistration_alike (count_alike gate .unannounced) .unannounced).trans (testRest_settled _).alike
  have after : Moves (s.triggerStrobe 7) s.unannounced.testRest :=
    ((Move.count _ _).moves.trans (moves_updateRegistration _ _)).trans (moves_testRest _)
  have m := (moves_triggerStrobe 7 s).trans after
  have record : s.unannounced.testRest.lsv.record = s.lsv.record := by
    refine (testRest_settled s.unannounced).record.trans ?_
    change (s.triggerStrobe 7).lsv.record = _
    rw [State.triggerStrobe_lsv]
  refine ⟨_, (exec_infeedEdge awake).trans (by rw [infeedEdge_of_none none]; rfl), a.1, watched_monitored m.watched a.2,
    m.noticed, lineFollowed_moved m.followed record, triggerOverrun_latched after⟩

variable {n : Notice} {rest : List Notice} (notices : s.si.notices = n :: rest)

include notices

theorem infeedEdge_divertEntry (slot : n.slot = none) (fresh : HeadFresh rest s) :
    ∃ t, exec .infeedEdge s = .next t
      ∧ t = { s with
          lp := t.lp, lm := t.lm, lsv := t.lsv, tcu := Bank.write s.tcu 7 (triggered 7 s)
          si := (withoutOldest rest s.si).streak .matching s.ts.settings }
      ∧ Monitored (counted .sheetsDiverted s) s t ∧ Noticed s t ∧ LineMoved s t
      ∧ (s.channelHears 7 = true → (s.ch 7).triggerLost = true → t.lm.latches.getLsbD 10 = true) := by
  have divert : s.matchNotice n rest = ((s.leaveNotice rest).updateRegistration .matching).divertSheet := by
    rw [State.matchNotice, slot]
  have a := divertSheet_alike (moves_matching (by rw [notices]; exact Nat.le_succ _)) (leaveNotice_matching rest s) rfl
  rw [← divert] at a
  obtain ⟨t, taken, a, m, after, record⟩ := exec_infeedEdge_fresh awake notices a (by
    change HeadFresh (s.noticeGone rest .matching).si.notices (s.noticeGone rest .matching)
    rw [noticeGone_notices]
    exact noticeGone_fresh fresh _)
  refine ⟨t, taken, a.1, watched_monitored m.watched a.2, m.noticed, lineFollowed_moved m.followed (record.trans ?_),
    fun hears lost => ?_⟩
  · rw [divert]
    change (State.triggerStrobe 7 _).lsv.record = _
    rw [State.triggerStrobe_lsv]
    rfl
  · rw [divert] at after
    exact triggerOverrun_latched (s := (s.leaveNotice rest).updateRegistration .matching)
      ((Move.count _ _).moves.trans after) hears lost

end

/-! ## A notice of a book -/

/-- The end of a collection leaves a fresh oldest notice fresh. -/
theorem collection_fresh {i : Slot} {k : Book} {s t : State} (ended : CollectionEnded i k s t) (moved : CollectionMoved s t)
    (fresh : HeadFresh s.si.notices s) : HeadFresh t.si.notices t := by
  obtain ⟨_, _, empty, rest⟩ := ended
  have si : t.si = { s.si with books := t.si.books, notices := t.si.notices } := (congrArg State.si moved :)
  have kept : ∀ l, HeadFresh l s → HeadFresh l t := fun l fresh =>
    HeadFresh.congr fresh (by rw [si]) (by rw [si])
  cases e : endsEmpty i k s with
  | true =>
    obtain ⟨_, _, _, _, notices, _⟩ := empty e
    rw [notices]
    exact kept _ (HeadFresh.without fresh i)
  | false =>
    rw [(rest e).1]
    exact kept _ fresh

section

variable {s : State} {n : Notice} {rest : List Notice} {i : Slot} {b : Book} (awake : Awake s)
  (notices : s.si.notices = n :: rest) (slot : n.slot = some i) (fresh : HeadFresh rest s) (book : s.book i = some b)

include slot in
theorem matchNotice_of_slot : s.matchNotice n rest =
    ((s.leaveNotice rest).updateRegistration .matching).disposeSheet i n := by
  rw [State.matchNotice, slot]

include fresh in
theorem noticeGone_headFresh : HeadFresh (s.noticeGone rest .matching).si.notices (s.noticeGone rest .matching) := by
  rw [noticeGone_notices]
  exact noticeGone_fresh fresh _

include book in
theorem takesSheets_after (rest : List Notice) :
    (((s.leaveNotice rest).updateRegistration .matching).book i).any Book.takesSheets = b.takesSheets := by
  rw [(leaveNotice_matching rest s).book, noticeGone_book, book]
  rfl

include awake notices slot fresh book

theorem infeedEdge_closedBook (opened : b.stage ≠ .opened) (collecting : b.stage ≠ .collecting) :
    ∃ t, exec .infeedEdge s = .next t
      ∧ t = { s.noticeGone rest .matching with lp := t.lp, lm := t.lm, lsv := t.lsv, tcu := t.tcu }
      ∧ SheetDiverted s t ∧ LineMoved s t := by
  have divert : s.matchNotice n rest = ((s.leaveNotice rest).updateRegistration .matching).divertSheet := by
    rw [matchNotice_of_slot slot]
    refine if_neg ?_
    rw [takesSheets_after book, takesSheets_iff]
    exact fun takes => takes.elim opened collecting
  have a := divertSheet_alike (moves_matching (by rw [notices]; exact Nat.le_succ _)) (leaveNotice_matching rest s) rfl
  rw [← divert] at a
  obtain ⟨t, taken, a, m, after, record⟩ := exec_infeedEdge_fresh awake notices a (noticeGone_headFresh fresh)
  refine ⟨t, taken, ?_, ⟨a.tcu, watched_monitored m.watched a.2, m.noticed, m.followed⟩,
    lineFollowed_moved m.followed (record.trans ?_)⟩
  · rw [a.tcu]
    exact a.1
  · rw [divert]
    change (State.triggerStrobe 7 _).lsv.record = _
    rw [State.triggerStrobe_lsv]
    rfl

variable (bound : FinishBookBound s) (stage : b.stage = .collecting)
  (lost : (s.noticeGone rest .matching).si.registration = .lost) (loss : s.ts.settings.lossAction = .divert)

omit awake notices fresh in
include stage lost loss in
theorem matchNotice_of_lost : s.matchNotice n rest =
    ((s.leaveNotice rest).updateRegistration .matching).registrationDivert i n.last := by
  rw [matchNotice_of_slot slot]
  have a := leaveNotice_matching rest s
  have diverts : ((s.leaveNotice rest).updateRegistration .matching).lossDiverts = true := by
    rw [State.lossDiverts, a.si, a.ts, lost, show (s.noticeGone rest .matching).ts = s.ts from rfl, loss]
    rfl
  refine (if_pos ?_).trans (if_pos diverts)
  rw [takesSheets_after book, takesSheets_iff]
  exact .inr stage

include bound stage

omit awake slot fresh in
/-- The sheet diverted and its book faulted, before any end of its collection. -/
theorem registration_alike : Alike (((s.noticeGone rest .matching).putBook i (faulted .registration b)).sheetDiverted)
    ((((s.leaveNotice rest).updateRegistration .matching).raiseFault i .registration).divertSheet) := by
  have there : (s.noticeGone rest .matching).book i = some b := (noticeGone_book ..).trans book
  have apart : NotFinishing i s := apart_of_taking bound book (.inr stage)
  exact divertSheet_alike ((moves_matching (by rw [notices]; exact Nat.le_succ _)).trans (moves_raiseFault _ _ _))
    (raiseFault_put (leaveNotice_matching rest s) there .registration apart) rfl

include lost loss

theorem infeedEdge_lost (last : n.last = false) :
    ∃ t, exec .infeedEdge s = .next t
      ∧ t = { s.noticeGone rest .matching with
          lp := t.lp, lm := t.lm, lsv := t.lsv, tcu := t.tcu
          si := { (s.noticeGone rest .matching).si with books := t.si.books } }
      ∧ t.book i = some (faulted .registration b) ∧ (∀ j, j ≠ i → t.book j = s.book j)
      ∧ SheetDiverted s t := by
  have a := registration_alike notices book bound stage
  have divert := matchNotice_of_lost slot book stage lost loss
  rw [last] at divert
  rw [show ((s.leaveNotice rest).updateRegistration .matching).registrationDivert i false =
    (((s.leaveNotice rest).updateRegistration .matching).raiseFault i .registration).divertSheet from rfl] at divert
  rw [← divert] at a
  obtain ⟨t, taken, a, m, _, _⟩ := exec_infeedEdge_fresh awake notices a (noticeGone_headFresh fresh)
  refine ⟨t, taken, ?_, (a.book i).trans (book_putBook_same _ _ _), fun j other => ?_,
    a.tcu, watched_monitored m.watched a.2, m.noticed, m.followed⟩
  · rw [a.tcu, a.si]
    exact a.1
  · exact (a.book j).trans ((book_putBook_ne other _ _).trans (noticeGone_book ..))

theorem infeedEdge_lost_last (last : n.last = true) :
    ∃ t, exec .infeedEdge s = .next t ∧ CollectionMoved (s.noticeGone rest .matching) t
      ∧ CollectionEnded i (faulted .registration b) (s.noticeGone rest .matching) t ∧ (∀ j, j ≠ i → t.book j = s.book j)
      ∧ t.tcu = Bank.write s.tcu 7 (triggered 7 s)
      ∧ Monitored (endWork i b (counted .sheetsDiverted s) s) s t ∧ Noticed s t ∧ LineFollowed s t := by
  have a := registration_alike notices book bound stage
  have divert := matchNotice_of_lost slot book stage lost loss
  rw [last] at divert
  rw [show ((s.leaveNotice rest).updateRegistration .matching).registrationDivert i true =
    ((((s.leaveNotice rest).updateRegistration .matching).raiseFault i .registration).divertSheet).endCollection i
      from rfl] at divert
  have apart : NotFinishing i s := apart_of_taking bound book (.inr stage)
  have ended := endCollection_over a (i := i) (book_putBook_same _ _ _) (.inl stage) apart
  rw [← divert] at ended
  obtain ⟨t, taken, a, m, _, _⟩ := exec_infeedEdge_fresh awake notices (.refl _)
    (collection_fresh ended.ended ended.moved (noticeGone_headFresh fresh))
  have done := ended.reported a
  exact ⟨t, taken, CollectionMoved.trans (t := ((s.noticeGone rest .matching).putBook i
      (faulted .registration b)).sheetDiverted) rfl done.moved, done.ended, fun j other =>
      (done.others j other).trans ((book_putBook_ne other _ _).trans (noticeGone_book ..)),
    done.tcu, watched_monitored m.watched done.work, m.noticed, m.followed⟩

end

/-- Settles O12. -/
theorem infeedEdgeDiverts : Obligations.InfeedEdgeDiverts := by
  refine ⟨fun s awake => ⟨fun none => infeedEdge_unannounced awake none, fun n rest notices slot fresh =>
    infeedEdge_divertEntry awake notices slot fresh⟩, ?_⟩
  rintro s n rest i b awake bound notices slot fresh book u rfl
  exact ⟨fun opened collecting => infeedEdge_closedBook awake notices slot fresh book opened collecting,
    fun stage lost loss => ⟨fun last => infeedEdge_lost awake notices slot fresh book bound stage lost loss last,
      fun last => infeedEdge_lost_last awake notices slot fresh book bound stage lost loss last⟩⟩

end Sys2Proof.Machine

/-! Sheets that the Lift Builder declines (R16, R28, R31, R36, R42). -/

namespace Sys2Proof.Machine

open Sys2Proof Sys2Proof.Safety

set_option Elab.async false

/-! ## A divert after the end of a collection -/

theorem triggered_congr {s t : State} (i : ChannelId) (tcu : t.tcu = s.tcu) (lsv : t.lsv = s.lsv) :
    triggered i t = triggered i s := by
  have ch : t.ch i = s.ch i := by rw [State.ch, tcu]; rfl
  have hears : t.channelHears i = s.channelHears i := by rw [State.channelHears, ch, lsv]; rfl
  have suppressed : t.suppressed i = s.suppressed i := by rw [State.suppressed, lsv]; rfl
  rw [triggered, triggered, hears, suppressed, ch]

/-- A collection has ended and a sheet has then been diverted. -/
structure EndedAndDiverted (i : Slot) (k : Book) (s w t : State) : Prop where
  ended : CollectionEnded i k w t
  others : ∀ j, j ≠ i → t.book j = w.book j
  moved : CollectionMoved w t
  tcu : t.tcu = Bank.write s.tcu 7 (triggered 7 s)
  work : t.lm.work = bumped .sheetsDiverted (endWork i k w.lm.work w)

/-- The end of a collection is read from books, notices, formats, lifts, the bed and the Finish Unit. -/
theorem collectionEnded_of_same {i : Slot} {k : Book} {w y t : State} (h : CollectionEnded i k w y) (si : t.si = y.si)
    (lb : t.lb = y.lb) (ts : t.ts = y.ts) (ss : t.ss = y.ss) (fu : t.fu = y.fu) : CollectionEnded i k w t := by
  have book : t.book i = y.book i := by rw [State.book, si]; rfl
  unfold CollectionEnded at h ⊢
  rw [book, si, lb, ts, ss, fu]
  exact h

theorem CollectionOver.diverted {i : Slot} {k : Book} {s w y : State} (h : CollectionOver i k w y) (m : Moves s y)
    (channels : w.tcu = s.tcu) : EndedAndDiverted i k s w y.divertSheet := by
  obtain ⟨ended, others, moved, tcu, work, _⟩ := h
  have a := divertSheet_alike (v := { y with lsv := s.lsv }) m ⟨rfl, rfl⟩ rfl
  refine ⟨collectionEnded_of_same ended a.si a.lb a.ts a.ss a.fu, fun j other => (a.book j).trans (others j other),
    collectionMoved_of_alike a (CollectionMoved.trans (t := y) moved rfl), a.tcu.trans ?_,
    a.2.trans (congrArg (bumped .sheetsDiverted) work)⟩
  have same : triggered 7 { y with lsv := s.lsv } = triggered 7 s := triggered_congr 7 (tcu.trans channels) rfl
  change Bank.write y.tcu 7 (triggered 7 { y with lsv := s.lsv }) = _
  rw [same, tcu, channels]

theorem EndedAndDiverted.reported {i : Slot} {k : Book} {s w u t : State} (h : EndedAndDiverted i k s w u) (a : Alike u t) :
    EndedAndDiverted i k s w t := by
  obtain ⟨ended, others, moved, tcu, work⟩ := h
  exact ⟨collectionEnded_of_same ended a.si a.lb a.ts a.ss a.fu, fun j other => (a.book j).trans (others j other),
    collectionMoved_of_alike a moved, a.tcu.trans tcu, a.2.trans work⟩

/-! ## A sheet handed to the Lift Builder -/

section

variable {s : State} {n : Notice} {rest : List Notice} {i : Slot} {b : Book} {f : Format}

/-- Registration diverts nothing where Loss Action is CONTINUE, or where it is MATCHED and stays so at a match. -/
theorem lossDiverts_of_kept (kept : s.ts.settings.lossAction = .continue
    ∨ (s.si.registration = .matched ∧ 1 ≤ s.ts.settings.declareCount)) :
    ((s.leaveNotice rest).updateRegistration .matching).lossDiverts = false := by
  have a := leaveNotice_matching rest s
  rw [State.lossDiverts, a.si, a.ts, show (s.noticeGone rest .matching).ts = s.ts from rfl, Bool.and_eq_false_iff,
    decide_eq_false_iff_not, decide_eq_false_iff_not]
  rcases kept with action | ⟨matched, count⟩
  · exact .inr (by rw [action]; decide)
  · refine .inl ?_
    change ¬((withoutOldest rest s.si).streak .matching s.ts.settings).registration = .lost
    have open_ : ¬s.ts.settings.declareCount ≤ 0 := by omega
    simp [SheetIntake.streak, withoutOldest, matched, open_]

theorem bookFormat_after (rest : List Notice) (i : Slot) (s : State) :
    ((s.leaveNotice rest).updateRegistration .matching).bookFormat i = s.bookFormat i := by
  rw [(leaveNotice_matching rest s).bookFormat, State.bookFormat, noticeGone_book]
  rfl

theorem matchNotice_of_kept (slot : n.slot = some i) (book : s.book i = some b) (stage : b.stage = .collecting)
    (kept : s.ts.settings.lossAction = .continue ∨ (s.si.registration = .matched ∧ 1 ≤ s.ts.settings.declareCount)) :
    s.matchNotice n rest = ((s.leaveNotice rest).updateRegistration .matching).handSheet (n.sheet i) := by
  rw [matchNotice_of_slot slot]
  refine (if_pos ?_).trans (if_neg (by rw [lossDiverts_of_kept kept]; decide))
  rw [takesSheets_after book, takesSheets_iff]
  exact .inr stage

theorem matchNotice_of_handed (handed : SheetHanded n rest i b f s) : s.matchNotice n rest =
    ((s.leaveNotice rest).updateRegistration .matching).handSheet (n.sheet i) := by
  obtain ⟨_, _, _, slot, _, book, stage, _, kept⟩ := handed
  exact matchNotice_of_kept slot book stage kept

theorem overrunHeld_iff (s : State) : s.overrunHeld = true ↔ ∃ l, s.lb.openLift = some l ∧ l.overrunHold = true := by
  rw [State.overrunHeld, Option.any_eq_true]

section

variable {v : State} {x : Sheet} (book : v.book x.slot = some b) (format : v.bookFormat x.slot = some f)

include book format

theorem placeSheet_of_held (held : v.overrunHeld = true) :
    v.placeSheet x = ((v.raiseFault x.slot .overrun).decline x, false) := by
  rw [State.placeSheet, book, format]
  exact if_pos held

variable (free : v.overrunHeld = false) (takes : b.takesSheets = true)

include free takes

theorem placeSheet_of_full (full : 64 ≤ b.placed) : v.placeSheet x = (v.decline x, false) := by
  rw [State.placeSheet, book, format]
  exact (if_neg (by rw [free]; decide)).trans ((if_neg (by rw [takes]; decide)).trans (if_pos full))

variable (room : b.placed < 64)

include room

theorem placeSheet_of_thick (thick : f.capacity < x.thickness) : v.placeSheet x = v.placeThick x f := by
  rw [State.placeSheet, book, format]
  exact (if_neg (by rw [free]; decide)).trans ((if_neg (by rw [takes]; decide)).trans
    ((if_neg (Nat.not_le.2 room)).trans (if_pos thick)))

theorem placeSheet_of_thin (thin : x.thickness ≤ f.capacity) : v.placeSheet x = v.placeThin x f := by
  rw [State.placeSheet, book, format]
  exact (if_neg (by rw [free]; decide)).trans ((if_neg (by rw [takes]; decide)).trans
    ((if_neg (Nat.not_le.2 room)).trans (if_neg (Nat.not_lt.2 thin))))

end

/-- A sheet declined, its book's fault raised before. -/
theorem handSheet_of_declined {v r : State} {x : Sheet} (placed : v.placeSheet x = (r.decline x, false)) :
    v.handSheet x = (r.decline x).divertSheet := by
  rw [State.handSheet, placed]
  rfl

section

variable (handed : SheetHanded n rest i b f s) {r w : State} {k : Book} (m : Moves s r) (a : Alike (w.putBook i k) r)
  (declines : s.matchNotice n rest = (r.decline (n.sheet i)).divertSheet) (lsv : w.lsv = s.lsv)
  (fresh : HeadFresh w.si.notices w)

include handed m a declines lsv fresh

theorem exec_infeedEdge_declined (last : n.last = false) :
    ∃ t, exec .infeedEdge s = .next t ∧ Alike ((w.putBook i k).sheetDiverted) t ∧ Moves s t := by
  obtain ⟨awake, _, notices, _⟩ := handed
  have stays : r.decline (n.sheet i) = r := if_neg (by change ¬n.last = true; rw [last]; decide)
  have diverts := divertSheet_alike m a lsv
  rw [stays] at declines
  rw [← declines] at diverts
  obtain ⟨t, taken, a, m, _, _⟩ := exec_infeedEdge_fresh awake notices diverts fresh
  exact ⟨t, taken, a, m⟩

omit lsv in
theorem exec_infeedEdge_declined_last (tcu : w.tcu = s.tcu) (stage : k.stage = .collecting) (apart : NotFinishing i w)
    (last : n.last = true) : ∃ t, exec .infeedEdge s = .next t ∧ EndedAndDiverted i k s w t ∧ Moves s t := by
  obtain ⟨awake, _, notices, _⟩ := handed
  have ends : r.decline (n.sheet i) = r.endCollection i := if_pos last
  have ended := CollectionOver.of_putBook (endCollection_over a (i := i) (book_putBook_same _ _ _) (.inl stage) apart)
  rw [ends] at declines
  have diverted := ended.diverted (s := s) (m.trans (moves_endCollection _ _)) tcu
  rw [← declines] at diverted
  obtain ⟨t, taken, a, m, _, _⟩ := exec_infeedEdge_fresh awake notices (.refl _)
    (collection_fresh diverted.ended diverted.moved fresh)
  exact ⟨t, taken, diverted.reported a, m⟩

end

/-- The three causes for which a sheet is declined. -/
theorem declined_of {cause : Option FaultCause} (handed : SheetHanded n rest i b f s)
    (reason : ((∃ l, s.lb.openLift = some l ∧ l.overrunHold = true) ∧ cause = some .overrun)
      ∨ ((∀ l, s.lb.openLift = some l → l.overrunHold = false) ∧ 64 ≤ b.placed ∧ cause = none)
      ∨ (s.lb.openLift = none ∧ b.placed < 64 ∧ n.thickness ≤ f.capacity ∧ 16 ≤ b.liftsClosed
        ∧ cause = some .tooManyLifts)) :
    ∃ r, Moves s r ∧ Alike ((s.noticeGone rest .matching).putBook i { b with fault := b.fault.or cause }) r
      ∧ s.matchNotice n rest = (r.decline (n.sheet i)).divertSheet := by
  have matched := matchNotice_of_handed handed
  obtain ⟨_, bound, notices, slot, _, book, stage, format, _⟩ := handed
  have apart : NotFinishing i s := apart_of_taking bound book (.inr stage)
  have a := leaveNotice_matching rest s
  have m : Moves s ((s.leaveNotice rest).updateRegistration .matching) :=
    moves_matching (by rw [notices]; exact Nat.le_succ _)
  have there : (s.noticeGone rest .matching).book i = some b := (noticeGone_book ..).trans book
  have bookAfter : ((s.leaveNotice rest).updateRegistration .matching).book i = some b := (a.book i).trans there
  have formatAfter := (bookFormat_after rest i s).trans format
  have takes : b.takesSheets = true := (takesSheets_iff b).2 (.inr stage)
  have lb : ((s.leaveNotice rest).updateRegistration .matching).lb = s.lb := a.lb
  generalize (s.leaveNotice rest).updateRegistration .matching = v at matched a m bookAfter formatAfter lb
  rcases reason with ⟨held, rfl⟩ | ⟨free, full, rfl⟩ | ⟨none, room, thin, lifts, rfl⟩
  · have over_ : v.overrunHeld = true := by rwa [overrunHeld_iff, lb]
    exact ⟨v.raiseFault i .overrun, m.trans (moves_raiseFault _ _ _), raiseFault_put a there .overrun apart,
      matched.trans (handSheet_of_declined (placeSheet_of_held (x := n.sheet i) bookAfter formatAfter over_))⟩
  · have over_ : v.overrunHeld = false := by
      rw [Bool.eq_false_iff, Ne, overrunHeld_iff, lb]
      rintro ⟨l, opened, held⟩
      exact absurd ((free l opened).symm.trans held) (by decide)
    refine ⟨v, m, ?_, matched.trans (handSheet_of_declined
      (placeSheet_of_full (x := n.sheet i) bookAfter formatAfter over_ takes full))⟩
    rw [Option.or_none]
    exact (putBook_self there).symm ▸ a
  · have over_ : v.overrunHeld = false := by
      rw [Bool.eq_false_iff, Ne, overrunHeld_iff, lb, none]
      rintro ⟨l, opened, _⟩
      cases opened
    have seventeenth : v.seventeenth i = true := by simp [State.seventeenth, lb, none, bookAfter, lifts]
    have declines : v.placeThin (n.sheet i) f = ((v.raiseFault i .tooManyLifts).decline (n.sheet i), false) := by
      have empty : (v.lb.openLift.any (Lift.mustClose (n.sheet i) f)) = false := by rw [lb, none]; rfl
      unfold State.placeThin
      dsimp only
      rw [empty, if_neg Bool.false_ne_true, if_neg (by rw [over_]; decide)]
      exact if_pos seventeenth
    exact ⟨v.raiseFault i .tooManyLifts, m.trans (moves_raiseFault _ _ _), raiseFault_put a there .tooManyLifts apart,
      matched.trans (handSheet_of_declined
        ((placeSheet_of_thin (x := n.sheet i) bookAfter formatAfter over_ takes room thin).trans declines))⟩

end

/-- Settles O13. -/
theorem sheetsDeclined : Obligations.SheetsDeclined := by
  rintro s n rest i b f cause handed reason u rfl
  obtain ⟨r, m, a, declines⟩ := declined_of handed reason
  have whole := handed
  obtain ⟨_, bound, _, _, fresh, book, stage, _⟩ := whole
  have still := noticeGone_headFresh fresh
  refine ⟨fun last => ?_, fun last => ?_⟩
  · obtain ⟨t, taken, a, m⟩ := exec_infeedEdge_declined handed m a declines rfl still last
    refine ⟨t, taken, ?_, (a.book i).trans (book_putBook_same _ _ _), fun j other => ?_, a.tcu,
      watched_monitored m.watched a.2, m.noticed, m.followed⟩
    · rw [a.tcu, a.si]
      exact a.1
    · exact (a.book j).trans ((book_putBook_ne other _ _).trans (noticeGone_book ..))
  · obtain ⟨t, taken, ⟨ended, others, moved, tcu, work⟩, m⟩ := exec_infeedEdge_declined_last handed m a declines still
      rfl stage (apart_of_taking (s := s) bound book (.inr stage)) last
    exact ⟨t, taken, moved, ended, fun j other => (others j other).trans (noticeGone_book ..), tcu,
      watched_monitored m.watched work, m.noticed, m.followed⟩

end Sys2Proof.Machine

/-! Sheets that join the lift at the accumulator (R27, R30 to R36, R41). -/

namespace Sys2Proof.Machine

open Sys2Proof Sys2Proof.Safety

set_option Elab.async false

/-! ## A sheet joins (R32) -/

/-- The Lift Builder as `lb`. -/
def State.builtAs (lb : LiftBuilder) (s : State) : State := { s with lb := lb }

/-- A book with one sheet more placed. -/
abbrev Book.withSheet (b : Book) : Book := { b with placed := b.placed + 1 }

/-- The part with the lift at the accumulator as `l`, book `k` in the slot and a sheet counted as placed. -/
def State.sheetJoined (i : Slot) (k : Book) (lb : LiftBuilder) (w : State) : State :=
  ((w.builtAs lb).putBook i k).tallied .sheetsPlaced

theorem first_eq (i : Slot) (n : Notice) (f : Format) : Lift.first (n.sheet i) f = newLift i n f := rfl

theorem joined_eq (i : Slot) (n : Notice) (f : Format) (s : State) :
    s.lb.openLift.elim (Lift.first (n.sheet i) f) (Lift.add (n.sheet i)) = grownLift i n f s := by
  unfold grownLift
  cases s.lb.openLift <;> rfl

theorem grownLift_congr {s t : State} (lb : t.lb = s.lb) (i : Slot) (n : Notice) (f : Format) :
    grownLift i n f t = grownLift i n f s := by
  rw [grownLift, lb]
  rfl

section

variable {w y : State} (a : Alike w y) {i : Slot} {b : Book} (n : Notice) (f : Format)

include a

theorem joinSheet_openLift : (y.joinSheet (n.sheet i) f).lb.openLift = some (grownLift i n f w) := by
  rw [← grownLift_congr a.lb, ← joined_eq]
  rfl

variable (book : w.book i = some b)

include book

theorem joinSheet_alike : Alike (w.sheetJoined i b.withSheet { w.lb with openLift := some (grownLift i n f w) })
    (y.joinSheet (n.sheet i) f) := by
  have opened := a.apply (g := State.setOpenLift (some (grownLift i n f w))) fun _ _ _ _ => rfl
  have placed := count_alike (modifyBook_put opened book Book.withSheet) .sheetsPlaced
  have same : y.joinSheet (n.sheet i) f =
      ((y.setOpenLift (some (grownLift i n f w))).modifyBook i Book.withSheet).count .sheetsPlaced := by
    rw [← grownLift_congr a.lb, ← joined_eq]
    rfl
  rw [same]
  exact placed

variable (slot : (grownLift i n f w).slot = i) (apart : NotFinishing i w)

include slot apart

/-- A sheet joins, and the lift closes into the Lift Queue. -/
theorem joinAndClose_of_room (room : w.lb.queue.length < 12)
    (stage : (grownLift i n f w).endsCollection = true → b.stage = .collecting ∨ b.stage = .collected) :
    Alike (w.sheetJoined i (closedBook (grownLift i n f w) b.withSheet w)
        (withLift (liftClosing (grownLift i n f w) b.withSheet w) w.lb))
      (y.joinSheet (n.sheet i) f).closeLift := by
  have joined := joinSheet_alike a n f book
  generalize grownLift i n f w = l at joined slot stage
  subst slot
  have closed := closeLift_of_room joined (l := l) (k := b.withSheet) (book_putBook_same _ _ _) apart rfl room stage
  have pure : State.liftClosed l b.withSheet (w.sheetJoined l.slot b.withSheet { w.lb with openLift := some l }) =
      w.sheetJoined l.slot (closedBook l b.withSheet w) (withLift (liftClosing l b.withSheet w) w.lb) :=
    putBook_putBook l.slot _ _ ((w.builtAs (withLift (liftClosing l b.withSheet w) w.lb)).tallied .sheetsPlaced)
  rw [← pure]
  exact closed

/-- A sheet joins, and the lift is held over. -/
theorem joinAndClose_of_full (full : 12 ≤ w.lb.queue.length) :
    Alike (w.sheetJoined i (faulted .overrun b.withSheet)
        { w.lb with openLift := some { grownLift i n f w with overrunHold := true, mode := some .pass } })
      (y.joinSheet (n.sheet i) f).closeLift := by
  have joined := joinSheet_alike a n f book
  generalize grownLift i n f w = l at joined slot
  subst slot
  have held := closeLift_of_full joined (l := l) (k := b.withSheet) (book_putBook_same _ _ _) apart rfl full
  have pure : State.liftHeld l b.withSheet (w.sheetJoined l.slot b.withSheet { w.lb with openLift := some l }) =
      w.sheetJoined l.slot (faulted .overrun b.withSheet)
        { w.lb with openLift := some { l with overrunHold := true, mode := some .pass } } :=
    putBook_putBook l.slot _ _ ((w.builtAs { w.lb with
      openLift := some { l with overrunHold := true, mode := some .pass } }).tallied .sheetsPlaced)
  rw [← pure]
  exact held

end

/-! ## Placing (R29 to R33) -/

theorem handSheet_of_placed {v r : State} {x : Sheet} (placed : v.placeSheet x = (r, true)) : v.handSheet x = r := by
  rw [State.handSheet, placed]
  rfl

section

variable {v y : State} {x : Sheet} {f : Format}

/-- A thin sheet, once the lift that had to close has done so. -/
theorem placeThin_of_free (cleared : (if v.lb.openLift.any (Lift.mustClose x f) = true then v.closeLift else v) = y)
    (free : y.overrunHeld = false) (room : y.seventeenth x.slot = false) : v.placeThin x f =
      (if (x.last || (y.joinSheet x f).boardOpen) = true then (y.joinSheet x f).closeLift else y.joinSheet x f, true) := by
  unfold State.placeThin
  dsimp only
  rw [cleared, if_neg (by rw [free]; decide), if_neg (by rw [room]; decide)]

theorem placeThin_of_held (cleared : (if v.lb.openLift.any (Lift.mustClose x f) = true then v.closeLift else v) = y)
    (held : y.overrunHeld = true) : v.placeThin x f = ((y.raiseFault x.slot .overrun).decline x, false) := by
  unfold State.placeThin
  dsimp only
  rw [cleared]
  exact if_pos held

theorem placeThick_of_free (cleared : (v.raiseFault x.slot .tooThick).closeLift = y) (free : y.overrunHeld = false)
    (room : y.seventeenth x.slot = false) : v.placeThick x f = ((y.joinSheet x f).closeLift, true) := by
  unfold State.placeThick
  dsimp only
  rw [cleared, if_neg (by rw [free]; decide), if_neg (by rw [room]; decide)]

end

theorem overrunHeld_of_lb {w y : State} (lb : y.lb = w.lb) : y.overrunHeld = w.overrunHeld := by
  rw [State.overrunHeld, lb]
  rfl

theorem seventeenth_iff {i : Slot} {b : Book} {y : State} (book : y.book i = some b) :
    y.seventeenth i = true ↔ y.lb.openLift = none ∧ 16 ≤ b.liftsClosed := by
  simp [State.seventeenth, book]

/-- Fewer than sixteen lifts closed leave room for one more. -/
theorem seventeenth_of_few {i : Slot} {b : Book} {y : State} (book : y.book i = some b)
    (few : y.lb.openLift = none → b.liftsClosed < 16) : y.seventeenth i = false := by
  rw [Bool.eq_false_iff, Ne, seventeenth_iff book]
  rintro ⟨none, many⟩
  exact absurd many (Nat.not_le.2 (few none))

theorem mustClose_iff (i : Slot) (n : Notice) (f : Format) (l : Lift) :
    Lift.mustClose (n.sheet i) f l = true ↔ MustCloseFirst i n f l := by
  simp only [Lift.mustClose, Bool.or_eq_true, decide_eq_true_iff, Bool.and_eq_true, or_assoc]
  change l.slot ≠ i ∨ f.capacity < l.thickness + n.thickness ∨ f.maxSheets ≤ l.sheets
    ∨ (n.kind = .board ∧ f.boardAlone = true) ∨ l.kind = .board ↔ MustCloseFirst i n f l
  unfold MustCloseFirst
  tauto

theorem boardOpen_iff {y : State} {l : Lift} (opened : y.lb.openLift = some l) : y.boardOpen = true ↔ l.kind = .board := by
  simp [State.boardOpen, opened]

section

variable {i : Slot} {n : Notice} {f : Format} {b : Book} {s : State} (joins : SheetJoins i n f b s)

include joins

theorem sheetJoins_placed : b.placed < 64 ∧ n.thickness ≤ f.capacity := by
  obtain ⟨placed, thin, _⟩ := joins
  exact ⟨placed, thin⟩

theorem sheetJoins_slot : (grownLift i n f s).slot = i := by
  obtain ⟨_, _, joins⟩ := joins
  unfold grownLift
  cases opened : s.lb.openLift with
  | none => rfl
  | some l =>
    rw [opened] at joins
    obtain ⟨_, slot, _⟩ := joins
    exact slot

theorem sheetJoins_free : s.overrunHeld = false := by
  obtain ⟨_, _, joins⟩ := joins
  unfold State.overrunHeld
  cases opened : s.lb.openLift with
  | none => rfl
  | some l =>
    rw [opened] at joins
    obtain ⟨free, _⟩ := joins
    exact free

theorem sheetJoins_stays : (s.lb.openLift.any (Lift.mustClose (n.sheet i) f)) = false := by
  obtain ⟨_, _, joins⟩ := joins
  cases opened : s.lb.openLift with
  | none => rfl
  | some l =>
    rw [opened] at joins
    obtain ⟨_, slot, thin, sheets, kind, alone⟩ := joins
    rw [Option.any_some, Bool.eq_false_iff, Ne, mustClose_iff]
    rintro (h | h | h | h | h)
    · exact h slot
    · omega
    · omega
    · rw [kind] at h
      cases h
    · exact alone h

theorem sheetJoins_few (none : s.lb.openLift = none) : b.liftsClosed < 16 := by
  obtain ⟨_, _, joins⟩ := joins
  rw [none] at joins
  exact joins

/-- Only a sheet that stands alone makes the lift a board-alone lift. -/
theorem sheetJoins_kind : (grownLift i n f s).kind = .board ↔
    s.lb.openLift = none ∧ n.kind = .board ∧ f.boardAlone = true := by
  obtain ⟨_, _, joins⟩ := joins
  unfold grownLift
  cases opened : s.lb.openLift with
  | none =>
    by_cases alone : n.kind = .board ∧ f.boardAlone = true
    · simp [newLift, alone]
    · simp only [newLift, if_neg alone, true_and, iff_false_right alone]
      decide
  | some l =>
    rw [opened] at joins
    obtain ⟨_, _, _, _, kind, _⟩ := joins
    simp [kind]

omit joins in
theorem grownLift_last (last : n.last = true) :
    (grownLift i n f s).endsCollection = true ∧ (grownLift i n f s).holdsLast = true := by
  unfold grownLift
  cases s.lb.openLift with
  | none => exact ⟨last, last⟩
  | some l => simp [last]

end

end Sys2Proof.Machine

/-! Infeed edges whose sheet is placed (R6, R13, R14, R27 to R36, R39, R40, R139). -/

namespace Sys2Proof.Machine

open Sys2Proof Sys2Proof.Safety

set_option Elab.async false

/-! ## The answer of the edge -/

section

variable {s : State} {n : Notice} {rest : List Notice} (awake : Awake s) (notices : s.si.notices = n :: rest)
  (fresh : HeadFresh rest s)

include awake notices fresh

/-- An edge whose match leaves the queue as it is. -/
theorem exec_infeedEdge_placed {v : State} (a : Alike v (s.matchNotice n rest))
    (si : v.si = { (s.noticeGone rest .matching).si with books := v.si.books }) :
    ∃ t, exec .infeedEdge s = .next t ∧ Alike v t ∧ Moves s t := by
  have still : HeadFresh v.si.notices v := by
    have queue : v.si.notices = (s.noticeGone rest .matching).si.notices := by rw [si]
    rw [queue]
    exact HeadFresh.congr (noticeGone_headFresh fresh) (by rw [si]) (by rw [si])
  obtain ⟨t, taken, a, m, _, _⟩ := exec_infeedEdge_fresh awake notices a still
  exact ⟨t, taken, a, m⟩

variable {i : Slot} {k : Book} {lb : LiftBuilder}

/-- A sheet placed with no book changed but its own. -/
theorem infeedEdge_placed (a : Alike ((s.noticeGone rest .matching).sheetJoined i k lb) (s.matchNotice n rest)) :
    ∃ t, exec .infeedEdge s = .next t
      ∧ t = { s.noticeGone rest .matching with
          lp := t.lp, lm := t.lm, lsv := t.lsv
          si := { (s.noticeGone rest .matching).si with books := t.si.books }
          lb := lb }
      ∧ t.book i = some k ∧ (∀ j, j ≠ i → t.book j = s.book j)
      ∧ Monitored (counted .sheetsPlaced s) s t ∧ Noticed s t ∧ LineFollowed s t := by
  obtain ⟨t, taken, a, m⟩ := exec_infeedEdge_placed awake notices fresh a rfl
  refine ⟨t, taken, ?_, (a.book i).trans (book_putBook_same i k _), fun j other => ?_, watched_monitored m.watched a.2,
    m.noticed, m.followed⟩
  · rw [a.si]
    exact a.1
  · exact (a.book j).trans ((book_putBook_ne other k _).trans (noticeGone_book ..))

end

/-! ## A sheet that joins the lift at the accumulator -/

section

variable {s : State} {n : Notice} {rest : List Notice} {i : Slot} {b : Book} {f : Format} (slot : n.slot = some i)
  (book : s.book i = some b) (stage : b.stage = .collecting) (format : s.bookFormat i = some f)
  (kept : s.ts.settings.lossAction = .continue ∨ (s.si.registration = .matched ∧ 1 ≤ s.ts.settings.declareCount))
  (joins : SheetJoins i n f b s)

include book in
theorem noticeGone_holds (rest : List Notice) : (s.noticeGone rest .matching).book i = some b :=
  (noticeGone_book ..).trans book

/-- After the match the lift is grown from the same accumulator. -/
theorem grownLift_noticeGone (rest : List Notice) (i : Slot) (n : Notice) (f : Format) (s : State) :
    grownLift i n f (s.noticeGone rest .matching) = grownLift i n f s := rfl

include slot book stage format kept joins

theorem matchNotice_joins : s.matchNotice n rest =
    (let y := ((s.leaveNotice rest).updateRegistration .matching).joinSheet (n.sheet i) f
    if n.last = true ∨ (grownLift i n f s).kind = .board then y.closeLift else y) := by
  have a := leaveNotice_matching rest s
  have placed := sheetJoins_placed joins
  have opened := joinSheet_openLift a (i := i) n f
  have there : ((s.leaveNotice rest).updateRegistration .matching).book i = some b :=
    (a.book i).trans (noticeGone_holds book rest)
  have free : ((s.leaveNotice rest).updateRegistration .matching).overrunHeld = false :=
    (overrunHeld_of_lb a.lb).trans (sheetJoins_free joins)
  have stays : (if ((s.leaveNotice rest).updateRegistration .matching).lb.openLift.any (Lift.mustClose (n.sheet i) f) = true
      then ((s.leaveNotice rest).updateRegistration .matching).closeLift
      else (s.leaveNotice rest).updateRegistration .matching) = (s.leaveNotice rest).updateRegistration .matching := by
    refine if_neg ?_
    rw [a.lb]
    exact ne_true_of_eq_false (sheetJoins_stays joins)
  have room : ((s.leaveNotice rest).updateRegistration .matching).seventeenth i = false :=
    seventeenth_of_few there fun none => sheetJoins_few joins (by rw [a.lb] at none; exact none)
  have thin := placeThin_of_free (x := n.sheet i) stays free room
  have places := placeSheet_of_thin (x := n.sheet i) there ((bookFormat_after rest i s).trans format) free
    ((takesSheets_iff b).2 (.inr stage)) placed.1 placed.2
  rw [matchNotice_of_kept slot book stage kept, handSheet_of_placed (places.trans thin)]
  simp only [Bool.or_eq_true, boardOpen_iff opened]
  rfl

theorem matchNotice_joins_open (last : n.last = false) (shared : ¬(n.kind = .board ∧ f.boardAlone = true)) :
    Alike ((s.noticeGone rest .matching).sheetJoined i b.withSheet { s.lb with openLift := some (grownLift i n f s) })
      (s.matchNotice n rest) := by
  have stays : ¬(n.last = true ∨ (grownLift i n f s).kind = .board) := by
    rw [last, sheetJoins_kind joins]
    rintro (h | ⟨_, h⟩)
    · cases h
    · exact shared h
  rw [matchNotice_joins slot book stage format kept joins]
  dsimp only
  rw [if_neg stays]
  exact joinSheet_alike (leaveNotice_matching rest s) n f (noticeGone_holds book rest)

variable (closes : n.last = true ∨ (grownLift i n f s).kind = .board) (apart : NotFinishing i s)

include closes apart

theorem matchNotice_joins_closed (room : s.lb.queue.length < 12) :
    Alike ((s.noticeGone rest .matching).sheetJoined i (closedBook (grownLift i n f s) b.withSheet s)
        (withLift (liftClosing (grownLift i n f s) b.withSheet s) s.lb))
      (s.matchNotice n rest) := by
  rw [matchNotice_joins slot book stage format kept joins]
  dsimp only
  rw [if_pos closes]
  exact joinAndClose_of_room (leaveNotice_matching rest s) n f (noticeGone_holds book rest) (sheetJoins_slot joins) apart
    room fun _ => .inl stage

theorem matchNotice_joins_held (full : 12 ≤ s.lb.queue.length) :
    Alike ((s.noticeGone rest .matching).sheetJoined i (faulted .overrun b.withSheet)
        { s.lb with openLift := some { grownLift i n f s with overrunHold := true, mode := some .pass } })
      (s.matchNotice n rest) := by
  rw [matchNotice_joins slot book stage format kept joins]
  dsimp only
  rw [if_pos closes]
  exact joinAndClose_of_full (leaveNotice_matching rest s) n f (noticeGone_holds book rest) (sheetJoins_slot joins) apart
    full

end

/-- The cause with which a book's last lift leaves it. -/
theorem closingBook_of_last {l : Lift} {k : Book} (last : l.holdsLast = true) : closingBook l k =
    { k with fault := k.fault.or (if k.declared.any (fun d => decide (k.placed < d)) = true then some .short else none) } := by
  unfold closingBook Lift.short
  rw [last, Bool.true_and]
  split
  · rfl
  · rw [Option.or_none]

/-- Settles O15. -/
theorem infeedEdgePlacesSheet : Obligations.InfeedEdgePlacesSheet := by
  refine ⟨fun s n rest i b f awake notices slot fresh book stage format kept joins last shared =>
      infeedEdge_placed awake notices fresh (matchNotice_joins_open slot book stage format kept joins last shared),
    fun s n rest i b f awake bound notices slot fresh book stage format kept joins last room cause cause_eq => ?_⟩
  have a := matchNotice_joins_closed (rest := rest) slot book stage format kept joins (.inl last)
    (apart_of_taking bound book (.inr stage)) room
  obtain ⟨ends, holds⟩ := grownLift_last (i := i) (f := f) (s := s) last
  have there := sheetJoins_slot joins
  generalize grownLift i n f s = l at a ends holds there
  have closing := closingBook_of_last (k := b.withSheet) holds
  rw [← cause_eq] at closing
  have after : closedBook l b.withSheet s = { b with
      placed := b.placed + 1, liftsClosed := b.liftsClosed + 1, fault := cause
      stage := collectedStage i b.liftsGathered (b.liftsClosed + 1) s } := by
    rw [closedBook, if_pos ends, closing, there]
    rfl
  have lift : liftClosing l b.withSheet s =
      closedLift s.lb.nextNumber b.liftsClosed (if cause = none then .strike else .pass) l := by
    rw [liftClosing, closing]
  rw [after, lift] at a
  obtain ⟨t, taken, frame, bookAfter, others, counts, noticed, followed⟩ := infeedEdge_placed awake notices fresh a
  have lb := congrArg State.lb frame
  refine ⟨t, taken, lb, bookAfter, others, ?_, counts, noticed, followed⟩
  rw [lb]
  exact frame

end Sys2Proof.Machine

/-! A sheet for which the lift at the accumulator must close first (R30, R33, R34, R41). -/

namespace Sys2Proof.Machine

open Sys2Proof Sys2Proof.Safety

set_option Elab.async false

theorem closingBook_of_open {l : Lift} (holds : l.holdsLast = false) (k : Book) : closingBook l k = k := by
  rw [closingBook, Lift.short, holds, Bool.false_and, if_neg (by decide)]

theorem closedBook_of_open {l : Lift} (holds : l.holdsLast = false) (ends : l.endsCollection = false) (k : Book) (s : State) :
    closedBook l k s = k.withLift := by
  rw [closedBook, ends, if_neg (by decide), closingBook_of_open holds]

/-- A book past OPEN and short of GATHERED is not the finish book. -/
theorem apart_of_collected {s : State} {i : Slot} {k : Book} (bound : FinishBookBound s) (book : s.book i = some k)
    (stage : k.stage = .collecting ∨ k.stage = .collected) : NotFinishing i s := by
  intro f finish same
  obtain ⟨b, there, stage'⟩ := bound f finish
  rw [same, book] at there
  obtain rfl := Option.some.inj there
  rcases stage with h | h <;> rw [h] at stage' <;> rcases stage' with e | e <;> cases e

/-- A book beside another that is put in its own slot or in another. -/
theorem book_putBook_of {i j : Slot} {k c b : Book} {u : State} (there : u.book i = some b) (same : j = i → k = c)
    (other : j ≠ i → b = c) : (u.putBook j k).book i = some c := by
  by_cases here : j = i
  · subst here
    rw [book_putBook_same, same rfl]
  · rw [book_putBook_ne (Ne.symm here), there, other here]

/-- A sheet placed once another lift has closed. -/
theorem infeedEdge_placed_beside {s : State} {n : Notice} {rest : List Notice} (awake : Awake s)
    (notices : s.si.notices = n :: rest) (fresh : HeadFresh rest s) {i j : Slot} {k c : Book} {lb : LiftBuilder}
    (a : Alike (((s.noticeGone rest .matching).putBook j c).sheetJoined i k lb) (s.matchNotice n rest)) :
    ∃ t, exec .infeedEdge s = .next t
      ∧ t = { s.noticeGone rest .matching with
          lp := t.lp, lm := t.lm, lsv := t.lsv
          si := { (s.noticeGone rest .matching).si with books := t.si.books }
          lb := lb }
      ∧ t.book i = some k ∧ (j ≠ i → t.book j = some c) ∧ (∀ x, x ≠ i → x ≠ j → t.book x = s.book x)
      ∧ Monitored (counted .sheetsPlaced s) s t ∧ Noticed s t ∧ LineFollowed s t := by
  obtain ⟨t, taken, a, m⟩ := exec_infeedEdge_placed awake notices fresh a rfl
  refine ⟨t, taken, ?_, (a.book i).trans (book_putBook_same i k _), fun other => ?_, fun x other beside => ?_,
    watched_monitored m.watched a.2, m.noticed, m.followed⟩
  · rw [a.si]
    exact a.1
  · exact (a.book j).trans ((book_putBook_ne other k _).trans (book_putBook_same j c _))
  · exact (a.book x).trans ((book_putBook_ne other k _).trans ((book_putBook_ne beside c _).trans (noticeGone_book ..)))

section

variable {s : State} {n : Notice} {rest : List Notice} {i : Slot} {b k : Book} {f : Format} {l : Lift}
  (handed : SheetHanded n rest i b f s) (opened : s.lb.openLift = some l) (free : l.overrunHold = false)
  (ends : l.endsCollection = false) (holds : l.holdsLast = false) (book : s.book l.slot = some k)
  (stage : k.stage = .collecting ∨ k.stage = .collected)

include handed in
/-- What the Lift Builder is handed once the match is made. -/
theorem handed_after (unheld : s.overrunHeld = false) : let v := (s.leaveNotice rest).updateRegistration .matching
    v.book i = some b ∧ v.bookFormat i = some f ∧ v.overrunHeld = false := by
  have a := leaveNotice_matching rest s
  obtain ⟨_, _, _, _, _, there, _, format, _⟩ := handed
  exact ⟨(a.book i).trans (noticeGone_holds there rest), (bookFormat_after rest i s).trans format,
    (overrunHeld_of_lb a.lb).trans unheld⟩

include opened free in
theorem overrunHeld_of_open : s.overrunHeld = false := by
  rw [State.overrunHeld, opened]
  exact free

include opened ends holds stage in
/-- The lift closes for a sheet that may not join it. -/
theorem closeFirst_alike {w v : State} (a : Alike w v) (lb : w.lb = s.lb) (there : w.book l.slot = some k)
    (apart : NotFinishing l.slot w) (room : s.lb.queue.length < 12) :
    Alike ((w.builtAs (withLift (closedLift s.lb.nextNumber k.liftsClosed (if k.fault = none then .strike else .pass) l)
      s.lb)).putBook l.slot k.withLift) v.closeLift := by
  have closed := closeLift_of_room a there apart (by rw [lb]; exact opened) (by rw [lb]; exact room) fun _ => stage
  have pure : w.liftClosed l k = (w.builtAs (withLift (closedLift s.lb.nextNumber k.liftsClosed
      (if k.fault = none then .strike else .pass) l) s.lb)).putBook l.slot k.withLift := by
    rw [State.liftClosed, liftClosing, closingBook_of_open holds, closedBook_of_open holds ends, lb]
    rfl
  rw [← pure]
  exact closed

variable (few : b.placed < 64) (thin : n.thickness ≤ f.capacity) (must : MustCloseFirst i n f l)

include handed opened free few thin in
theorem matchNotice_thin {r : State × Bool}
    (placed : ((s.leaveNotice rest).updateRegistration .matching).placeThin (n.sheet i) f = r) :
    s.matchNotice n rest = if r.2 = true then r.1 else r.1.divertSheet := by
  obtain ⟨bookAfter, format, unheld⟩ := handed_after handed (overrunHeld_of_open opened free)
  have matched := matchNotice_of_handed handed
  obtain ⟨_, _, _, _, _, _, collecting, _⟩ := handed
  rw [matched, State.handSheet, placeSheet_of_thin (x := n.sheet i) bookAfter format unheld
    ((takesSheets_iff b).2 (.inr collecting)) few thin, placed]

include opened must in
theorem mustClose_after (rest : List Notice) :
    (if ((s.leaveNotice rest).updateRegistration .matching).lb.openLift.any (Lift.mustClose (n.sheet i) f) = true
      then ((s.leaveNotice rest).updateRegistration .matching).closeLift
      else (s.leaveNotice rest).updateRegistration .matching) =
    ((s.leaveNotice rest).updateRegistration .matching).closeLift := by
  refine if_pos ?_
  rw [(leaveNotice_matching rest s).lb, show (s.noticeGone rest .matching).lb = s.lb from rfl, opened]
  exact (mustClose_iff i n f l).2 must

include handed opened free ends holds book stage few thin must

theorem matchNotice_closeFirst (room : s.lb.queue.length < 12) (last : n.last = false)
    (shared : ¬(n.kind = .board ∧ f.boardAlone = true)) {closed : Nat}
    (closed_eq : closed = if l.slot = i then b.liftsClosed + 1 else b.liftsClosed) (lifts : closed < 16) :
    Alike (((s.noticeGone rest .matching).putBook l.slot k.withLift).sheetJoined i
        { b with placed := b.placed + 1, liftsClosed := closed }
        { withLift (closedLift s.lb.nextNumber k.liftsClosed (if k.fault = none then .strike else .pass) l) s.lb with
          openLift := some (newLift i n f) })
      (s.matchNotice n rest) := by
  have whole := handed
  obtain ⟨_, bound, _, _, _, there, _⟩ := whole
  have cleared := mustClose_after (i := i) opened must rest
  have a := closeFirst_alike opened ends holds stage (leaveNotice_matching rest s) rfl (noticeGone_holds book rest)
    (apart_of_collected (s := s) bound book stage) room
  have bookOf : (((s.noticeGone rest .matching).builtAs (withLift (closedLift s.lb.nextNumber k.liftsClosed
      (if k.fault = none then .strike else .pass) l) s.lb)).putBook l.slot k.withLift).book i =
      some { b with liftsClosed := closed } := by
    refine book_putBook_of (b := b) (noticeGone_holds there rest) (fun same => ?_) fun other => ?_
    · rw [same, there] at book
      obtain rfl := Option.some.inj book
      rw [closed_eq, if_pos same]
    · rw [closed_eq, if_neg other]
  obtain ⟨y, shut⟩ : ∃ y, ((s.leaveNotice rest).updateRegistration .matching).closeLift = y := ⟨_, rfl⟩
  rw [shut] at a
  have empty : y.lb.openLift = none := by
    rw [a.lb]
    rfl
  have places := placeThin_of_free (x := n.sheet i) (cleared.trans shut) (by simp [State.overrunHeld, empty])
    (seventeenth_of_few ((a.book i).trans bookOf) fun _ => lifts)
  have opens := joinSheet_openLift a (i := i) n f
  have joined := joinSheet_alike (b := { b with liftsClosed := closed }) a n f bookOf
  have kind : ¬(newLift i n f).kind = .board := by
    change ¬(if _ then LiftKind.board else LiftKind.leaves) = .board
    rw [if_neg shared]
    decide
  rw [matchNotice_thin handed opened free few thin places]
  have stays : ¬((n.sheet i).last || (y.joinSheet (n.sheet i) f).boardOpen) = true := by
    rw [Bool.or_eq_true, boardOpen_iff opens]
    rintro (h | h)
    · exact absurd (last.symm.trans h) (by decide)
    · exact kind h
  rw [if_neg stays]
  exact joined

/-- The Lift Builder with the lift held over. -/
abbrev heldOver (l : Lift) (x : LiftBuilder) : LiftBuilder :=
  { x with openLift := some { l with overrunHold := true, mode := some .pass } }

omit ends holds in
theorem matchNotice_holdFirst (full : 12 ≤ s.lb.queue.length) :
    ∃ r, Moves s r ∧ Alike ((((s.noticeGone rest .matching).builtAs (heldOver l s.lb)).putBook l.slot
        (faulted .overrun k)).putBook i (faulted .overrun b)) r
      ∧ s.matchNotice n rest = (r.decline (n.sheet i)).divertSheet := by
  have whole := handed
  obtain ⟨_, bound, notices, _, _, there, collecting, _⟩ := whole
  have cleared := mustClose_after (i := i) opened must rest
  have a := closeLift_of_full (leaveNotice_matching rest s) (noticeGone_holds book rest)
    (apart_of_collected (s := s) bound book stage) opened full
  have m : Moves s ((s.leaveNotice rest).updateRegistration .matching).closeLift :=
    (moves_matching (by rw [notices]; exact Nat.le_succ _)).trans (moves_closeLift _)
  obtain ⟨y, shut⟩ : ∃ y, ((s.leaveNotice rest).updateRegistration .matching).closeLift = y := ⟨_, rfl⟩
  rw [shut] at a m
  have places := placeThin_of_held (x := n.sheet i) (cleared.trans shut) (by
    rw [overrunHeld_iff, a.lb]
    exact ⟨_, rfl, rfl⟩)
  refine ⟨y.raiseFault i .overrun, m.trans (moves_raiseFault _ _ _), ?_, matchNotice_thin handed opened free few thin places⟩
  have bookOf : ((s.noticeGone rest .matching).liftHeld l k).book i =
      some (if l.slot = i then faulted .overrun b else b) := by
    refine book_putBook_of (b := b) (noticeGone_holds there rest) (fun same => ?_) fun other => ?_
    · rw [same, there] at book
      obtain rfl := Option.some.inj book
      rw [if_pos same]
    · rw [if_neg other]
  have raised := raiseFault_put a bookOf .overrun (apart_of_taking (s := s) bound there (.inr collecting))
  have once : faulted .overrun (if l.slot = i then faulted .overrun b else b) = faulted .overrun b := by
    split
    · exact faulted_faulted _ _ _
    · rfl
  rw [once] at raised
  exact raised

end

end Sys2Proof.Machine

/-! Sheets that close lifts: too thick, alone, last, or not to be shared (R27, R29, R30, R33, R34, R36, R41). -/

namespace Sys2Proof.Machine

open Sys2Proof Sys2Proof.Safety

set_option Elab.async false

/-! ## A book that is faulted already -/

theorem faulted_of_fault {k : Book} (fault : k.fault ≠ none) (c : FaultCause) : faulted c k = k := by
  obtain ⟨e, fault⟩ := Option.ne_none_iff_exists'.1 fault
  unfold faulted
  rw [fault, Option.some_or, ← fault]

theorem fault_faulted (c : FaultCause) (k : Book) : (faulted c k).fault ≠ none := by
  unfold faulted
  cases k.fault <;> exact Option.some_ne_none _

section

variable {k : Book} (fault : k.fault ≠ none) (l : Lift) (s : State)

include fault

theorem closingBook_of_fault : closingBook l k = k := by
  unfold closingBook
  rw [faulted_of_fault fault, ite_self]

theorem liftClosing_of_fault : liftClosing l k s = closedLift s.lb.nextNumber k.liftsClosed .pass l := by
  rw [liftClosing, closingBook_of_fault fault, if_neg fault]

theorem closedBook_of_fault : closedBook l k s = { k with
    liftsClosed := k.liftsClosed + 1
    stage := if l.endsCollection = true then collectedStage l.slot k.liftsGathered (k.liftsClosed + 1) s else k.stage } := by
  rw [closedBook, closingBook_of_fault fault]
  split <;> rfl

end

theorem grownLift_of_none {s : State} (none : s.lb.openLift = none) (i : Slot) (n : Notice) (f : Format) :
    grownLift i n f s = newLift i n f := by
  rw [grownLift, none]

/-! ## A lift of one sheet -/

/-- A book whose last sheet has closed a lift by itself. -/
abbrev Book.withLiftOfOne (i : Slot) (n : Notice) (s : State) (k : Book) : Book :=
  { k with
    placed := k.placed + 1
    liftsClosed := k.liftsClosed + 1
    stage := if n.last = true then collectedStage i k.liftsGathered (k.liftsClosed + 1) s else k.stage }

section

variable {w y : State} (a : Alike w y) {i : Slot} {k : Book} (n : Notice) (f : Format) (book : w.book i = some k)
  (none : w.lb.openLift = none) (apart : NotFinishing i w)

include a book none apart

/-- A sheet of a faulted book makes a PASS lift of its own. -/
theorem joinAlone_of_room (fault : k.fault ≠ .none) (stage : k.stage = .collecting) (room : w.lb.queue.length < 12) :
    Alike (w.sheetJoined i (k.withLiftOfOne i n w)
        (withLift (closedLift w.lb.nextNumber k.liftsClosed .pass (newLift i n f)) w.lb))
      (y.joinSheet (n.sheet i) f).closeLift := by
  have closed := joinAndClose_of_room a n f book (by rw [grownLift_of_none none]; rfl) apart room fun _ => .inl stage
  rw [grownLift_of_none none, closedBook_of_fault (k := k.withSheet) fault, liftClosing_of_fault (k := k.withSheet) fault]
    at closed
  exact closed

theorem joinAlone_of_full (full : 12 ≤ w.lb.queue.length) :
    Alike (w.sheetJoined i (faulted .overrun k.withSheet)
        { w.lb with openLift := some { newLift i n f with overrunHold := true, mode := some .pass } })
      (y.joinSheet (n.sheet i) f).closeLift := by
  have held := joinAndClose_of_full a n f book (by rw [grownLift_of_none none]; rfl) apart full
  rw [grownLift_of_none none] at held
  exact held

end

/-! ## A sheet thicker than the lift capacity -/

theorem write_between {α : Type} {n : Nat} (v : Vector α n) (i j : Fin n) (a b c : α) :
    Bank.write (Bank.write (Bank.write v i a) j b) i c = Bank.write (Bank.write v j b) i c := by
  apply Bank.ext
  intro m
  by_cases here : m = i
  · rw [here, Bank.read_write_same, Bank.read_write_same]
  · rw [Bank.read_write_ne _ _ here, Bank.read_write_ne _ _ here, Bank.read_write, Bank.read_write_ne _ _ here,
      Bank.read_write]

theorem putBook_between (i j : Slot) (c b k : Book) (w : State) :
    ((w.putBook i c).putBook j b).putBook i k = (w.putBook j b).putBook i k := by
  change { w with si := { w.si with books := Bank.write (Bank.write (Bank.write w.si.books i _) j _) i _ } } = _
  rw [write_between]
  rfl

theorem sheetJoined_putBook (i : Slot) (c k : Book) (lb : LiftBuilder) (w : State) :
    (w.putBook i c).sheetJoined i k lb = w.sheetJoined i k lb :=
  putBook_putBook i k c ((w.builtAs lb).tallied .sheetsPlaced)

theorem sheetJoined_putBook_between (i j : Slot) (c b k : Book) (m lb : LiftBuilder) (w : State) :
    State.sheetJoined i k lb (((w.putBook i c).builtAs m).putBook j b) = (w.putBook j b).sheetJoined i k lb :=
  putBook_between i j c b k ((w.builtAs lb).tallied .sheetsPlaced)

section

variable {s : State} {n : Notice} {rest : List Notice} {i : Slot} {b : Book} {f : Format}
  (handed : SheetHanded n rest i b f s) (few : b.placed < 64) (thick : f.capacity < n.thickness)

include handed few thick

theorem matchNotice_thick (unheld : s.overrunHeld = false) :
    ∃ r, Alike ((s.noticeGone rest .matching).putBook i (faulted .tooThick b)) r
      ∧ (r.closeLift.overrunHeld = false → r.closeLift.seventeenth i = false →
          s.matchNotice n rest = (r.closeLift.joinSheet (n.sheet i) f).closeLift) := by
  obtain ⟨bookAfter, format, unheldAfter⟩ := handed_after handed unheld
  have matched := matchNotice_of_handed handed
  obtain ⟨_, bound, _, _, _, there, collecting, _⟩ := handed
  refine ⟨_, raiseFault_put (leaveNotice_matching rest s) (noticeGone_holds there rest) .tooThick
    (apart_of_taking (s := s) bound there (.inr collecting)), fun free room => ?_⟩
  rw [matched]
  exact handSheet_of_placed ((placeSheet_of_thick (x := n.sheet i) bookAfter format unheldAfter
    ((takesSheets_iff b).2 (.inr collecting)) few thick).trans (placeThick_of_free (x := n.sheet i) rfl free room))

/-- With an empty accumulator nothing has to close first. -/
theorem matchNotice_thick_alone (none : s.lb.openLift = none) (lifts : b.liftsClosed < 16) :
    ∃ r, Alike ((s.noticeGone rest .matching).putBook i (faulted .tooThick b)) r
      ∧ s.matchNotice n rest = (r.joinSheet (n.sheet i) f).closeLift := by
  obtain ⟨r, a, matched⟩ := matchNotice_thick handed few thick (by rw [State.overrunHeld, none]; rfl)
  have empty : r.lb.openLift = .none := by
    rw [a.lb]
    exact none
  have same : r.closeLift = r := by rw [State.closeLift, empty]
  rw [same] at matched
  exact ⟨r, a, matched (by rw [State.overrunHeld, empty]; rfl)
    (seventeenth_of_few ((a.book i).trans (book_putBook_same _ _ _)) fun _ => lifts)⟩

theorem matchNotice_thick_closed (none : s.lb.openLift = none) (lifts : b.liftsClosed < 16) (room : s.lb.queue.length < 12) :
    Alike ((s.noticeGone rest .matching).sheetJoined i ((faulted .tooThick b).withLiftOfOne i n s)
        (withLift (closedLift s.lb.nextNumber b.liftsClosed .pass (newLift i n f)) s.lb)) (s.matchNotice n rest) := by
  obtain ⟨r, a, matched⟩ := matchNotice_thick_alone handed few thick none lifts
  obtain ⟨_, bound, _, _, _, there, collecting, _⟩ := handed
  have closed := joinAlone_of_room a n f (book_putBook_same _ _ _) none
    (apart_of_taking (s := s) bound there (.inr collecting)) (fault_faulted _ _) collecting room
  rw [sheetJoined_putBook, ← matched] at closed
  exact closed

theorem matchNotice_thick_held (none : s.lb.openLift = none) (lifts : b.liftsClosed < 16) (full : 12 ≤ s.lb.queue.length) :
    Alike ((s.noticeGone rest .matching).sheetJoined i { faulted .tooThick b with placed := b.placed + 1 }
        { s.lb with openLift := some { newLift i n f with overrunHold := true, mode := some .pass } })
      (s.matchNotice n rest) := by
  obtain ⟨r, a, matched⟩ := matchNotice_thick_alone handed few thick none lifts
  obtain ⟨_, bound, _, _, _, there, collecting, _⟩ := handed
  have held := joinAlone_of_full a n f (book_putBook_same _ _ _) none
    (apart_of_taking (s := s) bound there (.inr collecting)) full
  rw [sheetJoined_putBook, ← matched, faulted_of_fault (k := (faulted .tooThick b).withSheet) (fault_faulted _ b)] at held
  exact held

variable {l : Lift} {k : Book} (opened : s.lb.openLift = some l) (free : l.overrunHold = false)
  (ends : l.endsCollection = false) (holds : l.holdsLast = false) (book : s.book l.slot = some k)
  (stage : k.stage = .collecting ∨ k.stage = .collected)

include opened free ends holds book stage

/-- The lift at the accumulator closes, and then the lift of the sheet alone. -/
theorem matchNotice_thick_beside (room : s.lb.queue.length < 11) {closed : Nat}
    (closed_eq : closed = if l.slot = i then b.liftsClosed + 1 else b.liftsClosed) (lifts : closed < 16) :
    ∃ c, (l.slot ≠ i → c = k.withLift) ∧
    Alike (((s.noticeGone rest .matching).putBook l.slot c).sheetJoined i
        (Book.withLiftOfOne i n s { faulted .tooThick b with liftsClosed := closed })
        (withLift (closedLift (s.lb.nextNumber + 1) closed .pass (newLift i n f))
          (withLift (closedLift s.lb.nextNumber k.liftsClosed
            (if l.slot ≠ i ∧ k.fault = none then .strike else .pass) l) s.lb)))
      (s.matchNotice n rest) := by
  obtain ⟨r, a, matched⟩ := matchNotice_thick handed few thick (overrunHeld_of_open opened free)
  obtain ⟨_, bound, _, _, _, there, collecting, _⟩ := handed
  have apart : NotFinishing i s := apart_of_taking bound there (.inr collecting)
  obtain ⟨c, sure, other⟩ : ∃ c, (l.slot = i → c = faulted .tooThick b ∧ k = b) ∧ (l.slot ≠ i → c = k) := by
    by_cases same : l.slot = i
    · rw [same, there] at book
      exact ⟨_, fun _ => ⟨rfl, (Option.some.inj book).symm⟩, fun other => absurd same other⟩
    · exact ⟨k, fun here => absurd here same, fun _ => rfl⟩
  have before : ((s.noticeGone rest .matching).putBook i (faulted .tooThick b)).book l.slot = some c := by
    by_cases same : l.slot = i
    · rw [same, book_putBook_same, (sure same).1]
    · rw [book_putBook_ne same, noticeGone_holds book, other same]
  have kept : c.stage = k.stage ∧ c.liftsClosed = k.liftsClosed ∧
      (if c.fault = none then PunchMode.strike else .pass) = if l.slot ≠ i ∧ k.fault = none then .strike else .pass := by
    by_cases same : l.slot = i
    · obtain ⟨rfl, rfl⟩ := sure same
      refine ⟨rfl, rfl, (if_neg (fault_faulted _ _)).trans (if_neg fun h => h.1 same).symm⟩
    · rw [other same]
      exact ⟨rfl, rfl, by simp only [ne_eq, same, not_false_eq_true, true_and]⟩
  obtain ⟨stageKept, liftsKept, modeKept⟩ := kept
  have first := closeFirst_alike opened ends holds (stage := by rw [stageKept]; exact stage) a rfl before
    (apart_of_collected (s := s) bound book stage) (Nat.lt_succ_of_lt room)
  rw [liftsKept, modeKept] at first
  have after : (State.putBook l.slot c.withLift (((s.noticeGone rest .matching).putBook i (faulted .tooThick b)).builtAs
      (withLift (closedLift s.lb.nextNumber k.liftsClosed
        (if l.slot ≠ i ∧ k.fault = none then .strike else .pass) l) s.lb))).book i =
      some { faulted .tooThick b with liftsClosed := closed } := by
    refine book_putBook_of (b := faulted .tooThick b) (book_putBook_same _ _ _) (fun same => ?_) fun different => ?_
    · rw [closed_eq, if_pos same, (sure same).1]
      rfl
    · rw [closed_eq, if_neg different]
      rfl
  have empty : r.closeLift.lb.openLift = none := by
    rw [first.lb]
    rfl
  have second := joinAlone_of_room first n f after rfl apart (fault_faulted _ _) collecting
    (by
      change (s.lb.queue ++ [_]).length < 12
      rw [List.length_append]
      exact Nat.succ_lt_succ room)
  refine ⟨c.withLift, fun different => by rw [other different], ?_⟩
  rw [matched (by rw [State.overrunHeld, empty]; rfl) (seventeenth_of_few ((first.book i).trans after) fun _ => lifts),
    ← sheetJoined_putBook_between]
  exact second

end

end Sys2Proof.Machine

/-! The cases of a sheet that closes lifts (R27, R29, R30, R33, R34, R36, R41). -/

namespace Sys2Proof.Machine

open Sys2Proof Sys2Proof.Safety

set_option Elab.async false

/-- What a declined sheet leaves. -/
theorem declined_frame {w t : State} {i : Slot} {k : Book} (a : Alike (w.putBook i k).sheetDiverted t) :
    CollectionMoved w t ∧ t.lb = w.lb ∧ t.ss = w.ss ∧ t.fu = w.fu ∧ t.ts = w.ts ∧ t.si.notices = w.si.notices
      ∧ t.book i = some k ∧ (∀ j, j ≠ i → t.book j = w.book j) ∧ t.tcu = Bank.write w.tcu 7 (triggered 7 w)
      ∧ t.lm.work = bumped .sheetsDiverted w.lm.work := by
  refine ⟨collectionMoved_of_alike a rfl, a.lb, a.ss, a.fu, a.ts, ?_, (a.book i).trans (book_putBook_same _ _ _),
    fun j other => (a.book j).trans (book_putBook_ne other _ _), a.tcu, a.2⟩
  rw [a.si]
  rfl

section

variable {s : State} {n : Notice} {rest : List Notice} {i : Slot} {b k : Book} {f : Format} {l : Lift}
  (handed : SheetHanded n rest i b f s) (opened : s.lb.openLift = some l) (free : l.overrunHold = false)
  (book : s.book l.slot = some k) (stage : k.stage = .collecting ∨ k.stage = .collected)
  (few : b.placed < 64) (thin : n.thickness ≤ f.capacity) (must : MustCloseFirst i n f l)
  (full : 12 ≤ s.lb.queue.length)

/-- The part once the lift has been held over and its book faulted. -/
abbrev State.keptOver (s : State) (rest : List Notice) (l : Lift) (k : Book) : State :=
  ((s.noticeGone rest .matching).builtAs (heldOver l s.lb)).putBook l.slot (faulted .overrun k)

omit handed free book stage few thin must full in
include opened in
theorem endWork_keptOver (rest : List Notice) (i : Slot) (c : FaultCause) (b k : Book) (work : Vector Count 18) :
    endWork i (faulted c b) work (s.keptOver rest l k) = endWork i b work s := by
  have open_ : (s.keptOver rest l k).openLiftOf i = s.openLiftOf i := by
    rw [State.openLiftOf, State.openLiftOf, opened]
    rfl
  unfold endWork endsEmpty
  rw [open_]
  rfl

include handed opened free book stage few thin must full

theorem infeedEdge_holds_over : ∃ t, exec .infeedEdge s = .next t ∧ CollectionMoved (s.noticeGone rest .matching) t
    ∧ (n.last = false → t.lb = heldOver l s.lb ∧ t.book i = some (faulted .overrun b) ∧ t.ss = s.ss
      ∧ t.fu = s.fu ∧ t.si.notices = rest ∧ t.ts = s.ts)
    ∧ (n.last = true → CollectionEnded i (faulted .overrun b) (s.keptOver rest l k) t)
    ∧ (l.slot ≠ i → t.book l.slot = some (faulted .overrun k))
    ∧ (∀ j, j ≠ i → j ≠ l.slot → t.book j = s.book j)
    ∧ t.tcu = Bank.write s.tcu 7 (triggered 7 s)
    ∧ Monitored (bumped .sheetsDiverted (if n.last = true then endWork i b s.lm.work s else s.lm.work)) s t
    ∧ Noticed s t ∧ LineFollowed s t := by
  obtain ⟨r, m, a, declines⟩ := matchNotice_holdFirst handed opened free book stage few thin must full
  have whole := handed
  obtain ⟨_, bound, _, _, fresh, there, collecting, _⟩ := whole
  have still : HeadFresh (s.keptOver rest l k).si.notices (s.keptOver rest l k) := noticeGone_headFresh fresh
  have beside : ∀ j, j ≠ l.slot → (s.keptOver rest l k).book j = s.book j := fun j other =>
    (book_putBook_ne other _ _).trans (noticeGone_book ..)
  by_cases last : n.last = true
  · obtain ⟨t, taken, ⟨ended, others, moved, tcu, work⟩, m⟩ := exec_infeedEdge_declined_last handed m a declines still
      rfl collecting (apart_of_taking (s := s) bound there (.inr collecting)) last
    rw [endWork_keptOver opened] at work
    rw [if_pos last]
    exact ⟨t, taken, CollectionMoved.trans (t := s.keptOver rest l k) rfl moved, fun h => absurd last (by rw [h]; decide),
      fun _ => ended, fun other => (others l.slot other).trans (book_putBook_same _ _ _),
      fun j other apart => (others j other).trans (beside j apart), tcu, watched_monitored m.watched work, m.noticed,
      m.followed⟩
  · obtain ⟨t, taken, a, m⟩ := exec_infeedEdge_declined handed m a declines rfl still (Bool.eq_false_iff.2 last)
    obtain ⟨moved, lb, ss, fu, ts, notices, here, others, tcu, work⟩ := declined_frame a
    rw [if_neg last]
    exact ⟨t, taken, CollectionMoved.trans (t := s.keptOver rest l k) rfl moved,
      fun _ => ⟨lb, here, ss, fu, notices.trans (noticeGone_notices ..), ts⟩, fun h => absurd h last,
      fun other => (others l.slot other).trans (book_putBook_same _ _ _),
      fun j other apart => (others j other).trans (beside j apart), tcu, watched_monitored m.watched work, m.noticed,
      m.followed⟩

end

section

variable {s : State} {n : Notice} {rest : List Notice} {i : Slot} {b : Book} {f : Format}
  (handed : SheetHanded n rest i b f s)

include handed

/-- A board that stands alone. -/
theorem matchNotice_board (joins : SheetJoins i n f b s) (none : s.lb.openLift = none) (board : n.kind = .board)
    (alone : f.boardAlone = true) (last : n.last = false) (room : s.lb.queue.length < 12) :
    Alike ((s.noticeGone rest .matching).sheetJoined i { b with placed := b.placed + 1, liftsClosed := b.liftsClosed + 1 }
      (withLift (closedLift s.lb.nextNumber b.liftsClosed (if b.fault = .none then .strike else .pass) (newLift i n f)) s.lb))
      (s.matchNotice n rest) := by
  obtain ⟨_, bound, _, slot, _, book, stage, format, kept⟩ := handed
  have a := matchNotice_joins_closed (rest := rest) slot book stage format kept joins
    (.inr ((sheetJoins_kind joins).2 ⟨none, board, alone⟩)) (apart_of_taking bound book (.inr stage)) room
  have holds : (newLift i n f).holdsLast = false := last
  rw [grownLift_of_none none, closedBook_of_open holds last, liftClosing, closingBook_of_open holds] at a
  exact a

theorem matchNotice_last_held (joins : SheetJoins i n f b s) (last : n.last = true) (full : 12 ≤ s.lb.queue.length) :
    Alike ((s.noticeGone rest .matching).sheetJoined i (faulted .overrun { b with placed := b.placed + 1 })
        { s.lb with openLift := some { grownLift i n f s with overrunHold := true, mode := some .pass } })
      (s.matchNotice n rest) := by
  obtain ⟨_, bound, _, slot, _, book, stage, format, kept⟩ := handed
  exact matchNotice_joins_held slot book stage format kept joins (.inl last) (apart_of_taking bound book (.inr stage)) full

end

/-- Settles O14. -/
theorem sheetsCloseLifts : Obligations.SheetsCloseLifts := by
  refine ⟨?_, ?_⟩
  · rintro s n rest i b f l k handed opened free ends holds book stage few thin must u rfl
    refine ⟨fun room last shared closed closed_eq lifts => ?_, fun full held held_eq => ?_⟩
    · have a := matchNotice_closeFirst handed opened free ends holds book stage few thin must room last shared closed_eq lifts
      obtain ⟨awake, _, notices, _, fresh, _⟩ := handed
      exact infeedEdge_placed_beside awake notices fresh a
    · rw [held_eq]
      exact infeedEdge_holds_over handed opened free book stage few thin must full
  · rintro s n rest i b f handed few u rfl
    have whole := handed
    obtain ⟨awake, _, notices, _, fresh, _⟩ := whole
    refine ⟨?_, fun joins none board alone last room => infeedEdge_placed awake notices fresh
      (matchNotice_board handed joins none board alone last room), fun joins last full =>
      infeedEdge_placed awake notices fresh (matchNotice_last_held handed joins last full)⟩
    rintro thick c rfl
    refine ⟨fun none lifts => ⟨fun room => infeedEdge_placed awake notices fresh
        (matchNotice_thick_closed handed few thick none lifts room),
      fun full => infeedEdge_placed awake notices fresh (matchNotice_thick_held handed few thick none lifts full)⟩, ?_⟩
    intro l opened free ends holds k book stage room closed closed_eq lifts
    obtain ⟨c, other, a⟩ := matchNotice_thick_beside handed few thick opened free ends holds book stage room closed_eq lifts
    obtain ⟨t, taken, frame, here, beside, rest⟩ := infeedEdge_placed_beside awake notices fresh a
    exact ⟨t, taken, frame, here, fun different => (beside different).trans (congrArg some (other different)), rest⟩

end Sys2Proof.Machine

/-! What the end of a collection and a fault leave of the other books, of the queue and of the finish book. -/

namespace Sys2Proof.Machine

open Sys2Proof Sys2Proof.Safety

set_option Elab.async false

/-! ## The other books and the number of notices -/

/-- The other books stand, and no notice has come or gone. -/
structure Beside (i : Slot) (s t : State) : Prop where
  others : ∀ j, j ≠ i → t.book j = s.book j
  notices : t.si.notices.length = s.si.notices.length

theorem Beside.of_si {i : Slot} {s t : State} (si : t.si = s.si) : Beside i s t :=
  ⟨fun j _ => by rw [State.book, si]; rfl, by rw [si]⟩

theorem Beside.refl (i : Slot) (s : State) : Beside i s s := .of_si rfl

theorem Beside.of_alike {i : Slot} {v t : State} (a : Alike v t) : Beside i v t := .of_si a.si

theorem Beside.trans {i : Slot} {s t u : State} (a : Beside i s t) (b : Beside i t u) : Beside i s u :=
  ⟨fun j other => (b.others j other).trans (a.others j other), b.notices.trans a.notices⟩

theorem Beside.ite {i : Slot} {p : Prop} [Decidable p] {s t u : State} (a : p → Beside i s t) (b : ¬p → Beside i s u) :
    Beside i s (if p then t else u) := by
  split
  · exact a ‹_›
  · exact b ‹_›

section

variable (i : Slot) (s : State)

theorem beside_reviseBook (f : Book → Book) : Beside i s (s.reviseBook i f) :=
  ⟨fun _ other => book_reviseBook_ne other f s, rfl⟩

theorem beside_modifyBook (f : Book → Book) : Beside i s (s.modifyBook i f) :=
  (beside_reviseBook i s f).trans (.of_alike (modifyBook_alike i f s))

theorem beside_raiseFault (c : FaultCause) : Beside i s (s.raiseFault i c) := by
  obtain ⟨frame, _, others, _⟩ := raiseFault_reacted i c s
  exact (beside_reviseBook i s (faulted c)).trans ⟨others, by rw [frame]⟩

theorem beside_removeBook : Beside i s (s.removeBook i) := by
  refine ⟨fun j other => (book_removeBook i j s).trans (if_neg other), ?_⟩
  cases book : s.book i with
  | none => rw [removeBook_of_free book]
  | some b =>
    rw [removeBook_of_book book]
    exact List.length_map _

theorem beside_removeEmpty : Beside i s (s.removeEmpty i) := by
  unfold State.removeEmpty
  split
  · exact .refl i s
  · next b _ =>
    have sent : Beside i s (s.sendOutcome .rejected b) := .ite (fun _ => .of_si rfl) fun _ => .refl i s
    have counted : Beside i s ((s.sendOutcome .rejected b).count .booksRejected) := sent.trans (.of_si rfl)
    exact counted.trans (beside_removeBook i _)

theorem beside_testComplete : Beside i s (s.testComplete i) := by
  refine Beside.trans (t := s.completeTested i) ?_ (.of_alike (testComplete_alike (.refl s) i))
  exact .ite (fun _ => beside_reviseBook i s _) fun _ => .refl i s

theorem beside_collectionEnded : Beside i s (s.collectionEnded i) :=
  (beside_modifyBook i s _).trans (.ite (fun _ => beside_removeEmpty i _) fun _ => beside_testComplete i _)

theorem beside_closeInto (l : Lift) (k : Book) : Beside l.slot s (s.closeInto l k) := by
  rw [closeInto_eq]
  dsimp only
  have faulted_ : Beside l.slot s (if l.short k = true then s.raiseFault l.slot .short else s) :=
    .ite (fun _ => beside_raiseFault l.slot s _) fun _ => .refl _ s
  generalize (if l.short k = true then s.raiseFault l.slot .short else s) = r at faulted_
  generalize appends : r.liftAppended _ = q
  have joined : Beside l.slot r q := .of_si (by rw [← appends]; rfl)
  refine ((faulted_.trans joined).trans (beside_modifyBook l.slot q Book.withLift)).trans ?_
  exact (Beside.ite (p := l.endsCollection = true) (fun _ => beside_collectionEnded l.slot _) fun _ => .refl _ _).trans
    (.of_si (liftJoined_alike (.refl _)).si)

theorem beside_overrun (l : Lift) : Beside l.slot s (s.overrun l) :=
  Beside.trans (t := s.setOpenLift (some { l with overrunHold := true, mode := some .pass })) (.of_si rfl)
    (beside_raiseFault l.slot _ .overrun)

theorem beside_closeLift (l : Lift) (opened : s.lb.openLift = some l) : Beside l.slot s s.closeLift := by
  rw [State.closeLift, opened]
  dsimp only
  refine .ite (fun _ => ?_) fun _ => beside_overrun s l
  split
  · exact beside_closeInto s l _
  · exact .refl _ s

theorem beside_endCollection : Beside i s (s.endCollection i) := by
  have marked : Beside i s ((s.markLastLift i).collectionEnded i) :=
    Beside.trans (t := s.markLastLift i) (.of_si rfl) (beside_collectionEnded i _)
  unfold State.endCollection
  split
  · exact marked
  · next l _ =>
    split
    · next slot =>
      subst slot
      have ending : Beside l.slot s (s.setOpenLift (some { l with endsCollection := true })) := .of_si rfl
      exact .ite (fun _ => ending) fun _ =>
        ending.trans (beside_closeLift _ { l with endsCollection := true } rfl)
    · exact marked

end

/-! ## The finish book stays bound -/

/-- The finish record is of the same book as before. -/
def SameFinishBook (s t : State) : Prop := t.fu.finish.map Finish.book = s.fu.finish.map Finish.book

theorem sameFinishBook_of_finish {s t : State} {f g : Finish} (before : s.fu.finish = some f)
    (after : t.fu.finish = some g) (same : g.book = f.book) : SameFinishBook s t := by
  rw [SameFinishBook, before, after, Option.map_some, Option.map_some, same]

theorem SameFinishBook.ite {p : Prop} [Decidable p] {s t u : State} (a : SameFinishBook s t) (b : SameFinishBook s u) :
    SameFinishBook s (if p then t else u) := by
  split <;> assumption

section

variable {s : State} {f : Finish} (finish : s.fu.finish = some f)

include finish

theorem startExit_sameFinishBook {g : Finish} (same : g.book = f.book) : SameFinishBook s (s.startExit g) :=
  sameFinishBook_of_finish finish (g := { g with step := .exit }) rfl same

theorem withdrawForExit_sameFinishBook (st : Station) : SameFinishBook s (s.withdrawForExit st f) := by
  refine .ite ?_ rfl
  exact sameFinishBook_of_finish finish (g := { f with step := .exit }) rfl rfl

omit finish in
theorem unblock_finish : (s.unblock f).fu.finish = some { f with bitWait := false } := by
  rw [State.unblock, State.follow_fu]
  rfl

theorem reactToFault_sameFinishBook : SameFinishBook s (s.reactToFault f) := by
  unfold State.reactToFault
  split
  · exact rfl
  · split
    · exact .ite (sameFinishBook_of_finish finish unblock_finish rfl)
        (sameFinishBook_of_finish finish (g := { f with bitWait := false, step := .exit }) rfl rfl)
    · exact withdrawForExit_sameFinishBook finish .drill
  · exact .ite rfl (startExit_sameFinishBook finish rfl)
  · exact withdrawForExit_sameFinishBook finish .hanger
  · exact withdrawForExit_sameFinishBook finish .closer
  · exact rfl
  · exact rfl

end

theorem raiseFault_sameFinishBook (i : Slot) (c : FaultCause) (s : State) : SameFinishBook s (s.raiseFault i c) := by
  refine .ite ?_ rfl
  change SameFinishBook (s.modifyBook i (Book.addFault c)) _
  generalize s.modifyBook i (Book.addFault c) = v
  unfold State.tellFinish
  split
  · exact rfl
  · next f finish => exact .ite (reactToFault_sameFinishBook finish) rfl

/-- A finish book FINISHING or LEAVING. -/
theorem FinishBookBound.of_same {s t : State} (bound : FinishBookBound s) (same : SameFinishBook s t)
    (books : ∀ i b, s.book i = some b → (b.stage = .finishing ∨ b.stage = .leaving) →
      ∃ c, t.book i = some c ∧ (c.stage = .finishing ∨ c.stage = .leaving)) : FinishBookBound t := by
  intro f finish
  unfold SameFinishBook at same
  rw [finish] at same
  obtain ⟨g, before, slot⟩ := Option.map_eq_some_iff.1 same.symm
  obtain ⟨b, there, stage⟩ := bound g before
  rw [← slot]
  exact books g.book b there stage

/-- A raised fault changes the stage of a book from FINISHING to LEAVING at most. -/
theorem raiseFault_stage {i : Slot} (c : FaultCause) {s : State} {k : Book} (book : s.book i = some k) :
    ∃ x, (s.raiseFault i c).book i = some x
      ∧ (x = faulted c k ∨ (k.stage = .finishing ∧ x = { faulted c k with stage := .leaving })) := by
  obtain ⟨_, _, _, after⟩ := raiseFault_reacted i c s
  rw [book_reviseBook_same, book] at after
  rcases after with e | e
  · exact ⟨_, e, .inl rfl⟩
  · refine ⟨_, e, ?_⟩
    unfold Book.advance
    split
    · next stage => exact .inr ⟨stage, rfl⟩
    · exact .inl rfl

theorem raiseFault_finishBookBound (i : Slot) (c : FaultCause) {s : State} (bound : FinishBookBound s) :
    FinishBookBound (s.raiseFault i c) := by
  refine FinishBookBound.of_same bound (raiseFault_sameFinishBook i c s) fun j b book stage => ?_
  by_cases here : j = i
  · subst here
    obtain ⟨x, after, rfl | ⟨_, rfl⟩⟩ := raiseFault_stage c book
    · exact ⟨_, after, stage⟩
    · exact ⟨_, after, .inr rfl⟩
  · exact ⟨b, ((beside_raiseFault i s c).others j here).trans book, stage⟩

end Sys2Proof.Machine

/-! Notices that expire, one after another (R17, R19, R36). -/

namespace Sys2Proof.Machine

open Sys2Proof Sys2Proof.Safety

set_option Elab.async false

/-! ## The oldest notice leaves -/

/-- The part with the oldest notice expired, before its book hears of it, beside reports. -/
abbrev State.missed (rest : List Notice) (s : State) : State := (s.noticeGone rest .expiry).tallied .missing

theorem leaveNotice_expiry (rest : List Notice) (s : State) :
    Alike (s.missed rest) (((s.leaveNotice rest).count .missing).updateRegistration .expiry) :=
  updateRegistration_alike (count_alike (leaveNotice_alike rest s) .missing) .expiry

theorem leaveNotice_expiry_record (rest : List Notice) (s : State) :
    (((s.leaveNotice rest).count .missing).updateRegistration .expiry).lsv.record = s.lsv.record := rfl

theorem missed_book (rest : List Notice) (i : Slot) (s : State) : (s.missed rest).book i = s.book i :=
  noticeGone_book rest .expiry i s

theorem missed_finishBookBound (rest : List Notice) {s : State} (bound : FinishBookBound s) :
    FinishBookBound (s.missed rest) :=
  FinishBookBound.of_same bound rfl fun i b book stage => ⟨b, (missed_book rest i s).trans book, stage⟩

theorem finishBookBound_of_alike {v t : State} (a : Alike v t) (bound : FinishBookBound v) : FinishBookBound t := by
  refine FinishBookBound.of_same bound ?_ fun i b book stage => ⟨b, (a.book i).trans book, stage⟩
  rw [SameFinishBook, a.fu]

/-! ## Its book hears of it -/

theorem faultFree_of_none {i : Slot} {s : State} (none : s.book i = none) : s.faultFree i = false := by
  rw [State.faultFree, none]
  rfl

theorem collecting_of_book {i : Slot} {k : Book} {s : State} (book : s.book i = some k) :
    s.collecting i = decide (k.stage = .collecting) := by
  rw [State.collecting, book]
  rfl

theorem expireBook_of_none {i : Slot} {s : State} (none : s.book i = none) (n : Notice) : s.expireBook i n = s := by
  have quiet : s.collecting i = false := by
    rw [State.collecting, none]
    rfl
  unfold State.expireBook
  dsimp only
  rw [raiseFault_of_faulted (faultFree_of_none none), quiet, Bool.and_false, if_neg (by decide)]

/-- A fault leaves whether a book is COLLECTING. -/
theorem collecting_raiseFault {i : Slot} (c : FaultCause) {k : Book} {s : State} (book : s.book i = some k) :
    (s.raiseFault i c).collecting i = decide (k.stage = .collecting) := by
  obtain ⟨x, after, rfl | ⟨stage, rfl⟩⟩ := raiseFault_stage c book
  · exact collecting_of_book (k := faulted c k) after
  · rw [collecting_of_book after, stage]
    rfl

theorem expireBook_of_book {i : Slot} {k : Book} {s : State} (book : s.book i = some k) (n : Notice) :
    s.expireBook i n = if n.last = true ∧ k.stage = .collecting then (s.raiseFault i .missingSheet).endCollection i
      else s.raiseFault i .missingSheet := by
  unfold State.expireBook
  dsimp only
  rw [collecting_raiseFault .missingSheet book]
  simp only [Bool.and_eq_true, decide_eq_true_iff]

theorem beside_expireBook (i : Slot) (n : Notice) (s : State) : Beside i s (s.expireBook i n) :=
  (beside_raiseFault i s _).trans (.ite (fun _ => beside_endCollection i _) fun _ => .refl i _)

/-- A fault that changes nothing but its book: it is not the first, or the book is not the finish book. -/
theorem raiseFault_put_of {v t : State} (a : Alike v t) {i : Slot} {k : Book} (book : v.book i = some k) (c : FaultCause)
    (plain : k.fault ≠ none ∨ NotFinishing i v) : Alike (v.putBook i (faulted c k)) (t.raiseFault i c) := by
  rcases plain with fault | apart
  · have free : t.faultFree i = false := by
      rw [State.faultFree, a.book, book, Option.any_some, Option.isNone_eq_false_iff, Option.isSome_iff_ne_none]
      exact fault
    rw [raiseFault_of_faulted free, faulted_of_fault fault, putBook_self book]
    exact a
  · exact raiseFault_put a book c apart

/-- The end of a collection leaves the finish record. -/
theorem collectionEnded_finish {i : Slot} {k : Book} {s t : State} (ended : CollectionEnded i k s t) :
    t.fu.finish = s.fu.finish := by
  obtain ⟨opened, lifts, empty, _⟩ := ended
  by_cases none : NoneOpen i s
  · cases holds : endsEmpty i k s with
    | false =>
      obtain ⟨_, _, _, fu⟩ := lifts none holds
      rw [fu]
      rfl
    | true =>
      obtain ⟨_, _, _, fu, _⟩ := empty holds
      rw [fu]
  · unfold NoneOpen at none
    simp only [not_forall, not_not] at none
    obtain ⟨l, there, slot⟩ := none
    obtain ⟨_, _, _, _, fu⟩ := opened l there slot
    rw [fu]

theorem CollectionOver.finishBookBound {i : Slot} {k : Book} {s t : State} (h : CollectionOver i k s t)
    (bound : FinishBookBound s) (apart : NotFinishing i s) : FinishBookBound t := by
  intro f finish
  rw [collectionEnded_finish h.ended] at finish
  obtain ⟨b, there, stage⟩ := bound f finish
  exact ⟨b, (h.others f.book (apart f finish)).trans there, stage⟩

/-! ## One expiry -/

section

variable {s : State} {n : Notice} {rest : List Notice}

/-- The part once the oldest notice has left and the streaks have followed. -/
abbrev State.afterMissing (rest : List Notice) (s : State) : State :=
  ((s.leaveNotice rest).count .missing).updateRegistration .expiry

theorem expireNotice_of_none (none : n.slot.bind (fun i => s.book i) = none) :
    s.expireNotice n rest = s.afterMissing rest := by
  unfold State.expireNotice
  dsimp only
  split
  · rfl
  · next i slot =>
    rw [slot, Option.bind_some] at none
    exact expireBook_of_none (((leaveNotice_expiry rest s).book i).trans ((missed_book rest i s).trans none)) n

theorem expireNotice_of_slot {i : Slot} (slot : n.slot = some i) :
    s.expireNotice n rest = (s.afterMissing rest).expireBook i n := by
  rw [State.expireNotice, slot]

section

variable {i : Slot} {b : Book} (slot : n.slot = some i) (book : s.book i = some b)

include slot book

theorem expireNotice_of_book : s.expireNotice n rest = if n.last = true ∧ b.stage = .collecting then
    ((s.afterMissing rest).raiseFault i .missingSheet).endCollection i
    else (s.afterMissing rest).raiseFault i .missingSheet := by
  rw [expireNotice_of_slot slot]
  exact expireBook_of_book (((leaveNotice_expiry rest s).book i).trans ((missed_book rest i s).trans book)) n

theorem expireNotice_plain (stays : ¬(n.last = true ∧ b.stage = .collecting))
    (plain : b.fault ≠ none ∨ ∀ f, s.fu.finish = some f → f.book ≠ i) :
    Alike ((s.missed rest).putBook i (faulted .missingSheet b)) (s.expireNotice n rest) := by
  rw [expireNotice_of_book slot book, if_neg stays]
  exact raiseFault_put_of (leaveNotice_expiry rest s) ((missed_book rest i s).trans book) .missingSheet plain

theorem expireNotice_reacted (stays : ¬(n.last = true ∧ b.stage = .collecting)) :
    Reacted i ((s.missed rest).putBook i (faulted .missingSheet b)) (s.expireNotice n rest)
      ∧ ∃ c, (s.expireNotice n rest).book i = some c ∧ c = { faulted .missingSheet b with stage := c.stage } := by
  have a := leaveNotice_expiry rest s
  have there := (missed_book rest i s).trans book
  rw [expireNotice_of_book slot book, if_neg stays]
  refine ⟨?_, ?_⟩
  · rw [← reviseBook_of_book there]
    exact .of_alike (a.apply (unreporting_reviseBook i _)) (raiseFault_reacted i .missingSheet (s.afterMissing rest))
  · obtain ⟨x, after, _, same⟩ := raiseFault_book .missingSheet ((a.book i).trans there)
    exact ⟨x, after, same⟩

theorem expireNotice_ends (last : n.last = true) (stage : b.stage = .collecting) (bound : FinishBookBound s) :
    CollectionOver i (faulted .missingSheet b) (s.missed rest) (s.expireNotice n rest) := by
  rw [expireNotice_of_book slot book, if_pos ⟨last, stage⟩]
  exact faultAndEnd_over (leaveNotice_expiry rest s) .missingSheet ((missed_book rest i s).trans book) (.inl stage)
    (apart_of_taking (s := s) bound book (.inr stage))

end

theorem expireNotice_finishBookBound (bound : FinishBookBound s) : FinishBookBound (s.expireNotice n rest) := by
  have a := leaveNotice_expiry rest s
  have after := finishBookBound_of_alike a (missed_finishBookBound rest bound)
  cases found : n.slot.bind (fun i => s.book i) with
  | none =>
    rw [expireNotice_of_none found]
    exact after
  | some b =>
    obtain ⟨i, slot, book⟩ := Option.bind_eq_some_iff.1 found
    by_cases ends : n.last = true ∧ b.stage = .collecting
    · exact (expireNotice_ends slot book ends.1 ends.2 bound).finishBookBound (missed_finishBookBound rest bound)
        (apart_of_taking (s := s) bound book (.inr ends.2))
    · rw [expireNotice_of_book slot book, if_neg ends]
      exact raiseFault_finishBookBound i .missingSheet after

theorem expireNotice_notices (n : Notice) (rest : List Notice) (s : State) :
    (s.expireNotice n rest).si.notices.length = rest.length := by
  have gone : (s.afterMissing rest).si.notices = rest := by
    rw [(leaveNotice_expiry rest s).si]
    exact noticeGone_notices rest .expiry s
  cases slot : n.slot with
  | none => rw [expireNotice_of_none (by rw [slot]; rfl), gone]
  | some i => rw [expireNotice_of_slot slot, (beside_expireBook i n _).notices, gone]

/-- The oldest notice expires. -/
theorem noticeExpired (notices : s.si.notices = n :: rest) (old : s.si.window < (s.si.travel - n.arrival).toNat) :
    NoticeExpired s (s.expireNotice n rest) := by
  have m : Moves s (s.expireNotice n rest) := moves_expireNotice (by rw [notices]; exact Nat.le_succ _)
  obtain ⟨lsv, noted⟩ := m.followed
  refine ⟨n, rest, notices, old, ?_, m.watched, m.noticed, lsv, noted, expireNotice_finishBookBound⟩
  rintro v rfl
  refine ⟨fun none => ?_, fun i b slot book => ⟨fun j other => ?_, fun stays plain => ?_, fun stays => ?_,
    fun last stage bound => ?_⟩⟩
  · have a := leaveNotice_expiry rest s
    have w := m.watched
    rw [expireNotice_of_none none] at w ⊢
    exact ⟨a.1, watched_monitored w a.2, leaveNotice_expiry_record rest s⟩
  · rw [expireNotice_of_slot slot]
    exact ((beside_expireBook i n _).others j other).trans
      (((leaveNotice_expiry rest s).book j).trans (missed_book rest j s))
  · have a := expireNotice_plain (rest := rest) slot book stays plain
    refine ⟨?_, (a.book i).trans (book_putBook_same _ _ _), a.2⟩
    rw [a.si]
    exact a.1
  · obtain ⟨⟨frame, work, _, _⟩, after⟩ := expireNotice_reacted (rest := rest) slot book stays
    refine ⟨?_, after, work⟩
    generalize s.expireNotice n rest = t at frame
    generalize t.lp = lp, t.lm = lm, t.lsv = lsv, t.orders = orders, t.si.books = books, t.fu.finish = finish at frame
    subst frame
    rfl
  · obtain ⟨ended, _, moved, tcu, work, _⟩ := expireNotice_ends (rest := rest) slot book last stage bound
    exact ⟨CollectionMoved.trans (t := s.missed rest) rfl moved, tcu, ended, work⟩

end

/-! ## One after another -/

theorem noticesExpired (k : Nat) (s : State) (fits : s.si.notices.length ≤ k) :
    ∃ j, NoticesExpiredBy j s (s.expireUpTo k) ∧ HeadFresh (s.expireUpTo k).si.notices (s.expireUpTo k) := by
  induction k generalizing s with
  | zero =>
    refine ⟨0, rfl, fun m head => ?_⟩
    rw [State.expireUpTo, List.eq_nil_of_length_eq_zero (Nat.le_zero.1 fits)] at head
    cases head
  | succ k ih =>
    by_cases fresh : HeadFresh s.si.notices s
    · rw [expireUpTo_of_fresh fresh]
      exact ⟨0, rfl, fresh⟩
    · unfold HeadFresh at fresh
      simp only [not_forall, not_le] at fresh
      obtain ⟨n, head, old⟩ := fresh
      obtain ⟨rest, notices⟩ := List.head?_eq_some_iff.1 head
      have next : s.expireUpTo (k + 1) = (s.expireNotice n rest).expireUpTo k := by
        rw [State.expireUpTo, notices]
        exact if_pos ((expired_iff n s).2 old)
      obtain ⟨j, by_, left⟩ := ih (s.expireNotice n rest) (by
        rw [expireNotice_notices]
        rw [notices, List.length_cons] at fits
        exact Nat.le_of_succ_le_succ fits)
      rw [next]
      exact ⟨j + 1, ⟨_, noticeExpired notices old, by_⟩, left⟩

theorem testRest_holds (s : State) : s.testRest.lsv.holds = s.lsv.holds := by
  unfold State.testRest
  split <;> rfl

theorem expiredOut_testExpiry (s : State) : ExpiredOut s s.testExpiry.testRest := by
  obtain ⟨k, by_, fresh⟩ := noticesExpired s.si.notices.length s (Nat.le_refl _)
  obtain ⟨frame, ⟨monitored, noticed⟩, lsv, noted⟩ := testRest_settled s.testExpiry
  refine ⟨k, s.testExpiry, by_, fresh, ?_, noted⟩
  rw [testRest_holds] at lsv
  have lm : s.testExpiry.testRest.lm = { s.testExpiry.lm with
    latches := s.testExpiry.testRest.lm.latches, live := s.testExpiry.testRest.lm.live } := monitored
  rw [← lm, ← lsv, ← noticed]
  exact frame

section

variable {s : State} (awake : Awake s)

include awake

theorem exec_noticeExpiry : exec .noticeExpiry s = .next s.noticeExpiry := takeEvent_awake awake

theorem noticeExpiry_of_fresh (fresh : HeadFresh s.si.notices s) : exec .noticeExpiry s = .next s := by
  refine (exec_noticeExpiry awake).trans (congrArg _ (if_neg ?_))
  rw [Option.any_eq_true]
  rintro ⟨n, head, old⟩
  exact absurd ((expired_iff n s).1 old) (Nat.not_lt.2 (fresh n head))

end

/-- Settles O16, by induction on the notices that wait. -/
theorem oldestNoticeExpires : Obligations.OldestNoticeExpires := by
  refine fun s awake => ⟨noticeExpiry_of_fresh awake, fun n rest notices => ⟨fun old => ?_, ?_⟩⟩
  · refine ⟨_, exec_noticeExpiry awake, ?_⟩
    have expires : s.noticeExpiry = s.testExpiry.testRest := by
      refine if_pos ?_
      rw [notices]
      exact (expired_iff n s).2 old
    rw [expires]
    exact expiredOut_testExpiry s
  · rintro u rfl
    refine ⟨⟨_, exec_infeedEdge awake, ?_⟩, fun slot => ?_⟩
    · rw [infeedEdge_of_notice notices]
      exact expiredOut_testExpiry _
    · have fewer : rest.length ≤ s.si.notices.length := by
        rw [notices]
        exact Nat.le_succ _
      have m := moves_matchNotice (n := n) fewer
      have divert : s.matchNotice n rest = ((s.leaveNotice rest).updateRegistration .matching).divertSheet := by
        rw [State.matchNotice, slot]
      have a := divertSheet_alike (moves_matching fewer) (leaveNotice_matching rest s) rfl
      rw [← divert] at a
      refine ⟨a.1, watched_monitored m.watched a.2, m.noticed, lineFollowed_moved m.followed ?_⟩
      rw [divert]
      change (State.triggerStrobe 7 _).lsv.record = _
      rw [State.triggerStrobe_lsv]
      rfl

end Sys2Proof.Machine

/-! What each slot sees of the part: its book, its lifts under way, the Open Lift, its notices and the finish
position. `StagesAgree` says of every slot by itself that these fit (R1, R33, R34, R87, R139, R141). -/

namespace Sys2Proof.Machine

open Sys2Proof Sys2Proof.Safety

set_option Elab.async false

/-! ## The view of a slot -/

/-- What of a book its places must agree with. -/
structure BookShape where
  stage    : Stage
  placed   : Nat
  closed   : Nat
  gathered : Nat

def Book.shape (b : Book) : BookShape := ⟨b.stage, b.placed, b.liftsClosed, b.liftsGathered⟩

/-- What a slot sees: the shape of its book, its lifts under way, and whether the Open Lift, a notice and the
finish record name it. -/
structure SlotView where
  book      : Option BookShape
  under     : Nat
  opened    : Bool
  noticed   : Bool
  finishing : Bool

/-- Some notice names the slot. -/
def State.noticedFor (i : Slot) (s : State) : Bool := s.si.notices.any fun n => decide (n.slot = some i)

/-- The finish record names the slot. -/
def State.finishes (i : Slot) (s : State) : Bool := s.fu.finish.any fun f => decide (f.book = i)

def State.view (i : Slot) (s : State) : SlotView :=
  ⟨(s.book i).map Book.shape, liftsUnderWay i s, s.openLiftOf i, s.noticedFor i, s.finishes i⟩

/-- The stage is GATHERED or a later one. -/
def Stage.past (g : Stage) : Prop := g = .gathered ∨ g = .finishing ∨ g = .leaving

/-- A book and what its slot sees beside it fit. -/
structure BookFits (b : BookShape) (v : SlotView) : Prop where
  lifts : b.closed = v.under + b.gathered
  fresh : b.stage = .opened → b.closed = 0 ∧ b.placed = 0 ∧ v.noticed = false
  past : b.stage.past → v.under = 0
  opened : v.opened = true → (b.stage = .collecting ∨ b.stage = .collected) ∧ 1 ≤ b.placed
  finishing : v.finishing = true → b.stage = .finishing ∨ b.stage = .leaving

/-- What a slot sees fits: a free slot sees nothing else. -/
def SlotView.Fits (v : SlotView) : Prop :=
  match v.book with
  | none => v.under = 0 ∧ v.opened = false ∧ v.noticed = false ∧ v.finishing = false
  | some b => BookFits b v

/-- Every slot's view fits. -/
def Fitting (s : State) : Prop := ∀ i, (s.view i).Fits

/-- An Open Lift that ends its book's collection is held over (R36, R41). -/
def EndsHeld (s : State) : Prop := ∀ l, s.lb.openLift = some l → l.endsCollection = true → l.overrunHold = true

/-! ### Reading the view -/

theorem openLiftOf_iff (i : Slot) (s : State) : s.openLiftOf i = true ↔ ∃ l, s.lb.openLift = some l ∧ l.slot = i := by
  simp [State.openLiftOf, Option.any_eq_true]

theorem noticedFor_iff (i : Slot) (s : State) : s.noticedFor i = true ↔ ∃ n ∈ s.si.notices, n.slot = some i := by
  simp [State.noticedFor]

theorem finishes_iff (i : Slot) (s : State) : s.finishes i = true ↔ ∃ f, s.fu.finish = some f ∧ f.book = i := by
  simp [State.finishes, Option.any_eq_true]

theorem fits_of_book {v : SlotView} {b : BookShape} (book : v.book = some b) : v.Fits ↔ BookFits b v := by
  rw [SlotView.Fits, book]

theorem fits_of_free {v : SlotView} (book : v.book = none) :
    v.Fits ↔ v.under = 0 ∧ v.opened = false ∧ v.noticed = false ∧ v.finishing = false := by
  rw [SlotView.Fits, book]

theorem view_book {i : Slot} {s : State} {b : Book} (book : s.book i = some b) : (s.view i).book = some b.shape :=
  congrArg (Option.map Book.shape) book

theorem view_free {i : Slot} {s : State} (book : s.book i = none) : (s.view i).book = none :=
  congrArg (Option.map Book.shape) book

section

variable {s : State} (h : Fitting s) {i : Slot}

include h

theorem Fitting.book {b : Book} (book : s.book i = some b) : BookFits b.shape (s.view i) :=
  (fits_of_book (view_book book)).1 (h i)

theorem Fitting.free (book : s.book i = none) :
    liftsUnderWay i s = 0 ∧ s.openLiftOf i = false ∧ s.noticedFor i = false ∧ s.finishes i = false :=
  (fits_of_free (view_free book)).1 (h i)

theorem Fitting.finishBook {f : Finish} (finish : s.fu.finish = some f) :
    ∃ b, s.book f.book = some b ∧ (b.stage = .finishing ∨ b.stage = .leaving) := by
  have here : s.finishes f.book = true := (finishes_iff _ s).2 ⟨f, finish, rfl⟩
  cases book : s.book f.book with
  | none =>
    obtain ⟨_, _, _, away⟩ := h.free book
    rw [here] at away
    cases away
  | some b => exact ⟨b, rfl, (h.book book).finishing here⟩

theorem Fitting.openLift {l : Lift} (opened : s.lb.openLift = some l) :
    ∃ b, s.book l.slot = some b ∧ (b.stage = .collecting ∨ b.stage = .collected) ∧ 1 ≤ b.placed := by
  have here : s.openLiftOf l.slot = true := (openLiftOf_iff _ s).2 ⟨l, opened, rfl⟩
  cases book : s.book l.slot with
  | none =>
    obtain ⟨_, away, _⟩ := h.free book
    rw [here] at away
    cases away
  | some b => exact ⟨b, rfl, (h.book book).opened here⟩

theorem Fitting.notice {n : Notice} (waits : n ∈ s.si.notices) (slot : n.slot = some i) :
    ∃ b, s.book i = some b ∧ b.stage ≠ .opened := by
  have here : s.noticedFor i = true := (noticedFor_iff i s).2 ⟨n, waits, slot⟩
  cases book : s.book i with
  | none =>
    obtain ⟨_, _, away, _⟩ := h.free book
    rw [here] at away
    cases away
  | some b =>
    refine ⟨b, rfl, fun opened => ?_⟩
    obtain ⟨_, _, away⟩ := (h.book book).fresh opened
    exact absurd (here.symm.trans away) (by decide)

end

theorem past_of_finishing {g : Stage} (h : g = .finishing ∨ g = .leaving) : g.past := .inr h

theorem not_past_of_collecting {g : Stage} (h : g = .collecting ∨ g = .collected) : ¬g.past := by
  rcases h with rfl | rfl <;> rintro (e | e | e) <;> cases e

/-- The invariant is that every slot's view fits, with the Open Lift that ends a collection held. -/
theorem stagesAgree_iff (s : State) : StagesAgree s ↔ Fitting s ∧ EndsHeld s := by
  constructor
  · rintro ⟨finish, opened, notices, lifts, _⟩
    refine ⟨fun i => ?_, fun l e => (opened l e).2⟩
    obtain ⟨free, bound⟩ := lifts i
    cases book : s.book i with
    | none =>
      refine (fits_of_free (view_free book)).2 ⟨free book, Bool.eq_false_iff.2 fun e => ?_, Bool.eq_false_iff.2 fun e => ?_,
        Bool.eq_false_iff.2 fun e => ?_⟩
      · obtain ⟨l, there, slot⟩ := (openLiftOf_iff i s).1 e
        obtain ⟨⟨b, has, _⟩, _⟩ := opened l there
        rw [slot, book] at has
        cases has
      · obtain ⟨n, there, slot⟩ := (noticedFor_iff i s).1 e
        obtain ⟨b, has, _⟩ := notices n i there slot
        rw [book] at has
        cases has
      · obtain ⟨f, there, slot⟩ := (finishes_iff i s).1 e
        obtain ⟨b, has, _⟩ := finish f there
        rw [slot, book] at has
        cases has
    | some b =>
      obtain ⟨closed, fresh, past⟩ := bound b book
      refine (fits_of_book (view_book book)).2 ⟨closed, fun e => ?_, past, fun e => ?_, fun e => ?_⟩
      · obtain ⟨noneClosed, nonePlaced⟩ := fresh e
        refine ⟨noneClosed, nonePlaced, Bool.eq_false_iff.2 fun waits => ?_⟩
        obtain ⟨n, there, slot⟩ := (noticedFor_iff i s).1 waits
        obtain ⟨c, has, stage⟩ := notices n i there slot
        rw [book] at has
        obtain rfl := Option.some.inj has
        exact stage e
      · obtain ⟨l, there, slot⟩ := (openLiftOf_iff i s).1 e
        obtain ⟨⟨c, has, stage⟩, _⟩ := opened l there
        rw [slot, book] at has
        obtain rfl := Option.some.inj has
        exact stage
      · obtain ⟨f, there, slot⟩ := (finishes_iff i s).1 e
        obtain ⟨c, has, stage⟩ := finish f there
        rw [slot, book] at has
        obtain rfl := Option.some.inj has
        exact stage
  · rintro ⟨fits, ends⟩
    refine ⟨fun f finish => fits.finishBook finish, fun l opened => ⟨fits.openLift opened, ends l opened⟩,
      fun n i waits slot => fits.notice waits slot, fun i => ⟨fun book => (fits.free book).1, fun b book => ?_⟩, ?_⟩
    · have here := fits.book book
      exact ⟨here.lifts, fun e => ⟨(here.fresh e).1, (here.fresh e).2.1⟩, here.past⟩
    · intro b f bed finish same
      obtain ⟨k, book, stage⟩ := fits.finishBook finish
      have none : liftsUnderWay f.book s = 0 := (fits.book book).past (past_of_finishing stage)
      rw [← same, liftsUnderWay, bed, Option.any_some, decide_eq_true rfl] at none
      exact absurd none (Nat.succ_ne_zero _)

/-! ## Views that stay -/

/-- Every slot sees what it saw. -/
def SameView (s t : State) : Prop := ∀ i, t.view i = s.view i

theorem SameView.refl (s : State) : SameView s s := fun _ => rfl

theorem SameView.trans {s t u : State} (a : SameView s t) (b : SameView t u) : SameView s u :=
  fun i => (b i).trans (a i)

theorem SameView.ite {p : Prop} [Decidable p] {s t u : State} (a : p → SameView s t) (b : ¬p → SameView s u) :
    SameView s (if p then t else u) := by
  split
  · exact a ‹_›
  · exact b ‹_›

theorem Fitting.of_same {s t : State} (h : Fitting s) (same : SameView s t) : Fitting t := fun i => (same i).symm ▸ h i

/-- One slot's view changes and still fits. -/
theorem Fitting.of_one {s t : State} (h : Fitting s) (i : Slot) (others : ∀ j, j ≠ i → t.view j = s.view j)
    (here : (t.view i).Fits) : Fitting t := by
  intro j
  by_cases at_ : j = i
  · rw [at_]
    exact here
  · rw [others j at_]
    exact h j

/-- The slots of the lifts that are closed and not gathered. -/
def State.liftSlots (s : State) : List Slot × Option Slot := (s.lb.queue.map Lift.slot, s.ss.bed.map fun b => b.lift.slot)

theorem liftsUnderWay_congr {s t : State} (slots : t.liftSlots = s.liftSlots) (i : Slot) :
    liftsUnderWay i t = liftsUnderWay i s := by
  have count : ∀ s : State, liftsUnderWay i s = s.liftSlots.1.countP (fun j => decide (j = i))
      + (s.liftSlots.2.any fun j => decide (j = i)).toNat := by
    intro s
    rw [liftsUnderWay, State.liftSlots, List.countP_map, Option.any_map]
    rfl
  rw [count, count, slots]

theorem finishes_congr {s t : State} (same : SameFinishBook s t) (i : Slot) : t.finishes i = s.finishes i := by
  have read : ∀ s : State, s.finishes i = (s.fu.finish.map Finish.book).any fun j => decide (j = i) := by
    intro s
    rw [Option.any_map]
    rfl
  rw [read, read, same]

section

variable {s t : State} (notices : t.si.notices = s.si.notices) (opened : t.lb.openLift = s.lb.openLift)
  (slots : t.liftSlots = s.liftSlots) (finish : SameFinishBook s t)

include notices opened slots finish

/-- Everything but the books stands. -/
theorem view_of_places (i : Slot) : t.view i = { s.view i with book := (t.book i).map Book.shape } := by
  have open_ : t.openLiftOf i = s.openLiftOf i := by rw [State.openLiftOf, State.openLiftOf, opened]
  have noticed : t.noticedFor i = s.noticedFor i := by rw [State.noticedFor, State.noticedFor, notices]
  rw [State.view, State.view, liftsUnderWay_congr slots, open_, noticed, finishes_congr finish]

theorem sameView_of_shapes (books : ∀ i, (t.book i).map Book.shape = (s.book i).map Book.shape) : SameView s t := by
  intro i
  rw [view_of_places notices opened slots finish, books]
  rfl

end

/-- The parts that the views are of. -/
theorem sameView_of_eq {s t : State} (si : t.si = s.si) (lb : t.lb = s.lb) (bed : t.ss.bed = s.ss.bed)
    (finish : t.fu.finish = s.fu.finish) : SameView s t :=
  sameView_of_shapes (by rw [si]) (by rw [lb]) (by rw [State.liftSlots, lb, bed]; rfl) (by rw [SameFinishBook, finish])
    fun i => by rw [State.book, si]; rfl

theorem Alike.sameView {v t : State} (a : Alike v t) : SameView v t :=
  sameView_of_eq a.si a.lb (by rw [a.ss]) (by rw [a.fu])

theorem EndsHeld.of_openLift {s t : State} (h : EndsHeld s) (opened : t.lb.openLift = s.lb.openLift) : EndsHeld t := by
  unfold EndsHeld
  rw [opened]
  exact h

/-! ## Books that change -/

section

variable (i : Slot) (s : State)

/-- A book's entry changes, and nothing else that a slot sees. -/
theorem view_reviseBook_ne {j : Slot} (other : j ≠ i) (f : Book → Book) : (s.reviseBook i f).view j = s.view j := by
  refine (view_of_places (s := s) (t := s.reviseBook i f) rfl rfl rfl rfl j).trans ?_
  rw [book_reviseBook_ne other]
  rfl

theorem view_reviseBook_same (f : Book → Book) :
    (s.reviseBook i f).view i = { s.view i with book := ((s.book i).map f).map Book.shape } := by
  refine (view_of_places (s := s) (t := s.reviseBook i f) rfl rfl rfl rfl i).trans ?_
  rw [book_reviseBook_same]

theorem sameView_modifyBook (f : Book → Book) : SameView (s.reviseBook i f) (s.modifyBook i f) :=
  (modifyBook_alike i f s).sameView

variable {i s}

theorem Fitting.reviseBook (h : Fitting s) {f : Book → Book}
    (fits : ∀ b, s.book i = some b → BookFits b.shape (s.view i) → BookFits (f b).shape (s.view i)) :
    Fitting (s.reviseBook i f) := by
  refine h.of_one i (fun j other => view_reviseBook_ne i s other f) ?_
  rw [view_reviseBook_same]
  cases book : s.book i with
  | none => exact (fits_of_free rfl).2 ((fits_of_free (view_free book)).1 (h i))
  | some b => exact (fits_of_book rfl).2 (by
      obtain ⟨lifts, fresh, past, opened, finishing⟩ := fits b book (h.book book)
      exact ⟨lifts, fresh, past, opened, finishing⟩)

theorem Fitting.modifyBook (h : Fitting s) {f : Book → Book}
    (fits : ∀ b, s.book i = some b → BookFits b.shape (s.view i) → BookFits (f b).shape (s.view i)) :
    Fitting (s.modifyBook i f) := (h.reviseBook fits).of_same (sameView_modifyBook i s f)

theorem Fitting.modifyBook_shape (h : Fitting s) {f : Book → Book} (same : ∀ b, (f b).shape = b.shape) :
    Fitting (s.modifyBook i f) := h.modifyBook fun b _ fits => (same b).symm ▸ fits

end

end Sys2Proof.Machine

/-! What faults, the end of a collection and the closing of a lift leave in place. -/

namespace Sys2Proof.Machine

open Sys2Proof Sys2Proof.Safety

set_option Elab.async false

/-- Every slot's view fits, and an Open Lift that ends a collection is held. -/
structure InPlace (s : State) : Prop where
  fits : Fitting s
  ends : EndsHeld s

theorem InPlace.of_same {s t : State} (h : InPlace s) (same : SameView s t) (opened : t.lb.openLift = s.lb.openLift) :
    InPlace t := ⟨h.fits.of_same same, h.ends.of_openLift opened⟩

theorem InPlace.of_eq {s t : State} (h : InPlace s) (si : t.si = s.si) (lb : t.lb = s.lb) (bed : t.ss.bed = s.ss.bed)
    (finish : t.fu.finish = s.fu.finish) : InPlace t := h.of_same (sameView_of_eq si lb bed finish) (by rw [lb])

theorem InPlace.of_alike {v t : State} (h : InPlace v) (a : Alike v t) : InPlace t := h.of_same a.sameView (by rw [a.lb])

/-! ## Stages -/

/-- A stage that changes to one that the slot's view allows. -/
theorem BookFits.restage {b : BookShape} {v : SlotView} (h : BookFits b v) {g : Stage} (later : g ≠ .opened)
    (past : g.past → v.under = 0) (opened : v.opened = true → g = .collecting ∨ g = .collected)
    (finishing : v.finishing = true → g = .finishing ∨ g = .leaving) : BookFits { b with stage := g } v :=
  ⟨h.lifts, fun e => absurd e later, past, fun e => ⟨opened e, (h.opened e).2⟩, finishing⟩

theorem BookFits.not_finishing {b : BookShape} {v : SlotView} (h : BookFits b v) (stage : ¬b.stage.past) :
    v.finishing = false := Bool.eq_false_iff.2 fun e => stage (past_of_finishing (h.finishing e))

theorem BookFits.not_opened {b : BookShape} {v : SlotView} (h : BookFits b v) (stage : b.stage.past ∨ b.stage = .opened) :
    v.opened = false := by
  refine Bool.eq_false_iff.2 fun e => ?_
  obtain ⟨early, _⟩ := h.opened e
  rcases stage with past | opened
  · exact not_past_of_collecting early past
  · rw [opened] at early
    rcases early with e | e <;> cases e

theorem shape_advance (a b : Stage) (k : Book) :
    (k.advance a b).shape = if k.stage = a then { k.shape with stage := b } else k.shape := by
  unfold Book.advance
  split <;> rfl

/-- FINISHING becomes LEAVING. -/
theorem BookFits.leave {k : Book} {v : SlotView} (h : BookFits k.shape v) :
    BookFits (k.advance .finishing .leaving).shape v := by
  rw [shape_advance]
  split
  · next stage =>
    have past : k.shape.stage.past := .inr (.inl stage)
    refine h.restage (by decide) (fun _ => h.past past) (fun e => ?_) fun _ => .inr rfl
    exact absurd ((h.not_opened (.inl past)).symm.trans e) (by decide)
  · exact h

/-- COLLECTING becomes COLLECTED. -/
theorem BookFits.collect {k : Book} {v : SlotView} (h : BookFits k.shape v) :
    BookFits (k.advance .collecting .collected).shape v := by
  rw [shape_advance]
  split
  · next stage =>
    have early : ¬k.shape.stage.past := not_past_of_collecting (.inl stage)
    refine h.restage (by decide) (fun past => ?_) (fun _ => .inr rfl) fun e => ?_
    · exact absurd past (not_past_of_collecting (.inr rfl))
    · exact absurd ((h.not_finishing early).symm.trans e) (by decide)
  · exact h

/-- COLLECTED becomes GATHERED where every lift has been gathered. -/
theorem BookFits.gather {k : Book} {v : SlotView} (h : BookFits k.shape v) (lifts : k.liftsClosed = k.liftsGathered)
    (shut : v.opened = false) : BookFits (k.advance .collected .gathered).shape v := by
  rw [shape_advance]
  split
  · next stage =>
    have early : ¬k.shape.stage.past := not_past_of_collecting (.inr stage)
    refine h.restage (by decide) (fun _ => ?_) (fun e => absurd (shut.symm.trans e) (by decide)) fun e => ?_
    · have closed : k.liftsClosed = v.under + k.liftsGathered := h.lifts
      omega
    · exact absurd ((h.not_finishing early).symm.trans e) (by decide)
  · exact h

/-! ## Faults -/

/-- The book of the slot has gone on from FINISHING to LEAVING, or stands. -/
theorem Fitting.of_reacted {i : Slot} {s t : State} (h : Fitting s) (r : Reacted i s t) (finish : SameFinishBook s t) :
    Fitting t := by
  obtain ⟨frame, _, others, book⟩ := r
  have places := view_of_places (s := s) (t := t) (by rw [frame]) (by rw [frame]) (by rw [State.liftSlots, frame]; rfl) finish
  refine h.of_one i (fun j other => ?_) ?_
  · rw [places, others j other]
    rfl
  · rw [places]
    rcases book with e | e
    · rw [e]
      exact h i
    · rw [e]
      cases there : s.book i with
      | none => exact (fits_of_free rfl).2 ((fits_of_free (view_free there)).1 (h i))
      | some k =>
        obtain ⟨lifts, fresh, past, opened, finishing⟩ := (h.book there).leave
        exact (fits_of_book rfl).2 ⟨lifts, fresh, past, opened, finishing⟩

theorem shape_faulted (c : FaultCause) (k : Book) : (faulted c k).shape = k.shape := rfl

theorem Fitting.raiseFault {s : State} (h : Fitting s) (i : Slot) (c : FaultCause) : Fitting (s.raiseFault i c) := by
  have marked : Fitting (s.reviseBook i (faulted c)) := h.reviseBook fun _ _ fits => fits
  exact marked.of_reacted (raiseFault_reacted i c s) (raiseFault_sameFinishBook i c s)

theorem InPlace.raiseFault {s : State} (h : InPlace s) (i : Slot) (c : FaultCause) : InPlace (s.raiseFault i c) :=
  ⟨h.fits.raiseFault i c, h.ends.of_openLift (by rw [State.raiseFault_lb])⟩

theorem raiseFault_finishes (i j : Slot) (c : FaultCause) (s : State) : (s.raiseFault i c).finishes j = s.finishes j :=
  finishes_congr (raiseFault_sameFinishBook i c s) j

/-! ## Completeness and removal -/

theorem complete_iff_of_book {i : Slot} {k : Book} {s : State} (book : s.book i = some k) : s.complete i = true ↔
    (s.fu.gather.any fun g => decide (g.book = i)) = true ∧ k.stage = .collected ∧ k.liftsClosed = k.liftsGathered
      ∧ s.openLiftOf i = false := by
  simp only [State.complete, book, Option.any_some, Bool.and_eq_true, decide_eq_true_iff, Bool.not_eq_true', and_assoc]

theorem Fitting.testComplete {s : State} (h : Fitting s) (i : Slot) : Fitting (s.testComplete i) := by
  unfold State.testComplete
  split
  · next complete =>
    refine h.modifyBook fun k book fits => ?_
    obtain ⟨_, _, lifts, shut⟩ := (complete_iff_of_book book).1 complete
    exact fits.gather lifts shut
  · exact h

theorem closeFor_slot (i j : Slot) (n : Notice) : (n.closeFor i).slot = some j ↔ j ≠ i ∧ n.slot = some j := by
  unfold Notice.closeFor
  by_cases same : n.slot = some i
  · simp only [same, if_true, reduceCtorEq, Option.some.injEq, false_iff]
    rintro ⟨other, here⟩
    exact other here.symm
  · rw [if_neg same]
    refine ⟨fun here => ⟨fun other => same (other ▸ here), here⟩, And.right⟩

theorem noticedFor_closeFor (i j : Slot) (l : List Notice) :
    ((l.map (Notice.closeFor i)).any fun n => decide (n.slot = some j)) =
      (decide (j ≠ i) && l.any fun n => decide (n.slot = some j)) := by
  rw [Bool.eq_iff_iff, Bool.and_eq_true, List.any_map, List.any_eq_true, List.any_eq_true, decide_eq_true_iff]
  simp only [Function.comp, decide_eq_true_iff, closeFor_slot]
  exact ⟨fun ⟨n, waits, other, slot⟩ => ⟨other, n, waits, slot⟩, fun ⟨other, n, waits, slot⟩ => ⟨n, waits, other, slot⟩⟩

theorem removeBook_view_ne {i j : Slot} (other : j ≠ i) (s : State) : (s.removeBook i).view j = s.view j := by
  have noticed : (s.removeBook i).noticedFor j = s.noticedFor j := by
    cases book : s.book i with
    | none => rw [removeBook_of_free book]
    | some b =>
      rw [removeBook_of_book book]
      refine (noticedFor_closeFor i j s.si.notices).trans ?_
      rw [decide_eq_true other, Bool.true_and]
      rfl
  have under : liftsUnderWay j (s.removeBook i) = liftsUnderWay j s :=
    liftsUnderWay_congr (by simp [State.liftSlots]) j
  have finish : (s.removeBook i).finishes j = s.finishes j := by simp [State.finishes]
  have opened : (s.removeBook i).openLiftOf j = s.openLiftOf j := by simp [State.openLiftOf]
  rw [State.view, State.view, noticed, under, finish, opened, book_removeBook, if_neg other]

/-- A book that no lift and no finish record names can be removed. -/
theorem Fitting.removeBook {s : State} (h : Fitting s) {i : Slot}
    (idle : ∀ k, s.book i = some k → liftsUnderWay i s = 0 ∧ s.openLiftOf i = false ∧ s.finishes i = false) :
    Fitting (s.removeBook i) := by
  refine h.of_one i (fun j other => removeBook_view_ne other s) ?_
  cases book : s.book i with
  | none =>
    rw [removeBook_of_free book]
    exact h i
  | some k =>
    obtain ⟨under, shut, away⟩ := idle k book
    have gone : (s.removeBook i).book i = none := (book_removeBook i i s).trans (if_pos rfl)
    refine (fits_of_free (view_free gone)).2 ⟨?_, ?_, ?_, ?_⟩
    · exact (liftsUnderWay_congr (by simp [State.liftSlots]) i).trans under
    · refine Eq.trans ?_ shut
      change (s.removeBook i).openLiftOf i = _
      simp [State.openLiftOf]
    · rw [removeBook_of_book book]
      refine (noticedFor_closeFor i i s.si.notices).trans ?_
      simp
    · refine Eq.trans ?_ away
      change (s.removeBook i).finishes i = _
      simp [State.finishes]

theorem BookFits.idle_of_empty {b : BookShape} {v : SlotView} (h : BookFits b v) (closed : b.closed = 0)
    (placed : b.placed = 0) : v.under = 0 ∧ v.opened = false := by
  refine ⟨?_, Bool.eq_false_iff.2 fun e => ?_⟩
  · have lifts := h.lifts
    omega
  · have some := (h.opened e).2
    omega

/-! ## The end of a collection -/

theorem sendOutcome_alike (o : BookOutcome) (b : Book) (s : State) : Alike s (s.sendOutcome o b) := by
  unfold State.sendOutcome
  split
  · exact ⟨rfl, rfl⟩
  · exact .refl s

theorem sameView_count (k : Counter) (s : State) : SameView s (s.count k) := sameView_of_eq rfl rfl rfl rfl

theorem Fitting.collectionEnded {s : State} (h : Fitting s) {i : Slot} (away : s.finishes i = false) :
    Fitting (s.collectionEnded i) := by
  have advanced : Fitting (s.modifyBook i (Book.advance .collecting .collected)) :=
    h.modifyBook fun _ _ fits => fits.collect
  have stays : (s.modifyBook i (Book.advance .collecting .collected)).finishes i = false := away
  unfold State.collectionEnded
  dsimp only
  generalize s.modifyBook i (Book.advance .collecting .collected) = u at advanced stays
  split
  · next empty =>
    unfold State.removeEmpty
    split
    · exact advanced
    · next b book =>
      rw [book, Option.any_some, isEmpty_iff] at empty
      have told : SameView u ((u.sendOutcome .rejected b).count .booksRejected) :=
        (sendOutcome_alike .rejected b u).sameView.trans (sameView_count _ _)
      refine (advanced.of_same told).removeBook fun k _ => ?_
      obtain ⟨under, shut⟩ := (advanced.book book).idle_of_empty empty.1 empty.2
      have same := told i
      have under' := congrArg SlotView.under same
      have shut' := congrArg SlotView.opened same
      have away' := congrArg SlotView.finishing same
      exact ⟨under'.trans under, shut'.trans shut, away'.trans stays⟩
  · exact advanced.testComplete i

end Sys2Proof.Machine

/-! What the Lift Builder leaves in place (R27 to R36, R41). -/

namespace Sys2Proof.Machine

open Sys2Proof Sys2Proof.Safety

set_option Elab.async false

/-! ## A lift closes (R34) -/

/-- The part after a lift is appended sees one lift more under way, and no Open Lift. -/
theorem view_liftAppended {s : State} {l x : Lift} (opened : s.lb.openLift = some l) (slot : x.slot = l.slot) (j : Slot) :
    (s.liftAppended x).view j =
      if j = l.slot then { s.view j with under := (s.view j).under + 1, opened := false } else s.view j := by
  have under : liftsUnderWay j (s.liftAppended x) = liftsUnderWay j s + if j = l.slot then 1 else 0 := by
    change (s.lb.queue ++ [x]).countP _ + _ = s.lb.queue.countP _ + _ + _
    rw [List.countP_append, List.countP_singleton, slot]
    simp only [decide_eq_true_iff, eq_comm (a := l.slot)]
    exact Nat.add_right_comm _ _ _
  have open_ : s.openLiftOf j = decide (j = l.slot) := by
    rw [State.openLiftOf, opened, Option.any_some]
    exact decide_eq_decide.2 eq_comm
  by_cases here : j = l.slot
  · rw [if_pos here] at under ⊢
    rw [State.view, under]
    rfl
  · rw [if_neg here] at under ⊢
    rw [decide_eq_false here] at open_
    rw [State.view, State.view, under, open_]
    rfl

theorem Fitting.append {s : State} (h : Fitting s) {l x : Lift} (opened : s.lb.openLift = some l) (slot : x.slot = l.slot)
    {k : Book} (book : s.book l.slot = some k) :
    Fitting ((s.liftAppended x).modifyBook l.slot Book.withLift) := by
  have view := view_liftAppended opened slot
  refine Fitting.of_same (s := (s.liftAppended x).reviseBook l.slot Book.withLift) ?_ (sameView_modifyBook _ _ _)
  refine h.of_one l.slot (fun j other => ?_) ?_
  · rw [view_reviseBook_ne _ _ other, view, if_neg other]
  · have fits := h.book book
    have stage := (fits.opened ((openLiftOf_iff _ s).2 ⟨l, opened, rfl⟩)).1
    have there : (s.liftAppended x).book l.slot = some k := book
    rw [view_reviseBook_same, view, if_pos rfl, there]
    refine (fits_of_book (b := k.withLift.shape) rfl).2 ⟨?_, fun e => ?_,
      fun past => absurd past (not_past_of_collecting stage), (fun e => nomatch e), fits.finishing⟩
    · have lifts := fits.lifts
      change k.liftsClosed + 1 = liftsUnderWay l.slot s + 1 + k.liftsGathered
      change k.liftsClosed = liftsUnderWay l.slot s + k.liftsGathered at lifts
      omega
    · rw [show k.shape.stage = .opened from e] at stage
      rcases stage with h | h <;> cases h

/-- A fault of a book that is still collected keeps its shape. -/
theorem raiseFault_shape {s : State} {i : Slot} {k : Book} (book : s.book i = some k) (early : ¬k.stage.past) (c : FaultCause) :
    ∃ x, (s.raiseFault i c).book i = some x ∧ x.shape = k.shape := by
  obtain ⟨x, after, rfl | ⟨stage, _⟩⟩ := raiseFault_stage c book
  · exact ⟨_, after, rfl⟩
  · exact absurd (.inr (.inl stage)) early

theorem liftJoined_view (s : State) : SameView s s.liftJoined :=
  SameView.trans (t := { s with lb := s.lb.joined }) (sameView_of_shapes rfl rfl rfl rfl fun _ => rfl)
    (liftJoined_alike (.refl s)).sameView

section

variable {s : State} (h : Fitting s) {l : Lift} (opened : s.lb.openLift = some l)

include h opened

theorem Fitting.closeInto {k : Book} (book : s.book l.slot = some k) : Fitting (s.closeInto l k) := by
  have stage := ((h.book book).opened ((openLiftOf_iff _ s).2 ⟨l, opened, rfl⟩)).1
  have early : ¬k.stage.past := not_past_of_collecting stage
  have marked : ∃ c, (if l.short k = true then s.raiseFault l.slot .short else s).book l.slot = some c ∧ c.shape = k.shape := by
    split
    · exact raiseFault_shape book early .short
    · exact ⟨k, book, rfl⟩
  have fits : Fitting (if l.short k = true then s.raiseFault l.slot .short else s) :=
    keeps_ite (fun _ => h.raiseFault _ _) fun _ => h
  have lb : (if l.short k = true then s.raiseFault l.slot .short else s).lb = s.lb := by
    split
    · exact State.raiseFault_lb _ _ _
    · rfl
  rw [closeInto_eq]
  dsimp only
  generalize (if l.short k = true then s.raiseFault l.slot .short else s) = r at marked fits lb
  obtain ⟨c, there, shape⟩ := marked
  have still : r.lb.openLift = some l := by rw [lb, opened]
  have late : ¬c.shape.stage.past := by
    rw [shape]
    exact early
  have away : r.finishes l.slot = false := (fits.book there).not_finishing late
  generalize closes : l.close r.lb.nextNumber k.liftsClosed (r.closingMode l.slot) = x
  have slot : x.slot = l.slot := by rw [← closes]; rfl
  have appended := fits.append still slot there
  refine Fitting.of_same ?_ (liftJoined_view _)
  exact keeps_ite (fun _ => appended.collectionEnded away) fun _ => appended

theorem Fitting.setOpenLift {x : Lift} (slot : x.slot = l.slot) : Fitting (s.setOpenLift (some x)) := by
  refine h.of_same fun i => ?_
  have open_ : (s.setOpenLift (some x)).openLiftOf i = s.openLiftOf i := by
    rw [State.openLiftOf, State.openLiftOf, opened]
    change decide (x.slot = i) = decide (l.slot = i)
    rw [slot]
  rw [State.view, open_]
  rfl

omit h opened in
theorem closeLift_of_none {s : State} (none : s.lb.openLift = none) : s.closeLift = s := by
  rw [State.closeLift, none]

/-- A lift that must close: it closes and leaves the accumulator empty, or is held over. -/
theorem closeLift_cases : ∃ k, s.book l.slot = some k ∧
    ((s.lb.queue.length < 12 ∧ s.closeLift = s.closeInto l k) ∨ (12 ≤ s.lb.queue.length ∧ s.closeLift = s.overrun l)) := by
  obtain ⟨k, book, _⟩ := h.openLift opened
  refine ⟨k, book, ?_⟩
  by_cases room : s.lb.queue.length < 12
  · exact .inl ⟨room, closeLift_of_book opened book room⟩
  · refine .inr ⟨Nat.not_lt.1 room, ?_⟩
    rw [State.closeLift, opened]
    exact if_neg room

end

theorem closeInto_openLift (l : Lift) (k : Book) (s : State) : (s.closeInto l k).lb.openLift = none := by
  obtain ⟨mode, lb⟩ := closeInto_lb l k s
  rw [lb]
  rfl

theorem overrun_openLift (l : Lift) (s : State) :
    (s.overrun l).lb.openLift = some { l with overrunHold := true, mode := some .pass } := by
  rw [State.overrun, State.raiseFault_lb]
  rfl

/-- The closing of a lift needs only the views to fit, and leaves the rest. -/
theorem Fitting.closeLift {s : State} (h : Fitting s) : InPlace s.closeLift := by
  cases opened : s.lb.openLift with
  | none =>
    rw [closeLift_of_none opened]
    exact ⟨h, fun l e => absurd (opened.symm.trans e) (by simp)⟩
  | some l =>
    obtain ⟨k, book, ⟨_, closes⟩ | ⟨_, held⟩⟩ := closeLift_cases h opened
    · rw [closes]
      exact ⟨h.closeInto opened book, fun x e => by rw [closeInto_openLift] at e; cases e⟩
    · rw [held]
      have kept : Fitting (s.setOpenLift (some { l with overrunHold := true, mode := some .pass })) :=
        h.setOpenLift opened (x := { l with overrunHold := true, mode := some .pass }) rfl
      refine ⟨kept.raiseFault l.slot .overrun, fun x e _ => ?_⟩
      rw [overrun_openLift] at e
      obtain rfl := Option.some.inj e
      rfl

/-- After a lift that must close, either the accumulator is empty or a lift is held over. -/
theorem closeLift_openLift {s : State} (h : Fitting s) (free : s.closeLift.overrunHeld = false) :
    s.closeLift.lb.openLift = none := by
  cases opened : s.lb.openLift with
  | none =>
    rw [closeLift_of_none opened]
    exact opened
  | some l =>
    obtain ⟨k, book, ⟨_, closes⟩ | ⟨_, held⟩⟩ := closeLift_cases h opened
    · rw [closes]
      exact closeInto_openLift l k s
    · rw [held, State.overrunHeld, overrun_openLift] at free
      cases free

/-! ## The end of a collection (R36) -/

theorem Fitting.markLastLift {s : State} (h : Fitting s) (i : Slot) : Fitting (s.markLastLift i) := by
  have marks : ∀ n l, (Lift.markLast i n l).slot = l.slot := by
    intro n l
    unfold Lift.markLast
    split <;> rfl
  refine h.of_same (sameView_of_shapes rfl rfl ?_ rfl fun _ => rfl)
  change (List.map _ (List.map _ s.lb.queue), Option.map _ (Option.map _ s.ss.bed)) = (List.map _ _, Option.map _ _)
  rw [List.map_map, Option.map_map]
  refine Prod.ext (List.map_congr_left fun l _ => marks _ l) ?_
  cases s.ss.bed with
  | none => rfl
  | some b => exact congrArg some (marks _ b.lift)

theorem InPlace.endCollection {s : State} (h : InPlace s) {i : Slot} (away : s.finishes i = false) :
    InPlace (s.endCollection i) := by
  have marked : InPlace ((s.markLastLift i).collectionEnded i) :=
    ⟨(h.fits.markLastLift i).collectionEnded away, h.ends.of_openLift (by rw [State.collectionEnded_lb]; rfl)⟩
  unfold State.endCollection
  split
  · exact marked
  · next l opened =>
    split
    · have ending : Fitting (s.setOpenLift (some { l with endsCollection := true })) := h.fits.setOpenLift opened rfl
      dsimp only
      split
      · next held =>
        refine ⟨ending, fun x e _ => ?_⟩
        obtain rfl := Option.some.inj (show some { l with endsCollection := true } = some x from e)
        exact held
      · exact ending.closeLift
    · exact marked

/-! ## Sheets -/

theorem closeInto_book {s : State} {l : Lift} {k : Book} (ends : l.endsCollection = false) (book : s.book l.slot = some k)
    (early : ¬k.stage.past) : ∃ c, (s.closeInto l k).book l.slot = some c ∧ c.stage = k.stage := by
  have marked : ∃ c, (if l.short k = true then s.raiseFault l.slot .short else s).book l.slot = some c ∧ c.shape = k.shape := by
    split
    · exact raiseFault_shape book early .short
    · exact ⟨k, book, rfl⟩
  rw [closeInto_eq]
  dsimp only
  generalize (if l.short k = true then s.raiseFault l.slot .short else s) = r at marked
  obtain ⟨c, there, shape⟩ := marked
  rw [ends, if_neg (by decide)]
  refine ⟨c.withLift, ?_, (congrArg BookShape.stage shape :)⟩
  rw [State.book, (liftJoined_alike (.refl _)).si]
  refine (Bank.read_write_same _ _ _).trans ?_
  rw [show (r.liftAppended _).book l.slot = some c from there]
  rfl

/-- The closing of a lift that does not end its book's collection keeps every book COLLECTING. -/
theorem closeLift_collecting {s : State} (h : Fitting s) (plain : ∀ l, s.lb.openLift = some l → l.endsCollection = false)
    {i : Slot} {b : Book} (book : s.book i = some b) (stage : b.stage = .collecting) :
    ∃ c, s.closeLift.book i = some c ∧ c.stage = .collecting := by
  cases opened : s.lb.openLift with
  | none =>
    rw [closeLift_of_none opened]
    exact ⟨b, book, stage⟩
  | some l =>
    by_cases here : i = l.slot
    · subst here
      have early : ¬b.stage.past := not_past_of_collecting (.inl stage)
      obtain ⟨k, there, ⟨_, closes⟩ | ⟨_, held⟩⟩ := closeLift_cases h opened
      · obtain rfl := Option.some.inj (book.symm.trans there)
        obtain ⟨c, after, same⟩ := closeInto_book (plain l opened) book early
        exact ⟨c, by rw [closes]; exact after, same.trans stage⟩
      · obtain ⟨c, after, shape⟩ := raiseFault_shape
          (s := s.setOpenLift (some { l with overrunHold := true, mode := some .pass })) book early .overrun
        exact ⟨c, by rw [held]; exact after, (congrArg BookShape.stage shape).trans stage⟩
    · exact ⟨b, ((beside_closeLift s l opened).others i here).trans book, stage⟩

end Sys2Proof.Machine

/-! What sheets and their notices leave in place (R7 to R17, R27 to R36). -/

namespace Sys2Proof.Machine

open Sys2Proof Sys2Proof.Safety

set_option Elab.async false

/-! ## A sheet joins (R32) -/

/-- The slot holds a book COLLECTING. -/
def Collects (i : Slot) (s : State) : Prop := ∃ b, s.book i = some b ∧ b.stage = .collecting

/-- The slot holds a book of this stage. -/
theorem Fitting.away {s : State} (h : Fitting s) {i : Slot} {b : Book} (book : s.book i = some b) (early : ¬b.stage.past) :
    s.finishes i = false := (h.book book).not_finishing early

theorem Collects.away {s : State} {i : Slot} (c : Collects i s) (h : Fitting s) : s.finishes i = false := by
  obtain ⟨b, book, stage⟩ := c
  exact h.away book (not_past_of_collecting (.inl stage))

theorem Collects.raiseFault {s : State} {i : Slot} (h : Collects i s) (j : Slot) (c : FaultCause) :
    Collects i (s.raiseFault j c) := by
  obtain ⟨b, book, stage⟩ := h
  by_cases here : i = j
  · subst here
    obtain ⟨x, after, shape⟩ := raiseFault_shape book (not_past_of_collecting (.inl stage)) c
    exact ⟨x, after, (congrArg BookShape.stage shape).trans stage⟩
  · exact ⟨b, ((beside_raiseFault j s c).others i here).trans book, stage⟩

/-- With no lift held over, no Open Lift ends its book's collection. -/
theorem EndsHeld.plain {s : State} (h : EndsHeld s) (free : s.overrunHeld = false) (l : Lift) (opened : s.lb.openLift = some l) :
    l.endsCollection = false := by
  refine Bool.eq_false_iff.2 fun ends => ?_
  rw [State.overrunHeld, opened, Option.any_some, h l opened ends] at free
  cases free

section

variable {s : State} {x : Sheet} (f : Format)

/-- The lift at the accumulator once the sheet has joined. -/
abbrev State.joinedLift (x : Sheet) (f : Format) (s : State) : Lift := s.lb.openLift.elim (Lift.first x f) (Lift.add x)

theorem joinedLift_slot (alone : ∀ l, s.lb.openLift = some l → l.slot = x.slot) : (s.joinedLift x f).slot = x.slot := by
  unfold State.joinedLift
  cases opened : s.lb.openLift with
  | none => rfl
  | some l => exact alone l opened

theorem joinedLift_ends (plain : ∀ l, s.lb.openLift = some l → l.endsCollection = false) (last : x.last = false) :
    (s.joinedLift x f).endsCollection = false := by
  unfold State.joinedLift
  cases opened : s.lb.openLift with
  | none => exact last
  | some l =>
    change (l.endsCollection || x.last) = false
    rw [plain l opened, last]
    rfl

variable (alone : ∀ l, s.lb.openLift = some l → l.slot = x.slot)

include alone

theorem view_setOpenLift {l : Lift} (slot : l.slot = x.slot) (j : Slot) :
    (s.setOpenLift (some l)).view j = if j = x.slot then { s.view j with opened := true } else s.view j := by
  have open_ : (s.setOpenLift (some l)).openLiftOf j = decide (j = x.slot) := by
    change decide (l.slot = j) = _
    rw [slot]
    exact decide_eq_decide.2 eq_comm
  by_cases here : j = x.slot
  · rw [if_pos here, State.view, open_, decide_eq_true here]
    rfl
  · have shut : s.openLiftOf j = false := Bool.eq_false_iff.2 fun e => by
      obtain ⟨m, opened, at_⟩ := (openLiftOf_iff j s).1 e
      exact here (at_.symm.trans (alone m opened))
    rw [if_neg here, State.view, State.view, open_, decide_eq_false here, shut]
    rfl

theorem Fitting.joinSheet (h : Fitting s) (c : Collects x.slot s) : Fitting (s.joinSheet x f) := by
  obtain ⟨b, book, stage⟩ := c
  have view := view_setOpenLift alone (joinedLift_slot f alone)
  have same : SameView ((s.setOpenLift (some (s.joinedLift x f))).reviseBook x.slot Book.withSheet) (s.joinSheet x f) :=
    (sameView_modifyBook _ _ _).trans (sameView_count _ _)
  refine Fitting.of_same ?_ same
  generalize s.joinedLift x f = l at view
  refine h.of_one x.slot (fun j other => ?_) ?_
  · rw [view_reviseBook_ne _ _ other, view, if_neg other]
  · have there : (s.setOpenLift (some l)).book x.slot = some b := book
    obtain ⟨lifts, _, _, _, finishing⟩ := h.book book
    rw [view_reviseBook_same, view, if_pos rfl, there]
    refine (fits_of_book (b := b.withSheet.shape) rfl).2 ⟨lifts, fun e => ?_,
      fun past => absurd past (not_past_of_collecting (.inl stage)), fun _ => ⟨.inl stage, Nat.le_add_left _ _⟩, finishing⟩
    exact nomatch stage.symm.trans e

theorem InPlace.joinSheet (h : InPlace s) (c : Collects x.slot s) (free : s.overrunHeld = false) (last : x.last = false) :
    InPlace (s.joinSheet x f) := by
  refine ⟨h.fits.joinSheet f alone c, fun l opened ends => ?_⟩
  obtain rfl := Option.some.inj (show some (s.joinedLift x f) = some l from opened)
  rw [joinedLift_ends f (h.ends.plain free) last] at ends
  cases ends

end

/-! ## Placing (R28 to R33) -/

section

variable {s : State} (h : InPlace s) {x : Sheet}

include h

theorem InPlace.decline (away : s.finishes x.slot = false) : InPlace (s.decline x) :=
  keeps_ite (fun _ => h.endCollection away) fun _ => h

theorem InPlace.faultAndDecline (away : s.finishes x.slot = false) (c : FaultCause) :
    InPlace ((s.raiseFault x.slot c).decline x) :=
  InPlace.decline (h.raiseFault _ _) ((raiseFault_finishes _ _ _ _).trans away)

variable (c : Collects x.slot s) (f : Format) (free : s.overrunHeld = false)

include c free

theorem InPlace.placeThick : InPlace (s.placeThick x f).1 := by
  have faulted_ : InPlace (s.raiseFault x.slot .tooThick) := h.raiseFault _ _
  have collects : Collects x.slot (s.raiseFault x.slot .tooThick) := c.raiseFault _ _
  have plain : ∀ l, (s.raiseFault x.slot .tooThick).lb.openLift = some l → l.endsCollection = false := by
    rw [State.raiseFault_lb]
    exact h.ends.plain free
  unfold State.placeThick
  generalize s.raiseFault x.slot .tooThick = u at faulted_ collects plain
  have closed := faulted_.fits.closeLift
  have still : Collects x.slot u.closeLift := by
    obtain ⟨b, book, stage⟩ := collects
    exact closeLift_collecting faulted_.fits plain book stage
  have empty := closeLift_openLift faulted_.fits
  dsimp only
  generalize u.closeLift = v at closed still empty
  have away := still.away closed.fits
  split
  · exact closed.faultAndDecline away _
  · next unheld =>
    split
    · exact closed.faultAndDecline away _
    · refine (closed.fits.joinSheet f (fun l opened => ?_) still).closeLift
      rw [empty (Bool.eq_false_iff.2 unheld)] at opened
      cases opened

theorem InPlace.placeThin : InPlace (s.placeThin x f).1 := by
  have cleared : InPlace (if s.lb.openLift.any (Lift.mustClose x f) = true then s.closeLift else s)
      ∧ Collects x.slot (if s.lb.openLift.any (Lift.mustClose x f) = true then s.closeLift else s)
      ∧ ((if s.lb.openLift.any (Lift.mustClose x f) = true then s.closeLift else s).overrunHeld = false →
        ∀ l, (if s.lb.openLift.any (Lift.mustClose x f) = true then s.closeLift else s).lb.openLift = some l →
          l.slot = x.slot) := by
    split
    · obtain ⟨b, book, stage⟩ := c
      refine ⟨h.fits.closeLift, closeLift_collecting h.fits (h.ends.plain free) book stage, fun unheld l opened => ?_⟩
      rw [closeLift_openLift h.fits unheld] at opened
      cases opened
    · next stays =>
      refine ⟨h, c, fun _ l opened => ?_⟩
      rw [opened, Option.any_some, Lift.mustClose] at stays
      by_contra other
      simp [other] at stays
  unfold State.placeThin
  generalize (if s.lb.openLift.any (Lift.mustClose x f) = true then s.closeLift else s) = v at cleared
  obtain ⟨closed, still, alone⟩ := cleared
  have away := still.away closed.fits
  dsimp only
  split
  · exact closed.faultAndDecline away _
  · next unheld =>
    rw [Bool.not_eq_true] at unheld
    split
    · exact closed.faultAndDecline away _
    · dsimp only
      split
      · exact (closed.fits.joinSheet f (alone unheld) still).closeLift
      · next stays =>
        refine closed.joinSheet f (alone unheld) still unheld ?_
        rw [Bool.or_eq_true, not_or] at stays
        exact Bool.eq_false_iff.2 stays.1

omit free in
theorem InPlace.placeSheet : InPlace (s.placeSheet x).1 := by
  have away := c.away h.fits
  unfold State.placeSheet
  split
  · split
    · exact h.faultAndDecline away _
    · next unheld =>
      rw [Bool.not_eq_true] at unheld
      split
      · exact h
      split
      · exact h.decline away
      split
      · exact h.placeThick c _ unheld
      · exact h.placeThin c _ unheld
  · exact h

end

/-! ## Edges (R13 to R17) -/

/-- Notices may leave. -/
theorem Fitting.fewer {s t : State} (h : Fitting s) (books : ∀ i, t.book i = s.book i) (lb : t.lb = s.lb)
    (bed : t.ss.bed = s.ss.bed) (finish : t.fu.finish = s.fu.finish) (fewer : ∀ n ∈ t.si.notices, n ∈ s.si.notices) :
    Fitting t := by
  have noticed : ∀ i, s.noticedFor i = false → t.noticedFor i = false := by
    intro i none
    refine Bool.eq_false_iff.2 fun e => ?_
    obtain ⟨n, waits, slot⟩ := (noticedFor_iff i t).1 e
    exact absurd (none.symm.trans ((noticedFor_iff i s).2 ⟨n, fewer n waits, slot⟩)) (by decide)
  intro i
  have view : t.view i = { s.view i with noticed := t.noticedFor i } := by
    have under : liftsUnderWay i t = liftsUnderWay i s :=
      liftsUnderWay_congr (by rw [State.liftSlots, lb, bed]; rfl) i
    have away : t.finishes i = s.finishes i := by rw [State.finishes, finish]; rfl
    have open_ : t.openLiftOf i = s.openLiftOf i := by rw [State.openLiftOf, lb]; rfl
    rw [State.view, books, under, away, open_]
    rfl
  rw [view]
  cases book : s.book i with
  | none =>
    obtain ⟨under, shut, none, away⟩ := h.free book
    exact (fits_of_free (v := { s.view i with noticed := t.noticedFor i }) (view_free book)).2
      ⟨under, shut, noticed i none, away⟩
  | some b =>
    obtain ⟨lifts, fresh, past, opened, finishing⟩ := h.book book
    exact (fits_of_book (v := { s.view i with noticed := t.noticedFor i }) (view_book book)).2
      ⟨lifts, fun e => ⟨(fresh e).1, (fresh e).2.1, noticed i (fresh e).2.2⟩, past, opened, finishing⟩

theorem InPlace.of_missed {s v t : State} (h : InPlace s) (a : Alike v t) (books : ∀ i, v.book i = s.book i) (lb : v.lb = s.lb)
    (bed : v.ss.bed = s.ss.bed) (finish : v.fu.finish = s.fu.finish) (fewer : ∀ n ∈ v.si.notices, n ∈ s.si.notices) :
    InPlace t :=
  InPlace.of_alike ⟨h.fits.fewer books lb bed finish fewer, h.ends.of_openLift (by rw [lb])⟩ a

section

variable {s : State} (h : InPlace s)

include h

theorem InPlace.divertSheet : InPlace s.divertSheet := by
  unfold State.divertSheet
  exact h.of_eq (by simp) (by simp) (by simp) (by simp)

theorem InPlace.handSheet {x : Sheet} (c : Collects x.slot s) : InPlace (s.handSheet x) :=
  keeps_ite (fun _ => h.placeSheet c) fun _ => (h.placeSheet c).divertSheet

theorem InPlace.disposeSheet {i : Slot} {n : Notice} (noticed : ∀ b, s.book i = some b → b.stage ≠ .opened) :
    InPlace (s.disposeSheet i n) := by
  unfold State.disposeSheet
  split
  · next takes =>
    obtain ⟨b, book, takes⟩ := (Option.any_eq_true ..).1 takes
    have stage : b.stage = .collecting := ((takesSheets_iff b).1 takes).resolve_left (noticed b book)
    have c : Collects i s := ⟨b, book, stage⟩
    split
    · have diverted : InPlace (s.raiseFault i .registration).divertSheet := (h.raiseFault _ _).divertSheet
      have away : (s.raiseFault i .registration).divertSheet.finishes i = false := by
        refine Eq.trans ?_ ((raiseFault_finishes i i .registration s).trans (c.away h.fits))
        simp [State.finishes, State.divertSheet]
      exact keeps_ite (fun _ => diverted.endCollection away) fun _ => diverted
    · exact h.handSheet (x := n.sheet i) c
  · exact h.divertSheet

theorem InPlace.matchNotice {n : Notice} {rest : List Notice} (notices : s.si.notices = n :: rest) :
    InPlace (s.matchNotice n rest) := by
  have a := leaveNotice_matching rest s
  have left : InPlace ((s.leaveNotice rest).updateRegistration .matching) := by
    refine h.of_missed a (fun i => noticeGone_book rest .matching i s) rfl rfl rfl fun m waits => ?_
    rw [noticeGone_notices] at waits
    rw [notices]
    exact List.mem_cons_of_mem _ waits
  have book : ∀ i, ((s.leaveNotice rest).updateRegistration .matching).book i = s.book i := fun i =>
    (a.book i).trans (noticeGone_book rest .matching i s)
  unfold State.matchNotice
  generalize (s.leaveNotice rest).updateRegistration .matching = v at left book
  dsimp only
  split
  · exact left.divertSheet
  · next i slot =>
    refine left.disposeSheet fun b there => ?_
    obtain ⟨c, has, stage⟩ := h.fits.notice (by rw [notices]; exact List.mem_cons_self) slot
    rw [book, has] at there
    obtain rfl := Option.some.inj there
    exact stage

theorem InPlace.expireNotice {n : Notice} {rest : List Notice} (notices : s.si.notices = n :: rest) :
    InPlace (s.expireNotice n rest) := by
  have a := leaveNotice_expiry rest s
  have left : InPlace (s.afterMissing rest) := by
    refine h.of_missed a (fun i => missed_book rest i s) rfl rfl rfl fun m waits => ?_
    change m ∈ (s.noticeGone rest .expiry).si.notices at waits
    rw [noticeGone_notices] at waits
    rw [notices]
    exact List.mem_cons_of_mem _ waits
  cases slot : n.slot with
  | none =>
    rw [expireNotice_of_none (by rw [slot]; rfl)]
    exact left
  | some i =>
    rw [expireNotice_of_slot slot]
    generalize s.afterMissing rest = v at left
    cases book : v.book i with
    | none =>
      rw [expireBook_of_none book]
      exact left
    | some b =>
      rw [expireBook_of_book book]
      split
      · next ends =>
        refine (left.raiseFault i _).endCollection ((raiseFault_finishes _ _ _ _).trans ?_)
        exact left.fits.away book (not_past_of_collecting (.inl ends.2))
      · exact left.raiseFault i _

end

theorem InPlace.expireUpTo {s : State} (h : InPlace s) (k : Nat) : InPlace (s.expireUpTo k) := by
  induction k generalizing s with
  | zero => exact h
  | succ k ih =>
    unfold State.expireUpTo
    split
    · exact h
    · next n rest notices => exact keeps_ite (fun _ => ih (h.expireNotice notices)) fun _ => h

theorem InPlace.testRest {s : State} (h : InPlace s) : InPlace s.testRest := h.of_alike (testRest_settled s).alike

theorem InPlace.updateRegistration {s : State} (h : InPlace s) (e : StreakEvent) : InPlace (s.updateRegistration e) := by
  obtain ⟨books, notices⟩ := SheetIntake.streak_books e s.ts.settings s.si
  refine h.of_missed (updateRegistration_settled e s).alike (fun i => ?_) rfl rfl rfl fun n waits => ?_
  · exact congrArg (Bank.read · i) books
  · exact notices ▸ waits

theorem InPlace.infeedEdge {s : State} (h : InPlace s) : InPlace s.infeedEdge := by
  unfold State.infeedEdge
  split
  · exact InPlace.updateRegistration (h.of_eq (by simp) (by simp) (by simp) (by simp)) _
  · next n rest notices => exact (h.matchNotice notices).expireUpTo _

theorem InPlace.noticeExpiry {s : State} (h : InPlace s) : InPlace s.noticeExpiry :=
  keeps_ite (fun _ => (h.expireUpTo _).testRest) fun _ => h

/-! ## Notices and cancels (R8, R11) -/

theorem joinNotice_alike (n : Notice) (s : State) : Alike { s with si := s.si.join n } (s.joinNotice n) :=
  (reportLevel_settled .pause _ { s with si := s.si.join n }).alike

/-- A notice that names no slot is seen by none. -/
theorem InPlace.joinDivert {s : State} (h : InPlace s) {n : Notice} (slot : n.slot = none) : InPlace (s.joinNotice n) := by
  refine InPlace.of_alike (h.of_same (t := { s with si := s.si.join n }) (fun i => ?_) rfl) (joinNotice_alike n s)
  have noticed : ({ s with si := s.si.join n } : State).noticedFor i = s.noticedFor i := by
    change (s.si.notices ++ [n]).any _ = _
    rw [List.any_append, List.any_cons, List.any_nil, slot]
    simp [State.noticedFor]
  rw [State.view, noticed]
  rfl

/-- A notice joins for a book, which is COLLECTING then at the latest. -/
theorem InPlace.joinFor {s : State} (h : InPlace s) {n : Notice} {i : Slot} {b : Book} (slot : n.slot = some i)
    (book : s.book i = some b) (takes : b.stage = .opened ∨ b.stage = .collecting) (last : Bool) :
    InPlace ((s.joinNotice n).modifyBook i (Book.notice last)) := by
  have a := joinNotice_alike n s
  have noticed : ∀ j, ({ s with si := s.si.join n } : State).noticedFor j = (s.noticedFor j || decide (j = i)) := by
    intro j
    change (s.si.notices ++ [n]).any _ = _
    rw [List.any_append, List.any_cons, List.any_nil, slot, Bool.or_false]
    simp only [Option.some.injEq, eq_comm (a := i)]
    rfl
  have pure : InPlace (({ s with si := s.si.join n } : State).reviseBook i (Book.notice last)) := by
    refine ⟨h.fits.of_one i (fun j other => ?_) ?_, h.ends.of_openLift rfl⟩
    · rw [view_reviseBook_ne _ _ other, State.view, noticed, decide_eq_false other, Bool.or_false]
      rfl
    · have there : ({ s with si := s.si.join n } : State).book i = some b := book
      have fits := h.fits.book book
      have early : ¬b.stage.past := by
        rcases takes with e | e <;> rw [e] <;> rintro (p | p | p) <;> cases p
      have stage : (Book.notice last b).stage = .collecting := by
        change (if b.stage = .opened then Stage.collecting else b.stage) = _
        rcases takes with e | e <;> simp [e]
      rw [view_reviseBook_same, there]
      refine (fits_of_book (b := (Book.notice last b).shape) rfl).2 ⟨fits.lifts, fun e => absurd (stage.symm.trans e) (by decide),
        fun past => absurd past (not_past_of_collecting (.inl stage)), fun e => ⟨.inl stage, (fits.opened e).2⟩, fun e => ?_⟩
      exact absurd ((fits.not_finishing early).symm.trans e) (by decide)
  exact pure.of_alike (modifyBook_of_alike a i _)

theorem InPlace.noticeFaults {s : State} (h : InPlace s) {i : Slot} {b : Book} (book : s.book i = some b)
    (early : ¬b.stage.past) (k : Book) (w : SheetWords) :
    InPlace (s.noticeFaults i k w) ∧ ∃ c, (s.noticeFaults i k w).book i = some c ∧ c.stage = b.stage := by
  have one : ∀ {u : State} {p : Prop} [Decidable p] (c : FaultCause),
      InPlace u ∧ (∃ x, u.book i = some x ∧ x.stage = b.stage) →
      InPlace (if p then u.raiseFault i c else u)
        ∧ ∃ x, (if p then u.raiseFault i c else u).book i = some x ∧ x.stage = b.stage := by
    rintro u p _ c ⟨placed, x, there, same⟩
    split
    · obtain ⟨y, after, shape⟩ := raiseFault_shape there (by rw [same]; exact early) c
      exact ⟨placed.raiseFault i c, y, after, (congrArg BookShape.stage shape).trans same⟩
    · exact ⟨placed, x, there, same⟩
  exact one _ (one _ (one _ ⟨h, b, book, rfl⟩))

theorem InPlace.sheetNotice {s : State} (h : InPlace s) (w : SheetWords) : InPlace (s.sheetNotice w) := by
  have notified : ∀ {u : State} (x : Upstream), InPlace u → InPlace (u.notify x) := fun _ placed =>
    placed.of_eq rfl rfl rfl rfl
  have diverted : ∀ r, InPlace (s.noticeDiverted r w) := fun r => notified _ (h.joinDivert rfl)
  unfold State.sheetNotice
  refine keeps_ite (fun _ => notified _ h) fun _ => ?_
  split
  · exact diverted _
  · next i _ =>
    split
    · exact h
    · next b book =>
      refine keeps_ite (fun takes => ?_) fun _ => diverted _
      have stage := (takesSheets_iff b).1 takes
      have early : ¬b.stage.past := by
        rcases stage with e | e <;> rw [e] <;> rintro (p | p | p) <;> cases p
      obtain ⟨placed, c, there, same⟩ := h.noticeFaults book early b w
      exact placed.joinFor rfl there (by rw [same]; exact stage) _

theorem InPlace.cancelBook {s : State} (h : InPlace s) {i : Slot} {b : Book} (book : s.book i = some b) :
    InPlace (s.cancelBook i b) := by
  have fits := h.fits.book book
  unfold State.cancelBook
  split
  · next stage =>
    refine ⟨h.fits.removeBook fun _ _ => ?_, h.ends.of_openLift (by simp)⟩
    obtain ⟨closed, placed, _⟩ := fits.fresh stage
    obtain ⟨under, shut⟩ := fits.idle_of_empty closed placed
    refine ⟨under, shut, h.fits.away book ?_⟩
    rw [stage]
    rintro (p | p | p) <;> cases p
  · next stage =>
    exact (h.raiseFault i _).endCollection
      ((raiseFault_finishes _ _ _ _).trans (h.fits.away book (not_past_of_collecting (.inl stage))))
  all_goals exact h.raiseFault i _

theorem InPlace.bookCancel {s : State} (h : InPlace s) (id : Half) : InPlace (s.bookCancel id).1 := by
  unfold State.bookCancel
  split
  · exact h
  · split
    · exact h
    · next b book => exact (h.cancelBook book).testRest

theorem InPlace.openBook {s : State} (h : InPlace s) {i : Slot} (free : s.book i = none) (id : Half) (f : FormatId)
    (declared : Option Nat) : InPlace (s.openBook i (Book.new id f declared)) := by
  obtain ⟨under, shut, unnoticed, away⟩ := h.fits.free free
  refine ⟨h.fits.of_one i (fun j other => ?_) ?_, h.ends.of_openLift rfl⟩
  · refine (view_of_places (s := s) (t := s.openBook i (Book.new id f declared)) rfl rfl rfl rfl j).trans ?_
    rw [show (s.openBook i (Book.new id f declared)).book j = s.book j from Bank.read_write_ne _ _ other]
    rfl
  · have there : (s.openBook i (Book.new id f declared)).book i = some (Book.new id f declared) := Bank.read_write_same _ _ _
    refine (fits_of_book (view_book there)).2 ⟨?_, fun _ => ⟨rfl, rfl, unnoticed⟩, fun past => ?_, fun e => ?_, fun e => ?_⟩
    · exact under.symm
    · rcases past with p | p | p <;> cases p
    · exact absurd (shut.symm.trans e) (by decide)
    · exact absurd (away.symm.trans e) (by decide)

end Sys2Proof.Machine

/-! What the bed, the gather position and the finish position leave in place (R65 to R91, R135 to R155). -/

namespace Sys2Proof.Machine

open Sys2Proof Sys2Proof.Safety

set_option Elab.async false

/-! ## The bed lift stays -/

/-- The bed holds a lift of the same slot as before, if it holds one. -/
def SameBedSlot (s t : State) : Prop := (t.ss.bed.map fun b => b.lift.slot) = s.ss.bed.map fun b => b.lift.slot

theorem SameBedSlot.of_eq {s t : State} (bed : t.ss.bed = s.ss.bed) : SameBedSlot s t := by rw [SameBedSlot, bed]

theorem InPlace.of_bed {s t : State} (h : InPlace s) (si : t.si = s.si) (lb : t.lb = s.lb) (bed : SameBedSlot s t)
    (finish : t.fu.finish = s.fu.finish) : InPlace t :=
  h.of_same (sameView_of_shapes (by rw [si]) (by rw [lb]) (by rw [State.liftSlots, lb, bed]; rfl)
    (by rw [SameFinishBook, finish]) fun i => by rw [State.book, si]; rfl) (by rw [lb])

section

variable {s : State} (h : InPlace s)

include h

theorem InPlace.setBed {b c : Bed} (bed : s.ss.bed = some b) (slot : c.lift.slot = b.lift.slot) :
    InPlace (s.setBed (some c)) := by
  refine h.of_bed rfl rfl ?_ rfl
  rw [SameBedSlot, bed]
  exact congrArg some slot

theorem InPlace.mapBed {f : Bed → Bed} (slot : ∀ b, (f b).lift.slot = b.lift.slot) : InPlace (s.setBed (s.ss.bed.map f)) := by
  refine h.of_bed rfl rfl ?_ rfl
  change Option.map _ (s.ss.bed.map f) = _
  rw [Option.map_map]
  exact congrArg (Option.map · s.ss.bed) (funext slot)

theorem InPlace.releaseLift : InPlace s.releaseLift := by
  unfold State.releaseLift
  split
  · exact h
  · next b bed => exact keeps_ite (fun _ => keeps_ite (fun _ => h.of_eq rfl rfl rfl rfl) fun _ => h.setBed bed rfl) fun _ => h

theorem InPlace.clampOpened : InPlace s.clampOpened := by
  unfold State.clampOpened
  split
  · exact h
  · next b bed => exact keeps_ite (fun _ => h.setBed bed rfl) fun _ => h

theorem InPlace.testClamp : InPlace s.testClamp := h.of_eq (by simp) (by simp) (by simp) (by simp)

theorem InPlace.planLift {b c : Bed} (bed : s.ss.bed = some b) (slot : c.lift.slot = b.lift.slot) :
    InPlace (s.planLift c) :=
  keeps_ite (fun _ => InPlace.raiseFault (h.setBed bed (c := { c with planned := _, done := 0, inFlight := 0 }.toPass 0) slot) _ _)
    fun _ => h.setBed bed slot

theorem InPlace.cutDisabled : InPlace s.cutDisabled := by
  unfold State.cutDisabled
  split
  · exact h
  · next b bed =>
    have cut : InPlace (s.setBed (some (b.toPass (b.done ||| b.inFlight)))) := h.setBed bed rfl
    exact keeps_ite (fun _ => (cut.raiseFault _ _).releaseLift) fun _ => h

theorem InPlace.completeStrike (d : DriveId) : InPlace (s.completeStrike d) := by
  have struck : InPlace (s.setDrive d { s.drive d with strike := none }) := h.of_eq rfl rfl rfl rfl
  refine InPlace.releaseLift (keeps_ite (fun _ => ?_) fun _ => ?_)
  · exact InPlace.of_eq (struck.mapBed (f := Bed.complete d) fun _ => rfl) rfl rfl rfl rfl
  · exact struck.mapBed fun _ => rfl

theorem InPlace.strobeEnded (d : DriveId) : InPlace (s.strobeEnded d) := by
  unfold State.strobeEnded
  split
  · exact h
  · exact keeps_ite (fun _ => h.completeStrike d) fun _ => h.of_eq rfl rfl rfl rfl

theorem InPlace.strokeDone (d : DriveId) : InPlace (s.strokeDone d) := by
  unfold State.strokeDone
  split
  · exact h
  · exact keeps_ite (fun _ => h) fun _ => keeps_ite (fun _ => h.completeStrike d) fun _ => h.of_eq rfl rfl rfl rfl

theorem InPlace.beginStrike (d : DriveId) : InPlace (s.beginStrike d) := by
  have begun : InPlace (s.setBed (s.ss.bed.map (Bed.begin d))) := h.mapBed fun _ => rfl
  unfold State.beginStrike
  exact begun.of_eq (by simp) (by simp) (by simp [State.setDrive]) (by simp)

theorem InPlace.strikeBegin : InPlace s.strikeBegin := by
  unfold State.strikeBegin
  split
  · exact h
  · exact h.beginStrike _

theorem InPlace.testDwell : InPlace s.testDwell :=
  keeps_ite (fun _ => InPlace.of_eq (h.mapBed (f := fun b => { b with dwellRaised := true }) fun _ => rfl) rfl rfl rfl rfl)
    fun _ => h

theorem InPlace.emptyGather : InPlace s.emptyGather := by
  refine h.of_bed rfl rfl ?_ rfl
  change Option.map _ (s.ss.bed.map _) = _
  rw [Option.map_map]
  rfl

theorem InPlace.liftArrives : InPlace s.liftArrives := by
  unfold State.liftArrives
  split
  · exact h
  · next b bed => exact ((h.planLift bed (c := b.arrive s.nowMs) rfl).testClamp).releaseLift

end

/-! ## A lift reaches the bed and the gather position (R43, R71, R87) -/

theorem oldestTaken_view {s : State} {l : Lift} {rest : List Lift} (queue : s.lb.queue = l :: rest) (bed : s.ss.bed = none) :
    SameView s (s.oldestTaken l rest) := by
  intro i
  rw [oldestTaken_eq]
  refine SlotView.mk.injEq .. ▸ ⟨rfl, ?_, rfl, rfl, rfl⟩
  change rest.countP _ + (decide (l.slot = i)).toNat = s.lb.queue.countP _ + (s.ss.bed.any _).toNat
  rw [queue, bed, List.countP_cons]
  by_cases here : l.slot = i <;> simp [here]

theorem InPlace.orderBedTransfer {s : State} (h : InPlace s) : InPlace s.orderBedTransfer := by
  refine keeps_ite (fun due => ?_) fun _ => h
  have bed : s.ss.bed = none := by
    simp only [State.bedTransferDue, Bool.and_eq_true, Option.isNone_iff_eq_none] at due
    exact due.1.1.1
  refine InPlace.of_eq (s := s.takeOldestLift) ?_ rfl rfl rfl rfl
  cases queue : s.lb.queue with
  | nil =>
    rw [State.takeOldestLift, queue]
    exact h
  | cons l rest =>
    have taken : InPlace (s.oldestTaken l rest) := h.of_same (oldestTaken_view queue bed) (by rw [oldestTaken_eq])
    rw [takeOldestLift_eq queue]
    exact keeps_ite (fun _ => taken.fits.closeLift) fun _ => taken

theorem testComplete_setBed (i : Slot) (s : State) : (s.testComplete i).setBed none = (s.setBed none).testComplete i := by
  unfold State.testComplete
  rw [show (s.setBed none).complete i = s.complete i from rfl]
  split <;> rfl

/-- A lift leaves the bed and is counted as gathered. -/
theorem Fitting.gatherLift {s : State} (h : Fitting s) {b : Bed} (bed : s.ss.bed = some b) :
    Fitting ((s.modifyBook b.lift.slot fun k => { k with liftsGathered := k.liftsGathered + 1 }).setBed none) := by
  have under : ∀ i, liftsUnderWay i s = liftsUnderWay i (s.setBed none) + if i = b.lift.slot then 1 else 0 := by
    intro i
    change _ + (s.ss.bed.any _).toNat = _ + (Option.any _ none).toNat + _
    rw [bed, Option.any_some]
    by_cases here : i = b.lift.slot <;> simp [here, eq_comm]
  have view : ∀ i, (s.setBed none).view i = { s.view i with under := liftsUnderWay i (s.setBed none) } := fun _ => rfl
  refine Fitting.of_same
    (s := (s.setBed none).reviseBook b.lift.slot fun k => { k with liftsGathered := k.liftsGathered + 1 }) ?_
    (sameView_modifyBook b.lift.slot (s.setBed none) _)
  refine h.of_one b.lift.slot (fun j other => ?_) ?_
  · have same := under j
    rw [if_neg other, Nat.add_zero] at same
    rw [view_reviseBook_ne _ _ other, view, ← same]
    rfl
  · have one := under b.lift.slot
    rw [if_pos rfl] at one
    have some_ : liftsUnderWay b.lift.slot s ≠ 0 := by omega
    rw [view_reviseBook_same, view]
    cases book : s.book b.lift.slot with
    | none => exact absurd (h.free book).1 some_
    | some k =>
      have fits := h.book book
      have there : (s.setBed none).book b.lift.slot = some k := book
      have lifts : k.liftsClosed = liftsUnderWay b.lift.slot s + k.liftsGathered := fits.lifts
      rw [there]
      refine (fits_of_book (b := Book.shape { k with liftsGathered := k.liftsGathered + 1 }) rfl).2
        ⟨?_, fun e => ?_, fun past => absurd (fits.past past) some_, fits.opened, fits.finishing⟩
      · change k.liftsClosed = liftsUnderWay b.lift.slot (s.setBed none) + (k.liftsGathered + 1)
        omega
      · have none := (fits.fresh e).1
        change k.liftsClosed = 0 at none
        omega

theorem InPlace.countLift {s : State} (h : InPlace s) (b : Bed) : InPlace (s.countLift b) := by
  unfold State.countLift
  split
  · have marked : InPlace (s.modifyBook b.lift.slot fun k => { k with liftsPunched := k.liftsPunched + 1 }) :=
      ⟨h.fits.modifyBook_shape fun _ => rfl, h.ends.of_openLift rfl⟩
    exact marked.of_eq rfl rfl rfl rfl
  · exact h.of_eq rfl rfl rfl rfl

theorem InPlace.handOver {s : State} (h : InPlace s) {b : Bed} (bed : s.ss.bed = some b) : InPlace (s.handOver b) := by
  have counted := h.countLift b
  have still : (s.countLift b).ss.bed = some b := by rw [State.countLift_ss, bed]
  unfold State.handOver
  generalize s.countLift b = u at counted still
  dsimp only
  generalize gathers : ({ u with fu := { u.fu with gather := u.fu.gather.map (Gather.add b.lift) } } : State) = v
  have placed : InPlace v := counted.of_eq (by rw [← gathers]) (by rw [← gathers]) (by rw [← gathers]) (by rw [← gathers])
  have there : v.ss.bed = some b := by rw [← gathers]; exact still
  rw [testComplete_setBed]
  refine ⟨(placed.fits.gatherLift there).testComplete _, placed.ends.of_openLift ?_⟩
  rw [State.testComplete_lb]
  rfl

theorem InPlace.liftGathered {s : State} (h : InPlace s) : InPlace s.liftGathered := by
  unfold State.liftGathered
  split
  · exact h
  · next bed => exact h.handOver bed

theorem InPlace.testComplete {s : State} (h : InPlace s) (i : Slot) : InPlace (s.testComplete i) :=
  ⟨h.fits.testComplete i, h.ends.of_openLift (by rw [State.testComplete_lb])⟩

theorem InPlace.findIncomplete {s : State} (h : InPlace s) {g : Gather} (away : s.finishes g.book = false) :
    InPlace (s.findIncomplete g) := by
  unfold State.findIncomplete
  dsimp only
  generalize marks : ({ s with fu := { s.fu with gather := some { g with incomplete := true } } } : State) = u
  have marked : InPlace u := h.of_eq (by rw [← marks]) (by rw [← marks]) (by rw [← marks]) (by rw [← marks])
  have still : u.finishes g.book = false := by rw [← marks]; exact away
  have faulted_ := marked.raiseFault g.book .incomplete
  have stays : (u.raiseFault g.book .incomplete).finishes g.book = false := (raiseFault_finishes _ _ _ _).trans still
  generalize u.raiseFault g.book .incomplete = v at faulted_ stays
  have advanced : InPlace (v.modifyBook g.book (Book.advance .collecting .collected)) :=
    ⟨faulted_.fits.modifyBook fun _ _ fits => fits.collect, faulted_.ends.of_openLift rfl⟩
  exact (advanced.endCollection stays).testComplete _

theorem finishes_of_unsettled {s : State} (h : Fitting s) {i : Slot} (open_ : s.gatherSettled i = false) :
    s.finishes i = false := by
  cases book : s.book i with
  | none => exact (h.free book).2.2.2
  | some b =>
    refine h.away book fun past => ?_
    have settled : s.gatherSettled i = true := by
      rw [State.gatherSettled, book, Option.any_some]
      rcases past with e | e | e <;> simp [e]
    exact absurd (open_.symm.trans settled) (by decide)

theorem InPlace.outRequest {s : State} (h : InPlace s) : InPlace s.outRequest := by
  unfold State.outRequest
  split
  · exact h
  · next b bed =>
    refine keeps_ite (fun _ => InPlace.testRest ?_) fun _ => h
    have waits : InPlace (s.setBed (some b.wait)) := h.setBed bed rfl
    have accepts : InPlace (s.setBed (some b.accept)) := h.setBed bed rfl
    unfold State.answerOutRequest
    split
    · exact accepts.of_eq rfl rfl rfl rfl
    · next g _ =>
      refine keeps_ite (fun _ => accepts) fun _ => ?_
      split
      · exact waits
      · next open_ =>
        rw [Bool.or_eq_true, not_or, Bool.not_eq_true] at open_
        exact waits.findIncomplete (finishes_of_unsettled h.fits open_.1)

end Sys2Proof.Machine

/-! What the Finish Unit and the entry of Safe Stop leave in place (R90, R141 to R155, R167). -/

namespace Sys2Proof.Machine

open Sys2Proof Sys2Proof.Safety

set_option Elab.async false

/-! ## The steps of the finish book -/

/-- The finish record is of this slot's book. -/
def FinishOf (i : Slot) (s : State) : Prop := s.fu.finish.map Finish.book = some i

theorem FinishOf.of_finish {s : State} {f : Finish} (finish : s.fu.finish = some f) : FinishOf f.book s := by
  rw [FinishOf, finish]
  rfl

theorem FinishOf.same {i : Slot} {s t : State} (h : FinishOf i s) (same : SameFinishBook s t) : FinishOf i t :=
  Eq.trans same h

theorem FinishOf.of_eq {i : Slot} {s t : State} (h : FinishOf i s) (finish : t.fu.finish = s.fu.finish) : FinishOf i t :=
  h.same (by rw [SameFinishBook, finish])

theorem FinishOf.stage {i : Slot} {s : State} (own : FinishOf i s) (h : Fitting s) :
    ∃ b, s.book i = some b ∧ (b.stage = .finishing ∨ b.stage = .leaving) := by
  obtain ⟨f, finish, rfl⟩ := Option.map_eq_some_iff.1 own
  exact h.finishBook finish

/-- The finish record changes, and is still of the same book. -/
theorem InPlace.keepFinish {s t : State} (h : InPlace s) {i : Slot} (own : FinishOf i s) (after : FinishOf i t)
    (si : t.si = s.si) (lb : t.lb = s.lb) (bed : t.ss.bed = s.ss.bed) : InPlace t :=
  h.of_same (sameView_of_shapes (by rw [si]) (by rw [lb]) (by rw [State.liftSlots, lb, bed]; rfl)
    (Eq.trans after (Eq.symm own)) fun i => by rw [State.book, si]; rfl) (by rw [lb])

theorem InPlace.follow {s : State} (h : InPlace s) (c : Condition) (x : HoldSource) (on : Bool) :
    InPlace (s.follow c x on) := h.of_alike (follow_settled c x on s).alike

section

variable {s : State} (h : InPlace s) {f : Finish} (own : FinishOf f.book s)

include h own

theorem InPlace.setFinish {g : Finish} (same : g.book = f.book) : InPlace (s.setFinish (some g)) :=
  h.keepFinish own (congrArg some same) rfl rfl rfl

theorem InPlace.startExit : InPlace (s.startExit f) := by
  have set : InPlace (s.setFinish (some { f with step := .exit })) := h.setFinish own rfl
  have advanced : InPlace ((s.setFinish (some { f with step := .exit })).modifyBook f.book
      (Book.advance .finishing .leaving)) :=
    ⟨set.fits.modifyBook fun _ _ fits => fits.leave, set.ends.of_openLift rfl⟩
  exact advanced.of_eq rfl rfl rfl rfl

theorem InPlace.startDrill : InPlace (s.startDrill f) := by
  unfold State.startDrill
  dsimp only
  split
  · exact InPlace.follow (h.setFinish own (g := { f with step := .drill, bitWait := true }) rfl) .bitWorn .bitWorn true
  · exact InPlace.of_eq (h.setFinish own (g := { f with step := .drill }) rfl) rfl rfl rfl rfl

theorem InPlace.startFeedStep : InPlace (s.startFeedStep f) := by
  have set : InPlace (s.setFinish (some { f with step := .feed, feedOwed := s.feedBudget f.book })) := h.setFinish own rfl
  exact set.of_eq (State.runFeed_si _ _) (State.runFeed_lb _ _) (congrArg StrikeScheduler.bed (State.runFeed_ss _ _))
    (congrArg FinishUnit.finish (State.runFeed_fu _ _))

theorem InPlace.startHanger : InPlace (s.startHanger f) :=
  InPlace.of_eq (h.setFinish own (g := { f with step := .hanger }) rfl) rfl rfl rfl rfl

theorem InPlace.startClose : InPlace (s.startClose f) :=
  InPlace.of_eq (h.setFinish own (g := { f with step := .close }) rfl) rfl rfl rfl rfl

theorem InPlace.afterFeed : InPlace (s.afterFeed f) :=
  keeps_ite (fun _ => h.startHanger own) fun _ => h.startClose own

theorem InPlace.enterFinish : InPlace (s.enterFinish f) :=
  keeps_ite (fun _ => h.startExit own) fun _ => keeps_ite (fun _ => h.startDrill own) fun _ => h.startFeedStep own

theorem InPlace.hangerSet : InPlace (s.hangerSet f) :=
  keeps_ite (fun _ => h.startExit own) fun _ => h.startClose own

theorem InPlace.afterHole {p q : Prop} [Decidable p] [Decidable q] :
    InPlace (if p then s.startExit f else if q then s.makeOrder .drill else s.startFeedStep f) :=
  keeps_ite (fun _ => h.startExit own) fun _ => keeps_ite (fun _ => h.of_eq rfl rfl rfl rfl) fun _ => h.startFeedStep own

theorem InPlace.holeDrilled : InPlace (s.holeDrilled f) := by
  have drilled : InPlace { s with fu := { s.fu with
      bitLife := s.fu.bitLife - 1, finish := some { f with holesDrilled := f.holesDrilled + 1 } } } :=
    h.keepFinish own rfl rfl rfl rfl
  exact drilled.afterHole (f := { f with holesDrilled := f.holesDrilled + 1 }) rfl

end

section

variable {s : State} (h : InPlace s)

include h

theorem InPlace.feedEnded : InPlace s.feedEnded := by
  unfold State.feedEnded
  split
  · exact h
  · next f finish =>
    refine keeps_ite (fun _ => ?_) fun _ => h
    have own := FinishOf.of_finish finish
    have set : InPlace (s.setFinish (some { f with feedOwed := 0 })) := h.setFinish own rfl
    exact keeps_ite (fun _ => set.startExit rfl) fun _ => set.afterFeed rfl

theorem InPlace.feedCut (budget : Nat) : InPlace (s.feedCut budget) := by
  unfold State.feedCut
  split
  · exact h
  · next f finish => exact keeps_ite (fun _ => h.setFinish (FinishOf.of_finish finish) rfl) fun _ => h

theorem InPlace.feedAfterSet : InPlace s.feedAfterSet := by
  unfold State.feedAfterSet
  split
  · exact h
  · next f finish =>
    refine keeps_ite (fun _ => keeps_ite (fun _ => ?_) fun _ => keeps_ite (fun _ => ?_) fun _ => h) fun _ => h
    · exact h.of_eq (by simp) (by simp) (by simp) (by simp)
    · exact h.startExit (FinishOf.of_finish finish)

theorem InPlace.resumeFinish : InPlace s.resumeFinish := by
  unfold State.resumeFinish
  split
  · exact h
  · next f finish =>
    have own := FinishOf.of_finish finish
    exact keeps_ite (fun _ => h) fun _ => keeps_ite (fun _ => h.startExit own) fun _ =>
      keeps_ite (fun _ => h.startDrill own) fun _ => h

theorem InPlace.retryBlocked : InPlace s.retryBlocked := by
  unfold State.retryBlocked
  split
  · exact h
  · next f finish =>
    refine keeps_ite (fun _ => ?_) fun _ => h
    have own := FinishOf.of_finish finish
    have unblocked : InPlace (s.unblock f) :=
      InPlace.follow (h.setFinish own (g := { f with bitWait := false }) rfl) .bitWorn .bitWorn false
    have still : FinishOf f.book (s.unblock f) :=
      own.same (sameFinishBook_of_finish finish unblock_finish rfl)
    exact keeps_ite (fun _ => unblocked) fun _ => unblocked.startDrill (f := { f with bitWait := false }) still

/-- The finish position is freed. -/
theorem InPlace.clearFinish : InPlace (s.setFinish none) := by
  refine ⟨fun i => ?_, h.ends.of_openLift rfl⟩
  have view : (s.setFinish none).view i = { s.view i with finishing := false } := rfl
  rw [view]
  cases book : s.book i with
  | none =>
    obtain ⟨under, shut, none, _⟩ := h.fits.free book
    exact (fits_of_free (v := { s.view i with finishing := false }) (view_free book)).2 ⟨under, shut, none, rfl⟩
  | some b =>
    obtain ⟨lifts, fresh, past, opened, _⟩ := h.fits.book book
    exact (fits_of_book (v := { s.view i with finishing := false }) (view_book book)).2
      ⟨lifts, fresh, past, opened, fun e => nomatch e⟩

omit h in
theorem removeBook_setFinish (i : Slot) (s : State) : (s.removeBook i).setFinish none = (s.setFinish none).removeBook i := by
  cases book : s.book i with
  | none => rw [removeBook_of_free book, removeBook_of_free (s := s.setFinish none) book]
  | some b =>
    rw [removeBook_of_book book, removeBook_of_book (s := s.setFinish none) book]
    rfl

theorem InPlace.freeFinish {i : Slot} (own : FinishOf i s) : InPlace ((s.removeBook i).setFinish none) := by
  obtain ⟨b, book, stage⟩ := own.stage h.fits
  have past := past_of_finishing stage
  have fits := h.fits.book book
  rw [removeBook_setFinish]
  have cleared := h.clearFinish
  refine ⟨cleared.fits.removeBook fun _ _ => ⟨fits.past past, fits.not_opened (.inl past), rfl⟩, ?_⟩
  exact h.ends.of_openLift (by rw [State.removeBook_lb]; rfl)

theorem InPlace.passBook {f : Finish} (own : FinishOf f.book s) : InPlace (s.passBook f) := by
  unfold State.passBook
  split
  · next b _ =>
    unfold State.passOutcome
    generalize s.outcomeOf b = o
    have gate : SameView s (if o = .bound then s else s.triggerStrobe 8)
        ∧ (if o = .bound then s else s.triggerStrobe 8).lb = s.lb
        ∧ (if o = .bound then s else s.triggerStrobe 8).fu = s.fu := by
      split
      · exact ⟨.refl s, rfl, rfl⟩
      · exact ⟨sameView_of_eq (by simp) (by simp) (by simp) (by simp), by simp, by simp⟩
    generalize (if o = .bound then s else s.triggerStrobe 8) = u at gate
    obtain ⟨same, lb, fu⟩ := gate
    have told : InPlace (u.sendOutcome o b) := (h.of_same same (by rw [lb])).of_alike (sendOutcome_alike o b u)
    have counted : InPlace ((u.sendOutcome o b).countOutcome o)
        ∧ ((u.sendOutcome o b).countOutcome o).fu = u.fu := by
      have sent := (sendOutcome_alike o b u).fu
      unfold State.countOutcome
      split
      · exact ⟨told.of_eq rfl rfl rfl rfl, sent⟩
      · exact ⟨told.of_eq rfl rfl rfl rfl, sent⟩
      · exact ⟨told, sent⟩
    dsimp only
    generalize (u.sendOutcome o b).countOutcome o = v at counted
    obtain ⟨placed, fu'⟩ := counted
    have passed : InPlace { v with lsv := v.lsv.recordExit ⟨b.id, o⟩ } := placed.of_eq rfl rfl rfl rfl
    exact passed.freeFinish (own.of_eq (by change v.fu.finish = _; rw [fu', fu]))
  · exact h.clearFinish

theorem InPlace.exitEdge {f : Finish} (own : FinishOf f.book s) : InPlace (s.exitEdge f) := by
  unfold State.exitEdge
  split
  case h_6 => exact keeps_ite (fun _ => h.setFinish own rfl) fun _ => h
  case h_7 => exact h.passBook own
  all_goals exact h

theorem InPlace.bookOnExit {f : Finish} (own : FinishOf f.book s) : InPlace (s.bookOnExit f) :=
  keeps_ite (fun _ => h.passBook own) fun _ => h.setFinish own rfl

theorem InPlace.onFinish {act : Finish → State → State}
    (owner : ∀ f, s.fu.finish = some f → InPlace (act f s)) : InPlace (s.onFinish act) := by
  unfold State.onFinish
  split
  · exact h
  · next f finish => exact owner f finish

theorem InPlace.endOrder (st : Station) : InPlace (s.endOrder st) :=
  InPlace.of_alike (v := s.setOrder st none) (h.of_eq rfl rfl rfl rfl) (endOrder_alike st s)

theorem InPlace.confirm {act : State → State} (owner : ∀ u, InPlace u → InPlace (act u)) (j : Job) :
    InPlace (s.confirm j act) :=
  keeps_ite (fun _ => (owner _ (h.endOrder _)).testRest) fun _ => h

/-- The gather book goes to the finish position (R141). -/
theorem InPlace.transferBook {i : Slot} {b : Book} (book : s.book i = some b) (stage : b.stage = .gathered)
    (free : s.fu.finish = none) : InPlace (s.transferBook i) := by
  have fits := h.fits.book book
  have view : ∀ j, j ≠ i → (s.setFinish (some (Finish.transfer i))).view j = s.view j := by
    intro j other
    have away : (s.setFinish (some (Finish.transfer i))).finishes j = s.finishes j := by
      change decide (i = j) = s.fu.finish.any _
      rw [free]
      exact decide_eq_false (Ne.symm other)
    rw [State.view, away]
    rfl
  have moved : InPlace ((s.setFinish (some (Finish.transfer i))).reviseBook i (Book.advance .gathered .finishing)) := by
    refine ⟨h.fits.of_one i (fun j other => ?_) ?_, h.ends.of_openLift rfl⟩
    · rw [view_reviseBook_ne _ _ other, view j other]
    · have there : (s.setFinish (some (Finish.transfer i))).book i = some b := book
      have after : (Book.advance .gathered .finishing b).shape = { b.shape with stage := .finishing } := by
        rw [shape_advance, if_pos stage]
      have past : b.shape.stage.past := .inl stage
      rw [view_reviseBook_same, there]
      refine (fits_of_book (b := { b.shape with stage := .finishing }) (congrArg some after)).2
        ⟨fits.lifts, (fun e => nomatch e), fun _ => fits.past past, fun e => ?_, fun _ => .inl rfl⟩
      exact absurd ((fits.not_opened (.inl past)).symm.trans e) (by decide)
  have advanced : InPlace ((s.setFinish (some (Finish.transfer i))).modifyBook i (Book.advance .gathered .finishing)) :=
    moved.of_alike (modifyBook_alike i _ _)
  exact advanced.of_eq rfl rfl rfl rfl

theorem InPlace.orderFinishTransfer : InPlace s.orderFinishTransfer := by
  unfold State.orderFinishTransfer
  split
  · exact h
  · next g gather =>
    refine keeps_ite (fun due => ?_) fun _ => h
    simp only [State.finishTransferDue, gather, Option.any_some, Bool.and_eq_true, Option.isNone_iff_eq_none,
      Option.any_eq_true, decide_eq_true_iff] at due
    obtain ⟨⟨⟨b, book, stage⟩, free⟩, _⟩ := due
    exact h.transferBook book stage free

/-! ## The entry of Safe Stop -/

theorem InPlace.stopOnBed {b : Bed} (bed : s.ss.bed = some b) : InPlace (s.stopOnBed b) := by
  have cut : InPlace (s.setBed (some b.cut)) := h.setBed bed rfl
  exact keeps_ite (fun _ => cut.raiseFault _ _) fun _ => keeps_ite (fun _ => h.setBed bed rfl) fun _ => h

theorem InPlace.stopBed {b : Bed} (bed : s.ss.bed = some b) : InPlace (s.stopBed b) := by
  have forced : InPlace (s.setBed (some (b.forceArrival s.nowMs))) := h.setBed bed rfl
  exact keeps_ite (fun _ => forced.raiseFault _ _) fun _ => keeps_ite (fun _ => (h.handOver bed).raiseFault _ _)
    fun _ => keeps_ite (fun _ => h.stopOnBed bed) fun _ => h

theorem InPlace.stopScheduler : InPlace s.stopScheduler := by
  have abandoned : InPlace s.abandonStrikes := h.of_eq rfl rfl rfl rfl
  unfold State.stopScheduler
  generalize s.abandonStrikes = u at abandoned
  refine InPlace.endOrder ?_ _
  split
  · exact abandoned
  · next bed => exact abandoned.stopBed bed

theorem InPlace.stopPurges : InPlace s.stopPurges := by
  have abandoned : InPlace s.abandonPurges := h.of_eq rfl rfl rfl rfl
  exact abandoned.cutDisabled

theorem InPlace.stopStep {f : Finish} (own : FinishOf f.book s) : InPlace (s.stopStep f) := by
  have faulted_ : ∀ {u : State}, InPlace u → InPlace (u.interruptFinish f) := fun placed => placed.raiseFault _ _
  have still : FinishOf f.book (s.interruptFinish f) := own.same (raiseFault_sameFinishBook _ _ _)
  unfold State.stopStep
  split
  case h_1 => exact faulted_ h.emptyGather
  case h_6 => exact (faulted_ h).passBook still
  case h_7 => exact (faulted_ h).passBook still
  all_goals exact faulted_ h

theorem InPlace.stopFinish : InPlace s.stopFinish := by
  have ended := ((((h.endOrder .finishTransfer).endOrder .exitTransfer).endOrder .drill).endOrder .hanger).endOrder .closer
  unfold State.stopFinish
  generalize ((((s.endOrder .finishTransfer).endOrder .exitTransfer).endOrder .drill).endOrder .hanger).endOrder .closer
    = u at ended
  dsimp only
  split
  · exact ended
  · next finish => exact keeps_ite (fun _ => ended) fun _ => ended.stopStep (FinishOf.of_finish finish)

theorem InPlace.enterSafeStop : InPlace s.enterSafeStop := by
  have quiet : InPlace (s.moveLine .safeStop).quietChannels := h.of_eq rfl rfl rfl rfl
  exact (quiet.stopScheduler.stopPurges).stopFinish

theorem InPlace.addCause (x : StopCause) : InPlace (s.addCause x) := by
  have added : InPlace { s with lsv := { s.lsv with causes := s.lsv.causes.add x } } := h.of_eq rfl rfl rfl rfl
  exact keeps_ite (fun _ => added) fun _ => added.enterSafeStop

end

end Sys2Proof.Machine

/-! Every step keeps books, lifts, notices and the finish position in agreement (R1, R33, R34, R87, R139, R141). -/

namespace Sys2Proof.Machine

open Sys2Proof Sys2Proof.Safety

set_option Elab.async false

/-! ## Requests -/

section

variable {s : State} (h : InPlace s)

include h

theorem InPlace.fixTimers : InPlace s.fixTimers := h.of_eq rfl rfl rfl rfl

theorem InPlace.addHold (x : HoldSource) : InPlace (s.addHold x) := h.of_eq (by simp) (by simp) (by simp) (by simp)

theorem InPlace.setDriveEntry (d : DriveId) (e : DriveEntry) : InPlace (s.setDriveEntry d e) := by
  have written : InPlace { s with ts := { s.ts with drives := Bank.write s.ts.drives d e } } := h.of_eq rfl rfl rfl rfl
  have tested := written.of_eq (t := State.testKind d (s.chosenKind d)
    { s with ts := { s.ts with drives := Bank.write s.ts.drives d e } }) (by simp) (by simp) (by simp) (by simp)
  exact tested.cutDisabled.fixTimers

theorem InPlace.setSettings (x : LineSettings) : InPlace (s.setSettings x) := by
  unfold State.setSettings
  exact InPlace.testDwell (h.of_eq rfl rfl rfl rfl)

theorem InPlace.tableWrite (selector entry : Byte) (contents : List Byte) : InPlace (s.tableWrite selector entry contents).1 := by
  unfold State.tableWrite
  split
  · exact h
  · unfold State.writePattern
    split
    · exact h
    · split
      · exact h
      · exact h.of_eq rfl rfl rfl rfl
  · unfold State.writeFormat
    split
    · exact h
    · exact h.of_eq rfl rfl rfl rfl
  · unfold State.writeDrive
    split
    · split
      · exact h
      · exact h.setDriveEntry _ _
    · exact h
  · unfold State.writeSettings
    split
    · split
      · exact h
      · exact h.setSettings _
    · exact h

theorem InPlace.bookOpen (id : Half) (format declared : Byte) : InPlace (s.bookOpen id format declared).1 := by
  unfold State.bookOpen
  split
  · unfold State.bookOpenChecked
    dsimp only
    split
    · exact h
    split
    · exact h
    split
    · exact h
    split
    · exact h
    · next i free => exact h.openBook (freeSlot_free free) _ _ _
  · exact h

theorem InPlace.reportCut (i : ChannelId) : InPlace (s.reportCut i) := by
  have fed : InPlace (if i = 6 then s.feedCut (s.ch 6).budget else s) := keeps_ite (fun _ => h.feedCut _) fun _ => h
  unfold State.reportCut
  refine keeps_ite (fun _ => ?_) fun _ => h
  dsimp only
  unfold State.cutStrobe
  split
  · exact fed.strobeEnded _
  · exact fed

theorem InPlace.setChannel (i : ChannelId) (m : ChannelMode) (x : Source) (k : Counts) : InPlace (s.setChannel i m x k) := by
  have cut := h.reportCut i
  unfold State.setChannel
  dsimp only
  generalize s.reportCut i = u at cut
  have set : InPlace (u.setCh i ((u.ch i).set m x k)) := cut.of_eq rfl rfl rfl rfl
  have held : InPlace (State.holdForChannels (u.setCh i ((u.ch i).set m x k))) :=
    keeps_ite (fun _ => set) fun _ => set.addHold _
  exact InPlace.fixTimers (keeps_ite (fun _ => held.cutDisabled.clampOpened.testClamp) fun _ =>
    keeps_ite (fun _ => held.cutDisabled.feedAfterSet) fun _ => held.cutDisabled)

theorem InPlace.channelSet (channel mode source : Byte) (k : Counts) : InPlace (s.channelSet channel mode source k).1 := by
  unfold State.channelSet
  split
  · unfold State.channelSetChecked
    split
    · exact h
    split
    · exact h
    split
    · exact h
    · exact h.setChannel _ _ _ _
  · exact h

theorem InPlace.clearStop : InPlace s.clearStop := by
  have none : InPlace { s with lsv := { s.lsv with causes := StopCauses.none } } := h.of_eq rfl rfl rfl rfl
  unfold State.clearStop
  generalize ({ s with lsv := { s.lsv with causes := StopCauses.none } } : State) = u at none
  have held : InPlace (State.setHolds (u.lsv.holds.put .start true) u.clearFaultedDrives) := none.of_eq rfl rfl rfl rfl
  have moved : InPlace (State.moveLine .held (State.setHolds (u.lsv.holds.put .start true) u.clearFaultedDrives)) :=
    held.of_eq rfl rfl rfl rfl
  exact moved.testClamp.resumeFinish.fixTimers

omit h in
/-- An empty part is in place. -/
theorem inPlace_of_empty (books : ∀ i, s.book i = none) (notices : s.si.notices = []) (opened : s.lb.openLift = none)
    (queue : s.lb.queue = []) (bed : s.ss.bed = none) (finish : s.fu.finish = none) : InPlace s := by
  refine ⟨fun i => (fits_of_free (view_free (books i))).2 ⟨?_, ?_, ?_, ?_⟩, fun l e => ?_⟩
  · change liftsUnderWay i s = 0
    rw [liftsUnderWay, queue, bed]
    rfl
  · change s.openLiftOf i = false
    rw [State.openLiftOf, opened]
    rfl
  · change s.noticedFor i = false
    rw [State.noticedFor, notices]
    rfl
  · change s.finishes i = false
    rw [State.finishes, finish]
    rfl
  · rw [opened] at e
    cases e

omit h in
theorem lineReset_inPlace (s : State) : InPlace s.lineReset := by
  have reset : InPlace (s.freeze .lineReset).resetBlocks :=
    inPlace_of_empty (fun i => Bank.read_replicate _ i) rfl rfl rfl rfl rfl
  exact InPlace.fixTimers (reset.of_eq rfl rfl rfl rfl)

theorem RequestWork.inPlace {act : State → State × Reply} (w : RequestWork act) : InPlace (act s).1 := by
  cases w with
  | reply => exact h
  | bookOpen id f d => exact h.bookOpen id f d
  | bookCancel id => exact h.bookCancel id
  | tableWrite x e c => exact h.tableWrite x e c
  | channelSet c m x k => exact h.channelSet c m x k
  | channelCount c k =>
    unfold State.channelCount
    split
    · exact h
    · exact h.of_eq rfl rfl rfl rfl
  | capture x c =>
    unfold State.capture
    split
    · exact h
    · split
      · exact h.of_eq rfl rfl rfl rfl
      · exact h
  | channelRead c =>
    unfold State.channelRead
    split
    · exact h
    · exact h.of_eq rfl rfl rfl rfl
  | counterTransfer =>
    unfold State.counterTransfer
    split
    · exact h.of_eq rfl rfl rfl rfl
    · exact h
  | eventSetup a b =>
    unfold State.eventSetup
    split
    · exact h.of_eq rfl rfl rfl rfl
    · exact h
  | eventClear a =>
    unfold State.eventClear
    split
    · exact h.of_eq rfl rfl rfl rfl
    · exact h
  | statusRead p =>
    unfold State.statusRead
    split
    · exact h
    · exact h.of_same (sameView_of_shapes rfl rfl rfl rfl fun _ => rfl) rfl
    · exact h
    · exact h
  | hold => exact (h.addHold _).testRest
  | resume =>
    unfold State.resumeLine
    split
    · exact h
    · exact h.of_eq (by simp [doneWith]) (by simp [doneWith]) (by simp [doneWith]) (by simp [doneWith])
  | stop => exact h.addCause _
  | stopClear =>
    unfold State.stopClear
    split
    · exact h.clearStop
    · exact h
  | setMode m =>
    unfold State.setMode
    split
    · exact h
    · unfold State.setModeChecked
      split
      · split
        · exact keeps_ite (fun _ => h) fun _ => InPlace.fixTimers (h.of_eq rfl rfl rfl rfl)
        · exact h
      · exact h
  | lineReset => exact lineReset_inPlace s
  | bitChanged l =>
    unfold State.bitChanged
    split
    · exact h
    split
    · exact h
    · exact (InPlace.retryBlocked (s := s.setBitLife l.toNat) (h.of_eq rfl rfl rfl rfl)).testRest
  | recoveryClear => exact keeps_ite (fun _ => h.of_eq rfl rfl rfl rfl) fun _ => h

/-! ## Events -/

theorem InPlace.addCauseIf {p : Prop} [Decidable p] (x : StopCause) : InPlace (if p then s.addCause x else s) :=
  keeps_ite (fun _ => h.addCause x) fun _ => h

theorem InPlace.tryGrant (d : DriveId) : InPlace (s.tryGrant d) := keeps_ite (fun _ => h.of_eq rfl rfl rfl rfl) fun _ => h

omit h in
theorem InPlace.foldl {α : Type} {f : State → α → State} (one : ∀ u a, InPlace u → InPlace (f u a)) (l : List α) {u : State}
    (placed : InPlace u) : InPlace (l.foldl f u) := by
  induction l generalizing u with
  | nil => exact placed
  | cons a l ih => exact ih (one u a placed)

theorem InPlace.quarterExpiry (d : DriveId) : InPlace (s.quarterExpiry d) := by
  have indebted : ∀ debt length, InPlace (s.setDebtAtExpiry d debt length) := fun _ _ => h.of_eq rfl rfl rfl rfl
  have overdue : InPlace ((s.setDebtAtExpiry d 32 none).occur .purgeOverdue) := h.of_eq rfl rfl rfl rfl
  exact keeps_ite (fun _ => keeps_ite (fun _ => indebted _ _) fun _ => overdue.addCause _) fun _ => h

theorem InPlace.purgeEnd (d : DriveId) : InPlace (s.purgeEnd d) := by
  unfold State.purgeEnd
  split
  · exact h
  · next p _ =>
    refine keeps_ite (fun _ => ?_) fun _ => h
    have paid : InPlace (s.setAccount d { s.account d with debt := (s.account d).debt - p.payment, purge := none }) :=
      h.of_eq rfl rfl rfl rfl
    have cut := paid.cutDisabled
    unfold State.payPurge
    dsimp only
    generalize State.cutDisabled (s.setAccount d _) = u at cut
    have counted : InPlace (if u.lsv.mode = .run then u.count (.purges d) else u) :=
      keeps_ite (fun _ => cut.of_eq rfl rfl rfl rfl) fun _ => cut
    exact InPlace.testRest (counted.of_eq rfl rfl rfl rfl)

theorem InPlace.setAir (present : Bool) : InPlace (s.setAir present) := by
  have aired : InPlace (State.reportLevel .airLow (!present) { s with pc := { s.pc with air := present } }) :=
    h.of_eq rfl rfl rfl rfl
  exact keeps_ite (fun _ => InPlace.foldl (fun u d placed => placed.tryGrant d) _ aired)
    fun _ => aired.stopPurges.testRest

theorem InPlace.strobePulseEnd (i : ChannelId) : InPlace (s.strobePulseEnd i) := by
  refine keeps_ite (fun _ => InPlace.testRest ?_) fun _ => h
  have ended : InPlace (s.setCh i ((s.ch i).strobeEnd (s.suppressed i))) := h.of_eq rfl rfl rfl rfl
  unfold State.cutStrobe
  split
  · exact ended.strobeEnded _
  · exact ended

theorem InPlace.pitchPulseEnd : InPlace s.pitchPulseEnd := by
  refine keeps_ite (fun _ => InPlace.testRest ?_) fun _ => h
  have ended : InPlace (s.setCh 6 (s.ch 6).pitchPulseEnd) := h.of_eq rfl rfl rfl rfl
  exact keeps_ite (fun _ => ended) fun _ => ended.feedEnded

theorem InPlace.setOrderSynced (st : Station) (o : Option Order) : InPlace (State.syncStationWait (s.setOrder st o)) :=
  InPlace.follow (s := s.setOrder st o) (h.of_eq rfl rfl rfl rfl) _ _ _

theorem EventWork.inPlace {act : State → State} (w : EventWork act) : InPlace (act s) := by
  cases w with
  | none => exact h
  | linkError => exact h.of_eq rfl rfl rfl rfl
  | sheetNotice x => exact h.sheetNotice x
  | infeedEdge => exact h.infeedEdge.testRest
  | noticeExpiry => exact h.noticeExpiry
  | bedTransferOrder => exact h.orderBedTransfer
  | stationReady st => exact h.setOrderSynced _ _
  | readyWaitExpiry st => exact keeps_ite (fun _ => h.setOrderSynced _ _) fun _ => h
  | orderTimeout st => exact h.addCauseIf _
  | bedArrival => exact h.confirm (fun _ placed => placed.liftArrives) _
  | strikeBegin => exact h.strikeBegin
  | strokeDone d => exact (h.strokeDone d).testRest
  | strokeTimeout d =>
    have marked : InPlace (s.setDrive d { s.drive d with faulted := true }) := h.of_eq rfl rfl rfl rfl
    exact keeps_ite (fun _ => marked.addCause _) fun _ => h
  | outRequest => exact h.outRequest
  | outTransferOrder => exact keeps_ite (fun _ => h.of_eq rfl rfl rfl rfl) fun _ => h
  | gatherArrival => exact h.confirm (fun _ placed => placed.liftGathered) _
  | bedDwellLimitExpiry => exact h.testDwell
  | quarterIntervalExpiry d => exact h.quarterExpiry d
  | purgeGrant d => exact h.tryGrant d
  | purgeEnd d => exact h.purgeEnd d
  | temperatureChange d t =>
    exact InPlace.testRest (InPlace.follow (s := s.setAccount d { s.account d with temperature := t })
      (h.of_eq rfl rfl rfl rfl) _ _ _)
  | purgeAirChange p => exact h.setAir p
  | holdDwellEnd =>
    exact keeps_ite (fun _ => InPlace.clampOpened (s := s.setCh 0 (s.ch 0).toIdle) (h.of_eq rfl rfl rfl rfl)) fun _ => h
  | strobeWaitEnd i => exact keeps_ite (fun _ => h.of_eq rfl rfl rfl rfl) fun _ => h
  | strobePulseEnd i => exact h.strobePulseEnd i
  | pitchPulseEnd => exact h.pitchPulseEnd
  | pitchPeriodBoundary => exact keeps_ite (fun _ => h.of_eq rfl rfl rfl rfl) fun _ => h
  | softWaitEnd i => exact keeps_ite (fun _ => h.of_eq rfl rfl rfl rfl) fun _ => h
  | softPulseEnd i =>
    exact keeps_ite (fun _ => InPlace.testRest (s := s.setCh i (s.ch i).toIdle) (h.of_eq rfl rfl rfl rfl)) fun _ => h
  | finishTransferOrder => exact h.orderFinishTransfer
  | finishTransferDone =>
    exact h.confirm (fun _ placed => placed.emptyGather.onFinish fun _ finish =>
      placed.emptyGather.enterFinish (FinishOf.of_finish finish)) _
  | drillDone =>
    exact h.confirm (fun _ placed => placed.onFinish fun _ finish => placed.holeDrilled (FinishOf.of_finish finish)) _
  | hangerDone =>
    exact h.confirm (fun _ placed => placed.onFinish fun _ finish => placed.hangerSet (FinishOf.of_finish finish)) _
  | closerDone =>
    exact h.confirm (fun _ placed => placed.onFinish fun _ finish => placed.startExit (FinishOf.of_finish finish)) _
  | exitTransferDone =>
    exact h.confirm (fun _ placed => placed.onFinish fun _ finish => placed.bookOnExit (FinishOf.of_finish finish)) _
  | exitRunTimeout => exact h.addCauseIf _
  | exitSensorEdge => exact (h.onFinish fun _ finish => h.exitEdge (FinishOf.of_finish finish)).testRest
  | guardOpen => exact h.addCause _
  | powerWarningAssert =>
    exact InPlace.addCause (s := (s.freeze .powerWarning).reportLevel .powerWarning true) (h.of_eq rfl rfl rfl rfl) _
  | powerWarningRelease => exact h.of_eq rfl rfl rfl rfl
  | reportPeriodExpiry => exact keeps_ite (fun _ => h.of_eq rfl rfl rfl rfl) fun _ => h

end

/-! ## Resets, time and every step -/

theorem blocksReset_inPlace (r : RecoveryRecord) (s : State) : InPlace (s.blocksReset r) :=
  inPlace_of_empty (fun i => Bank.read_replicate _ i) rfl rfl rfl rfl rfl

theorem bringUp_inPlace (s : State) : InPlace s.bringUp :=
  InPlace.foldl (f := fun s c => s.reportLevel c (s.levelOf c)) (fun _ _ placed => placed.of_eq rfl rfl rfl rfl) _
    ((blocksReset_inPlace s.lsv.record s).of_eq (t := (s.blocksReset s.lsv.record).superviseInputs) rfl rfl rfl rfl)

theorem powerOn_inPlace (x : Inputs) (s : State) : InPlace (s.powerOn x) :=
  keeps_ite (fun _ => blocksReset_inPlace _ _) fun _ => bringUp_inPlace _

theorem Taken.inPlace {i : Instr} {s t : State} (k : Taken i s t) (h : InPlace s) : InPlace t := by
  have outside : ∀ (l : LinkPort) (x : Inputs) {s : State}, InPlace s → InPlace ((s.setLp l).setInputs x) :=
    fun _ _ _ placed => placed.of_eq rfl rfl rfl rfl
  cases k with
  | asserted held => exact h.of_eq rfl rfl rfl rfl
  | event w l _ _ => exact w.inPlace (outside l _ h)
  | served _ w u _ _ _ => exact (w.inPlace (s := admitted s) (h.of_eq rfl rfl rfl rfl)).of_eq rfl rfl rfl rfl
  | assertReset _ _ => exact (blocksReset_inPlace (s.lsv.record.freeze .resetInput) s).of_eq rfl rfl rfl rfl
  | releaseReset _ _ => exact bringUp_inPlace _
  | powerOn x _ => exact powerOn_inPlace x s

theorem goOn_inPlace {s : State} (h : InPlace s) : InPlace s.goOn := by
  unfold State.goOn State.tick
  dsimp only
  refine keeps_ite (fun _ => ?_) fun _ => keeps_ite (fun _ => ?_) fun _ => ?_
  · exact h.of_same (sameView_of_shapes rfl rfl rfl rfl fun _ => rfl) rfl
  · exact h.of_eq rfl rfl rfl rfl
  · exact h.of_eq rfl rfl rfl rfl

/-- Settles O59: what each slot sees, taken by itself, fits before and after every operation. -/
theorem stagesAgreeKept : Obligations.StagesAgreeKept := by
  intro s t h k
  obtain ⟨fits, ends⟩ := (stagesAgree_iff s).1 h
  have placed : InPlace t := step_keeps (P := InPlace) k (fun _ _ _ placed => placed.of_eq rfl rfl rfl rfl) Taken.inPlace
    (fun _ placed => placed.of_eq rfl rfl rfl rfl) goOn_inPlace ⟨fits, ends⟩
  exact (stagesAgree_iff t).2 ⟨placed.fits, placed.ends⟩

end Sys2Proof.Machine

/-! A finish record that carries the mark of a block for the bit in a step other than DRILL: `LineAgrees` admits it, and
the exit sensor takes the record away without withdrawing BIT_WORN (R144, R150, R160). -/

namespace Sys2Proof.Machine

open Sys2Proof Sys2Proof.Safety

set_option Elab.async false

/-- The finish record of a book on its exit run, marked as blocked for the bit. -/
def Finish.exitBlocked : Finish :=
  { Finish.transfer 0 with step := .exitRun, bitWait := true }

/-- The part after a reset, HELD, with that record, BIT_WORN as the record has it, and an edge of the exit sensor to
come. -/
def State.exitBlocked : State :=
  { State.reset with
    pending := [.exitSensorEdge]
    fu := { State.reset.fu with finish := some Finish.exitBlocked }
    lsv := { State.reset.lsv with moved := true, holds := { State.reset.lsv.holds with bitWorn := true } } }

/-- BIT_WORN follows the block of the finish book while the part is awake. -/
theorem LineAgrees.bitWorn {s : State} (h : LineAgrees s) (awake : Awake s) :
    s.lsv.holds.bitWorn = s.fu.finish.any Finish.bitWait := by
  obtain ⟨_, _, _, bitWorn, _⟩ := h awake
  exact bitWorn

theorem exitBlocked_lineAgrees : LineAgrees State.exitBlocked := by
  intro _
  refine ⟨fun running => ?_, fun pending => ?_, fun _ => rfl, rfl, by decide, by decide, fun _ => rfl, fun still => ?_⟩
  · exact absurd running (by decide)
  · exact absurd pending (by decide)
  · exact absurd still (by decide)

/-- The part as the edge is taken, and once it has been. -/
abbrev State.exitDue : State := { State.exitBlocked with pending := [] }
abbrev State.exitFreed : State := { State.exitDue with fu := State.reset.fu }

theorem exitDue_awake : Awake State.exitDue := rfl

theorem exitBlocked_step : step State.exitBlocked = .next State.exitFreed := by
  have passes : State.exitEdge Finish.exitBlocked State.exitDue = State.exitFreed := rfl
  have rests : State.exitFreed.testRest = State.exitFreed := if_neg fun h => absurd h.1 (by decide)
  change takeEvent (fun s => (s.onFinish State.exitEdge).testRest) State.exitDue = _
  rw [takeEvent_awake exitDue_awake]
  change Host.Outcome.next (State.exitEdge Finish.exitBlocked State.exitDue).testRest = _
  rw [passes, rests]

/-- Refutes O57: a book that passes the exit sensor while its record carries the mark of a block for the bit leaves
BIT_WORN standing with no finish book. -/
theorem not_lineAgreesKept : ¬ Obligations.LineAgreesKept := by
  intro h
  obtain ⟨agrees, _⟩ := h State.exitBlocked State.exitFreed exitBlocked_lineAgrees exitBlocked_step
  have bitWorn := LineAgrees.bitWorn agrees rfl
  exact absurd bitWorn (by decide)

end Sys2Proof.Machine
